-- ==== Sys2Proof/Word.lean ====
section
/-! DEFINITION. Bit words of the AQ641 and their plainest arithmetic: serial-number comparison (R4),
saturating counters, packing of register fields and byte order (R3). -/
namespace Sys2Proof

abbrev Byte := BitVec 8
abbrev Half16 := BitVec 16
/-- Registers, frame numbers and sequence numbers (R365, R11, R92). -/
abbrev Word := BitVec 32
/-- Device time in microseconds (R11). -/
abbrev DTime := BitVec 48
/-- Truncated hashes (R299, R316). -/
abbrev Hash64 := BitVec 64
abbrev Hash256 := BitVec 256

/-- R4: `b` is newer than `a` when `(b - a) mod 2^N` lies in `1` to `2^(N-1) - 1`. -/
def newer {n : Nat} (a b : BitVec n) : Bool :=
  1 ≤ (b - a).toNat && (b - a).toNat ≤ 2 ^ (n - 1) - 1

/-- A counter of `w` bits that stays at its maximum. -/
def satAdd (w x k : Nat) : Nat := min (x + k) (2 ^ w - 1)

/-- Frames (or ticks) from `a` to `b` on a wrapping counter. -/
def since {n : Nat} (b a : BitVec n) : Nat := (b - a).toNat

def b2n (b : Bool) : Nat := if b then 1 else 0

/-- A register word built from `(value, lowest bit)` fields. -/
def pack (fields : List (Nat × Nat)) : Word :=
  BitVec.ofNat 32 (fields.foldl (fun acc f => acc + f.1 * 2 ^ f.2) 0)

/-- Bits `hi:lo` of a word, as a number. -/
def bits {n : Nat} (w : BitVec n) (hi lo : Nat) : Nat := w.toNat / 2 ^ lo % 2 ^ (hi + 1 - lo)

def bit {n : Nat} (w : BitVec n) (i : Nat) : Bool := w.toNat.testBit i

/-- R3: the `k` bytes of a number, most significant first. -/
def toBytes : Nat → Nat → List Byte
  | 0, _ => []
  | k + 1, v => BitVec.ofNat 8 (v / 256 ^ k) :: toBytes k v

/-- R3: the number that bytes spell, most significant first. -/
def ofBytes (bs : List Byte) : Nat := bs.foldl (fun acc b => acc * 256 + b.toNat) 0

/-- The bytes at `off` to `off + len - 1`. -/
def slice (bs : List Byte) (off len : Nat) : List Byte := (bs.drop off).take len

/-- The number in the bytes at `off` to `off + len - 1` (R3). -/
def fieldAt (bs : List Byte) (off len : Nat) : Nat := ofBytes (slice bs off len)

/-- Two's complement reading of a `w`-bit number. -/
def signedOf (w v : Nat) : Int := if v < 2 ^ (w - 1) then v else (v : Int) - 2 ^ w

/-- Two's complement encoding in `w` bits. -/
def unsignedOf (w : Nat) (v : Int) : Nat := (v % (2 ^ w : Int)).toNat

end Sys2Proof
end

