-- ==== Sys2Proof/Types.lean ====
section
/-! DEFINITION. The vocabulary of the AQ641: the named alternatives of the spec's tables, the records of a
rig (Tables RIG-1 to RIG-7), the observations and messages that commands carry. Currents are in 0.01 mA,
supply voltages in 10 mV, as in Tables RIG-5 and REG-7. -/
namespace Sys2Proof.Machine

/-! ## Named alternatives -/

/-- Half A or half B in split mode (R129); `a` is the whole device otherwise. -/
inductive Half | a | b deriving DecidableEq, Repr
/-- The two Enain lines. -/
inductive Line | a | b deriving DecidableEq, Repr
/-- The two systems of a point (R79). -/
inductive Side | A | B deriving DecidableEq, Repr
inductive Comparator | opn | occ | short deriving DecidableEq, Repr
/-- Node classes of R47 and R136. -/
inductive NodeClass | low | mid | high deriving DecidableEq, Repr
/-- Verdicts as Table CNT-4 codes them. -/
inductive Verdict | pending | wheel | nonWheel | uncertain deriving DecidableEq, Repr
/-- System states of Table STU-1 (with the board-test mode of R36). -/
inductive SysState | boot | selftest | awaitRig | verify | operational | degraded | safe | boardTest
  deriving DecidableEq, Repr
/-- Table HED-1. -/
inductive HsupMode | off | discharge | on | chip | proof deriving DecidableEq, Repr
/-- Table CNT-1. -/
inductive PointKind | localHead | member | remote deriving DecidableEq, Repr
/-- Table CNT-3. -/
inductive PointState | counting | disturbed | offline deriving DecidableEq, Repr
/-- Sub-state of COUNTING (R83). -/
inductive Position | vacant | aOnly | both | bOnly deriving DecidableEq, Repr
/-- Table SEC-1. -/
inductive SectionState | clear | occupied | disturbed | prep | resting deriving DecidableEq, Repr
/-- Table SIO-1. -/
inductive OutState | off | onWait | on | offWait | adopt | fault deriving DecidableEq, Repr
/-- Table SIO-4. -/
inductive CheckMode | offpulse | edm | both deriving DecidableEq, Repr
/-- R149. -/
inductive InputUse | status | reset | enable | outClear deriving DecidableEq, Repr
/-- Table DPX-1. -/
inductive Role | active | solo | standby | syncing | offline deriving DecidableEq, Repr
/-- Table HAL-5. -/
inductive Membership | absent | joining | present | frozen deriving DecidableEq, Repr
/-- MODE of a BEACON (Table TEL-3). -/
inductive ReefMode | normal | propose | commit | reef deriving DecidableEq, Repr
/-- Completion statuses of Table SCP-5 and Table HST-4. -/
inductive Status
  | ok | notReady | cqEmpty | frozen | rigChanged | memberAbsent | twinLost | pointOffline | aborted | denied
  deriving DecidableEq, Repr
/-- Scope kinds of a fault record (Table REG-4). -/
inductive Kind
  | device | half | unit | system | point | sect | output | input | tps | line | linePair | lineNode | member | port
  deriving DecidableEq, Repr
/-- Instructions at the test access port (R36). -/
inductive TapInstr | bypass | idcode | samplePreload | extest | other deriving DecidableEq, Repr
/-- Start-up phases of Table STU-2, in their order. -/
inductive BootPhase | straps | otp | memory | frontEnd | lockstep | sweep | rigLoad | joins | done
  deriving DecidableEq, Repr
/-- Who holds or gives a rig (RIG_SOURCE, Table REG-11). -/
inductive RigSource | none | bank0 | bank1 | host deriving DecidableEq, Repr

/-- The fields that the hardware comparator compares (Table COR-1). -/
inductive CoreField
  | microAddress | branchTaken | stall
  | regEnable | regAddress | regData
  | sramEnable | sramStrobe | sramAddress | sramData
  | gateRequests
  | publicationAddress | publicationData
  | signature
  deriving DecidableEq, Repr
/-- Where an architectural write of a core goes (Table COR-1, groups 2, 3 and 5). -/
inductive CorePort | registers | sram | publication deriving DecidableEq, Repr

/-! ## Rig records -/

/-- NODE (Table RIG-3). -/
structure NodeRec where
  address : Nat := 0
  half : Nat := 0
  install : Word := 0
  deriving DecidableEq, Repr
/-- DUPLEX (Table RIG-3). -/
structure DuplexRec where
  floating : Bool := false
  ownpos : Nat := 0
  deriving DecidableEq, Repr
/-- REACT (Table RIG-3). -/
structure ReactRec where
  probe : Nat := 0
  tPath : Nat := 0
  locOcc : Nat := 1050
  locClr : Nat := 3050
  remOcc : Nat := 0
  remClr : Nat := 0
  deriving DecidableEq, Repr
/-- LINE (Table RIG-4); `cycle` in ms, `quiet` in s. -/
structure LineRec where
  rate : Nat := 0
  preamble : Nat := 32
  cycle : Nat := 4
  master : Nat := 0
  reef : Bool := false
  wake : Bool := false
  allow : Nat := 1
  quiet : Nat := 10
  key : Word := 1
  repeaters : Nat := 0
  deriving DecidableEq, Repr
/-- Kinds of slot (Table RIG-4). -/
inductive SlotKind | beacon | own | twin | retry | retryTwin deriving DecidableEq, Repr
structure Slot where
  owner : Nat := 0
  kind : SlotKind := .own
  lclass : Nat := 64
  offset : Nat := 0
  deriving DecidableEq, Repr
/-- SCHEDULE (Table RIG-4); delays in 0.1 µs. -/
structure ScheduleRec where
  nodes : List (Nat × Nat) := []
  slots : List Slot := []
  deriving DecidableEq, Repr
/-- PEER (Table RIG-4). -/
structure PeerRec where
  address : Nat := 0
  missed : Nat := 1
  duplex : Bool := false
  deriving DecidableEq, Repr
/-- CALDEF (Table RIG-5). -/
structure CalDefRec where
  profile : Nat := 0
  platMin : Nat := 1200
  platMax : Nat := 2200
  rippleMax : Nat := 300
  rise : Nat := 60
  fall : Nat := 60
  occMin : Nat := 150
  occMax : Nat := 320
  settle : Nat := 100
  deriving DecidableEq, Repr
/-- HEAD (Table RIG-5). -/
structure HeadRec where
  stackpos : Nat := 0
  head : Nat := 0
  type : Nat := 0
  deriving DecidableEq, Repr
/-- SYSTEM (Table RIG-5): bands and thresholds in 0.01 mA, shunt in 0.1 Ω, blanking in µs. -/
structure SystemRec where
  stackpos : Nat := 0
  system : Nat := 0
  polarity : Bool := false
  hyst : Nat := 4
  shunt : Nat := 1000
  openMax : Nat := 200
  idleMin : Nat := 600
  idleMax : Nat := 900
  occMin : Nat := 1200
  occMax : Nat := 2200
  shortMin : Nat := 2500
  thOpen : Nat := 0
  thOcc : Nat := 0
  thShort : Nat := 0
  eblank : Nat := 40
  recovery : Nat := 96
  deriving DecidableEq, Repr
/-- POINT (Table RIG-6): spacing in mm, speed in km/h, gap in ms. -/
structure PointRec where
  index : Nat := 0
  kind : PointKind := .localHead
  stackpos : Nat := 0
  owner : Nat := 0
  ownerPoint : Nat := 0
  spacing : Nat := 140
  vmax : Nat := 450
  tgap : Nat := 100
  profile : Nat := 0
  publish : Bool := false
  onMember : Bool := false
  subs : List Nat := []
  deriving DecidableEq, Repr
/-- BOUNDARY (Table RIG-6). -/
structure Boundary where
  sect : Nat := 0
  outward : Bool := false
  point : Nat := 0
  deriving DecidableEq, Repr
/-- SECTION (Table RIG-6); verdict limit in ms. -/
structure SectionRec where
  index : Nat := 0
  direct : Bool := false
  fromOcc : Bool := false
  dual : Bool := false
  reef : Bool := false
  publish : Bool := false
  nbound : Nat := 1
  vlimit : Nat := 1000
  deriving DecidableEq, Repr
/-- OUTPUT (Table RIG-7): pulse in µs, T_edm in ms, proof interval in h. -/
structure OutputRec where
  output : Nat := 0
  mode : CheckMode := .offpulse
  pulse : Nat := 400
  tedm : Nat := 10
  proof : Nat := 0
  force : Bool := false
  edmSrc : Nat := 0
  sections : List Nat := []
  deriving DecidableEq, Repr
/-- INPUT (Table RIG-7). -/
structure InputRec where
  input : Nat := 0
  use : InputUse := .status
  src : Nat := 0
  enable : Option Nat := none
  sect : Nat := 0
  direct : Bool := false
  outmask : Nat := 0
  deriving DecidableEq, Repr

/-- A record with the first 8 bytes of the SHA-256 over its bytes (R299). -/
structure Hashed (α : Type) where
  val : α
  rh : Hash64 := 0
  off : Nat := 0
  deriving DecidableEq, Repr

/-- The records of a node, or of one half (R296). -/
structure RigPart where
  node : Hashed NodeRec := { val := {} }
  stack : Option (Hashed Nat) := none
  duplex : Option (Hashed DuplexRec) := none
  line : Option (Hashed LineRec) := none
  schedule : Option (Hashed ScheduleRec) := none
  peers : List (Hashed PeerRec) := []
  react : Hashed ReactRec := { val := {} }
  caldefs : List (Hashed CalDefRec) := []
  heads : List (Hashed HeadRec) := []
  systems : List (Hashed SystemRec) := []
  points : List (Hashed PointRec) := []
  sections : List (Hashed SectionRec) := []
  bounds : List (Hashed Boundary) := []
  outputs : List (Hashed OutputRec) := []
  inputs : List (Hashed InputRec) := []
  deriving DecidableEq, Repr

/-- A verified rig: header fields (Table RIG-1) and its part or two parts (R296). -/
structure Rig where
  serial : Word := 0
  hash : Hash256 := 0
  length : Nat := 0
  partA : RigPart := {}
  partB : Option RigPart := none
  deriving DecidableEq, Repr

/-! ## Observations (R47, R68, R69) -/

/-- One ADC sample of a system at a hold instant: offset in the frame in µs, 12-bit code, and the three
comparators' unmasked synchronised levels at that instant (R68, R70). -/
structure Sample where
  off : Nat := 0
  code : Nat := 0
  opn : Bool := false
  occ : Bool := false
  short : Bool := false
  deriving DecidableEq, Repr
/-- What one frame shows of one system: node voltage held at 76 µs, OPEN at 72 µs, samples (R47). -/
structure SysObs where
  sys : Nat := 0
  nodeV : Nat := 0
  open72 : Bool := false
  samples : List Sample := []
  deriving DecidableEq, Repr
/-- Everything converted in one frame (Table WIN-3), the codes of the two DACs whose turn it was (R62), the measured
tick period in ns (R12) and the SYSCLK cycles its work took (COR_WORK). -/
structure FrameObs where
  vfld : Nat := 2400
  vsup : Nat := 3300
  vio : Nat := 3300
  rail5 : Nat := 5000
  rail10 : Nat := 1000
  cpump : Nat := 1000
  temp : Int := 250
  refCode : Nat := 0
  zeroCode : Nat := 0
  systems : List SysObs := []
  outNodes : List (Nat × Nat) := []
  biasA : Nat := 0
  biasB : Nat := 0
  readback : List Nat := []
  tickNs : Nat := 1000
  workCycles : Nat := 0
  workCyclesB : Nat := 0
  deriving DecidableEq, Repr
/-- What the internal source shows of a system (R264): the ADC codes read back of its OPEN, OCC and SHORT DAC at codes 0,
512 and 1 023, each comparator's output 50 mV below and above its trip point, the OCC hysteresis at 40 mV in 0.1 mV. -/
structure FrontEndObs where
  readbacks : List (List Nat) := []
  levels : List (Bool × Bool) := []
  hyst : Nat := 400
  deriving DecidableEq, Repr

/-- What a frame of the supply sweep shows (R266): bit `l` of the nominal chips, of the applied chips and of the frame's
scheduled blanking is line `l`'s; VFLD and the HSUP nodes in 10 mV. -/
structure SweepFrame where
  chips : BitVec 32 := 0
  applied : BitVec 32 := 0
  blanked : BitVec 32 := 0
  vfld : Nat := 2400
  nodes : List Nat := []
  deriving DecidableEq, Repr
/-- A sample of the classifier's stream: device time in µs, current in 0.01 mA, inside blanking or not. -/
structure CurSample where
  at_ : Nat := 0
  cur : Nat := 0
  blanked : Bool := false
  deriving DecidableEq, Repr

/-! ## Rails and cores (R26, R27, R116, R128) -/

/-- What the supervisors show where the internal reset could be released (Table BAL-4, R27, R35, R270): µs since the
filtered rise of RESET_N, µs for which VSUP has stood above 2.40 V, VIO in mV, VFLD in 10 mV, PLL lock. -/
structure RailObs where
  resetUs : Nat := 10
  vsupUs : Nat := 1000
  vioMv : Nat := 3300
  vfld : Nat := 2400
  pllLocked : Bool := true
  deriving DecidableEq, Repr
/-- An architectural write of a core: its port, address and true value (R116). -/
structure CoreWrite where
  port : CorePort := .sram
  addr : Nat := 0
  data : Word := 0
  deriving DecidableEq, Repr
/-- What a run of frame work meets: the half whose core runs it (`a` outside split mode), the slots of the change log
whose read-back fails in this frame's program slot (R318), and an uncorrectable SRAM word that an access finds, with
the cycle and whether it lies in a shared buffer (R128, Table FLT-2). -/
structure WorkObs where
  half : Half := .a
  progFails : Nat := 0
  sramBad : Option (Nat × Bool) := none
  deriving DecidableEq, Repr

/-! ## Line telegrams (R187 to R192) -/

/-- Entries of Table TEL-3. -/
inductive Entry
  | beacon (mode : ReefMode) (round : Nat) (schedId : Word)
  | pointEvent (verdict : Verdict) (ba res replay : Bool) (point : Nat) (eseq : Word)
  | pointStatus (group : Nat) (codes : List Nat)
  | sectionState (group : Nat) (codes : List Nat)
  | ack (owner : Nat) (eseq : Word)
  | reefVote (yes : Bool) (cycle : Half16)
  | join (reason : Nat) (session : Word)
  deriving DecidableEq, Repr
/-- A telegram (Table TEL-1) without its safety codes. -/
structure Telegram where
  type : Nat := 2
  dup : Bool := false
  dpos : Bool := false
  src : Nat := 0
  dst : Nat := 0
  cycle : Half16 := 0
  tseq : Word := 0
  dtime : Word := 0
  entries : List Entry := []
  deriving DecidableEq, Repr
/-- What one line brought in a slot, in SYSCLK cycles (96 per µs of device time): the instants at which LA_RX (or
LB_RX) toggles and at which the sense class leaves and regains high, both high before the first (R171, R179). -/
structure Copy where
  main : List Nat := []
  sense : List Nat := []
  deriving DecidableEq, Repr
/-- An accepted telegram and the lines that brought a valid copy of it. -/
structure TakenTel where
  tel : Telegram := {}
  onA : Bool := true
  onB : Bool := true
  deriving DecidableEq, Repr
/-- The copies of one slot on lines A and B (R192), or the echoes of one own transmission (R179). -/
structure CopyPair where
  a : Option Copy := none
  b : Option Copy := none
  deriving DecidableEq, Repr

/-! ## Host requests (R275 to R279) -/

/-- The fields of a well-formed request that an operation uses, and the SYSCLK cycle of acceptance. -/
structure Req where
  port : Fin 2 := 0
  tag : Nat := 0
  index : Nat := 0
  data : Word := 0
  cyc : Nat := 0
  deriving DecidableEq, Repr

/-! ## Point results exchanged between units and devices (Table DPX-3a, Table HAL-4) -/

/-- An axle event as it leaves a point machine, before it is numbered (R92). -/
structure RawEvent where
  point : Nat := 0
  ba : Bool := false
  res : Bool := false
  frame : Word := 0
  dtime : DTime := 0
  ton : Nat := 0
  mtag : Nat := 0
  deriving DecidableEq, Repr
inductive PointResult
  | event (e : RawEvent)
  | state (point : Nat) (st : PointState)
  | verdict (point : Nat) (v : Verdict)
  deriving DecidableEq, Repr

/-! ## Halyard messages (Table HAL-4) -/

/-- A forwarded request (R254, R392): system-array access, calibration, hold-off. -/
inductive FwdOp
  | read (index : Nat)
  | holdoff (sys : Nat) (set : Bool)
  | cal (target : Nat) (gain offset : Int) (clear : Bool)
  deriving DecidableEq, Repr
structure Fwd where
  member : Nat := 0
  rtag : Nat := 0
  op : FwdOp := .read 0
  deriving DecidableEq, Repr
/-- A join grant (R252). -/
structure Grant where
  member : Nat := 0
  epoch : Half16 := 0
  frame : Word := 0
  dt : DTime := 0
  codePos : Nat := 0
  serial : Word := 0
  hash : Hash256 := 0
  deriving DecidableEq, Repr
structure DownMsg where
  frame : Word := 0
  dt : DTime := 0
  codePos : Nat := 0
  role : Role := .offline
  serial : Word := 0
  members : List Membership := []
  /-- HAL_MEMBERm.REFUSE of each position (Table HAL-5). -/
  refusals : List Nat := []
  grants : List Grant := []
  requests : List Fwd := []
  deriving DecidableEq, Repr
/-- What a frame's work makes of the probe point: an edge of S32 (of OCC or not, in time or not), an event with its
direction, a verdict on one, a record that the point machine cannot resolve (in pass 2 or not). -/
inductive ProbeNews
  | edge (occ ok : Bool)
  | event (ba : Bool)
  | verdict (ba : Bool) (v : Verdict)
  | fail (pass2 : Bool)
  deriving DecidableEq, Repr
/-- The probe results of an UP (R164): the run, its injection instant in SYSCLK cycles, and the news of a frame. -/
structure ProbeUp where
  k : Nat := 0
  t0 : Nat := 0
  offset : Nat := 0
  news : List ProbeNews := []
  deriving DecidableEq, Repr
structure UpMsg where
  epoch : Half16 := 0
  frame : Word := 0
  inSlot : Bool := true
  /-- Its TYPE is one of Table HAL-2's. -/
  typeOk : Bool := true
  state : SysState := .boot
  serial : Word := 0
  ready : Bool := false
  hash : Hash256 := 0
  events : List RawEvent := []
  verdicts : List (Nat × Verdict) := []
  /-- Point states with their sub-state of COUNTING (R83; log 126). -/
  points : List (Nat × PointState × Position) := []
  /-- Fault summary: active faults, and the code of a staged rig that failed verification (R306). -/
  faults : Nat := 0
  rigFail : Nat := 0
  replies : List (Nat × Status × Word) := []
  probe : Option ProbeUp := none
  deriving DecidableEq, Repr
structure JoinReqMsg where
  pos : Nat := 0
  frame : Word := 0
  duplex : Bool := false
  romver : Word := 0
  session : Word := 0
  hash : Hash256 := 0
  deriving DecidableEq, Repr

/-! ## Twin-link messages (Table DPX-3, Table DPX-3a) -/

structure HelloMsg where
  epoch : Half16 := 0
  frame : Word := 0
  position : Nat := 0
  floating : Bool := false
  role : Role := .offline
  hash : Hash256 := 0
  romver : Word := 0
  dt : DTime := 0
  codePos : Nat := 0
  inWindow : Bool := true
  deriving DecidableEq, Repr
/-- A command entry of a RECORD. -/
structure RecCmd where
  port : Fin 2 := 0
  opc : Nat := 0
  tag : Nat := 0
  index : Nat := 0
  data : Word := 0
  par : List Word := []
  nonce : Word := 0
  deriving DecidableEq, Repr
structure RecordMsg where
  epoch : Half16 := 0
  frame : Word := 0
  handover : Bool := false
  signature : Word := 0
  results : List PointResult := []
  telegrams : List TakenTel := []
  commands : List RecCmd := []
  deriving DecidableEq, Repr
structure ShadowMsg where
  epoch : Half16 := 0
  frame : Word := 0
  inWindow : Bool := true
  role : Role := .standby
  signature : Word := 0
  results : List PointResult := []
  /-- Points whose shadow result is not comparable (0x36, Table HED-5). -/
  incomparable : List Nat := []
  /-- Outputs on which the standby's observation of a pulse differs (R151). -/
  obsDiffer : List Nat := []
  /-- Outputs whose pulse the standby observed as the active did. -/
  obsAgree : List Nat := []
  handoverFaults : List Nat := []
  stagedHash : Option Hash256 := none
  deriving DecidableEq, Repr

end Sys2Proof.Machine
end

