-- ==== Sys2Proof/Objects.lean ====
section
/-! DEFINITION. The objects the AQ641 keeps state for: systems, points, sections, journal, outputs, inputs,
line node, duplex unit, halyard, host ports, rig, log, background jobs and probe. Instants are SYSCLK cycles
since the release of the internal reset (96 per µs, R9), unless a field says otherwise. -/
namespace Sys2Proof.Machine

/-- A set of code positions 0 to 62 (R391). -/
abbrev PosSet := BitVec 63

/-! ## Systems (03, 04; Table ARR-4) -/

/-- One comparator: synchronised level, last reported level, masked transitions with the earliest stamp, and
the last cycle of its edge-blanking window (R63 to R66). -/
structure Cmp where
  live : Bool := false
  reported : Option Bool := none
  masked : Nat := 0
  earliest : Nat := 0
  ebUntil : Nat := 0
  /-- The run of an assertion (R78): cycles outside scheduled blanking so far, from where it counts on, and whether it has raised its fault. -/
  onAcc : Nat := 0
  onFrom : Option Nat := none
  onDone : Bool := false
  deriving DecidableEq, Repr

/-- An edge record (R63). `lo` is the earliest masked stamp of a RESAMPLED record, else the stamp. -/
structure EdgeRec where
  sys : Nat := 0
  cmp : Comparator := .occ
  level : Bool := false
  lo : Nat := 0
  hi : Nat := 0
  resampled : Bool := false
  /-- BAND_ADJ (R63); a merged record of an excursion (R82), which is no record of a comparator. -/
  bandAdj : Bool := false
  merged : Bool := false
  /-- Frame that contains `hi` (R15, R92). -/
  fr : Word := 0
  deriving DecidableEq, Repr

/-- An open band excursion (R82): start, occupancy level before it, last release of OPEN or SHORT. -/
structure Excursion where
  start : Nat := 0
  before : Bool := false
  release : Option Nat := none
  deriving DecidableEq, Repr

structure Sys where
  id : Nat := 0
  defd : Bool := false
  cfg : SystemRec := {}
  ch : Hash64 := 0
  -- threshold DAC codes in force (R60, R61)
  dacOpen : Nat := 0
  dacOcc : Nat := 0
  dacShort : Nat := 0
  -- comparators and masks
  cOpen : Cmp := {}
  cOcc : Cmp := {}
  cShort : Cmp := {}
  sched : Bool := false
  /-- Last cycle of the running scheduled blanking (R65, R66). -/
  schedUntil : Nat := 0
  rwUntil : Nat := 0
  /-- Stamp of the latest OPEN or SHORT record (R63, BAND_ADJ). -/
  lastBand : Option Nat := none
  captured : Nat := 0
  overflow : Bool := false
  overflowClosed : Bool := false
  noisy : Bool := false
  noisyClosed : Bool := false
  hidden : Nat := 0
  exc : Option Excursion := none
  -- head supply
  mode : HsupMode := .off
  /-- Boundaries until the 50 ms of the DISCHARGE are over (R55). -/
  dischLeft : Nat := 0
  pendOn : Bool := false
  holdoff : Bool := false
  retrying : Bool := false
  retryFrame : Word := 0
  onWhole : Bool := false
  chip : Bool := false
  obsChip : Bool := false
  obsValid : Bool := false
  proof : Bool := false
  obsProof : Bool := false
  /-- The PROOF frame of this code period is still to come (R53). -/
  proofWait : Bool := false
  /-- R53 was checked in this period; a node or a dip was otherwise than R53 demands. -/
  stbySeen : Bool := false
  stbyBad : Bool := false
  /-- Scheduled blanking ran in this frame, and in the frame whose observations stand (R65, R70). -/
  blank : Bool := false
  obsBlank : Bool := false
  /-- The frame whose observations stand was an off-pulse frame (R14). -/
  obsOff : Bool := false
  /-- Consecutive clean applied chips since tracking was suspended (R75). -/
  track4 : Nat := 0
  /-- An occupancy level of 1 in the open frame, and in the closed one (R90). -/
  occSeen : Bool := false
  occFrame : Bool := false
  node : NodeClass := .low
  missHist : List Bool := []
  exceptions : Nat := 0
  applied : Nat := 0
  clean : Nat := 0
  dRun : PosSet := 0
  iRun : PosSet := 0
  vRun : PosSet := 0
  aRun : PosSet := 0
  aSet : PosSet := 0
  dSet : PosSet := 0
  iSet : PosSet := 0
  vSet : PosSet := 0
  cands : List (Nat × Nat) := []
  partners : List Nat := []
  ambig : Bool := false
  unident : Bool := false
  usable : Bool := false
  run4 : Nat := 0
  -- sampled path
  lastCode : Nat := 0
  lastCur : Nat := 0
  band : Nat := 0
  baseQ : Option Int := none
  baseAge : Nat := 0
  susp : Bool := false
  baseWarn : Bool := false
  baseGood : Nat := 0
  settleUntil : Nat := 0
  frameMean : Option Int := none
  disHist : List Bool := []
  disClean : Nat := 0
  noiseRun : Nat := 0
  quietRun : Nat := 0
  quietFrames : Nat := 0
  rbOpen : Nat := 0
  rbOcc : Nat := 0
  rbShort : Nat := 0
  noOpenFrames : Nat := 0
  noShortFrames : Nat := 0
  feFailed : Bool := false
  /-- Device times in µs of the latest occupancy-level off edges, newest first, and of usability (R71). -/
  offEdges : List Nat := []
  usableAt : Nat := 0
  deriving DecidableEq, Repr

/-! ## Points and the journal (05; Tables CNT-2 to CNT-4, ARR-5) -/

/-- An occupancy record as a point reads it (R81). -/
structure OccRec where
  side : Side := .A
  level : Bool := false
  lo : Nat := 0
  hi : Nat := 0
  res : Bool := false
  fr : Word := 0
  deriving DecidableEq, Repr

/-- The passage in progress of a COUNTING point (R83 to R88). -/
structure Passage where
  pos : Position := .vacant
  entry : Side := .A
  overlap : Bool := false
  onA : Nat := 0
  onB : Nat := 0
  offA : Nat := 0
  offB : Nat := 0
  bothByFar : Bool := false
  res : Bool := false
  last : Option OccRec := none
  lone : Option (Side × Nat) := none
  deriving DecidableEq, Repr

/-- An event of a local or member point that waits for its classifier verdict (R73, R249). -/
structure Wait where
  eseq : Word := 0
  onA : Nat := 0
  onB : Nat := 0
  offA : Nat := 0
  offB : Nat := 0
  ba : Bool := false
  mtag : Nat := 0
  /-- The event has its number. -/
  numbered : Bool := false
  deriving DecidableEq, Repr

structure Point where
  cfg : PointRec := {}
  ch : Hash64 := 0
  state : PointState := .disturbed
  pas : Passage := {}
  recover : Nat := 0
  /-- Boundaries until the frames of a recovery count: 2 where it enters DISTURBED (R90). -/
  entered : Nat := 0
  /-- An event of it met a full journal, and 0x43 stands (R95, Table ARR-5). -/
  jfull : Bool := false
  /-- Since activation the point has not recovered: R269 counts from usability. -/
  startup : Bool := true
  reversals : Nat := 0
  waits : List Wait := []
  eseq : Word := 0
  lastBa : Bool := false
  lastV : Verdict := .pending
  lastRes : Bool := false
  ton : Nat := 0
  events : Nat := 0
  hidden : Nat := 0
  reported : Bool := false
  heardOnce : Bool := false
  /-- An activation made or changed it at the boundary that opened this frame (16, When members report across the
  activation boundary). -/
  fresh : Bool := false
  deriving DecidableEq, Repr

/-- A journal entry (Table CNT-4) with its consumers and what was sent of it (R94, R201). -/
structure JEntry where
  idx : Nat := 0
  seq : Word := 0
  member : Option Nat := none
  mtag : Nat := 0
  ba : Bool := false
  verdict : Verdict := .pending
  res : Bool := false
  point : Nat := 0
  frame : Word := 0
  dtime : DTime := 0
  consumers : List Nat := []
  published : Bool := false
  sentV : Option Verdict := none
  lastSent : Word := 0
  deriving DecidableEq, Repr

structure Journal where
  entries : List JEntry := []
  /-- Numbered events that took no slot and whose verdict is pending (R95). -/
  noSlot : List JEntry := []
  head : Nat := 0
  nextSeq : Word := 1
  pressure : Bool := false
  deriving DecidableEq, Repr

/-! ## Sections (06; Table ARR-6) -/

/-- A contributing event: owner address (0 for this node), ESEQ, verdict, frame that applied it (R99, R106). -/
structure Contrib where
  owner : Nat := 0
  eseq : Word := 0
  verdict : Verdict := .pending
  frame : Word := 0
  deriving DecidableEq, Repr

/-- An armed host reset (R111, R112). -/
structure Arm where
  direct : Bool := false
  port : Fin 2 := 0
  nonce : Word := 0
  state : SectionState := .disturbed
  count : Int := 0
  conf0 : Bool := false
  conf1 : Bool := false
  frame : Word := 0
  deriving DecidableEq, Repr

structure Sect where
  cfg : SectionRec := {}
  bounds : List (Nat × Bool) := []
  ch : Hash64 := 0
  state : SectionState := .disturbed
  count : Int := 0
  contrib : List Contrib := []
  rose : Bool := false
  arm : Option Arm := none
  /-- State and count as step 4 of the running frame work left them (R111). -/
  s4state : SectionState := .disturbed
  s4count : Int := 0
  /-- Frame in which a cause of R102 last arose (R103). -/
  caused : Option Word := none
  resetDone : Bool := false
  resFrame : Word := 0
  resDirect : Bool := false
  resSource : Nat := 0
  resInput : Nat := 0
  resResult : Nat := 0
  nRedund : Nat := 0
  change : Word := 0
  rejoin : Option (List Nat) := none
  deriving DecidableEq, Repr

/-! ## Outputs and inputs (08; Tables ARR-2, ARR-3) -/

/-- A running off-pulse: side, and frames left that it touches (R14, R140). -/
structure Pulse where
  low : Bool := false
  framesLeft : Nat := 0
  failed : Bool := false
  deriving DecidableEq, Repr

structure Output where
  id : Nat := 0
  defd : Bool := false
  cfg : OutputRec := {}
  ch : Hash64 := 0
  state : OutState := .off
  reqHi : Bool := false
  reqLo : Bool := false
  /-- Requests as the last update applied them (R18, R156). -/
  appHi : Bool := false
  appLo : Bool := false
  /-- Core B's requests as it writes them, complemented (R118). -/
  nHi : Bool := true
  nLo : Bool := true
  gateHi : Bool := false
  gateLo : Bool := false
  decided : Bool := false
  pendingMark : Bool := false
  hiCls : NodeClass := .low
  loCls : NodeClass := .low
  /-- Classes of the last complete frame (R151). -/
  hiLast : NodeClass := .low
  loLast : NodeClass := .low
  gateFrame : Word := 0
  levelOk : Bool := false
  levelFrame : Word := 0
  pulse : Option Pulse := none
  pulsesHi : Nat := 0
  pulsesLo : Nat := 0
  lowRun : Nat := 0
  /-- ON and a mode with off-pulses at the start of the frame (R140). -/
  slotOn : Bool := false
  /-- Stamps since which the nodes have been off the on level outside the output's own pulses, and off the off level. -/
  leftAt : Option Nat := none
  highAt : Option Nat := none
  /-- Stamp of the boundary from which its standing state holds (R143). -/
  standAt : Option Nat := none
  /-- A node not LOW in the open frame (R150). -/
  nonLow : Bool := false
  /-- Cleared in this frame's step 5: decided again in the next frame (Table SIO-2). -/
  hold : Bool := false
  first : Nat := 0
  partner : Option Nat := none
  proofStart : Word := 0
  proofDue : Bool := false
  edmMs : Nat := 0
  obsAgree : Nat := 0
  ohsV : Nat := 0
  olsV : Nat := 0
  deriving DecidableEq, Repr

structure Input where
  id : Nat := 0
  defd : Bool := false
  cfg : InputRec := {}
  ch : Hash64 := 0
  raw : Bool := false
  rawSince : Nat := 0
  /-- Raw level outside the ignored spans, and the end of the latest span that saw a change (R147). -/
  lvl : Bool := false
  spanEnd : Nat := 0
  pressAt : Nat := 0
  filt : Bool := false
  filtAt : Nat := 0
  offFrame : Word := 0
  onFrame : Word := 0
  pressing : Bool := false
  pressBad : Option Nat := none
  /-- Stamp at which its faults last cleared (R109). -/
  faultEnd : Option Nat := none
  /-- Stamp at which a fault of it was found. -/
  faultFrom : Nat := 0
  ignored : Bool := false
  missHist : List Bool := []
  excRun : List (Nat × Nat) := []
  cleanRun : Nat := 0
  named : Nat := 0
  lastPress : Nat := 0
  result : Nat := 0
  accepted : Nat := 0
  tooShort : Nat := 0
  tooLong : Nat := 0
  deriving DecidableEq, Repr

structure Tps where
  id : Nat := 0
  on : Bool := false
  failHist : List Bool := []
  cleanRun : Nat := 0
  deriving DecidableEq, Repr

/-- A reset or clear request that a press produced for step 5 (R109, R150). -/
inductive InputReq
  | reset (input sect : Nat) (direct : Bool)
  | clear (input mask : Nat)
  deriving DecidableEq, Repr

/-! ## Probe (09; Table REG-13) -/

/-- A running probe run: crossing instants, what it has shown so far (R163, R164). -/
structure ProbeRun where
  t0 : Nat := 0
  offset : Nat := 0
  pas : Passage := {}
  ab : Bool := false
  ba : Bool := false
  abWheel : Bool := false
  baWheel : Bool := false
  firstFail : Nat := 0
  offShown : Bool := false
  /-- Events whose verdict is pending at the probe section, which is DISTURBED; cycles of the span toward OCCUPIED. -/
  pend : Nat := 0
  disturbed : Bool := false
  spanOcc : Nat := 0
  /-- S32 OCC edges so far, the sample stream, events that wait for their verdict. -/
  nEdges : Nat := 0
  samples : List CurSample := []
  waits : List Wait := []
  deriving DecidableEq, Repr

structure Probe where
  half : Half := .a
  k : Nat := 0
  run : Option ProbeRun := none
  clear : Bool := false
  count : Int := 0
  decision : Bool := false
  shown : Bool := false
  ramps : Nat := 0
  /-- Start of the injector's latest ramp (R163). -/
  rampStart : Option Nat := none
  /-- News of the latest frame's work. -/
  news : List ProbeNews := []
  lastPass : Word := 0
  lastStart : Word := 0
  failRun : Nat := 0
  resRun : Word := 0
  result : Nat := 0
  check : Nat := 0
  resOffset : Nat := 0
  spanOcc : Nat := 0
  spanClr : Nat := 0
  passOcc : Nat := 0
  passClr : Nat := 0
  /-- S32 OCC records whose 2 000 µs delayed copy is still to come (R163). -/
  delayed : List EdgeRec := []
  deriving DecidableEq, Repr

/-! ## Line node (10, 11; Table REG-8) -/

/-- What drives a line: LX_DE from `start` to `stop`, LX_TX toggling at the instants of `wave` (R172, R182). -/
structure Drive where
  start : Nat := 0
  stop : Nat := 0
  wave : List Nat := []
  wake : Bool := false
  deriving DecidableEq, Repr

/-- What is kept per line (Table LIN-4, Table REG-8). -/
structure LinePhys where
  drive : Option Drive := none
  suspCycles : Nat := 0
  susp62 : Bool := false
  suspFrame : Word := 0
  echoHist : List Bool := []
  cleanTx : Nat := 0
  biasFails : Nat := 0
  biasGood : Nat := 0
  decHist : List Bool := []
  decGood : Nat := 0
  singleHist : List Bool := []
  single : Nat := 0
  invalid : Nat := 0
  echoErr : Nat := 0
  decDis : Nat := 0
  biasMin : Nat := 0
  biasNow : Nat := 0
  /-- A conversion has come since the last telemetry record: `biasMin` is the least since. -/
  biasSeen : Bool := false
  deriving DecidableEq, Repr

structure Peer where
  cfg : PeerRec := {}
  ch : Hash64 := 0
  heard : Bool := false
  s : Word := 0
  missed : Nat := 0
  got : Bool := false
  /-- It was removed from entries of the journal: it rejoins when it is heard again (R95). -/
  dropped : Bool := false
  last : List Entry := []
  session : Option Word := none
  hi : Option Word := none
  applied : List Word := []
  verdicted : List Word := []
  sections : List (Nat × Nat) := []
  deriving DecidableEq, Repr

/-- Progress of a reef proposal at the line master (R206, R207, R210). -/
structure ReefVote where
  round : Nat := 0
  /-- CYCLE of the PROPOSE BEACON of round 1. -/
  cycle : Half16 := 0
  yes1 : List Nat := []
  yes2 : List Nat := []
  no : Bool := false
  aborted : Bool := false
  deriving DecidableEq, Repr

structure LineNode where
  cycle : Option Half16 := none
  sinceBeacon : Nat := 0
  mode : ReefMode := .normal
  round : Nat := 0
  inReef : Bool := false
  /-- E_0 and the offset of the next BEACON from it, in µs; the slot reference in SYSCLK cycles (R196, R175). -/
  e0 : DTime := 0
  e0Next : Nat := 0
  slotRef : Option Nat := none
  ownSlots : Nat := 0
  silent64 : Bool := false
  s64Cycles : Nat := 0
  silent6A : Bool := false
  tseq : Word := 0
  session : Word := 0
  joinsLeft : Nat := 0
  joinReason : Nat := 1
  acks : List (Nat × Word) := []
  voteDue : Option Half16 := none
  changedPts : List Nat := []
  changedSecs : List Nat := []
  /-- Status groups (section or point, number) in the order in which they were last sent, the latest at the end, and
  how many of them this cycle's telegrams have carried (R198). -/
  lru : List (Bool × Nat) := []
  statusSent : Nat := 0
  /-- Telegrams of own slots of this cycle whose echo failed and that no retry slot has repeated (R199). -/
  failedTx : List Telegram := []
  /-- The telegram last put on the line. -/
  txTel : Option Telegram := none
  lineA : LinePhys := {}
  lineB : LinePhys := {}
  bothRun : Nat := 0
  vote : Option ReefVote := none
  voteWait : Nat := 0
  quietFrame : Word := 0
  proposeReq : Bool := false
  wakeReq : Bool := false
  wakeBursts : Nat := 0
  wakePending : Bool := false
  zeroReef : Bool := false
  /-- Sources silenced until the next valid BEACON (R180). -/
  muted : List Nat := []
  peers : List Peer := []
  lastMuted : Nat := 0
  mutes : Nat := 0
  namedSrc : Nat := 0
  namedCode : Nat := 0
  reefs : Nat := 0
  zeroReefs : Nat := 0
  wakesSent : Nat := 0
  wakesIgnored : Nat := 0
  /-- 0x65 arose in this cycle; the cycle before ended without it. -/
  sixtyFive : Bool := false
  clean65 : Bool := false
  /-- First cycle of the full cycle that a reef gave way to (R104). -/
  fullFrom : Option Half16 := none
  diffCycles : Nat := 0
  dupCycles : Nat := 0
  /-- CYCLE of the last BEACON this node sent as line master (R196). -/
  beaconCycle : Option Half16 := none
  /-- End of the last wake burst in SYSCLK cycles (R209). -/
  wakeEnd : Nat := 0
  deriving DecidableEq, Repr

/-- What a half's cores show (Table REG-6): signature, resyncs, re-run in this frame, cycles of work. -/
structure Cores where
  sig : Word := 0
  resyncTotal : Nat := 0
  resyncFrames : List Word := []
  reran : Bool := false
  workLast : Nat := 0
  workMax : Nat := 0
  deriving DecidableEq, Repr

/-! ## Evaluation state of the device, or of one half (R129) -/

/-- What a node evaluates: system state, points, sections, journal and its line node. In a duplex STANDBY it
is the mirror (12, Standby shadowing). -/
structure Node where
  sys : SysState := .boot
  safe : Bool := false
  phase : BootPhase := .straps
  points : List Point := []
  sections : List Sect := []
  journal : Journal := {}
  line : LineNode := {}
  joinBeacon : Bool := false
  joinFrame : Word := 0
  nextMtag : Nat := 0
  resets : Nat := 0
  redundant : Nat := 0
  cores : Cores := {}
  deriving DecidableEq, Repr

/-- The state image of TRANSFER (R237): what the spec lists of it. -/
structure MirrorImage where
  /-- f_s: the frame whose work the snapshot includes. -/
  frame : Word := 0
  node : Node := {}
  outputs : List Output := []
  reef : ReefMode := .normal
  deriving DecidableEq, Repr

/-- A TRANSFER block of the partner's state image; the image comes whole with the last (R237). -/
structure TransferMsg where
  epoch : Half16 := 0
  frame : Word := 0
  inWindow : Bool := true
  block : Nat := 0
  image : Option MirrorImage := none
  deriving DecidableEq, Repr

/-! ## Duplex unit (12; Table REG-9) -/

structure Dpx where
  role : Role := .offline
  prole : Option Role := none
  claim : Bool := false
  pclaim : Bool := false
  /-- Consecutive valid pairs; stamps of the last one, of the claim seen present and seen absent (R216). -/
  pairRun : Nat := 0
  lastPair : Nat := 0
  /-- The latest change of both lines in opposite directions, which the next one is timed from (R216). -/
  pairRef : Nat := 0
  presAt : Nat := 0
  absentSince : Nat := 0
  /-- Stamp at which the unit last became OFFLINE with its joins complete (R220). -/
  offAt : Nat := 0
  hold : Bool := false
  holdAt : Nat := 0
  /-- A held handover is decided for the next frame, and announced in this one (R234). -/
  handNext : Bool := false
  handover : Bool := false
  partnerHandover : Bool := false
  switchCmd : Option (Fin 2 × Nat) := none
  /-- A RESYNC that awaits the partner (R241). -/
  resyncCmd : Option (Fin 2 × Nat) := none
  contSince : Option Word := none
  contEnd : Word := 0
  giveUps : List Word := []
  epoch : Half16 := 0
  frozen : Bool := false
  frozenFrame : Word := 0
  bad : Nat := 0
  step : Nat := 0
  progress : Nat := 0
  fails : List Word := []
  failFrame : Word := 0
  retryWait : Bool := false
  queue : List RecordMsg := []
  unmirrored : Nat := 0
  mirror : Bool := false
  /-- Step 1 of a mirroring unit has run; the frame waits for RECORD (R226). -/
  awaitRecord : Bool := false
  /-- Point states as the last frame's work left them (Table DPX-3a). -/
  shown : List (Nat × PointState) := []
  /-- Those of the frame before, and what SHADOW has shown of the partner's (R228). -/
  prevShown : List (Nat × PointState) := []
  partnerShown : List (Nat × PointState) := []
  /-- R235: ESEQ and TSEQ are still to be advanced before the next use. -/
  skipSeq : Bool := false
  skipTx : Bool := false
  lock7A : Bool := false
  lock76 : Bool := false
  /-- The own point machines of a unit that mirrors, the point results of this and of the previous frame, the
  telegrams and commands of this frame's work, points that 0x72 disturbs in the next. -/
  shadow : List Point := []
  results : List PointResult := []
  prevResults : List PointResult := []
  recTel : List TakenTel := []
  recCmds : List RecCmd := []
  pend72 : List Nat := []
  uncert : Nat := 0
  /-- A standby's own checks of the active's pulses since its last SHADOW (R151). -/
  obs : List (Nat × Bool) := []
  disagree : Nat := 0
  unmirr : Nat := 0
  hoSince : List (Nat × Word) := []
  partnerHo : List Nat := []
  partnerStaged : Option Hash256 := none
  claimFrame : Word := 0
  pinnedAway : Bool := false
  /-- The messages of the latest twin-link exchange, and TRANSFER blocks sent (R223). -/
  sentHello : Option HelloMsg := none
  sentRecord : Option (List Byte) := none
  sentShadow : Option ShadowMsg := none
  sentTransfer : Option TransferMsg := none
  sentBlocks : Nat := 0
  /-- The snapshot that TRANSFER sends (R237). -/
  snapshot : Option MirrorImage := none
  deriving DecidableEq, Repr

/-! ## Halyard (13; Table REG-10) -/

/-- The master's view of a member position (Table HAL-5). -/
structure HMember where
  state : Membership := .absent
  epoch : Half16 := 0
  ready : Bool := false
  refuse : Nat := 0
  session : Word := 0
  miss : Nat := 0
  inval : Nat := 0
  gotUp : Bool := false
  freezeFrame : Word := 0
  grantFrame : Word := 0
  hash : Hash256 := 0
  sysState : SysState := .boot
  rigFail : Nat := 0
  /-- The rig's face and back have been sent to it in BULK. -/
  served : Bool := false
  /-- The member's probe point as the master evaluates it (R164). -/
  probe : Probe := {}
  deriving DecidableEq, Repr
/-- A request pending on a member, with the host operation that waits for it (R254). -/
structure FwdPend where
  fwd : Fwd := {}
  port : Fin 2 := 0
  opc : Nat := 0
  tag : Nat := 0
  sent : Bool := false
  deriving DecidableEq, Repr
structure Hal where
  members : List HMember := []
  requests : List FwdPend := []
  nextTag : Nat := 0
  grants : List Grant := []
  inbox : List (Nat × UpMsg) := []
  /-- Directions that failed in the running exchange, and whether a pair of valid copies has come in it. -/
  exF : Bool := false
  exR : Bool := false
  exBoth : Bool := false
  dirF : List Bool := []
  dirR : List Bool := []
  bothOk : Nat := 0
  failF : Nat := 0
  failR : Nat := 0
  discard : Nat := 0
  selfState : Membership := .absent
  selfEpoch : Half16 := 0
  selfSession : Word := 0
  needSession : Bool := true
  missDown : Nat := 0
  gotDown : Bool := false
  /-- This frame's exchange has closed (R16, R248). -/
  exClosed : Bool := false
  lost : Bool := false
  lostFrame : Word := 0
  frozenSelf : Bool := false
  masterRole : Role := .offline
  /-- The rig that the latest grant names: serial and hash. -/
  want : Option (Word × Hash256) := none
  downSent : Option DownMsg := none
  upSent : Option UpMsg := none
  joinSent : Option JoinReqMsg := none
  /-- Results of the running frame's work, and those published for the next sub-slots (R249). -/
  upEvents : List RawEvent := []
  upVerdicts : List (Nat × Verdict) := []
  outEvents : List RawEvent := []
  outVerdicts : List (Nat × Verdict) := []
  outProbe : Option ProbeUp := none
  /-- The grant whose timebase the member takes at the next boundary (R252). -/
  stepTo : Option Grant := none
  fwdIn : List Fwd := []
  upReplies : List (Nat × Status × Word) := []
  bulkMember : Nat := 0
  bulkBytes : Nat := 0
  bulkActive : Bool := false
  deriving DecidableEq, Repr

/-! ## Host ports (15; Table REG-5) -/

/-- A response frame (Table HST-2): KIND 0 completion, 1 queued, 2 rejected. -/
structure Resp where
  opc : Nat := 0
  byte1 : Nat := 0
  kind : Nat := 0
  replayed : Bool := false
  code : Nat := 0
  session : Bool := false
  snap : Bool := false
  event : Bool := false
  cqne : Bool := false
  state : Nat := 0
  frame : Word := 0
  data : Word := 0
  deriving DecidableEq, Repr
/-- A completion; `stamp` is the FRAME of a READ that did not read the bank of the delivering update (R278, R285). -/
structure Completion where
  opc : Nat := 0
  tag : Nat := 0
  status : Status := .ok
  data : Word := 0
  frame : Word := 0
  replayed : Bool := false
  stamp : Option Word := none
  deriving DecidableEq, Repr
/-- A journaled WRITE, tagged READ or command (R288) with what acceptance fixed (R279, R289). -/
structure HostCmd where
  port : Fin 2 := 0
  opc : Nat := 0
  tag : Nat := 0
  index : Nat := 0
  data : Word := 0
  par : List Word := []
  utcHi : Word := 0
  utcLo : Word := 0
  operator : Option Nat := none
  frame : Word := 0
  cyc : Nat := 0
  snaprd : Bool := false
  nonce : Word := 0
  /-- A reservation of one change-log entry is held for it (R318). -/
  reserved : Bool := false
  /-- What was decided before its execution: DENIED at acceptance, POINT_OFFLINE of a point it names (R91). -/
  verdict : Option Status := none
  /-- Frame in whose work (or at whose acceptance) it was executed; it stays here until it completes (R288). -/
  ran : Option Word := none
  /-- A core resync had it executed again: its completion carries REPLAYED (R125, R288). -/
  replayed : Bool := false
  deriving DecidableEq, Repr
structure Session where
  operator : Nat := 0
  last : Word := 0
  deriving DecidableEq, Repr
/-- A running SESSION_OPEN or PW_SET (R311). -/
structure PwJob where
  cmd : HostCmd := {}
  password : List Byte := []
  frame : Word := 0
  deriving DecidableEq, Repr
structure Port where
  resp : Resp := {}
  /-- The request frame of the latest transaction, and MISO's bytes 0 to 27 of it (R275, R277, R278). -/
  mosi : List Byte := []
  miso : List Byte := []
  par : List Word := [0, 0, 0, 0]
  utcHi : Word := 0
  utcLo : Word := 0
  irqStat : Nat := 0
  irqMask : Nat := 1
  winsel : Word := 0x00001000
  pwbuf : List Word := List.replicate 16 0
  session : Option Session := none
  /-- Tags in use with the opcode that took each (R281). -/
  tags : List (Nat × Nat) := []
  journal : List HostCmd := []
  cq : List Completion := []
  recalled : List Completion := []
  snapHeld : Bool := false
  frozen : Bool := false
  lockout : Option Word := none
  crcRun : Nat := 0
  pwRun : Nat := 0
  lastViol : Nat := 0
  nviol : Nat := 0
  logEntry : List Word := List.replicate 16 0
  irq : Bool := false
  pwJobs : List PwJob := []
  deriving DecidableEq, Repr

/-! ## Rig management (16; Table REG-11) -/

/-- A rig command that runs: RIG_CHECK, RIG_LOAD, RIG_STORE. -/
structure RigJob where
  cmd : HostCmd := {}
  frame : Word := 0
  verified : Bool := false
  deriving DecidableEq, Repr
structure RigMgr where
  active : Option Rig := none
  source : RigSource := .none
  actFrame : Word := 0
  bank0 : Nat × Nat := (0, 0)
  bank1 : Nat × Nat := (0, 0)
  fallback : Bool := false
  staged : Bool := false
  owner : Option (Fin 2) := none
  stagedSerial : Word := 0
  passed : Option Rig := none
  job : Option RigJob := none
  store : Option RigJob := none
  storeLogged : Bool := false
  pendAct : Option HostCmd := none
  actDue : Option (Rig × List HostCmd) := none
  bootBank : Nat := 0
  bootTried : Nat := 0
  memberHash : Option Hash256 := none
  /-- Where the rig of `actDue` came from; code of a BULK rig that failed on this member. -/
  actSource : RigSource := .none
  bulkFail : Nat := 0
  deriving DecidableEq, Repr

/-! ## Change log and stores (17; Table REG-12) -/

/-- A change-log entry (Table LOG-2); `good` is false for a slot whose CRC fails. -/
structure LogEntry where
  entry : Word := 0
  dtime : DTime := 0
  operator : Nat := 0
  utcHi : Word := 0
  utcLo : Word := 0
  action : Nat := 0
  port : Nat := 0xFF
  half : Nat := 0
  object : Word := 0
  old : Hash64 := 0
  new : Hash64 := 0
  frame : Word := 0
  chain : Hash64 := 0
  good : Bool := true
  deriving DecidableEq, Repr
structure ChangeLog where
  slots : List LogEntry := []
  newest : Nat := 0
  wmark : Nat := 0
  reserved : Nat := 0
  erases : List (Nat × Nat) := []
  dropped : Nat := 0
  writeFault : Bool := false
  /-- Read-backs that still fail in the running program slot, and whether this frame programmed an entry. -/
  writeFails : Nat := 0
  programmed : Bool := false
  /-- This frame programmed a store record without an entry (R321, R334). -/
  storeWrite : Bool := false
  erasing : Option (Nat × Nat) := none
  chainPos : Nat := 0
  chainDone : Bool := false
  chainBrk : Nat := 0
  chainStart : Word := 0
  deriving DecidableEq, Repr
/-- A user calibration entry (R320, R324). -/
structure CalEntry where
  target : Nat := 0
  gain : Int := 0
  offset : Int := 0
  deriving DecidableEq, Repr
/-- One copy of a store record: sequence number and validity (R320 to R322). -/
structure StoreCopy where
  seq : Nat := 0
  valid : Bool := true
  deriving DecidableEq, Repr
/-- A region of the calibration store (R320) as a ring of 16 384 bytes: bytes appended in all, bytes erased in all
(whole pages), and where the current CAL, PW and LOGW records start (delivered: one of each; log 103). -/
structure StoreRegion where
  written : Nat := 1344
  erased : Nat := 0
  starts : List Nat := [0, 1152, 1280]
  deriving DecidableEq, Repr
structure PwRecord where
  state : Nat := 0
  salt : List Byte := []
  hash : Hash256 := 0
  deriving DecidableEq, Repr
structure Store where
  cal : List CalEntry := []
  calLost : Bool := false
  lwLost : Bool := false
  pw : PwRecord := {}
  calA : StoreCopy := {}
  calB : StoreCopy := {}
  pwA : StoreCopy := {}
  pwB : StoreCopy := {}
  lwA : StoreCopy := {}
  lwB : StoreCopy := {}
  /-- Contents of copy B while it differs from copy A, as a torn write leaves it (R321). -/
  calOldB : Option (List CalEntry) := none
  pwOldB : Option PwRecord := none
  regionA : StoreRegion := {}
  regionB : StoreRegion := {}
  /-- Store pages given up by an append that wait for their erase pulses, 112 to 127 (R320, R334). -/
  toErase : List Nat := []
  otpForbid : Bool := false
  otpCor : Nat := 0
  recover : Option HostCmd := none
  deriving DecidableEq, Repr

/-! ## Background work (18; Table REG-13, Table BGW-2) -/

/-- A telemetry record (Table BGW-2), in its fields. -/
structure TelRec where
  trec : Nat := 0
  dtime : DTime := 0
  frame : Word := 0
  state : Nat := 0
  role : Nat := 4
  install : Word := 0
  temp : Int := 0
  vsup : Nat := 0
  vfld : Nat := 0
  vio : Nat := 0
  warn : Nat := 0
  nfault : Nat := 0
  scrubCor : Nat := 0
  resync : Nat := 0
  singleA : Nat := 0
  singleB : Nat := 0
  resets : Nat := 0
  redund : Nat := 0
  zeroReef : Nat := 0
  proofs : Nat := 0
  biasA : Nat := 0
  biasB : Nat := 0
  slackMin : Nat := 0
  probeOcc : Nat := 0
  probeClr : Nat := 0
  dropped : Nat := 0
  half : Nat := 0
  deriving DecidableEq, Repr
structure Bgw where
  running : Bool := false
  scrubPos : Nat := 0
  scrubStart : Word := 0
  scrubPasses : Nat := 0
  scrubCor : Nat := 0
  cmpPos : Nat := 0
  cmpStart : Word := 0
  cmpRunning : Bool := false
  cmpPasses : Nat := 0
  romPos : Nat := 0
  romStart : Word := 0
  romRunning : Bool := false
  romPasses : Nat := 0
  dropped : Nat := 0
  telSkipped : Nat := 0
  slackMin : Nat := 456
  slack : Nat := 0
  slackRan : Bool := false
  periodSlack : Nat := 456
  tel : List TelRec := []
  trec : Nat := 0
  /-- Records of the boundary that made telemetry due, waiting for their slice, and that boundary's frame. -/
  telDue : Option (Word × List TelRec) := none
  /-- Counters at the last record, for the whole device or half A, and for half B. -/
  lastTel : TelRec := {}
  lastTelB : TelRec := {}
  /-- Cycles of slices carried over, in the order of Table BGW-1 (R327). -/
  owed : List Nat := List.replicate 8 0
  calStart : Word := 0
  opened : Bool := false
  calSumRef : Nat := 0
  calSumZero : Nat := 0
  calN : Nat := 0
  refMean : Nat := 0
  zeroMean : Nat := 0
  corOffset : Int := 0
  corGain : Int := 0
  corPending : Option (Int × Int) := none
  calAge : Nat := 0
  calGood : Nat := 0
  /-- The first of the two DACs read back in the frame whose conversions stand, in the cycle over all 99 (R62). -/
  dacNext : Nat := 97
  rbIdx : Nat := 0
  rbDiff : Int := 0
  deriving DecidableEq, Repr

end Sys2Proof.Machine
end

