-- ==== Sys2Proof/Syntax.lean ====
section
/-! DEFINITION. The commands of the AQ641: one constructor per row of spec/opcode_table.json. `cyc` is the
SYSCLK cycle in the running frame (96 per µs). A `Half` names the half of a split device; `a` stands for the
whole device otherwise (R129). What else a command carries is what reaches the block from outside with it. -/
namespace Sys2Proof
open Sys2Proof.Machine

/-- What a slack of background work meets (R327 to R335): SYSCLK cycles of slack, words corrected, an
uncorrectable word (in a core bank of a half, or in a shared buffer), a table disagreement and a failed ROM
signature (of the device or half A, and of half B: R130), a chain break at the entry checked. -/
structure SlackObs where
  cycles : Nat := 0
  cyc : Nat := 0
  corrected : Nat := 0
  uncorrA : Bool := false
  uncorrB : Bool := false
  uncorrShared : Bool := false
  tablesDiffer : Bool := false
  tablesDifferB : Bool := false
  romBad : Bool := false
  romBadB : Bool := false
  chainBroken : Bool := false
  deriving DecidableEq, Repr

/-- What the OTP load reads (R262), store copies whose CRC fails (0 CAL A, 1 CAL B, 2 PW A, 3 PW B, 4 LOGW A,
5 LOGW B) and whether the newest log slot fails its CRC (R322). -/
structure OtpObs where
  corrected : Nat := 0
  uncorrectable : Bool := false
  checksumBad : Bool := false
  badCopies : List Nat := []
  tornEntry : Bool := false
  deriving DecidableEq, Repr

inductive Instr
  -- supplies, reset, straps, test access (02, 14)
  | vsupPowerOnReset
  /-- what the supervisors show of the rails -/
  | internalResetRelease (rails : RailObs)
  | resetNAssert
  | resetNRelease
  | vsupBrownOut (cyc : Nat)
  | vioBrownOut (cyc : Nat)
  | vfldUndervoltage
  | vfldUndervoltageRecovery
  | vfldOvervoltage (cyc : Nat)
  | pllLockLost (cyc : Nat)
  /-- the attempts, eight samples each in the layout of SYS_STRAPS.LATCHED -/
  | strapLatch (attempts : List (List Byte))
  | strapReread (raw : Byte)
  | tmodeHighAfterLatch (cyc : Nat)
  | testAccessInstruction (ir : TapInstr) (drive : Nat)
  -- frame and cores (01, 07)
  /-- observations of the closing frame; ticks by which the partner's boundary leads (R225) -/
  | frameBoundary (obs : FrameObs) (lead : Int)
  | frameWork (w : WorkObs)
  | frameWorkDeadline (half : Half)
  | commitDeadline (half : Half)
  /-- the compared field and what the two cores drive on it, core B's value in its own form (Table COR-1) -/
  | lockstepMismatch (field : CoreField) (coreA coreB : Word) (cyc : Nat)
  | coreResync (half : Half) (duringRestore : Bool) (cyc : Nat)
  | backgroundSlack (obs : SlackObs)
  -- head supply (03)
  | scheduledBlankingStart
  | supplyTestPulse
  | supplyTestPulseEnd
  | scheduledBlankingEnd (sys : Fin 32) (cyc : Nat)
  | codePeriodEnd
  | hsupOverload (sys : Fin 32)
  | hsupOverloadRetry (sys : Fin 32)
  | hsupDischargeEnd (sys : Fin 32)
  -- window monitors and classifier (04)
  | comparatorEdge (sys : Fin 33) (cmp : Comparator) (level : Bool) (cyc : Nat)
  | edgeBlankingEnd (sys : Fin 33) (cmp : Comparator) (cyc : Nat)
  | rewriteMaskEnd (sys : Fin 33) (cyc : Nat)
  | bandTimeout (sys : Fin 33) (short : Bool) (cyc : Nat)
  | windowFaultRecovery (sys : Fin 33) (code : Nat)
  /-- the sample streams of both systems around the passage -/
  | classifierVerdict (half : Half) (point : Nat) (a b : List CurSample) (cyc : Nat)
  | baselineFaultRecovery (sys : Fin 32)
  | bandExcursionEnd (sys : Fin 33) (cyc : Nat)
  -- points and sections (05, 06)
  | pointRecovery (half : Half) (point : Nat)
  | remotePointOfflineTimeout (half : Half) (point : Nat)
  | verdictOverdue (half : Half) (sect : Nat)
  | resetInputStuck (input : Fin 12)
  | resetInputReleased (input : Fin 12)
  | resetArmExpiry (half : Half) (sect : Nat)
  -- outputs and inputs (08)
  | outputNodeClassChange (out : Fin 8) (high : Bool) (cls : NodeClass) (cyc : Nat)
  | outputLevelTimeout (out : Fin 8)
  | outputLevelLost (out : Fin 8) (cyc : Nat)
  | outputOffNodeTimeout (out : Fin 8) (cyc : Nat)
  | edmTimeout (out : Fin 8)
  /-- classes of every output's nodes at offset 8 µs and at 16 µs + 0.8 P; the other node stayed -/
  | offPulseStart (out : Fin 8) (low : Bool) (before after : List (NodeClass × NodeClass)) (otherStayed : Bool)
  | offPulseEnd (out : Fin 8) (low : Bool) (otherStayed : Bool) (hi lo : NodeClass)
  | proofDueWarning (out : Fin 8)
  | proofIntervalExpiry (out : Fin 8)
  /-- inputs 0 to 11 are SIN0 to SIN11, 12 to 19 are EDM0 to EDM7 -/
  | safeInputEdge (input : Fin 20) (on : Bool) (cyc : Nat)
  | inputFilteredEdge (input : Fin 20)
  | tpsPulseStart (src : Fin 4)
  /-- node HIGH while on, node LOW at 380 µs, raw levels of the inputs at 380 µs -/
  | tpsPulseEnd (src : Fin 4) (high low : Bool) (raw : BitVec 20)
  | inputFaultRecovery (source : Bool) (idx : Fin 20)
  -- probe (09)
  | probeRunStart
  | probeRampStart (rising : Bool) (cyc : Nat)
  | probeStarved
  -- line signalling and telegrams (10, 11)
  /-- what each line echoes of the transmission that follows (R179) -/
  | slotStart (half : Half) (slot : Nat) (echo : CopyPair) (cyc : Nat)
  | slotGateClose (half : Half) (cyc : Nat)
  | biasCheck (half : Half) (line : Line) (high : Bool)
  | commonModeFault (half : Half) (line : Line)
  | lineSuspensionEnd (half : Half) (line : Line)
  | lineFaultRecovery (half : Half) (code : Nat) (line : Line)
  /-- the toggles of each line's sense class -/
  | wakeDetected (half : Half) (a b : List Nat) (cyc : Nat)
  | wakeRetry (half : Half) (cyc : Nat)
  | beacon (half : Half) (copies : CopyPair)
  | dataTelegram (half : Half) (copies : CopyPair)
  | joinTelegram (half : Half) (copies : CopyPair)
  | beaconSend (half : Half) (echo : CopyPair)
  | missedBeaconTimeout (half : Half) (cyc : Nat)
  | reefQuietTimeout (half : Half)
  | telegramFaultRecovery (half : Half) (code : Nat) (line : Line)
  | invalidCopy (half : Half) (line : Line) (copy : Copy)
  -- duplex (12)
  | shroudValidPair (cyc : Nat)
  | claimAbsent (cyc : Nat)
  | claimReadbackFail
  | arbitrationWaitEnd
  | contentionTimeout
  | hello (m : HelloMsg)
  /-- what stands between the start and the end character, and the cycle of its end -/
  | twinRecord (bytes : List Byte) (cyc : Nat)
  | shadow (m : ShadowMsg)
  | transfer (m : TransferMsg)
  | recordMissing
  | holdStart
  | holdEnd
  | resyncComplete
  | resyncRetry
  | duplexFaultRecovery (code : Nat) (out : Fin 8)
  | twinLinkLost
  | invalidTwinMessage (bytes : List Byte)
  | twinLinkExchange
  -- halyard (13)
  | down (fwd rev : Option DownMsg)
  | up (member : Fin 8) (fwd rev : Option UpMsg)
  | joinReq (m : JoinReqMsg)
  | bulk (block : Nat) (face : Bool) (data : List Byte) (last : Bool)
  | halyardExchange
  | memberSubSlot
  | halyardExchangeClose
  | joinGrantTimeout (member : Fin 8)
  | ringDirectionRecovery
  -- start-up and shutdown (14)
  | otpLoad (obs : OtpObs)
  /-- the march over core A's and B's SRAM bank, their register files, the journal, the edge-capture buffers, the halyard,
  twin-link, line and host buffers; the signature of each ROM -/
  | memoryTest (march : List Bool) (romA romB : Bool)
  /-- S00 to S32 in order, the codes of VREFC and of zero, the hold bank -/
  | frontEndTest (systems : List FrontEndObs) (vref gnd : Nat) (holdOk : Bool)
  /-- for each group of Table COR-1: the single-bit difference, the equal values flagged; a flag with nothing injected -/
  | lockstepComparatorTest (flagged : List (Bool × Bool)) (spurious : Bool)
  /-- the 63 frames from code position 0 on -/
  | supplySweep (frames : List SweepFrame)
  | startupPhaseTimeout
  | joinWindowEnd
  | shutdown (q : Req)
  | shutdownOutputsOff
  | shutdownEventsDrained
  -- host ports (15, 21)
  | read (q : Req) (tagged snaprd : Bool)
  | registerWrite (q : Req)
  | hostTransactionCut (port : Fin 2)
  | requestRejected (port : Fin 2) (bytes : List Byte)
  | irqstatClear (q : Req)
  | snap (q : Req)
  | snapRelease (q : Req)
  | cqPop (q : Req)
  | result (q : Req)
  | recallResult (q : Req)
  | nop (q : Req)
  | sessionOpen (q : Req)
  | passwordCheckComplete (port : Fin 2)
  | sessionClose (q : Req)
  | sessionIdleTimeout (port : Fin 2)
  | lockoutEnd (port : Fin 2)
  | resetArm (q : Req)
  | resetConfirm (q : Req)
  | outClear (q : Req)
  | reefPropose (q : Req)
  | wake (q : Req)
  | switchover (q : Req)
  | resync (q : Req)
  | unfreeze (q : Req)
  | splitForbid (q : Req)
  -- rig (16)
  | rigVerificationEnd
  | rigActivation
  | bankVerificationTimeout
  | rigBegin (q : Req)
  | rigWrite (q : Req)
  | rigCheck (q : Req)
  | rigActivate (q : Req)
  | splitActivateTimeout
  | rigStore (q : Req)
  | rigStoreComplete
  | rigLoad (q : Req)
  | rigDiscard (q : Req)
  -- password, log, calibration, background (17, 18, 21, 22)
  | pwSet (q : Req)
  | pwRecover (q : Req)
  | pwRecoverTimeout
  | logFetch (q : Req)
  | logAck (q : Req)
  | calWrite (q : Req)
  | calClear (q : Req)
  | otpRead (q : Req)
  | clearOccurrenceCounters (q : Req)
  | clearLinCounters (q : Req)
  | clearHalCounters (q : Req)
  | clearDpxCounters (q : Req)
  | clearBgwCounters (q : Req)
  | clearResyncCounter (q : Req)
  | holdoffSet (q : Req)
  | holdoffClear (q : Req)
  | erasePulseEnd (done : Bool)
  | scrubPassOverdue
  | recomparisonOverdue
  | backgroundJobOverdue (job : Nat)
  deriving DecidableEq, Repr

end Sys2Proof
end

