-- ==== Sys2Proof/Decode.lean ====
section
/-! DEFINITION. No row of spec/opcode_table.json gives bits: the AQ641's commands are no words of an
instruction stream, so no word spells one. -/
namespace Sys2Proof

/-- The command that a table word of `nbits` bits spells: none, since no row has bits. -/
def decodeTableWord (_nbits _w : Nat) : Option Instr := none

end Sys2Proof
end

