-- ==== Sys2Proof/Machine/Crypto.lean ====
section
/-! DEFINITION. Check codes and hashes: CRC-32C and CRC-32 (R190), CRC-16 (R277), SHA-256 of FIPS 180-4 (R299,
R311, R316) and the truncations the spec takes of it. -/
namespace Sys2Proof.Machine

/-- One bit of a reflected 32-bit CRC with reflected polynomial `poly`. -/
def crcBit (poly c : Word) : Word := if c.getLsbD 0 then (c >>> 1) ^^^ poly else c >>> 1

/-- One byte of a reflected 32-bit CRC. -/
def crcByte (poly c : Word) (b : Byte) : Word :=
  (List.range 8).foldl (fun c _ => crcBit poly c) (c ^^^ b.setWidth 32)

/-- The CRC-32C accumulator `acc` after the bytes `bs` (R116, R190). -/
def crc32cFeed (acc : Word) (bs : List Byte) : Word := bs.foldl (crcByte 0x82F63B78) acc

/-- SC1 of R190: CRC-32C, initial value and final XOR all ones. -/
def crc32c (bs : List Byte) : Word := ~~~ crc32cFeed 0xFFFFFFFF bs

/-- SC2 of R190: CRC-32 over the complemented bytes, initial value keyed with `k`. -/
def crc32Keyed (k : Word) (bs : List Byte) : Word :=
  ~~~ bs.foldl (fun c b => crcByte 0xEDB88320 c (~~~ b)) (0xFFFFFFFF ^^^ k)

def crc16Bit (c : Half16) : Half16 := if c.getLsbD 15 then (c <<< 1) ^^^ 0x1021 else c <<< 1

/-- R277: CRC-16, polynomial 0x1021, initial value 0xFFFF, not reflected, no final XOR. -/
def crc16 (bs : List Byte) : Half16 :=
  bs.foldl (fun c b => (List.range 8).foldl (fun c _ => crc16Bit c) (c ^^^ ((b.setWidth 16 : Half16) <<< (8 : Nat)))) 0xFFFF

/-! ## SHA-256 -/

/-- The first 64 prime numbers, from which FIPS 180-4 draws its constants. -/
def shaPrimes : List Nat := (List.range 312).filter fun n => decide (2 ≤ n) && (List.range n).all fun k => decide (k < 2) || n % k != 0

/-- The largest `x` whose `e`-th power does not exceed `n`, its bits found from the `i`-th down. -/
def rootFrom (e n : Nat) : Nat → Nat → Nat
  | 0, x => x
  | i + 1, x => rootFrom e n i (if (x + 2 ^ i) ^ e ≤ n then x + 2 ^ i else x)

/-- 32 bits of the fractional part of the `e`-th root of a prime (FIPS 180-4: cube roots for the rounds, square
roots for the initial value). -/
def rootFraction (e p : Nat) : Word := BitVec.ofNat 32 (rootFrom e (p * 2 ^ (32 * e)) 36 0)

def shaK : List Word := shaPrimes.map (rootFraction 3)

def shaInit : List Word := (shaPrimes.take 8).map (rootFraction 2)

/-- The exclusive or of `x` turned right by each of the amounts. -/
def spin (turns : List Nat) (x : Word) : Word := turns.foldl (fun acc r => acc ^^^ x.rotateRight r) 0

/-- A word of a history, `i` steps back. -/
def back (l : List Word) (i : Nat) : Word := l.getD i 0

/-- What `σ` of the message schedule makes of a word: two turns and one shift. -/
def smallSigma (r1 r2 sh : Nat) (x : Word) : Word := spin [r1, r2] x ^^^ (x >>> sh)

/-- The next word of the message schedule; `w` holds the words before it, newest first. -/
def shaExpand (w : List Word) : Word :=
  back w 15 + smallSigma 7 18 3 (back w 14) + (back w 6 + smallSigma 17 19 10 (back w 1))

/-- The working variables as two histories of four words each, newest first: `a` to `d` and `e` to `h`. -/
structure ShaVars where
  lead : List Word
  tail : List Word

/-- Bits of `y` where `x` is set, of `z` elsewhere. -/
def shaChoose (x y z : Word) : Word := z ^^^ (x &&& (y ^^^ z))
/-- Bits set in two of the three. -/
def shaMajority (x y z : Word) : Word := (z &&& (x ||| y)) ||| (x &&& y)

/-- One round with constant `k` and schedule word `w`: each history takes one new word. -/
def ShaVars.round (k w : Word) (v : ShaVars) : ShaVars :=
  let p := v.lead
  let q := v.tail
  let drive := k + w + back q 3 + shaChoose (back q 0) (back q 1) (back q 2) + spin [6, 11, 25] (back q 0)
  let fall := shaMajority (back p 0) (back p 1) (back p 2) + spin [2, 13, 22] (back p 0)
  { lead := (drive + fall) :: p.take 3, tail := (back p 3 + drive) :: q.take 3 }

/-- The rounds over the constants `ks`; `todo` are the words of the block still to come, `past` those used. -/
def shaRounds : List Word → List Word → List Word → ShaVars → ShaVars
  | [], _, _, v => v
  | k :: ks, past, w :: todo, v => shaRounds ks (w :: past.take 15) todo (v.round k w)
  | k :: ks, past, [], v => let w := shaExpand past; shaRounds ks (w :: past.take 15) [] (v.round k w)

/-- A block of 16 words into the hash value `h` of eight words. -/
def shaBlock (h block : List Word) : List Word :=
  let v := shaRounds shaK [] block { lead := h.take 4, tail := h.drop 4 }
  (h.zip (v.lead ++ v.tail)).map fun x => x.1 + x.2

def wordsOf : Nat → List Byte → List Word
  | 0, _ => []
  | n + 1, bs => BitVec.ofNat 32 (ofBytes (bs.take 4)) :: wordsOf n (bs.drop 4)

def shaBlocks : Nat → List Word → List Byte → List Word
  | 0, h, _ => h
  | n + 1, h, bs => shaBlocks n (shaBlock h (wordsOf 16 (bs.take 64))) (bs.drop 64)

/-- SHA-256 of FIPS 180-4. -/
def sha256 (bs : List Byte) : Hash256 :=
  let n := bs.length
  let pad := (119 - n % 64) % 64
  let msg := bs ++ [0x80] ++ List.replicate pad 0 ++ toBytes 8 (8 * n)
  BitVec.ofNat 256 ((shaBlocks (msg.length / 64) shaInit msg).foldl (fun acc w => acc * 2 ^ 32 + w.toNat) 0)

def hashBytes (h : Hash256) : List Byte := toBytes 32 h.toNat

/-- The first 8 bytes of a SHA-256 (R299, R316, R317). -/
def trunc64 (h : Hash256) : Hash64 := (h >>> 192).setWidth 64

/-- R311: `h_(i+1)` from `h_i`, `n` times. -/
def pwIterate (salt pw : List Byte) : Nat → Hash256 → Hash256
  | 0, h => h
  | n + 1, h => pwIterate salt pw n (sha256 (hashBytes h ++ salt ++ pw))

/-- R311: the stored form `h_4096` of a password. -/
def pwHash (salt pw : List Byte) : Hash256 := pwIterate salt pw 4095 (sha256 (salt ++ pw))

end Sys2Proof.Machine
end

