-- ==== Sys2Proof/Config.lean ====
section
/-! DEFINITION. What the spec leaves to the implementation or to chance: constants and free values without
a body, so that no proof can rest on a value of them (log 5). -/
namespace Sys2Proof.Config

/-- The stream of free values (log 5): nonces (R111), SESSIONs (R205, R252) and salts (R311). `State` holds the
counter it is read at. -/
opaque freeWord : Nat → Word

/-- The architectural writes of one frame's work in write order (R116): the microcode, which the spec does not list,
decides them (log 5). Read at the same counter. -/
opaque frameWrites : Nat → List Sys2Proof.Machine.CoreWrite

/-- The check bits that a bank's SECDED code stores with a word (R117); the spec does not give the code (log 5). -/
opaque secded : Word → Byte

/-- Blocks of TRANSFER beyond the first that the state image takes (R237): its layout is the implementation's (log 4). -/
opaque imageBlocks : Nat → Nat

/-- COR_ROMVER and COR_ROMSIG (R127, R374): loaded at boot, values not given. COR_ROMSIG is the signature of core A's
ROM, in true form; core B's ROM holds every microinstruction complemented and has a signature of its own (R117). -/
opaque romVersion : Word
opaque romSignature : Word
opaque romSignatureB : Word

/-- Factory contents of the OTP (R323) where the spec fixes no bits: serial number, trims, codes. -/
opaque otpFactory : Nat → Word

end Sys2Proof.Config
end

