-- ==== Sys2Proof/Machine/State.lean ====
section
/-! DEFINITION. The state of the AQ641 as plain data, and the state right after power-on (all registers at
their reset values, Tables REG-2 to REG-14 and ARR-2 to ARR-7; nothing loaded, nothing driven). -/
namespace Sys2Proof.Machine

/-- No command of the AQ641 stops the block: every fault of the spec (Table FLT-2) is a state it goes on
from, the safe state included (R346). Raised by nobody; safe. -/
inductive Fault
  deriving DecidableEq, Repr

/-- Commands without a meaning in this model. -/
inductive Refusal
  /-- Raised by exec's arm of a command that is not modelled yet, by its mnemonic; safe. -/
  | notModelled (mnemonic : String)
  deriving DecidableEq, Repr

/-- An active fault on its object (R342, R370); `partner` 0xFFFF when none is named. -/
structure FaultKey where
  code : Nat := 0
  kind : Kind := .device
  obj : Nat := 0
  half : Half := .a
  partner : Nat := 0xFFFF
  deriving DecidableEq, Repr

/-- A raise or clear that waits for publication (R343). -/
structure FaultEvt where
  key : FaultKey := {}
  clr : Bool := false
  deriving DecidableEq, Repr

/-- A record of the fault ring (Table REG-4). -/
structure RingRec where
  key : FaultKey := {}
  clr : Bool := false
  frame : Word := 0
  dt : DTime := 0
  deriving DecidableEq, Repr

/-- The fault system of the SYS block (R339, R342, R343). -/
structure Faults where
  active : List FaultKey := []
  evts : List FaultEvt := []
  ring : List RingRec := []
  ringHead : Word := 0
  occ : List (Nat × Nat) := []
  deriving DecidableEq, Repr

/-- The last-cause fields (R348). -/
structure LastCause where
  code : Nat := 0
  half : Nat := 0
  frame : Word := 0
  dt : DTime := 0
  cyc : Nat := 0
  deriving DecidableEq, Repr

/-- COR_MMINFO0 to 3 (R120). -/
structure MmInfo where
  valid : Bool := false
  frame : Word := 0
  cycle : Nat := 0
  group : Nat := 0
  a : Word := 0
  b : Word := 0
  deriving DecidableEq, Repr

/-- A word of a core's SRAM bank as its cells hold it, with its SECDED check bits (R117). -/
structure SramWord where
  addr : Nat := 0
  data : Word := 0
  check : Byte := 0
  deriving DecidableEq, Repr

/-- One of the two evaluation cores (R115 to R117): its SRAM bank of 262 144 words (R329) and register file, as words
written since the internal reset, and the accumulator of the state signature (R116), all in the core's own form: core
B holds every word complemented. A word that is not listed holds what the internal reset left (R117). -/
structure Core where
  complemented : Bool := false
  sram : List SramWord := []
  regs : List (Nat × Word) := []
  acc : Word := 0xFFFFFFFF
  deriving DecidableEq, Repr

/-- Straps as latched and as re-read (R30, R32, SYS_STRAPS). -/
structure Straps where
  done : Bool := false
  latched : Byte := 0
  attempts : Nat := 0
  raw : Byte := 0
  drift : Bool := false
  matches_ : Nat := 0
  forbidLatched : Bool := false
  deriving DecidableEq, Repr

/-- Inputs captured in one frame for the next frame's work (R15, R16). -/
structure Capture where
  edges : List EdgeRec := []
  /-- A verdict with its half, its point, and the number (on a member the MTAG) of its event, if it has one. -/
  verdicts : List (Half × Nat × Option Word × Verdict) := []
  telegrams : List (Half × TakenTel) := []
  inputs : List InputReq := []
  /-- Lines whose current-limit run passed its limit (R38). -/
  overloads : List Nat := []
  /-- Failed pulse checks as (output, code, partner), and input or source faults (R140, R148, R153). -/
  outFaults : List (Nat × Nat × Nat) := []
  hwFaults : List FaultKey := []
  deriving DecidableEq, Repr

/-- A running SHUTDOWN (R272): step 1 to 4, the command that waits, the frame the step began. -/
structure ShutdownRun where
  step : Nat := 0
  port : Fin 2 := 0
  tag : Nat := 0
  frame : Word := 0
  deriving DecidableEq, Repr

/-- Everything of the device but its addressed memories and the published banks. -/
structure Dev where
  -- power, reset, clock, balls
  inReset : Bool := true
  resetN : Bool := false
  vfldUnder : Bool := false
  /-- The latest frame that saw VFLD not above 8.8 V; an overvoltage whose recovery is open (Table BAL-4). -/
  vfldLow : Word := 0
  vfldOver : Bool := false
  pll : Bool := false
  dt : DTime := 0
  frame : Word := 0
  codePos : Nat := 0
  shortFrame : Int := 0
  faultN : Bool := false
  hbeat : Bool := false
  straps : Straps := {}
  boardTest : Bool := false
  tap : TapInstr := .idcode
  tapDrive : Nat := 0
  resetCause : Nat := 1
  nreset : Nat := 0
  lastCause : LastCause := {}
  mm : MmInfo := {}
  -- faults
  faults : Faults := {}
  irqNew : Nat := 0
  -- cores
  freeCtr : Nat := 0
  coreA : Core := {}
  coreB : Core := { complemented := true, acc := 0 }
  /-- The frame's work has run, for the whole device or half A, and for half B; a frame's work is running. -/
  workDone : Bool := false
  workDoneB : Bool := false
  inWork : Bool := false
  /-- FRAME_WORK of this frame waits for the halyard exchange to close (R16). -/
  workWaits : Option WorkObs := none
  /-- Frame at whose boundary the supply sweep began (R266). -/
  sweepFrame : Option Word := none
  /-- The conversions of the frame that the bank publishes; the AFE block resets to 0 (R375). -/
  obs : FrameObs := { vfld := 0, vsup := 0, vio := 0, rail5 := 0, rail10 := 0, cpump := 0, temp := 0 }
  capOpen : Capture := {}
  capClosed : Capture := {}
  -- field side
  systems : List Sys := []
  outputs : List Output := []
  inputs : List Input := []
  tps : List Tps := []
  tpsRun : Bool := false
  offPulse : Bool := false
  /-- The half applies the supply code in this frame (R53, R54, R269). -/
  codeA : Bool := false
  codeB : Bool := false
  proofCycles : Nat := 0
  proofCyclesB : Nat := 0
  -- evaluation
  nodeA : Node := {}
  nodeB : Node := {}
  probe : Probe := {}
  /-- The other half's probe state while S32 is not its (R164). -/
  probeOther : Probe := { half := .b }
  dpx : Dpx := {}
  hal : Hal := {}
  -- hosts, rig, stores, background
  port0 : Port := {}
  port1 : Port := {}
  done : List (Fin 2 × Completion) := []
  rig : RigMgr := {}
  log : ChangeLog := {}
  store : Store := {}
  bgw : Bgw := {}
  shut : Option ShutdownRun := none
  deriving DecidableEq, Repr

/-- The machine: the device, the published bank, the bank before it (R284), the ports' snapshots (R285), the
QSPI flash (R300), the staging buffer (R305) and the commands that wait. -/
structure State where
  dev : Dev := {}
  bank : Dev := {}
  prev : Dev := {}
  /-- The bank that stays in force for a half in its safe state (R346). -/
  frozenA : Option Dev := none
  frozenB : Option Dev := none
  snap0 : Option Dev := none
  snap1 : Option Dev := none
  flash : List Host.Cell := []
  staging : List Host.Cell := []
  pending : List Instr := []
  deriving DecidableEq, Repr

/-- S32 has no SYSTEM record: its three DACs hold the default thresholds of Table WIN-1 across 100 Ω (R163), its
comparators report released (log 106). -/
def Sys.probe32 : Sys :=
  { id := 32, dacOpen := 136, dacOcc := 358, dacShort := 801
    cOpen := { reported := some false }, cOcc := { reported := some false }, cShort := { reported := some false } }

/-- Systems S00 to S32, outputs, inputs, sources and member positions exist from the start, undefined. -/
def Dev.blank : Dev :=
  { systems := (List.range 33).map fun i => if i = 32 then Sys.probe32 else { id := i }
    outputs := (List.range 8).map fun i => { id := i }
    inputs := (List.range 20).map fun i => { id := i }
    tps := (List.range 4).map fun i => { id := i }
    hal := { members := List.replicate 7 {} } }

/-- Right after power-on: held in the internal reset (R25, R26), delivered stores (R312), erased flash. -/
def State.reset : State := { dev := Dev.blank, bank := Dev.blank, prev := Dev.blank }

end Sys2Proof.Machine
end

