-- ==== Sys2Proof/Machine/Flags.lean ====
section
/-! DEFINITION. The flag computations of the AQ641: the fault set with its ring and occurrence counters (R338,
R339, R342, R343), warnings (R336, SYS_WARN), DEGRADED (R344), FAULT_N and HBEAT (R22), interrupt causes
(R373), EVENT and IRQ_N (R283). -/
namespace Sys2Proof.Machine

/-! ## Halves (R129, Table COR-5) -/

def Dev.node (d : Dev) : Half → Node
  | .a => d.nodeA
  | .b => d.nodeB

def Dev.setNode (h : Half) (n : Node) (d : Dev) : Dev :=
  match h with
  | .a => { d with nodeA := n }
  | .b => { d with nodeB := n }

def Dev.onNode (h : Half) (f : Node → Node) (d : Dev) : Dev := d.setNode h (f (d.node h))

/-- The frame's work of a half has run (R124), and it has taken the closed capture set. -/
def Dev.worked (d : Dev) : Half → Bool
  | .a => d.workDone
  | .b => d.workDoneB
def Dev.setWorked (h : Half) (b : Bool) (d : Dev) : Dev :=
  match h with
  | .a => { d with workDone := b }
  | .b => { d with workDoneB := b }
def Dev.taken (d : Dev) (h : Half) : Bool := d.worked h || d.dpx.awaitRecord

/-- ST_SPLIT as latched (R28). -/
def Dev.split (d : Dev) : Bool := d.straps.done && d.straps.latched.getLsbD 3

/-- ST_STACK, ST_DUPLEX and ST_BOOT as latched (R28). -/
def Dev.stackPos (d : Dev) : Nat := bits d.straps.latched 2 0
def Dev.position (d : Dev) : Nat := b2n (d.straps.latched.getLsbD 4)
def Dev.bootSel (d : Dev) : Nat := bits d.straps.latched 6 5

/-- The halves that run: both in split mode, else the whole device as `a`. -/
def Dev.halves (d : Dev) : List Half := if d.split then [.a, .b] else [.a]

/-- The half that owns the `i`-th of `n` like objects, the first half of them A's (Table COR-5). -/
def Dev.halfOf (d : Dev) (i n : Nat) : Half := if d.split && n ≤ 2 * i then .b else .a

def Dev.halfOfPort (d : Dev) (p : Fin 2) : Half := d.halfOf p.val 2

def Half.num : Half → Nat
  | .a => 1
  | .b => 2

/-- Scope of the faults of a device, or of a half in split mode (Tables FLT-1, COR-4 and TEL-4). -/
def Dev.coreKind (d : Dev) : Kind := if d.split then .half else .device
def Dev.coreObj (d : Dev) (h : Half) : Nat := if d.split then h.num else 0

/-! ## The fault set -/

def FaultKey.same (x y : FaultKey) : Bool :=
  x.code == y.code && decide (x.kind = y.kind) && x.obj == y.obj && decide (x.half = y.half)

/-- The occurrence counter of a code advances and saturates (R339, SYS_OCCCNT). -/
def bumpOcc (code : Nat) : List (Nat × Nat) → List (Nat × Nat)
  | [] => [(code, 1)]
  | (c, n) :: rest => if c == code then (c, satAdd 16 n 1) :: rest else (c, n) :: bumpOcc code rest

/-- R339: a fault that arises while active only advances its counter. -/
def Faults.raise (k : FaultKey) (f : Faults) : Faults :=
  if f.active.any (FaultKey.same k) then { f with occ := bumpOcc k.code f.occ }
  else { f with active := k :: f.active, evts := f.evts ++ [{ key := k }], occ := bumpOcc k.code f.occ }

def Faults.clear (k : FaultKey) (f : Faults) : Faults :=
  match f.active.find? (FaultKey.same k) with
  | some a => { f with active := f.active.filter (fun x => !FaultKey.same k x)
                       evts := f.evts ++ [{ key := a, clr := true }] }
  | none => f

def Dev.raise (code : Nat) (kind : Kind) (obj : Nat) (d : Dev) (h : Half := .a) (partner : Nat := 0xFFFF) : Dev :=
  { d with faults := d.faults.raise { code, kind, obj, half := h, partner } }

def Dev.clearF (code : Nat) (kind : Kind) (obj : Nat) (d : Dev) (h : Half := .a) : Dev :=
  { d with faults := d.faults.clear { code, kind, obj, half := h } }

def Dev.hasFault (d : Dev) (code : Nat) (kind : Kind) (obj : Nat) (h : Half := .a) : Bool :=
  d.faults.active.any (FaultKey.same { code, kind, obj, half := h })

/-- A code is active anywhere on the device (SYS_FAULTSET). -/
def Dev.codeActive (d : Dev) (code : Nat) : Bool := d.faults.active.any (·.code == code)

/-- Clears every fault of a kind and object that satisfies `p` (R150, R309). -/
def Dev.clearWhere (p : FaultKey → Bool) (d : Dev) : Dev :=
  (d.faults.active.filter p).foldl (fun d k => { d with faults := d.faults.clear k }) d

/-! ## The fault ring (R343, R370) -/

/-- R343: ascending code, then object; equal keys keep their order (raise before clear). -/
def evtLe (x y : FaultEvt) : Bool :=
  x.key.code < y.key.code || (x.key.code == y.key.code && x.key.obj ≤ y.key.obj)

def insertEvt (x : FaultEvt) : List FaultEvt → List FaultEvt
  | [] => [x]
  | y :: ys => if evtLe y x then y :: insertEvt x ys else x :: y :: ys

def sortEvts (l : List FaultEvt) : List FaultEvt := l.foldl (fun acc x => insertEvt x acc) []

def Faults.push (e : FaultEvt) (frame : Word) (dt : DTime) (f : Faults) : Faults :=
  { f with ring := ({ key := e.key, clr := e.clr, frame, dt } :: f.ring).take 64, ringHead := f.ringHead + 1 }

/-- The boundary `(frame, dt)` publishes the waiting records. -/
def Faults.publish (frame : Word) (dt : DTime) (f : Faults) : Faults :=
  { (sortEvts f.evts).foldl (fun f e => f.push e frame dt) f with evts := [] }

/-! ## Warnings (Table BGW-2, WARN) -/

/-- Occupied slots of the change log (R319). -/
def ChangeLog.occupied (l : ChangeLog) : Nat := l.slots.length

def Dev.warnBits (d : Dev) : Nat :=
  b2n d.straps.drift + 2 * b2n (d.nodeA.journal.pressure || d.nodeB.journal.pressure)
    + 4 * b2n (3226 ≤ d.log.occupied) + 8 * b2n (d.log.erases.any (fun e => 20000 ≤ e.2))
    + 16 * b2n d.rig.fallback + 32 * b2n (d.systems.any (·.baseWarn))
    + 64 * b2n (d.outputs.any (·.proofDue)) + 128 * b2n d.dpx.pinnedAway

/-! ## DEGRADED (R344) -/

/-- Codes whose Reaction column names DEGRADED, directly or as another such fault. -/
def degradedCodes : List Nat :=
  [0x57, 0x60, 0x61, 0x62, 0x63, 0x64, 0x67, 0x69, 0x6B, 0x70, 0x79, 0x80, 0x81, 0x82]

def Dev.rigPart (d : Dev) (h : Half) : Option RigPart :=
  match d.rig.active, h with
  | some r, .a => some r.partA
  | some r, .b => r.partB
  | none, _ => none

def Dev.hasDuplex (d : Dev) : Bool :=
  match d.rigPart .a with
  | some p => p.duplex.isSome
  | none => false

def Dev.degradedCond (d : Dev) (h : Half) : Bool :=
  d.faults.active.any (fun k => degradedCodes.contains k.code && decide (k.half = h))
    || (d.hasDuplex && decide (d.dpx.role = .solo)) || d.store.calLost

/-! ## System state codes and FAULT_N -/

def SysState.code : SysState → Nat
  | .boot => 0 | .selftest => 1 | .awaitRig => 2 | .verify => 3
  | .operational => 4 | .degraded => 5 | .safe => 6 | .boardTest => 7

def SysState.inService : SysState → Bool
  | .operational | .degraded => true
  | _ => false

def Role.code : Role → Nat
  | .active => 0 | .solo => 1 | .standby => 2 | .syncing => 3 | .offline => 4

def Dev.inService (d : Dev) (h : Half) : Bool := (d.node h).sys.inService && !(d.node h).safe

/-- R22, R132: the level of FAULT_N. -/
def Dev.faultNLevel (d : Dev) : Bool := !d.inReset && d.halves.all (fun h => d.inService h)

/-! ## Interrupts (R283, R373) -/

def bitSet (v i : Nat) : Bool := v.testBit i

/-- EVENT: an unmasked bit of HST_IRQSTAT is set. -/
def Port.event (p : Port) : Bool := p.irqStat &&& p.irqMask != 0

/-- R283: a frozen port holds IRQ_N low. -/
def Port.withIrq (p : Port) : Port := { p with irq := p.frozen || p.event || !p.cq.isEmpty }

end Sys2Proof.Machine
end

