-- ==== Sys2Proof/Machine/Ops.lean ====
section
/-! DEFINITION. The named operations the meanings share: time, objects by number, gate drives (R118), head
supply switching (R55), completions (R282), addressed memory, free values, and the entry into the safe state
(R345 to R348), the block's one exceptional sequence. -/
namespace Sys2Proof.Machine

/-! ## Outcomes -/

abbrev Out := Host.Outcome State Fault Refusal

/-- While the safe state holds, the fault fields of the bank are written by hardware (R346). -/
def Dev.withFaultFields (d : Dev) (bank : Dev) : Dev :=
  { bank with faults := d.faults, lastCause := d.lastCause, mm := d.mm }

/-- Every half that runs is in its safe state. -/
def Dev.allSafe (d : Dev) : Bool := d.halves.all fun h => (d.node h).safe
/-- The halves that are not. -/
def Dev.live (d : Dev) : List Half := d.halves.filter fun h => !(d.node h).safe

/-- A change of the device alone. -/
def State.lift (f : Dev → Dev) (s : State) : State := { s with dev := f s.dev }

/-- The outcome of a command that changes the device alone and acts only out of the internal reset. -/
def up (f : Dev → Dev) (s : State) : Out := .next (if s.dev.inReset then s else s.lift f)

/-- The outcome of a command that half `h` runs: in its safe state it runs nothing (Table FLT-4). -/
def upIn (h : Dev → Half) (f : Dev → Dev) : State → Out := up fun d => if (d.node (h d)).safe then d else f d

/-- The outcome of a command of the whole device: in the safe state nothing of it runs (Table FLT-4). -/
def upLive (f : Dev → Dev) : State → Out := up fun d => if d.allSafe then d else f d

/-! ## Time (R9, R11) -/

/-- SYSCLK cycles since the release, at cycle `cyc` of the running frame. -/
def Dev.stamp (d : Dev) (cyc : Nat) : Nat := d.dt.toNat * 96 + cyc

/-- Device time in µs at which the closed frame began; its length is 499 to 501 ticks (R225). -/
def Dev.closedStart (d : Dev) : Nat := d.dt.toNat - (500 + d.shortFrame).toNat

/-- Device time in µs of a stamp. -/
def usOf (stamp : Nat) : Nat := stamp / 96

/-- Device time of a stamp as the 48-bit counter. -/
def dtOf (stamp : Nat) : DTime := BitVec.ofNat 48 (stamp / 96)

/-- Frames since frame `f`. -/
def Dev.ago (d : Dev) (f : Word) : Nat := since d.frame f

/-- A fresh free value (log 5). -/
def Dev.fresh (d : Dev) : Word × Dev := (Config.freeWord d.freeCtr, { d with freeCtr := d.freeCtr + 1 })

/-! ## Objects by number -/

/-- Applies `f` where `p` holds. -/
def mapIf {α : Type} (p : α → Bool) (f : α → α) (l : List α) : List α :=
  l.map fun x => if p x then f x else x

def Dev.sys (d : Dev) (i : Nat) : Sys := d.systems.getD i { id := i }
def Dev.onSys (i : Nat) (f : Sys → Sys) (d : Dev) : Dev := { d with systems := d.systems.modify i f }
def Dev.out (d : Dev) (i : Nat) : Output := d.outputs.getD i { id := i }
def Dev.onOut (i : Nat) (f : Output → Output) (d : Dev) : Dev := { d with outputs := d.outputs.modify i f }
def Dev.inp (d : Dev) (i : Nat) : Input := d.inputs.getD i { id := i }
def Dev.onInp (i : Nat) (f : Input → Input) (d : Dev) : Dev := { d with inputs := d.inputs.modify i f }
def Dev.src (d : Dev) (k : Nat) : Tps := d.tps.getD k { id := k }
def Dev.onSrc (k : Nat) (f : Tps → Tps) (d : Dev) : Dev := { d with tps := d.tps.modify k f }

def Dev.port (d : Dev) (p : Fin 2) : Port := if p = 0 then d.port0 else d.port1
def Dev.setPort (p : Fin 2) (x : Port) (d : Dev) : Dev :=
  if p = 0 then { d with port0 := x } else { d with port1 := x }
def Dev.onPort (p : Fin 2) (f : Port → Port) (d : Dev) : Dev := d.setPort p (f (d.port p))

def Node.point (n : Node) (i : Nat) : Option Point := n.points.find? (·.cfg.index == i)
def Node.onPoint (i : Nat) (f : Point → Point) (n : Node) : Node :=
  { n with points := mapIf (·.cfg.index == i) f n.points }
def Node.sect (n : Node) (i : Nat) : Option Sect := n.sections.find? (·.cfg.index == i)
def Node.onSect (i : Nat) (f : Sect → Sect) (n : Node) : Node :=
  { n with sections := mapIf (·.cfg.index == i) f n.sections }
def Node.onLine (f : LineNode → LineNode) (n : Node) : Node := { n with line := f n.line }

/-- The half whose systems `i` belongs to (Table COR-5); S32 is of the half whose turn the probe has (R164). -/
def Dev.halfOfSys (d : Dev) (i : Nat) : Half := if i = 32 then d.probe.half else d.halfOf i 32
def Dev.halfOfOut (d : Dev) (i : Nat) : Half := d.halfOf i 8
/-- SIN inputs are 0 to 11, EDM inputs 12 to 19. -/
def Dev.halfOfInp (d : Dev) (i : Nat) : Half := if i < 12 then d.halfOf i 12 else d.halfOf (i - 12) 8
def Dev.halfOfSrc (d : Dev) (k : Nat) : Half := d.halfOf k 4

/-! ## Completions (R282, R288) -/

/-- A core resync had the command of `c` executed again (R125). -/
def Dev.replayed (c : HostCmd) (d : Dev) : Bool :=
  c.replayed || (d.port c.port).journal.any fun j => j.tag == c.tag && j.replayed

/-- A completion that the next update delivers, with REPLAYED where its command was executed again (R288). -/
def Dev.complete (c : HostCmd) (st : Status) (data : Word) (d : Dev) : Dev :=
  { d with done := d.done ++ [(c.port, { opc := c.opc, tag := c.tag, status := st, data, replayed := d.replayed c })] }

/-- The completion of a READ whose FRAME is the stamp of the bank that it read (R278). -/
def Dev.completeAt (c : HostCmd) (st : Status) (data stamp : Word) (d : Dev) : Dev :=
  { d with done := d.done ++ [(c.port, { opc := c.opc, tag := c.tag, status := st, data, replayed := d.replayed c, stamp := some stamp })] }

/-! ## Gate drives and the shroud gate (R118, R131, R217) -/

/-- R217, R131: output control is permitted. -/
def Dev.gatePermit (d : Dev) (h : Half) : Bool :=
  if d.split then d.inService h else (d.dpx.claim && !d.dpx.pclaim) || d.dpx.hold

/-- Both cores write their requests, core B the complement (R115, R118; in split mode the half's core writes both
ports, R130). -/
def Output.applyReq (hi lo : Bool) (o : Output) : Output := { o with appHi := hi, appLo := lo, nHi := !hi, nLo := !lo }

/-- R118: a gate is driven while core A requests it and core B's complement agrees, outside its own off-pulse,
permitted and not in the safe state. -/
def Output.drive (permit : Bool) (o : Output) : Output :=
  let pHi := match o.pulse with | some p => !p.low | none => false
  let pLo := match o.pulse with | some p => p.low | none => false
  { o with gateHi := o.appHi && !o.nHi && permit && !pHi, gateLo := o.appLo && !o.nLo && permit && !pLo }

def Dev.driveGates (d : Dev) : Dev :=
  { d with outputs := d.outputs.map fun o =>
      o.drive (d.gatePermit (d.halfOfOut o.id) && !(d.node (d.halfOfOut o.id)).safe && !d.inReset) }

/-! ## Head supply switching (R39, R55, R56) -/

/-- R55: a switch-off other than a chip starts a DISCHARGE and cancels a deferred switch-on. -/
def Sys.switchOff (s : Sys) : Sys :=
  match s.mode with
  | .off => { s with pendOn := false }
  | .discharge => { s with pendOn := false }
  | _ => { s with mode := .discharge, dischLeft := 100, pendOn := false, onWhole := false, chip := false }

/-- R56: entry into ON restarts the histories; the system is unusable until 4 clean applied chips. -/
def Sys.enterOn (s : Sys) : Sys :=
  { s with mode := .on, pendOn := false, onWhole := false, usable := false, run4 := 0, missHist := [], exceptions := 0 }

/-- R55: a request to switch on is executed at once, or deferred to the end of a DISCHARGE. -/
def Sys.switchOn (s : Sys) : Sys :=
  match s.mode with
  | .off => s.enterOn
  | .proof => s.enterOn
  | .discharge => { s with pendOn := true }
  | _ => s

/-- R39: every line of the half (the whole device outside split mode) goes to DISCHARGE. -/
def Dev.linesOff (h : Half) (d : Dev) : Dev :=
  { d with systems := d.systems.map fun (s : Sys) =>
      if decide (d.halfOfSys s.id = h) then s.switchOff else s }

/-- Lines that may be supplied: defined, not held off, not waiting for an overload retry. -/
def Sys.mayOn (s : Sys) : Bool := s.defd && !s.holdoff && !s.retrying && s.id < 32

/-! ## The safe state (R345 to R348, Tables COR-2 and FLT-4) -/

/-- R347: every undelivered tag completes ABORTED, sessions close. -/
def Port.abortAll (p : Port) (frame : Word) : Port :=
  let undelivered := p.tags.filter fun (t : Nat × Nat) => !p.cq.any (·.tag == t.1)
  let ends : List Completion := undelivered.map fun t => { opc := t.2, tag := t.1, status := .aborted, frame := frame }
  Port.withIrq { p with cq := p.cq ++ ends, journal := [], pwJobs := [], session := none }

/-- R348: the lowest code of one cycle, otherwise the first. -/
def LastCause.record (new old : LastCause) (already : Bool) : LastCause :=
  if already && !(decide (new.frame = old.frame) && new.cyc == old.cyc && new.code < old.code) then old else new

/-- Both drivers released (Table COR-2). -/
def LineNode.undriven (l : LineNode) : LineNode :=
  { l with lineA := { l.lineA with drive := none }, lineB := { l.lineB with drive := none } }

/-- The safe state of one half (the whole device outside split mode). -/
def Dev.safeHalf (h : Half) (d : Dev) : Dev :=
  let d : Dev := d.onNode h fun n => { n with sys := .safe, safe := true, line := n.line.undriven }
  let d := { d with
    outputs := d.outputs.map fun (o : Output) =>
      if decide (d.halfOfOut o.id = h) then
        { o.applyReq false false with reqHi := false, reqLo := false, gateHi := false, gateLo := false, pulse := none }
      else o
    tps := d.tps.map fun (t : Tps) => if decide (d.halfOfSrc t.id = h) then { t with on := false } else t
    faultN := false, hbeat := false, workWaits := none
    done := d.done.filter fun c => d.halfOfPort c.1 ≠ h }
  let d := (d.linesOff h).setWorked h false
  let d := if d.split then d else
    { d with dpx := { d.dpx with role := .offline, claim := false, hold := false }, tpsRun := false }
  let d := if decide (d.halfOfPort 0 = h) then { d with port0 := d.port0.abortAll d.frame } else d
  if decide (d.halfOfPort 1 = h) then { d with port1 := d.port1.abortAll d.frame } else d

/-- Enters the safe state for `hs` with fault `code` (none for SHUTDOWN, R272): the latch is set, the cause goes
to the last-cause field and the ring at t0 (R345, R348), Table FLT-4 holds from here on. -/
def Dev.enterSafe (code : Nat) (record : Bool) (hs : List Half) (cyc : Nat) (d : Dev) : Dev :=
  let already := hs.all fun h => (d.node h).safe
  let halfNo := if !d.split then 0 else match hs with | [.a] => 1 | [.b] => 2 | _ => 3
  let t0 := dtOf (d.stamp cyc)
  let kind : Kind := if d.split && hs.length == 1 then .half else .device
  let key : FaultKey := { code, kind, obj := (if kind = .half then halfNo else 0) }
  let f := if record then
      let fresh := !d.faults.active.any (FaultKey.same key)
      let f := { d.faults with
        active := if fresh then key :: d.faults.active else d.faults.active
        occ := bumpOcc code d.faults.occ }
      if fresh then f.push { key } d.frame t0 else f
    else d.faults
  let d := { d with
    faults := f
    lastCause := LastCause.record { code, half := halfNo, frame := d.frame, dt := t0, cyc } d.lastCause already
    shut := d.shut.filter fun r => !hs.contains (d.halfOfPort r.port) }
  hs.foldl (fun d h => if (d.node h).safe then d else d.safeHalf h) d

/-- R132: device-wide causes act on both halves; the others on the half in which they arise. -/
def Dev.safeAll (code : Nat) (cyc : Nat) (d : Dev) : Dev := d.enterSafe code true d.halves cyc
def Dev.safeOf (code : Nat) (h : Half) (cyc : Nat) (d : Dev) : Dev :=
  d.enterSafe code true (if d.split then [h] else [.a]) cyc

/-! ## Addressed memory (flash, staging): canonical lists of cells -/

/-- What a memory with default byte `z` reads at `a`. -/
def memRead (z : Byte) : List Host.Cell → Nat → Byte
  | [], _ => z
  | (k, v) :: rest, a => if k == a then v else memRead z rest a

/-- Writes a byte and keeps the canonical form: addresses rising, no listed default. -/
def memWrite (z : Byte) : List Host.Cell → Nat → Byte → List Host.Cell
  | [], a, v => if v = z then [] else [(a, v)]
  | (k, w) :: rest, a, v =>
    if a < k then (if v = z then (k, w) :: rest else (a, v) :: (k, w) :: rest)
    else if a == k then (if v = z then rest else (a, v) :: rest)
    else (k, w) :: memWrite z rest a v

/-- Addresses strictly rising, all of them at or above `lo`, no value equal to the default. -/
def memWfFrom (z : Byte) : Nat → List Host.Cell → Bool
  | _, [] => true
  | lo, (k, v) :: rest => decide (lo ≤ k) && decide (v ≠ z) && memWfFrom z (k + 1) rest

def Memory.wf (z : Byte) (m : List Host.Cell) : Bool := memWfFrom z 0 m

def memWriteMany (z : Byte) (m : List Host.Cell) (a : Nat) : List Byte → List Host.Cell
  | [] => m
  | b :: bs => memWriteMany z (memWrite z m a b) (a + 1) bs

/-- Removes the cells of a range: it reads as the default again. -/
def memErase (m : List Host.Cell) (a len : Nat) : List Host.Cell :=
  m.filter fun c => c.1 < a || a + len ≤ c.1

/-- The bytes at `a` to `a + n - 1`. -/
def memBytes (z : Byte) (m : List Host.Cell) (a : Nat) : Nat → List Byte
  | 0 => []
  | n + 1 => memRead z m a :: memBytes z m (a + 1) n

/-- Unlisted bytes: erased flash reads 0xFF, the cleared staging buffer 0x00 (log 6). -/
def flashZ : Byte := 0xFF
def stagingZ : Byte := 0x00

end Sys2Proof.Machine
end

