-- ==== Sys2Proof/Machine/Window.lean ====
section
/-! DEFINITION. The window monitors (04): thresholds, edge capture with its masks (R63 to R66, R122), band
excursions (R82), the sampled path's bands, cross-check (R70), disturbance runs (R77), fault recovery counts
(R78) and the idle baseline (R74 to R76), with the meanings of their commands. -/
namespace Sys2Proof.Machine

/-! ## Thresholds and samples -/

/-- R60, R61: DAC code of a threshold current (0.01 mA) across a shunt (0.1 Ω), halves rounded up. -/
def dacCode (cur shunt : Nat) : Nat := min 1023 ((2 * cur * shunt * 1023 + 3000000) / 6000000)

/-- Table WIN-1 where the record gives no threshold. -/
def SystemRec.openAt (c : SystemRec) : Nat := if c.thOpen = 0 then 400 else c.thOpen
def SystemRec.occAt (c : SystemRec) : Nat := if c.thOcc = 0 then 1050 else c.thOcc
def SystemRec.shortAt (c : SystemRec) : Nat := if c.thShort = 0 then 2350 else c.thShort

/-- R62: the ADC code that a DAC code is expected to read back as. -/
def readbackCode (k : Nat) : Nat := min 4095 ((2 * k * 4096 + 1023) / 2046)

/-- The current (0.01 mA) of a sample word across a shunt (0.1 Ω): 3.0 V full scale (04, The ADC), to the nearest
step (DESIGN CHOICE, log 72). -/
def currentOf (shunt code : Nat) : Nat :=
  if shunt = 0 then 0 else (2 * code * 3000000 + 4096 * shunt) / (2 * 4096 * shunt)

/-- Band of a current (Table HED-2): 0 Open, 1 Idle, 2 Occupied, 3 Short, 4 between bands. -/
def SystemRec.band (c : SystemRec) (i : Nat) : Nat :=
  if i < c.openMax then 0
  else if c.idleMin ≤ i && i ≤ c.idleMax then 1
  else if c.occMin ≤ i && i ≤ c.occMax then 2
  else if c.shortMin < i then 3
  else 4

/-- The bands as the polarity bit assigns them (R40): idle and occupied limits. -/
def SystemRec.idleBand (c : SystemRec) : Nat × Nat :=
  if c.polarity then (c.occMin, c.occMax) else (c.idleMin, c.idleMax)
def SystemRec.occBand (c : SystemRec) : Nat × Nat :=
  if c.polarity then (c.idleMin, c.idleMax) else (c.occMin, c.occMax)

def inBand (b : Nat × Nat) (i : Nat) : Bool := b.1 ≤ i && i ≤ b.2

/-- R65: the sample lies in the scheduled blanking of a blanked frame. -/
def Sys.inBlank (s : Sys) (off : Nat) : Bool := s.obsBlank && 8 < off && off ≤ 80 + s.cfg.recovery

/-! ## Comparators -/

def Sys.cmp (s : Sys) : Comparator → Cmp
  | .opn => s.cOpen
  | .occ => s.cOcc
  | .short => s.cShort

def Sys.setCmp (k : Comparator) (c : Cmp) (s : Sys) : Sys :=
  match k with
  | .opn => { s with cOpen := c }
  | .occ => { s with cOcc := c }
  | .short => { s with cShort := c }

def Cmp.level (c : Cmp) : Bool := c.reported.getD c.live

/-- R78: the run of an assertion starts or ends with a record, pauses in scheduled blanking and goes on after it. -/
def Cmp.run (level : Bool) (t : Nat) (c : Cmp) : Cmp := { c with onAcc := 0, onFrom := if level then some t else none, onDone := false }
def Cmp.runAt (t : Nat) (c : Cmp) : Nat := c.onAcc + (match c.onFrom with | some f => t - f | none => 0)
def Cmp.pause (t : Nat) (c : Cmp) : Cmp := { c with onAcc := c.runAt t, onFrom := none }
def Cmp.goOn (t : Nat) (c : Cmp) : Cmp :=
  if c.reported = some true && c.onFrom.isNone then { c with onFrom := some t } else c

/-- R58: the occupancy level the counting logic knows. -/
def Sys.occ (s : Sys) : Bool := s.cOcc.level != s.cfg.polarity

/-- The rewrite mask of 16 µs (R66), in SYSCLK cycles. -/
def rewriteCycles : Nat := 16 * 96
/-- Offset at which scheduled blanking opens, and its last cycle (R65), in SYSCLK cycles of the frame. -/
def blankOpen : Nat := 8 * 96
def Sys.blankLast (s : Sys) : Nat := (80 + s.cfg.recovery) * 96

/-- R66: a window covers the comparator at stamp `t`: from the cycle after the one that opens it to its last. -/
def Sys.maskedEb (s : Sys) (k : Comparator) (t : Nat) : Bool := (s.cmp k).ebUntil ≠ 0 && t ≤ (s.cmp k).ebUntil
def Sys.maskedRw (s : Sys) (t : Nat) : Bool := s.rwUntil ≠ 0 && s.rwUntil < t + rewriteCycles && t ≤ s.rwUntil
def Sys.maskedSched (s : Sys) (t : Nat) : Bool :=
  s.sched && s.schedUntil + blankOpen < t + s.blankLast && t ≤ s.schedUntil
def Sys.masked (s : Sys) (k : Comparator) (t : Nat) : Bool := s.maskedSched t || s.maskedRw t || s.maskedEb k t

/-- R66: at `t` a window of the comparator has ended whose resample is still to come. -/
def Sys.awaits (s : Sys) (k : Comparator) (t : Nat) : Bool :=
  (s.sched && s.schedUntil < t) || (s.rwUntil ≠ 0 && s.rwUntil < t) || ((s.cmp k).ebUntil ≠ 0 && (s.cmp k).ebUntil < t)

/-- R77: a transition at `t` that an edge-blanking window or the rewrite mask hides outside scheduled blanking. -/
def Sys.noisyAt (s : Sys) (k : Comparator) (t : Nat) : Bool := (s.maskedRw t || s.maskedEb k t) && !s.maskedSched t

/-- The edge-blanking window that a record at `t` opens (R64). -/
def Sys.ebEnd (s : Sys) (t : Nat) : Nat := if s.cfg.eblank = 0 then 0 else t + 96 * s.cfg.eblank

/-- The span within which an OCC record is BAND_ADJ, and by which an excursion outlasts its last release. -/
def bandSpan : Nat := 20 * 96

/-- R63: an OCC record of system `i` within 20 µs before `t`. -/
def EdgeRec.near (i t : Nat) (e : EdgeRec) : Bool :=
  e.sys == i && decide (e.cmp = .occ) && !e.merged && decide (t ≤ e.hi + bandSpan)

/-- R82: an assertion of OPEN or SHORT at `t` opens an excursion at the earliest record flagged BAND_ADJ among
`edges`, else at `t`; an excursion that is open goes on. -/
def Sys.openExc (t : Nat) (edges : List EdgeRec) (s : Sys) : Sys :=
  match s.exc with
  | some x => { s with exc := some { x with release := none } }
  | none =>
    match edges.find? (EdgeRec.near s.id t) with
    | some e => { s with exc := some { start := e.hi, before := (!e.level) != s.cfg.polarity } }
    | none => { s with exc := some { start := t, before := s.occ } }

/-- R82: a release of OPEN or SHORT at `t`; the excursion's last one while neither is reported asserted. -/
def Sys.releaseExc (t : Nat) (s : Sys) : Sys :=
  match s.exc with
  | some x =>
    if s.cOpen.reported = some true || s.cShort.reported = some true then s
    else { s with exc := some { x with release := some t } }
  | none => s

/-- An edge record enters the capture set; a 17th on a system in one frame is discarded (R122). -/
def Dev.capture (e : EdgeRec) (d : Dev) : Dev :=
  let s := d.sys e.sys
  if 16 ≤ s.captured then d.onSys e.sys fun s => { s with overflow := true }
  else
    { (d.onSys e.sys fun s => { s with captured := s.captured + 1 }) with
      capOpen := { d.capOpen with edges := d.capOpen.edges ++ [e] } }

/-- The systems of the point that system `i` belongs to. -/
def sameHead (i j : Nat) : Bool := if i = 32 || j = 32 then i == j else i / 2 == j / 2

/-- R63: OCC records of system `i` within 20 µs before its OPEN or SHORT record at `t` become BAND_ADJ. -/
def flagBand (i t : Nat) (l : List EdgeRec) : List EdgeRec := mapIf (EdgeRec.near i t) (fun e => { e with bandAdj := true }) l

/-- Records of the closed set that no frame work has taken yet; a BAND_ADJ record that one has taken stands as a
record of its own (DESIGN CHOICE, log 108). -/
def Dev.untaken (d : Dev) (i : Nat) : List EdgeRec := if d.taken (d.halfOfSys i) then [] else d.capClosed.edges

/-- R82: the records of a head stamped from the start of an excursion on wait for its end in the open set. -/
def Dev.pullBack (i : Nat) (d : Dev) : Dev :=
  match (d.sys i).exc with
  | some x =>
    let back := fun (e : EdgeRec) => sameHead i e.sys && decide (x.start ≤ e.hi)
    if d.taken (d.halfOfSys i) then d
    else { d with capClosed := { d.capClosed with edges := d.capClosed.edges.filter fun e => !back e }
                  capOpen := { d.capOpen with edges := d.capClosed.edges.filter back ++ d.capOpen.edges } }
  | none => d

/-- What an OPEN or SHORT record at `t` does beside itself: BAND_ADJ flags (R63), an excursion (R82). -/
def Dev.bandRecord (i : Nat) (level : Bool) (t : Nat) (d : Dev) : Dev :=
  let edges := d.untaken i ++ d.capOpen.edges
  let d := { d with capOpen := { d.capOpen with edges := flagBand i t d.capOpen.edges }
                    capClosed := { d.capClosed with edges := flagBand i t d.capClosed.edges } }
  (d.onSys i fun s => { (if level then s.openExc t edges else s.releaseExc t) with lastBand := some t }).pullBack i

/-- R63, R64, R66: a record at stamp `t`, whose masked transitions began at `lo`: the level is reported, a new
window opens, excursions follow. -/
def Dev.report (i : Nat) (k : Comparator) (level : Bool) (lo t : Nat) (resampled : Bool) (d : Dev) : Dev :=
  let d := d.onSys i fun s =>
    s.setCmp k { (s.cmp k).run level t with reported := some level, masked := 0, ebUntil := s.ebEnd t }
  let d := match k with
    | .occ => d.onSys i fun s =>
      let s := { s with occSeen := s.occSeen || s.occ }
      if s.occ then s else { s with settleUntil := usOf t + 2000, offEdges := (usOf t :: s.offEdges).take 16 }
    | _ => d.bandRecord i level t
  let adj := match (d.sys i).lastBand with
    | some b => decide (k = .occ) && decide (t ≤ b + bandSpan)
    | none => false
  d.capture { sys := i, cmp := k, level, lo, hi := t, resampled, bandAdj := adj, fr := d.frame }

/-- A system whose comparators the counting logic reads: a defined one, and S32. -/
def Sys.live (d : Dev) (i : Nat) : Bool := (d.sys i).defd || i == 32

/-- R57, R63 to R66: a synchronised transition of a comparator at stamp `t`. Every system has its live level; a
transition in the resample cycle is part of the resampled level. -/
def Dev.edge (i : Nat) (k : Comparator) (level : Bool) (t : Nat) (d : Dev) : Dev :=
  let s := d.sys i
  let c := s.cmp k
  let seen := d.onSys i fun s => s.setCmp k { c with live := level }
  if c.live = level then d
  else if !Sys.live d i then seen
  else if s.masked k t then
    d.onSys i fun s => { (s.setCmp k { c with
        live := level, masked := c.masked + 1, earliest := if c.masked = 0 then t else c.earliest }) with
      noisy := s.noisy || s.noisyAt k t }
  else if c.reported = none || s.awaits k t then seen
  else seen.report i k level t t false

/-- R66: the resample when the last window covering a comparator has ended. -/
def Dev.resample (i : Nat) (k : Comparator) (t : Nat) (d : Dev) : Dev :=
  let s := d.sys i
  let c := s.cmp k
  if s.masked k t then d
  else match c.reported with
    | none =>
      d.onSys i fun s =>
        let s := s.setCmp k { c.run c.live t with reported := some c.live, masked := 0 }
        if c.live && decide (k ≠ .occ) then s.openExc t [] else { s with occSeen := s.occSeen || s.occ }
    | some r =>
      if c.live = r then
        d.onSys i fun s => { s.setCmp k { c with masked := 0 } with
          hidden := if c.masked = 0 then s.hidden else satAdd 16 s.hidden 1 }
      else d.report i k c.live (if c.masked = 0 then t else c.earliest) t (c.masked ≠ 0)

def Dev.resampleAll (i : Nat) (t : Nat) (d : Dev) : Dev :=
  ((d.resample i .opn t).resample i .occ t).resample i .short t

/-- A DAC rewrite at a boundary masks all three comparators for 16 µs (04, When a threshold changes). -/
def Sys.rewrite (t : Nat) (s : Sys) : Sys :=
  { s with dacOpen := dacCode s.cfg.openAt s.cfg.shunt, dacOcc := dacCode s.cfg.occAt s.cfg.shunt
           dacShort := dacCode s.cfg.shortAt s.cfg.shunt, rwUntil := t + rewriteCycles }

/-- The capture sets at the boundary with stamp `start` that opens frame `f`: what is stamped at or after it belongs
to that frame (R15), and an excursion that is still open holds its head's records back (R82). -/
def Dev.splitEdges (start : Nat) (f : Word) (d : Dev) : List EdgeRec × List EdgeRec :=
  let starts := d.systems.filterMap fun s => s.exc.map fun x => (s.id, x.start)
  let held := fun (e : EdgeRec) =>
    decide (start ≤ e.hi) || starts.any fun (p : Nat × Nat) => sameHead p.1 e.sys && decide (p.2 ≤ e.hi)
  (d.capOpen.edges.filter fun e => !held e,
   (d.capOpen.edges.filter held).map fun e => if start ≤ e.hi then { e with fr := f } else e)

/-! ## The sampled path: what one frame's work does with it -/

/-- R70: one comparator against one sample; voltages scaled by 1023 · 4096 mV. -/
def disagrees (dac hystHalf : Nat) (hi : Bool) (code : Nat) (level : Bool) : Bool :=
  let v : Int := code * 3000 * 1023
  let trip : Int := dac * 3000 * 4096
  let h : Int := hystHalf * 1023 * 4096
  let m : Int := 50 * 1023 * 4096
  let near := (trip - h - m ≤ v && v ≤ trip - h + m) || (trip + h - m ≤ v && v ≤ trip + h + m)
  let between := trip - h ≤ v && v ≤ trip + h
  let above := trip + h < v
  !near && !between && (if hi then level != above else level == above)

def Sys.sampleDisagrees (s : Sys) (x : Sample) : Bool :=
  disagrees s.dacOpen 0 false x.code x.opn || disagrees s.dacOcc (5 * s.cfg.hyst) true x.code x.occ
    || disagrees s.dacShort 0 true x.code x.short

/-- Samples outside the frame's scheduled blanking. -/
def Sys.seen (s : Sys) (o : SysObs) : List Sample := o.samples.filter fun x => !s.inBlank x.off

/-- R70: a frame with two or more disagreeing samples. -/
def Sys.frameDisagrees (s : Sys) (o : SysObs) : Bool :=
  2 ≤ ((s.seen o).filter s.sampleDisagrees).length

/-- R77: the run after a frame: its length and the quiet frames since its latest noisy frame. -/
def noiseStep (noisy : Bool) (run quiet : Nat) : Nat × Nat :=
  if noisy then (if run = 0 then 1 else run + quiet + 1, 0)
  else if run = 0 then (0, 0)
  else if 2 ≤ quiet then (0, 0)
  else (run, quiet + 1)

/-- Faults of a system: a code active on it. -/
def Dev.sysFault (d : Dev) (i code : Nat) : Bool := d.hasFault code .system i (d.halfOfSys i)
def Dev.raiseSys (i code : Nat) (d : Dev) (partner : Nat := 0xFFFF) : Dev :=
  d.raise code .system i (d.halfOfSys i) partner
def Dev.clearSys (i code : Nat) (d : Dev) : Dev := d.clearF code .system i (d.halfOfSys i)

/-- Codes of Table HED-5 and Table WIN-5 (with 0x3E of Table STU-3). -/
def hedCodes : List Nat := [0x31, 0x32, 0x33, 0x34, 0x35, 0x36]
def sysCodes : List Nat := [0x30, 0x31, 0x32, 0x33, 0x34, 0x35, 0x36, 0x37, 0x38, 0x39, 0x3A, 0x3B, 0x3C, 0x3E]

/-- R51, R78: the system counts as disturbed; hold-off under R390. -/
def Dev.sysDisturbed (d : Dev) (i : Nat) : Bool :=
  (d.sys i).holdoff || sysCodes.any (d.sysFault i) || d.codeActive 0x3D

/-- R75: a fault of Table HED-5 or WIN-5 other than 0x3A. -/
def Dev.sysSuspends (d : Dev) (i : Nat) : Bool :=
  (sysCodes.filter (· ≠ 0x3A)).any (d.sysFault i) || d.codeActive 0x3D

/-- R74: the mean of a frame's qualifying samples, times 2^16, where 16 or more qualify (log 9). -/
def Sys.qualifyingMean (s : Sys) (frameUs : Nat) (faulty : Bool) (o : SysObs) : Option Int :=
  if faulty || s.susp then none
  else
    let good := (s.seen o).filterMap fun x =>
      let i := currentOf s.cfg.shunt x.code
      if inBand s.cfg.idleBand i && (x.occ == s.cfg.polarity) && decide (s.settleUntil < frameUs + x.off)
      then some i else none
    if 16 ≤ good.length then some ((good.foldl (· + ·) 0) * 65536 / good.length : Nat) else none

/-- The window-monitor part of a frame's work for system `i` (R70, R74, R75, R77, R78). -/
def Dev.windowFrame (i : Nat) (o : SysObs) (miss : Bool) (d : Dev) : Dev :=
  let s := d.sys i
  let dis := s.frameDisagrees o
  let hist := (dis :: s.disHist).take 64
  let noisy := s.noisyClosed || dis
  let run := noiseStep noisy s.noiseRun s.quietRun
  let amps := (s.seen o).map fun x => currentOf s.cfg.shunt x.code
  let d := d.onSys i fun s => { s with
    disHist := hist, disClean := if dis then 0 else s.disClean + 1
    noiseRun := run.1, quietRun := run.2, quietFrames := if noisy then 0 else s.quietFrames + 1
    noOpenFrames := if amps.any (· < s.cfg.openMax) then 0 else s.noOpenFrames + 1
    noShortFrames := if amps.any (s.cfg.shortMin < ·) then 0 else s.noShortFrames + 1 }
  let d := if dis && 8 ≤ (hist.filter id).length then d.raiseSys i 0x39 else d
  let d := if s.noiseRun < 40 && 40 ≤ run.1 then d.raiseSys i 0x38 else d
  let suspends := d.sysSuspends i
  d.onSys i fun s =>
    let s := if miss || decide (s.noiseRun ≠ 0) || suspends then { s with susp := true, track4 := 0 }
      else if s.susp && 4 ≤ s.track4 then { s with susp := false } else s
    { s with frameMean := s.qualifyingMean d.closedStart suspends o }

/-! ## Baseline (R74 to R76): a background job of the slack -/

/-- R74: `b ← b + (m − b) / 2048`; the first mean starts it. -/
def baselineStep (b : Option Int) (m : Int) : Int :=
  match b with
  | none => m
  | some b => b + (m - b) / 2048

/-- The baseline as a current in 0.01 mA. -/
def Sys.baseline (s : Sys) : Nat := match s.baseQ with | some b => (b / 65536).toNat | none => 0

/-- R76: within 0.5 mA of a limit of the Idle band, on either side of it. -/
def Sys.baseNear (s : Sys) : Bool :=
  let near := fun (b lim : Int) => lim * 65536 - 50 * 65536 ≤ b && b ≤ lim * 65536 + 50 * 65536
  match s.baseQ with
  | some b => near b s.cfg.idleBand.1 || near b s.cfg.idleBand.2
  | none => false

/-- R76: inside the Idle band by at least `m` (0.01 mA). -/
def Sys.baseInside (s : Sys) (m : Nat) : Bool :=
  match s.baseQ with
  | some b => (s.cfg.idleBand.1 + m : Int) * 65536 ≤ b && b ≤ ((s.cfg.idleBand.2 : Int) - m) * 65536
  | none => false

/-- The baseline job for system `i`: update, 0x3A, the warning, and the run toward recovery. -/
def Dev.baselineJob (i : Nat) (d : Dev) : Dev :=
  let s := d.sys i
  if !s.defd then d
  else
    let d := d.onSys i fun s => match s.frameMean with
      | some m => { s with baseQ := some (baselineStep s.baseQ m), baseAge := 0, frameMean := none }
      | none => { s with baseAge := satAdd 16 s.baseAge 1 }
    let s := d.sys i
    if s.baseQ = none then d
    else
      let d := if !s.baseInside 0 && !d.sysFault i 0x3A then d.raiseSys i 0x3A else d
      d.onSys i fun s => { s with
        baseWarn := s.baseNear
        baseGood := if s.baseInside 50 then s.baseGood + 1 else 0 }

/-! ## Meanings -/

/-- COMPARATOR_EDGE (R57, R63). -/
def execComparatorEdge (i : Fin 33) (k : Comparator) (level : Bool) (cyc : Nat) : State → Out :=
  up fun d => d.edge i k level (d.stamp cyc)

/-- EDGE_BLANKING_END (R64, R66). -/
def execEdgeBlankingEnd (i : Fin 33) (k : Comparator) (cyc : Nat) : State → Out :=
  up fun d =>
    let c := (d.sys i).cmp k
    if c.ebUntil ≠ 0 && c.ebUntil < d.stamp cyc then
      (d.onSys i fun s => s.setCmp k { c with ebUntil := 0 }).resample i k (d.stamp cyc)
    else d

/-- REWRITE_MASK_END (R66). -/
def execRewriteMaskEnd (i : Fin 33) (cyc : Nat) : State → Out :=
  up fun d =>
    let s := d.sys i
    if s.rwUntil ≠ 0 && s.rwUntil < d.stamp cyc then
      (d.onSys i fun s => { s with rwUntil := 0 }).resampleAll i (d.stamp cyc)
    else d

/-- SCHEDULED_BLANKING_END (R65, R66). -/
def execScheduledBlankingEnd (i : Fin 32) (cyc : Nat) : State → Out :=
  up fun d =>
    if (d.sys i).sched && (d.sys i).schedUntil < d.stamp cyc then
      ((d.onSys i fun s => { s with sched := false }).resampleAll i (d.stamp cyc)).onSys i fun s =>
        { s with cOpen := s.cOpen.goOn (d.stamp cyc), cShort := s.cShort.goOn (d.stamp cyc) }
    else d

/-- R78: the 1 000 µs of an assertion, in SYSCLK cycles. -/
def bandLimit : Nat := 96000

/-- The run of `c` has lasted its 1 000 µs at `t` and has raised nothing yet. -/
def Cmp.runOver (t : Nat) (c : Cmp) : Bool := !c.onDone && bandLimit ≤ c.runAt t

/-- The HSUP node of a system reads HIGH; S32 has no line and no node (DESIGN CHOICE, log 106). -/
def Sys.nodeHigh (s : Sys) : Bool := decide (s.node = .high) || s.id == 32

/-- BAND_TIMEOUT (R78): 0x3B only while the HSUP node reads HIGH; the quiet frames are counted anew (R339). An
assertion raises its fault once: after a recovery the same assertion does not raise it again (DESIGN CHOICE, log 105). -/
def execBandTimeout (i : Fin 33) (short : Bool) (cyc : Nat) : State → Out :=
  upIn (fun d => d.halfOfSys i) fun d =>
    let s := d.sys i
    if !Sys.live d i then d
    else if short then
      if s.cShort.runOver (d.stamp cyc) then
        (d.onSys i fun s => { s with cShort := { s.cShort with onDone := true }, noShortFrames := 0 }).raiseSys i 0x3C
      else d
    else if s.cOpen.runOver (d.stamp cyc) && s.nodeHigh then
      (d.onSys i fun s => { s with cOpen := { s.cOpen with onDone := true }, noOpenFrames := 0 }).raiseSys i 0x3B
    else d

/-- The recovery condition of a window-monitor fault (Table WIN-5). -/
def Dev.windowRecovered (d : Dev) (i code : Nat) : Bool :=
  let s := d.sys i
  match code with
  | 0x37 => 4 ≤ s.rbOpen && 4 ≤ s.rbOcc && 4 ≤ s.rbShort
  | 0x38 => 200 ≤ s.quietFrames
  | 0x39 => 128 ≤ s.disClean
  | 0x3B => 200 ≤ s.noOpenFrames
  | 0x3C => 200 ≤ s.noShortFrames
  | _ => false

/-- WINDOW_FAULT_RECOVERY (R78); 0x3D is the device's (10 good calibrations). -/
def execWindowFaultRecovery (i : Fin 33) (code : Nat) : State → Out :=
  upIn (fun d => d.halfOfSys i) fun d =>
    if code = 0x3D then (if 10 ≤ d.bgw.calGood then d.clearF 0x3D .device 0 else d)
    else if d.windowRecovered i code then d.clearSys i code else d

/-- BASELINE_FAULT_RECOVERY (R76): 10 s are 20 000 frames. -/
def execBaselineFaultRecovery (i : Fin 32) : State → Out :=
  upIn (fun d => d.halfOfSys i) fun d => if 20000 ≤ (d.sys i).baseGood then d.clearSys i 0x3A else d

end Sys2Proof.Machine
end

