-- ==== Sys2Proof/Machine/Classifier.lean ====
section
/-! DEFINITION. The wheel classifier (04, R71 to R73): the features of Table WIN-4 in exact integer arithmetic,
the verdict of an occupancy and of an event. Lengths are products of mm and cycles; a speed is never divided. -/
namespace Sys2Proof.Machine

/-- A feature against its bound: not measurable, inside, outside. -/
inductive Feature | none | inside | outside deriving DecidableEq, Repr

def feature (measurable ok : Bool) : Feature := if !measurable then .none else if ok then .inside else .outside

/-- The bounds of Table WIN-4, as profile 0 or a CALDEF record sets them. -/
structure Bounds where
  plat : Nat × Nat
  ripple : Nat
  rise : Nat
  fall : Nat
  occ : Nat × Nat
  settle : Nat
  deriving DecidableEq, Repr

/-- Profile 0 takes the system's own Occupied band; a named profile replaces every bound. -/
def boundsFor (sys : SystemRec) (defs : List CalDefRec) (profile : Nat) : Bounds :=
  match defs.find? (·.profile == profile) with
  | some c => { plat := (c.platMin, c.platMax), ripple := c.rippleMax, rise := c.rise, fall := c.fall
                occ := (c.occMin, c.occMax), settle := c.settle }
  | none => { plat := sys.occBand, ripple := 300, rise := 60, fall := 60, occ := (150, 320), settle := 100 }

/-- The speed of a passage from its transit times in cycles, over `s` mm: `v = s (on + off) / (2 on off)`. -/
structure Speed where
  s : Nat
  on : Nat
  off : Nat
  deriving DecidableEq, Repr

/-- `|v_on − v_off| ≤ v / 4`. -/
def Speed.regular (v : Speed) : Bool :=
  v.on ≠ 0 && v.off ≠ 0 && 8 * ((v.off - v.on) + (v.on - v.off)) ≤ v.on + v.off

/-- `v · t ≤ bound` for a time of `t` cycles and a bound in mm. -/
def Speed.atMost (v : Speed) (t bound : Nat) : Bool := v.s * (v.on + v.off) * t ≤ bound * (2 * v.on * v.off)
def Speed.atLeast (v : Speed) (t bound : Nat) : Bool := bound * (2 * v.on * v.off) ≤ v.s * (v.on + v.off) * t

def insertNat (x : Nat) : List Nat → List Nat
  | [] => [x]
  | y :: ys => if x ≤ y then x :: y :: ys else y :: insertNat x ys

def sortNat (l : List Nat) : List Nat := l.foldl (fun acc x => insertNat x acc) []

/-- Twice the median: of an even number, the sum of the two middle values. -/
def median2 (l : List Nat) : Nat :=
  let s := sortNat l
  s.getD ((s.length - 1) / 2) 0 + s.getD (s.length / 2) 0

/-- One occupancy: its system, its on and off stamps in cycles, its samples. -/
structure Occupancy where
  cfg : SystemRec
  base : Nat
  susp : Bool
  searchFrom : Nat
  on : Nat
  off : Nat
  tv : Nat
  samples : List CurSample
  deriving DecidableEq, Repr

/-- At or beyond the Idle limit, and at or beyond the Occupied limit, as polarity turns them. -/
def Occupancy.idleSide (o : Occupancy) (x : CurSample) : Bool :=
  if o.cfg.polarity then o.cfg.idleBand.1 ≤ x.cur else x.cur ≤ o.cfg.idleBand.2
def Occupancy.occSide (o : Occupancy) (x : CurSample) : Bool :=
  if o.cfg.polarity then x.cur ≤ o.cfg.occBand.2 else o.cfg.occBand.1 ≤ x.cur

/-- The last sample at or beyond the Idle limit before the rise, searched back to the previous off edge (R71). -/
def Occupancy.riseFrom (o : Occupancy) (xs : List CurSample) : Option Nat :=
  ((xs.filter fun x => decide (o.searchFrom ≤ x.at_) && decide (x.at_ ≤ usOf o.on) && o.idleSide x).getLast?).map (·.at_)

/-- The end of the rise: the first sample at or beyond the Occupied limit from there on, or from the on edge. -/
def Occupancy.riseTo (o : Occupancy) (xs : List CurSample) : Option Nat :=
  let from_ := (o.riseFrom xs).getD (usOf o.on)
  (xs.find? fun x => decide (from_ ≤ x.at_) && decide (x.at_ ≤ usOf o.off) && o.occSide x).map (·.at_)

/-- The first sample at or beyond the Idle limit after the fall, searched forward to the verdict instant (R71). -/
def Occupancy.fallTo (o : Occupancy) (xs : List CurSample) : Option Nat :=
  (xs.find? fun x => decide (usOf o.off ≤ x.at_) && decide (x.at_ ≤ o.tv) && o.idleSide x).map (·.at_)

/-- The start of the fall: the last sample at or beyond the Occupied limit before it. -/
def Occupancy.fallFrom (o : Occupancy) (xs : List CurSample) : Option Nat :=
  let last := (o.fallTo xs).getD (usOf o.off)
  ((xs.filter fun x => decide (usOf o.on ≤ x.at_) && decide (x.at_ ≤ last) && o.occSide x).getLast?).map (·.at_)

/-- Both ends of a ramp, where both searches found their sample. -/
def ends (a b : Option Nat) : Option (Nat × Nat) :=
  match a, b with
  | some x, some y => some (x, y)
  | _, _ => none

/-- Sample intervals of 16 µs between two samples, as cycles. -/
def rampCycles (e : Nat × Nat) : Nat := (e.2 - e.1) / 16 * 16 * 96

/-- The features of Table WIN-4, in its order. DEDUCED: the samples of the fall itself count for the fall, not for
settle (log 12). -/
def Occupancy.features (o : Occupancy) (v : Speed) (b : Bounds) : List Feature :=
  let xs := o.samples.filter fun x => !x.blanked
  let rise := ends (o.riseFrom xs) (o.riseTo xs)
  let fall := ends (o.fallFrom xs) (o.fallTo xs)
  let plat := match ends (o.riseTo xs) (o.fallFrom xs) with
    | some p => (xs.filter fun x => decide (p.1 ≤ x.at_) && decide (x.at_ ≤ p.2)).map (·.cur)
    | none => []
  let enough := decide (4 ≤ plat.length)
  let m2 := median2 plat
  let hi := plat.foldl max 0
  let lo := plat.foldl min hi
  let from_ := (o.fallTo xs).getD (usOf o.off)
  let settle := xs.filter fun x => decide (from_ ≤ x.at_) && decide (x.at_ ≤ usOf o.off + 2000)
  let settled := settle.all fun x =>
    inBand o.cfg.idleBand x.cur && decide (x.cur ≤ o.base + b.settle) && decide (o.base ≤ x.cur + b.settle)
  [ feature enough (decide (2 * b.plat.1 ≤ m2) && decide (m2 ≤ 2 * b.plat.2)),
    feature enough (decide (hi - lo ≤ b.ripple)),
    match rise with | some r => feature v.regular (v.atMost (rampCycles r) b.rise) | none => .none,
    match fall with | some f => feature v.regular (v.atMost (rampCycles f) b.fall) | none => .none,
    feature v.regular (v.atLeast (o.off - o.on) b.occ.1 && v.atMost (o.off - o.on) b.occ.2),
    feature (decide (16 ≤ settle.length) && !o.susp) settled ]

/-- R72: the verdict of one occupancy. -/
def verdictOf (fs : List Feature) : Verdict :=
  if fs.contains .outside then .nonWheel else if fs.all (· == .inside) then .wheel else .uncertain

/-- R72: the event verdict. -/
def verdictBoth (a b : Verdict) : Verdict :=
  if a = .nonWheel ∨ b = .nonWheel then .nonWheel
  else if a = .wheel ∧ b = .wheel then .wheel else .uncertain

/-- Where the search for the rise begins: the previous off edge, or usability after it (R71). -/
def Sys.searchFrom (s : Sys) (on : Nat) : Nat :=
  max s.usableAt ((s.offEdges.find? fun x => decide (x < on)).getD 0)

/-- The occupancy of system `s` in the event that waits. A baseline that has not started counts as suspended tracking:
settle is not measurable (DESIGN CHOICE, log 109). -/
def Sys.occupancy (s : Sys) (on off tv : Nat) (xs : List CurSample) : Occupancy :=
  { cfg := s.cfg, base := s.baseline, susp := s.susp || s.baseQ.isNone, searchFrom := s.searchFrom (usOf on), on, off, tv, samples := xs }

/-- R73: the stamp of t_v, the later release plus 2 000 µs. -/
def Wait.verdictAt (w : Wait) : Nat := max w.offA w.offB + 2000 * 96

/-- The verdict of a waiting event of a point from both sample streams. -/
def Dev.classify (d : Dev) (h : Half) (cfg : PointRec) (w : Wait) (a b : List CurSample) : Verdict :=
  let sa := d.sys (2 * cfg.owner)
  let sb := d.sys (2 * cfg.owner + 1)
  let defs := match d.rigPart h with | some p => p.caldefs.map (·.val) | none => []
  let v : Speed := if w.ba then { s := cfg.spacing, on := w.onA - w.onB, off := w.offA - w.offB }
    else { s := cfg.spacing, on := w.onB - w.onA, off := w.offB - w.offA }
  let tv := usOf w.verdictAt
  verdictBoth
    (verdictOf ((sa.occupancy w.onA w.offA tv a).features v (boundsFor sa.cfg defs cfg.profile)))
    (verdictOf ((sb.occupancy w.onB w.offB tv b).features v (boundsFor sb.cfg defs cfg.profile)))

end Sys2Proof.Machine
end

