-- ==== Sys2Proof/Machine/HeadSupply.lean ====
section
/-! DEFINITION. The head interface (03): the supply code (R44, R45), what each frame shows of a line (R47, R48),
usability (R56), correlation (R49), the STANDBY's checks (R53), overload and DISCHARGE (R38, R51, R55), with
the meanings of their commands. -/
namespace Sys2Proof.Machine

/-! ## The supply code -/

/-- c(0) to c(62), most significant bit first (03, The supply code). -/
def codeBits : BitVec 63 := 0b100000100001100010100111101000111001001011011101100110101011111

def chipAt (k : Nat) : Bool := codeBits.getMsbD (k % 63)

/-- The nominal chip n_L(p). -/
def nominal (l p : Nat) : Bool := chipAt (p + 2 * l)

/-- R45: the chip of line `l` at position `p` when every line is ON and no off-pulse runs. -/
def codeChip (l p : Nat) : Bool := nominal l p && (l % 2 == 0 || !nominal (l - 1) p)

/-- R53, R54, R240, R269: the half applies the supply code. -/
def Dev.mayCode (d : Dev) (h : Half) : Bool :=
  if d.split then d.inService h
  else if d.stackPos = 0 then d.dpx.claim && !d.nodeA.safe
  else decide (d.hal.selfState = .present) && (decide (d.hal.masterRole = .active) || decide (d.hal.masterRole = .solo))
    && !d.nodeA.safe

def Dev.codeOn (d : Dev) : Half → Bool
  | .a => d.codeA
  | .b => d.codeB

/-- R53, R213, R240: outside the claiming roles, while the partner's claim is present. -/
def Dev.shadowing (d : Dev) : Bool := !d.split && d.dpx.pclaim && !d.dpx.claim

/-- The half's lines are to be supplied (R54, R268). -/
def Dev.supplies (d : Dev) (h : Half) : Bool :=
  (d.rigPart h).isSome && !(d.node h).safe && (d.split || !d.dpx.pclaim || d.dpx.claim)

/-- R45: the applied chip of line `s` in this frame. -/
def Dev.applied (d : Dev) (s : Sys) : Bool :=
  !d.offPulse && (decide (s.mode = .on) || decide (s.mode = .chip)) && d.codeOn (d.halfOfSys s.id)
    && codeChip s.id d.codePos

/-- The chip the partner applies on line `s`, at the shared code position (R53). -/
def Dev.partnerChip (d : Dev) (s : Sys) : Bool := d.shadowing && s.defd && !d.offPulse && codeChip s.id d.codePos

/-- SCHEDULED_BLANKING_START (R65). -/
def Dev.startBlanking (d : Dev) : Dev :=
  { d with systems := d.systems.map fun (s : Sys) =>
      if s.id < 32 && (d.applied s || d.partnerChip s) then
        { s with sched := true, schedUntil := d.stamp s.blankLast, blank := true
                 cOpen := s.cOpen.pause (d.stamp blankOpen), cShort := s.cShort.pause (d.stamp blankOpen) }
      else s }

def execScheduledBlankingStart : State → Out := up Dev.startBlanking

/-- R54, R236: a mirroring unit that takes over keeps the usability its systems showed under the partner's chips
(DEDUCED, log 24). -/
def Dev.takeoverLines (d : Dev) : Dev :=
  { d with systems := d.systems.map fun (s : Sys) =>
      if s.mayOn && (decide (s.mode = .off) || decide (s.mode = .proof)) then { s.enterOn with usable := s.usable, run4 := s.run4 }
      else if s.mayOn then s.switchOn else s }

/-- R53: the PROOF frame of a shadowing unit's line. -/
def Dev.proves (d : Dev) (s : Sys) : Bool :=
  d.shadowing && !d.nodeA.safe && s.defd && s.proofWait && !d.offPulse && decide (s.mode = .off) && !codeChip s.id d.codePos

/-- SUPPLY_TEST_PULSE (R45, R53). -/
def execSupplyTestPulse : State → Out :=
  up fun d => { d with systems := d.systems.map fun (s : Sys) =>
    if s.id < 32 && d.applied s then { s with mode := .chip, chip := true }
    else if s.id < 32 && d.proves s then { s with mode := .proof, proofWait := false, proof := true }
    else s }

/-- SUPPLY_TEST_PULSE_END (Table HED-1). -/
def execSupplyTestPulseEnd : State → Out :=
  up fun d => { d with systems := d.systems.map fun (s : Sys) =>
    match s.mode with
    | .chip => { s with mode := .on }
    | .proof => { s with mode := .off }
    | _ => s }

/-! ## Observation -/

/-- R47: a node reading against VFLD, both in 10 mV units. -/
def nodeClassOf (v vfld : Nat) : NodeClass :=
  if 3 * vfld ≤ 4 * v then .high else if 4 * v ≤ vfld then .low else .mid

/-- R47: a current dip: both samples between 48 µs and 80 µs in the Open band, OPEN asserted at 72 µs. -/
def Sys.dips (s : Sys) (o : SysObs) : Bool :=
  let xs := o.samples.filter fun x => decide (48 ≤ x.off) && decide (x.off < 80)
  o.open72 && decide (2 ≤ xs.length) && xs.all fun x => currentOf s.cfg.shunt x.code < s.cfg.openMax

def setPos (b : Bool) (p : Nat) (m : PosSet) : PosSet := if b then m ||| BitVec.ofNat 63 (2 ^ p) else m

/-- What one observed frame adds to a line: histories, sets, usability (R46, R48, R56). -/
def Sys.observe (s : Sys) (p : Nat) (low high dip : Bool) : Sys :=
  let miss := s.obsChip && !(low && dip)
  let exc := !s.obsChip && (!high || dip)
  let run := if miss || exc then 0 else if s.obsChip then min 4 (s.run4 + 1) else s.run4
  let trk := if miss || exc then 0 else if s.obsChip then min 4 (s.track4 + 1) else s.track4
  { s with
    missHist := if s.obsChip then (miss :: s.missHist).take 16 else s.missHist
    exceptions := if exc then s.exceptions + 1 else s.exceptions
    applied := if s.obsChip then s.applied + 1 else s.applied
    vRun := setPos true p s.vRun, aRun := setPos s.obsChip p s.aRun
    dRun := setPos low p s.dRun, iRun := setPos dip p s.iRun
    run4 := run, track4 := trk, usable := (s.usable || decide (4 ≤ run)) && !s.feFailed }

/-- R48, Table HED-5: the fault an observation completes, in a supplying unit. An exception that shows both a node that
is not HIGH and a dip meets 0x32 and 0x35: 0x32 is taken (DESIGN CHOICE, log 110). -/
def Sys.chipFault (s : Sys) (low high dip : Bool) : Option Nat :=
  let misses := (s.missHist.filter (· == true)).length
  if s.obsChip && !(low && dip) then
    (if 3 ≤ misses then some (if low then 0x34 else 0x31) else none)
  else if !s.obsChip && (!high || dip) then
    (if 3 ≤ s.exceptions then some (if !high then 0x32 else 0x35) else none)
  else none

/-- A fault of Table HED-5 starts its 16 clean periods again (R339). -/
def Dev.raiseHed (i code : Nat) (d : Dev) (partner : Nat := 0xFFFF) : Dev :=
  (d.raiseSys i code partner).onSys i fun s => { s with clean := 0 }

/-- What one observed frame shows a STANDBY of a line it does not supply (R53): dips against the partner's chips under
R48's counts, the node against PROOF and OFF. Its positions are not valid ones (R46). -/
def Sys.shadowed (s : Sys) (low high dip : Bool) : Sys :=
  let chip := s.obsBlank
  let bad := chip != dip
  let step := fun (n : Nat) => if bad then 0 else if chip then min 4 (n + 1) else n
  { s with
    missHist := if chip then ((!dip) :: s.missHist).take 16 else s.missHist
    exceptions := if !chip && dip then s.exceptions + 1 else s.exceptions
    applied := if chip then s.applied + 1 else s.applied
    run4 := step s.run4, track4 := step s.track4, usable := (s.usable || decide (4 ≤ step s.run4)) && !s.feFailed
    stbySeen := true, stbyBad := s.stbyBad || bad || (if s.obsProof then !high else !low) }

/-- R53: the faults of a shadowed observation. -/
def Sys.shadowFaults (s : Sys) (high dip : Bool) : List Nat :=
  let counts := if s.obsBlank then !dip && 3 ≤ (s.missHist.filter (· == true)).length else dip && 3 ≤ s.exceptions
  (if counts then [0x36] else []) ++ (if s.obsProof && !high then [0x32] else []) ++ (if !s.obsProof && high then [0x31] else [])

/-- The observation of system `i` in the frame at position `p`; whether it was a miss. -/
def Dev.observeSys (i p : Nat) (o : SysObs) (vfld : Nat) (d : Dev) : Dev × Bool :=
  let s := d.sys i
  let cls := nodeClassOf o.nodeV vfld
  let low := decide (cls = .low)
  let high := decide (cls = .high)
  let dip := s.dips o
  let take := fun (t : Sys) => d.onSys i fun s => { t with usableAt := if t.usable && !s.usable then d.dt.toNat else s.usableAt }
  if s.obsValid then
    let t := s.observe p low high dip
    ((t.chipFault low high dip).toList.foldl (fun (d : Dev) c => d.raiseHed i c) (take t), s.obsChip && !(low && dip))
  else if d.shadowing && s.defd && !s.obsOff then
    let t := s.shadowed low high dip
    ((t.shadowFaults high dip).foldl (fun (d : Dev) c => d.raiseHed i c) (take t), s.obsBlank && !dip)
  else (d, false)

/-! ## Correlation at the end of a code period (R49) -/

def agree (v x y : PosSet) : Bool := x &&& v == y &&& v

/-- The line shows exactly what it applied, over its valid positions; in a STANDBY, what R53 demands in every frame
(DEDUCED, log 114). A period that showed nothing is not clean. -/
def Sys.cleanPeriod (s : Sys) : Bool :=
  (s.vSet != 0 || s.stbySeen) && agree s.vSet s.iSet s.aSet && agree s.vSet s.dSet s.aSet && !s.stbyBad

/-- Candidate kinds: 0 cross-short on the device side, 1 feeds joined behind the head diodes, 2 sense follows. -/
def candidates (l x : Sys) : List (Nat × Nat) :=
  let both := l.aSet &&& x.aSet
  if l.vSet == 0 || x.vSet &&& l.vSet != l.vSet then []
  else
    (if agree l.vSet l.dSet both && agree l.vSet x.dSet both then [(x.id, 0)] else [])
    ++ (if agree l.vSet l.dSet l.aSet && agree l.vSet l.iSet both then [(x.id, 1)] else [])
    ++ (if agree l.vSet l.iSet (l.aSet ||| x.aSet) then [(x.id, 2)] else [])

/-- The candidates of line `l` in the period just closed. -/
def Dev.candidatesOf (d : Dev) (l : Sys) : List (Nat × Nat) :=
  if l.cleanPeriod then []
  else (d.systems.filter fun x => x.id ≠ l.id && x.id < 32).flatMap (candidates l)

/-- The period's running sets become its sets (R391). -/
def Sys.closePeriod (s : Sys) : Sys :=
  { s with dSet := s.dRun, iSet := s.iRun, vSet := s.vRun, aSet := s.aRun
           dRun := 0, iRun := 0, vRun := 0, aRun := 0, exceptions := 0, applied := 0 }

/-- Names partner `x` of line `l` from both ends; kinds 0 and 1 fault both lines, kind 2 the follower. -/
def Dev.nameOne (l x kind : Nat) (d : Dev) : Dev :=
  let add := fun (p : Nat) (s : Sys) => if s.partners.contains p then s else { s with partners := (s.partners ++ [p]).take 4 }
  let d := (d.onSys l (add x)).onSys x (add l)
  if kind = 2 then (if d.sysFault l 0x35 then d else d.raiseHed l 0x35 x)
  else
    let d := if d.sysFault l 0x33 then d else d.raiseHed l 0x33 x
    if d.sysFault x 0x33 then d else d.raiseHed x 0x33 l

/-- The end of a period for line `i`, whose candidates are `now`: naming, the clean run, recovery after 16. -/
def Dev.periodLine (i : Nat) (now : List (Nat × Nat)) (d : Dev) : Dev :=
  let s := d.sys i
  let named := now.filter s.cands.contains
  let d := named.foldl (fun d (c : Nat × Nat) => d.nameOne i c.1 c.2) d
  let faulted := hedCodes.any (d.sysFault i)
  let clean := (d.sys i).cleanPeriod
  let run := if clean && faulted then s.clean + 1 else 0
  let d := if 16 ≤ run then hedCodes.foldl (fun d c => d.clearSys i c) d else d
  d.onSys i fun s => { s with
    cands := now, stbySeen := false, stbyBad := false
    clean := if 16 ≤ run then 0 else run
    partners := if 16 ≤ run then [] else s.partners
    ambig := if 16 ≤ run then false else s.ambig || 1 < (named.map (·.1)).eraseDups.length
    unident := faulted && run < 16 && s.partners.isEmpty }

/-- CODE_PERIOD_END (R49, R51): it stands in the frame at position 0, after that frame's work has observed
position 62. -/
def execCodePeriodEnd : State → Out :=
  up fun d =>
    if d.codePos ≠ 0 || d.live.isEmpty || !d.live.all d.worked then d
    else
      let d := { d with systems := d.systems.map fun (s : Sys) => if s.id < 32 then s.closePeriod else s }
      let cands := d.systems.map fun (s : Sys) => (s.id, d.candidatesOf s)
      cands.foldl (fun (d : Dev) (c : Nat × List (Nat × Nat)) =>
        if c.1 < 32 && (d.sys c.1).defd then d.periodLine c.1 c.2 else d) d

/-! ## Overload, DISCHARGE, retry -/

/-- HSUP_OVERLOAD (R38): the line opens at once; the fault is an input of the next frame's work. -/
def execHsupOverload (i : Fin 32) : State → Out :=
  up fun d =>
    if (d.sys i).mode = .off ∨ (d.sys i).mode = .discharge then d
    else
      { (d.onSys i fun s => { s.switchOff with retrying := true, retryFrame := d.frame }) with
        capOpen := { d.capOpen with overloads := d.capOpen.overloads ++ [i.val] } }

/-- 10 s in frames. -/
def tenSeconds : Nat := 20000

/-- HSUP_OVERLOAD_RETRY (R51, R55): every 10 s a switch-on; a retry that ran 10 s without overload clears 0x30. -/
def execHsupOverloadRetry (i : Fin 32) : State → Out :=
  up fun d =>
    let s := d.sys i
    if !s.retrying || d.ago s.retryFrame < tenSeconds then d
    else match s.mode with
      | .on | .chip => (d.onSys i fun s => { s with retrying := false }).clearSys i 0x30
      | _ =>
        if s.defd && !s.holdoff && d.supplies (d.halfOfSys i) then
          d.onSys i fun s => { s.switchOn with retryFrame := d.frame }
        else d

/-- HSUP_DISCHARGE_END (R55): not before 50 ms (100 boundaries) have passed. -/
def execHsupDischargeEnd (i : Fin 32) : State → Out :=
  up fun d =>
    let s := d.sys i
    match s.mode with
    | .discharge =>
      if s.dischLeft ≠ 0 then d
      else d.onSys i fun s => if s.pendOn && d.supplies (d.halfOfSys i) then s.enterOn else { s with mode := .off, pendOn := false }
    | _ => d

/-- Every line of the half that may be supplied is asked to switch on (R54, R268). -/
def Dev.linesOn (h : Half) (d : Dev) : Dev :=
  { d with systems := d.systems.map fun (s : Sys) =>
      if decide (d.halfOfSys s.id = h) && s.mayOn then s.switchOn else s }

end Sys2Proof.Machine
end

