-- ==== Sys2Proof/Machine/Point.lean ====
section
/-! DEFINITION. Counting points (05): reading edge records (R81, R82), the point state machine (R83 to R88), point
states and recovery (R89 to R91), axle events and the event journal (R92 to R95), with the meanings of
BAND_EXCURSION_END, POINT_RECOVERY, REMOTE_POINT_OFFLINE_TIMEOUT and CLASSIFIER_VERDICT. -/
namespace Sys2Proof.Machine

/-! ## Where a point lives -/

/-- The point machine of the record runs on this device (Table CNT-1). -/
def Dev.runsPoint (d : Dev) (c : PointRec) : Bool :=
  match c.kind with
  | .localHead => d.stackPos == 0
  | .member => d.stackPos ≠ 0 && c.stackpos == d.stackPos
  | .remote => false

def Dev.raisePt (h : Half) (i code : Nat) (d : Dev) : Dev := d.raise code .point i h
def Dev.clearPt (h : Half) (i code : Nat) (d : Dev) : Dev := d.clearF code .point i h

/-- Entering DISTURBED discards position, entry and passage (R90). -/
def Point.disturb (p : Point) : Point :=
  { p with state := .disturbed, pas := {}, recover := 0, entered := 2 }

/-- R89: a cause of DISTURBED stands for a point this device runs. -/
def Dev.pointCause (d : Dev) (c : PointRec) : Bool :=
  d.sysDisturbed (2 * c.owner) || d.sysDisturbed (2 * c.owner + 1)
    || !(d.sys (2 * c.owner)).usable || !(d.sys (2 * c.owner + 1)).usable || d.vfldUnder

/-! ## Own machines (R226) -/

/-- The unit mirrors its partner: its own point machines are the shadow (12, Standby shadowing). -/
def Dev.mirrors (d : Dev) : Bool := decide (d.dpx.role = .standby) || decide (d.dpx.role = .syncing)

/-- The point machines that run on this unit's own shunts. -/
def Dev.ownPoints (d : Dev) (h : Half) : List Point := if d.mirrors then d.dpx.shadow else (d.node h).points

def Dev.mapOwn (h : Half) (f : Point → Point) (d : Dev) : Dev :=
  if d.mirrors then { d with dpx := { d.dpx with shadow := d.dpx.shadow.map f } }
  else d.onNode h fun n => { n with points := n.points.map f }

/-- The passage position of a point whose machine runs in this unit: VACANT (R83). -/
def Dev.vacant (d : Dev) (h : Half) (i : Nat) : Bool :=
  match (d.ownPoints h).find? (·.cfg.index == i) with
  | some p => decide (p.state = .counting) && decide (p.pas.pos = .vacant) && decide (p.cfg.kind ≠ .remote)
  | none => false

/-- The own point with index `i`. -/
def Dev.ownPoint (d : Dev) (h : Half) (i : Nat) : Option Point := (d.ownPoints h).find? (·.cfg.index == i)

def Dev.onOwn (h : Half) (i : Nat) (f : Point → Point) : Dev → Dev := Dev.mapOwn h fun p => if p.cfg.index == i then f p else p

/-! ## Reading records (R81) -/

def sideOf (i : Nat) : Side := if i % 2 = 0 then .A else .B

/-- The occupancy records of a head in a capture set, in ascending order of hi. -/
def insertRec (r : OccRec) : List OccRec → List OccRec
  | [] => [r]
  | x :: xs => if r.hi < x.hi then r :: x :: xs else x :: insertRec r xs

def Dev.occRecs (d : Dev) (head : Nat) (edges : List EdgeRec) : List OccRec :=
  let mine := edges.filter fun e => e.sys / 2 == head && e.sys < 32 && decide (e.cmp = .occ)
  (mine.map fun e => ({ side := sideOf e.sys, level := e.level != (d.sys e.sys).cfg.polarity, lo := e.lo, hi := e.hi
                        res := e.resampled, fr := e.fr } : OccRec)).foldl (fun acc r => insertRec r acc) []

/-! ## The state machine (R83 to R88) -/

/-- What one record does: a new passage (a reversal counted or not), an axle event, or a fault. -/
inductive PointStep
  | moved (p : Passage) (reversal : Bool)
  | event (p : Passage) (ba : Bool) (tOn : Option Nat) (tOff : Nat)
  | fail (code : Nat)
  deriving DecidableEq, Repr

/-- Records the hi of an edge on its side. -/
def Passage.stamp (p : Passage) (r : OccRec) : Passage :=
  match r.side, r.level with
  | .A, true => { p with onA := r.hi }
  | .A, false => { p with offA := r.hi }
  | .B, true => { p with onB := r.hi }
  | .B, false => { p with offB := r.hi }

/-- The position that holds only side `x`. -/
def onlyPos : Side → Position
  | .A => .aOnly
  | .B => .bOnly

/-- R86: a lone occupancy of `side` that ends with `r`. A passage that reaches BOTH in between ends the memory of the
earlier one (DESIGN CHOICE, log 112). -/
def Passage.loneEnd (cfg : PointRec) (side : Side) (r : OccRec) (p : Passage) : PointStep :=
  let onHi := match side with | .A => p.onA | .B => p.onB
  let clash := match p.lone with
    | some (s, off) => decide (s ≠ side) && decide (onHi ≤ off + cfg.tgap * 96000)
    | none => false
  if clash then .fail 0x41
  else .moved { p with pos := .vacant, res := false, lone := some (side, r.hi) } false

/-- Table CNT-2 and its mirror (R84), after R88 has let the record pass. -/
def Passage.move (cfg : PointRec) (r : OccRec) (p : Passage) : PointStep :=
  let p := { p.stamp r with last := some r, res := p.res || r.res }
  let far := decide (r.side ≠ p.entry)
  match p.pos, r.level with
  | .vacant, true =>
    .moved { p with pos := onlyPos r.side, entry := r.side, overlap := false, res := r.res } false
  | .vacant, false => .moved p false
  | .both, true => .moved p false
  | .both, false =>
    .moved { p with pos := match r.side with | .A => .bOnly | .B => .aOnly } false
  | pos, true =>
    if pos = onlyPos r.side then .moved p false
    else .moved { p with pos := .both, overlap := true, bothByFar := far, lone := none } false
  | pos, false =>
    if pos ≠ onlyPos r.side then .moved p false
    else if far then
      let v := { p with pos := .vacant, res := false, lone := none }
      match p.entry with
      | .A => .event v false (if p.bothByFar then some (p.onB - p.onA) else none) (p.offB - p.offA)
      | .B => .event v true (if p.bothByFar then some (p.onA - p.onB) else none) (p.offA - p.offB)
    else if p.overlap then .moved { p with pos := .vacant, res := false, lone := none } true
    else p.loneEnd cfg r.side r

/-- R87: a transit of `t` cycles is below 0.8 · s / v_max. -/
def tooFast (cfg : PointRec) (t : Nat) : Bool := t * cfg.vmax * 10 < 96 * 8 * 3600 * cfg.spacing

/-- R88 first, then the transition, then R87. -/
def Passage.apply (cfg : PointRec) (r : OccRec) (p : Passage) : PointStep :=
  let unresolved := match p.last with
    | some l => decide (l.side ≠ r.side) && decide (r.lo ≤ l.hi)
    | none => false
  if unresolved then .fail 0x40
  else match p.move cfg r with
    | .event q ba tOn tOff =>
      if tooFast cfg tOff || (match tOn with | some t => tooFast cfg t | none => false) then .fail 0x42
      else .event q ba tOn tOff
    | x => x

/-- An event as it leaves the point machine: the raw event, hi of the completing edge, the verdict it waits for. -/
structure Completed where
  ev : RawEvent
  hi : Nat
  wait : Wait
  deriving DecidableEq, Repr

/-- A point with the events of a frame and the fault that ended its records. -/
structure PointRun where
  pt : Point
  evs : List Completed := []
  fault : Option Nat := none
  deriving DecidableEq, Repr

/-- One record of a point. An event whose T_on is not taken shows 0 in PA_LASTEV.TON (DESIGN CHOICE, log 111). -/
def Point.runRec (r : OccRec) (x : PointRun) : PointRun :=
  match x.fault with
  | some _ => x
  | none =>
    match x.pt.pas.apply x.pt.cfg r with
    | .moved q rev => { x with pt := { x.pt with pas := q, reversals := if rev then x.pt.reversals + 1 else x.pt.reversals } }
    | .event q ba tOn _ =>
      let res := x.pt.pas.res || r.res
      let q' := x.pt.pas.stamp r
      { x with
        pt := { x.pt with pas := q }
        evs := x.evs ++ [{
          ev := { point := x.pt.cfg.index, ba, res, frame := r.fr, dtime := dtOf r.hi
                  ton := match tOn with | some t => min 65535 (t / 960) | none => 0 }
          hi := r.hi
          wait := { onA := q'.onA, onB := q'.onB, offA := q'.offA, offB := q'.offB, ba } }] }
    | .fail c => { x with pt := x.pt.disturb, fault := some c }

/-! ## Step 1 of a frame's work for one point -/

/-- R90: the frames counted toward recovery. -/
def Dev.recoverStep (d : Dev) (p : Point) : Nat :=
  let sa := d.sys (2 * p.cfg.owner)
  let sb := d.sys (2 * p.cfg.owner + 1)
  if p.entered ≠ 0 || sa.occFrame || sb.occFrame || (p.startup && !(sa.usable && sb.usable)) then 0
  else satAdd 8 p.recover 1

/-- R122: a system of the point overflowed its capture in the closed frame. -/
def Dev.overflowed (d : Dev) (p : Point) : Option Nat :=
  if (d.sys (2 * p.cfg.owner)).overflowClosed || (d.sys (2 * p.cfg.owner + 1)).overflowClosed then some 0x40 else none

/-- Step 1 for point `p` on the frame's edges: cause, overflow (R122), records. -/
def Dev.pointFrame (d : Dev) (edges : List EdgeRec) (p : Point) : PointRun :=
  match p.state with
  | .counting =>
    if d.pointCause p.cfg || (d.overflowed p).isSome then { pt := p.disturb, fault := d.overflowed p }
    else (d.occRecs p.cfg.owner edges).foldl (fun x r => Point.runRec r x) { pt := p }
  | _ => { pt := { p with recover := d.recoverStep p }, fault := d.overflowed p }

/-! ## The journal (R92 to R95) -/

def JEntry.pending (e : JEntry) : Nat := e.consumers.length

/-- Entries written since the internal reset, over both halves (R395). -/
def Dev.jHead (d : Dev) : Nat := d.nodeA.journal.head + d.nodeB.journal.head

/-- Indices of the unreleased entries. -/
def Journal.open_ (j : Journal) : List Nat := (j.entries.filter fun e => e.pending ≠ 0).map (·.idx)

/-- R95: the journal span. -/
def Dev.span (d : Dev) : Nat :=
  match d.nodeA.journal.open_ ++ d.nodeB.journal.open_ with
  | [] => 0
  | i :: is => d.jHead - is.foldl min i

/-- An axle event with its number, as steps 3 and 4 take it; `owner` is 0 for this node's own events. -/
structure AxleEvt where
  owner : Nat := 0
  eseq : Word := 0
  point : Nat := 0
  ba : Bool := false
  verdict : Verdict := .pending
  deriving DecidableEq, Repr

/-- Drops the entry whose slot index `idx` reuses. -/
def Journal.reuse (idx : Nat) (j : Journal) : Journal :=
  { j with entries := j.entries.filter fun e => decide (idx < e.idx + 4096) }

/-- The oldest waiting event without a number takes this one. -/
def numberWait (seq : Word) : List Wait → List Wait
  | [] => []
  | w :: ws => if w.numbered then w :: numberWait seq ws else { w with eseq := seq, numbered := true } :: ws

/-- R92, R93, R95: an event takes its number and, where the ring has room, its slot. -/
def Dev.number (h : Half) (ev : RawEvent) (member : Option Nat) (d : Dev) : AxleEvt × Dev :=
  let n := d.node h
  let seq := n.journal.nextSeq
  let idx := d.jHead
  let full := 4096 ≤ d.span
  let subs := match n.point ev.point with | some p => if p.cfg.publish then p.cfg.subs else [] | none => []
  let entry : JEntry :=
    { idx, seq, member, mtag := ev.mtag, ba := ev.ba, res := ev.res, point := ev.point, frame := ev.frame, dtime := ev.dtime, consumers := subs }
  let d := if full then d else
    { d with nodeA := { d.nodeA with journal := d.nodeA.journal.reuse idx }
             nodeB := { d.nodeB with journal := d.nodeB.journal.reuse idx } }
  let d := d.onNode h fun n =>
    let n := { n with journal := { n.journal with
      nextSeq := seq + 1
      entries := if full then n.journal.entries else n.journal.entries ++ [entry]
      noSlot := if full then n.journal.noSlot ++ [entry] else n.journal.noSlot
      head := if full then n.journal.head else n.journal.head + 1 } }
    n.onPoint ev.point fun p =>
      let p := { p with eseq := seq, lastBa := ev.ba, lastV := .pending, lastRes := ev.res, ton := ev.ton
                        events := satAdd 16 p.events 1, waits := numberWait seq p.waits }
      if full then { p.disturb with jfull := true } else p
  ({ owner := 0, eseq := seq, point := ev.point, ba := ev.ba }, if full then d.raise 0x43 .device 0 h else d)

/-- R95: a peer that is unheard for its missed-cycle limit. -/
def Peer.gone (p : Peer) : Bool := !p.heard && p.cfg.missed ≤ p.missed

/-- R95: the consumers that are gone leave every entry; one that is heard again rejoins. -/
def Node.dropUnheard (n : Node) : Node :=
  let gone := (n.line.peers.filter Peer.gone).map (·.cfg.address)
  let lost := fun (c : Nat) => n.journal.entries.any fun e => e.consumers.contains c
  { n with
    journal := { n.journal with entries := n.journal.entries.map fun e => { e with consumers := e.consumers.filter fun c => !gone.contains c } }
    line := { n.line with peers := n.line.peers.map fun p => if p.gone && lost p.cfg.address then { p with dropped := true } else p } }

def Node.withPressure (n : Node) : Node := { n with journal := { n.journal with pressure := true } }

/-- R95 at the end of a frame's counting: the warning, the consumers removed, recovery of 0x43. -/
def Dev.journalPressure (d : Dev) : Dev :=
  if d.span < 3584 then
    d.halves.foldl (fun d h => (d.onNode h fun n => { n with
        journal := { n.journal with pressure := false }, points := n.points.map fun p => { p with jfull := false } }).clearF
      0x43 .device 0 h) d
  else
    d.halves.foldl (fun d h => d.onNode h fun n => n.dropUnheard.withPressure) d

/-- R94, R105: a verdict reaches its journal entry and the point's last event. -/
def Node.journalVerdict (eseq : Word) (v : Verdict) (n : Node) : Node :=
  { n with
    journal := { n.journal with
      entries := n.journal.entries.map (fun e => if e.seq = eseq ∧ e.verdict = .pending then { e with verdict := v } else e)
      noSlot := n.journal.noSlot.filter fun e => decide (e.seq ≠ eseq) }
    points := n.points.map fun p =>
      if p.eseq = eseq ∧ p.lastV = .pending ∧ p.cfg.kind ≠ .remote then { p with lastV := v } else p }

/-! ## Disturbing points from outside step 1 -/

/-- Every local point of the device goes DISTURBED (R26, Table FLT-1). -/
def Dev.disturbLocal (d : Dev) : Dev :=
  d.halves.foldl (fun (d : Dev) h => d.mapOwn h fun p => if d.runsPoint p.cfg then p.disturb else p) d

/-- The point that system `i` belongs to. -/
def Dev.onHead (i : Nat) (f : Point → Point) (d : Dev) : Dev :=
  d.mapOwn (d.halfOfSys i) fun p => if d.runsPoint p.cfg && p.cfg.owner == i / 2 then f p else p

/-- The point of system `i` goes DISTURBED (R390, R325). -/
def Dev.disturbPointOf (i : Nat) (d : Dev) : Dev := d.onHead i Point.disturb

/-! ## Meanings -/

/-- R82: the records of an excursion's system leave the open set; a merged record replaces them when the level
changed, else a hidden excursion is counted. -/
def Dev.endExcursion (i endAt : Nat) (x : Excursion) (d : Dev) : Dev :=
  let s := d.sys i
  let mine := fun (e : EdgeRec) => e.sys == i && decide (e.cmp = .occ) && decide (x.start ≤ e.hi) && decide (e.hi ≤ endAt)
  let rest := d.capOpen.edges.filter fun e => !mine e
  let d := d.onSys i fun s => { s with exc := none }
  if s.occ = x.before then
    let count := fun (p : Point) => { p with hidden := satAdd 8 p.hidden 1 }
    { d.onHead i count with
      capOpen := { d.capOpen with edges := rest } }
  else
    { d with capOpen := { d.capOpen with edges := rest ++
      [{ sys := i, cmp := .occ, level := s.cOcc.level, lo := x.start, hi := endAt, resampled := true, merged := true, fr := d.frame }] } }

/-- BAND_EXCURSION_END (R82). -/
def execBandExcursionEnd (i : Fin 33) (cyc : Nat) : State → Out :=
  upIn (fun d => d.halfOfSys i) fun d =>
    match (d.sys i).exc with
    | some x => match x.release with
      | some r => if r + bandSpan ≤ d.stamp cyc then d.endExcursion i (r + bandSpan) x else d
      | none => d
    | none => d

/-- R90: both levels 0 for 200 frames, no cause, both systems usable. -/
def Dev.pointRecovers (d : Dev) (p : Point) : Bool :=
  decide (p.state = .disturbed) && p.entered = 0 && 200 ≤ p.recover && !d.pointCause p.cfg && !p.jfull

def Point.recovered (p : Point) : Point := { p with state := .counting, pas := {}, recover := 0, startup := false }

/-- POINT_RECOVERY (R90). -/
def execPointRecovery (h : Half) (i : Nat) : State → Out :=
  upIn (fun _ => h) fun d =>
    match d.ownPoint h i with
    | some p =>
      if d.runsPoint p.cfg && d.pointRecovers p then
        let d := d.onOwn h i Point.recovered
        [0x40, 0x41, 0x42, 0x72].foldl (fun d c => d.clearPt h i c) d
      else d
    | none => d

/-- REMOTE_POINT_OFFLINE_TIMEOUT (R91): 500 ms, 1 000 frames, after the activation. -/
def execRemotePointOfflineTimeout (h : Half) (i : Nat) : State → Out :=
  upIn (fun _ => h) fun d =>
    match (d.node h).point i with
    | some p =>
      if decide (p.cfg.kind = .remote) && decide (p.state = .offline) && !p.heardOnce && 1000 ≤ d.ago d.rig.actFrame
      then d.raisePt h i 0x44 else d
    | none => d

/-- R73: at cycle `cyc` of the open frame the event's t_v has come in this frame. -/
def Dev.verdictDue (d : Dev) (cyc : Nat) (w : Wait) : Bool := d.stamp 0 ≤ w.verdictAt && w.verdictAt ≤ d.stamp cyc

/-- CLASSIFIER_VERDICT (R71 to R73): the verdict of the point's waiting event whose t_v has come enters the open
capture set. -/
def execClassifierVerdict (h : Half) (i : Nat) (a b : List CurSample) (cyc : Nat) : State → Out :=
  upIn (fun _ => h) fun d =>
    match (d.ownPoint h i).filter fun p => d.runsPoint p.cfg with
    | some p => match p.waits.find? (d.verdictDue cyc) with
      | some w =>
        let v := d.classify h p.cfg w a b
        let d := d.onOwn h i fun p => { p with waits := p.waits.erase w }
        let q := if d.stackPos ≠ 0 then some (BitVec.ofNat 32 w.mtag) else if w.numbered then some w.eseq else none
        { d with capOpen := { d.capOpen with verdicts := d.capOpen.verdicts ++ [(h, i, q, v)] } }
      | none => d
    | none => d

end Sys2Proof.Machine
end

