-- ==== Sys2Proof/Machine/Section.lean ====
section
/-! DEFINITION. Sections (06): counts (R99, R100), states (R101 to R105), verdict limits (R106), resets (R107 to
R113) and the two phases of a host reset (R111, R112), with the meanings of VERDICT_OVERDUE and RESET_ARM_EXPIRY. -/
namespace Sys2Proof.Machine

def Dev.raiseSect (h : Half) (i code : Nat) (d : Dev) : Dev := d.raise code .sect i h
def Dev.sectFault (d : Dev) (h : Half) (i code : Nat) : Bool := d.hasFault code .sect i h

/-! ## Step 4: events and verdicts -/

/-- R100: the count saturates and never wraps. -/
def satCount (c : Int) : Int := max (-32768) (min 32767 c)

/-- R99: +1 for AB at an inward or BA at an outward boundary, else −1. -/
def countStep (outward ba : Bool) : Int := if outward = ba then 1 else -1

/-- R100: the count describes the track. -/
def Sect.inRange (s : Sect) : Bool := decide (0 ≤ s.count) && decide (s.count ≤ 30000)

/-- An axle event moves the count and joins the contributing set (R99). -/
def Sect.applyEvent (frame : Word) (e : AxleEvt) (s : Sect) : Sect :=
  match s.bounds.find? (·.1 == e.point) with
  | none => s
  | some b =>
    let c := satCount (s.count + countStep b.2 e.ba)
    { s with count := c, rose := s.rose || 1 ≤ c
             contrib := s.contrib ++ [{ owner := e.owner, eseq := e.eseq, verdict := e.verdict, frame }] }

/-- R100: the events of a frame in order, and whether the count was outside its range after one of them. -/
def Sect.applyEvents (frame : Word) (evs : List AxleEvt) (s : Sect) : Sect × Bool :=
  evs.foldl (fun (x : Sect × Bool) e => let s := x.1.applyEvent frame e; (s, x.2 || !s.inRange)) (s, false)

/-- A verdict of an event of `owner` (0 for this node). -/
structure VerdictIn where
  owner : Nat := 0
  eseq : Word := 0
  verdict : Verdict := .wheel
  deriving DecidableEq, Repr

/-- R105: a verdict reaches the contributing event that still waits for one. -/
def Sect.applyVerdict (v : VerdictIn) (s : Sect) : Sect :=
  { s with contrib := s.contrib.map fun c =>
      if c.owner = v.owner ∧ c.eseq = v.eseq ∧ c.verdict = .pending then { c with verdict := v.verdict } else c }

def Sect.pending (s : Sect) : Bool := s.contrib.any (fun c => decide (c.verdict = .pending))
def Sect.allWheel (s : Sect) : Bool := s.contrib.all (fun c => decide (c.verdict = .wheel))

/-- The boundary points of a section with their states. -/
def Node.boundPoints (n : Node) (s : Sect) : List Point := s.bounds.filterMap fun b => n.point b.1

/-- R102: a boundary point is DISTURBED or OFFLINE. -/
def Node.pointsDisturb (n : Node) (s : Sect) : Bool :=
  s.bounds.any fun b => match n.point b.1 with
    | some p => decide (p.state ≠ .counting)
    | none => true

/-- The faults a frame's step 4 raises on a section: 0x48 where the count left its range, 0x45, 0x46. -/
def Sect.newFaults (before : Sect) (active : Nat → Bool) (left : Bool) (s : Sect) : List Nat :=
  let nw := fun (x : Sect) => (x.contrib.filter fun c => decide (c.verdict = .nonWheel)).length
  (if left && !active 0x48 then [0x48] else [])
  ++ (if nw before < nw s then [0x45] else [])
  ++ (if s.count = 0 && !s.pending && s.contrib.any (fun c => decide (c.verdict = .uncertain)) && !active 0x46
      then [0x46] else [])

/-- Goes CLEAR: the contributing set is emptied (Table SEC-2). -/
def Sect.clear (s : Sect) : Sect := { s with state := .clear, contrib := [], rose := false }

/-- R104: the rejoin of a RESTING section takes the state its count and verdicts give. -/
def Sect.byCount (s : Sect) : Sect := if s.count = 0 && s.allWheel then s.clear else { s with state := .occupied }

/-- Table SEC-2 without resets: `cause` a cause of R102, `moved` events applied in this frame, `rejoined` R104. -/
def Sect.transit (cause moved rejoined : Bool) (s : Sect) : Sect :=
  if cause then { s with state := .disturbed, rose := false, rejoin := none }
  else match s.state with
    | .clear => if !moved then s else if s.count = 0 && s.allWheel then s.clear else { s with state := .occupied }
    | .occupied => if s.count = 0 && s.allWheel then s.clear else s
    | .disturbed => s
    | .prep => if s.rose && s.count = 0 && s.allWheel then s.clear else s
    | .resting =>
      if moved && !(s.count = 0 && s.allWheel) then { s with state := .occupied, rejoin := none }
      else if rejoined then { s.byCount with rejoin := none }
      else if moved then { s with contrib := [] } else s

/-- Step 4 of a frame's work for one section. -/
def Dev.sectFrame (h : Half) (evs : List AxleEvt) (vs : List VerdictIn) (i : Nat) (d : Dev) : Dev :=
  match (d.node h).sect i with
  | none => d
  | some s0 =>
    let s : Sect := { s0 with resetDone := false }
    let x := s.applyEvents d.frame evs
    let s := x.1
    let moved := s0.contrib.length < s.contrib.length
    let s := vs.foldl (fun (s : Sect) v => s.applyVerdict v) s
    let faults := Sect.newFaults s0 (d.sectFault h i) x.2 s
    let cause := !faults.isEmpty || (d.node h).pointsDisturb s
    let s := s.transit cause moved (decide (s.rejoin = some []))
    let s := { s with s4state := s.state, s4count := s.count, caused := if cause then some d.frame else s.caused }
    let d := faults.foldl (fun d c => d.raiseSect h i c) d
    let wake := decide (s0.state = SectionState.resting) && decide (s.state = SectionState.occupied)
    d.onNode h fun n =>
      let n := n.onSect i fun _ => s
      if wake then n.onLine fun l => { l with wakeReq := true } else n

/-- R102: a section whose boundary point is DISTURBED or OFFLINE at a frame boundary goes DISTURBED there. -/
def Node.disturbSections (frame : Word) (n : Node) : Node :=
  { n with sections := n.sections.map fun s => if n.pointsDisturb s && decide (s.state ≠ .disturbed) then { s.transit true false false with caused := some frame } else s }

/-- Step 4 for every section of a half. -/
def Dev.sectionsFrame (h : Half) (evs : List AxleEvt) (vs : List VerdictIn) (d : Dev) : Dev :=
  ((d.node h).sections.map (·.cfg.index)).foldl (fun d i => d.sectFrame h evs vs i) d

/-! ## Reset (R107, R108, R113) -/

/-- Sources of a reset request, as SA_RESINFO codes them. -/
structure ResetSource where
  source : Nat := 3
  input : Nat := 0
  deriving DecidableEq, Repr

/-- Table SEC-3: the states from which a reset is accepted, and the kind the rig permits. -/
def Sect.resetState (direct : Bool) (state : SectionState) (s : Sect) : Bool :=
  (decide (state = .disturbed) || (decide (state = .occupied) && s.cfg.fromOcc)) && (!direct || s.cfg.direct)

/-- Table SEC-3 whole; `vacant` tells of the boundary points (R83). -/
def Node.resetMeets (n : Node) (vacant : Nat → Bool) (direct : Bool) (s : Sect) : Bool :=
  s.resetState direct s.state
  && (s.bounds.all fun b => match n.point b.1 with
      | some p => decide (p.state = .counting) && (!direct || (vacant b.1 && decide (p.cfg.kind ≠ .remote)))
      | none => false)
  && (!direct || !s.pending)

/-- The section after an executed reset. -/
def Sect.reset (direct : Bool) (src : ResetSource) (frame : Word) (s : Sect) : Sect :=
  { s with state := if direct then .clear else .prep, count := 0, contrib := [], rose := false, rejoin := none
           resetDone := true, resFrame := frame, resDirect := direct, resSource := src.source, resInput := src.input
           resResult := 1 }

/-- R107, R113: a reset request; the status it completes with. A cause of R102 in the same frame takes precedence
(R103). SA_RESINFO.RESULT 3 tells of a request that Table SEC-3 turned away; a command that is denied before it
requests a reset leaves RESULT alone (DESIGN CHOICE, log 116). -/
def Dev.requestReset (h : Half) (i : Nat) (direct : Bool) (src : ResetSource) (d : Dev) : Status × Dev :=
  match (d.node h).sect i with
  | none => (.denied, d)
  | some s =>
    if decide (s.state = .prep) || s.resetDone then
      (.ok, d.onNode h fun n => { (n.onSect i fun s =>
        { s with resResult := 2, nRedund := satAdd 16 s.nRedund 1 }) with redundant := n.redundant + 1 })
    else if (d.node h).resetMeets (d.vacant h) direct s && decide (s.caused ≠ some d.frame) then
      let d := d.onNode h fun n =>
        { (n.onSect i fun s => s.reset direct src d.frame) with resets := n.resets + 1 }
      (.ok, [0x45, 0x46, 0x47, 0x48].foldl (fun d c => d.clearF c .sect i h) d)
    else (.denied, d.onNode h fun n => n.onSect i fun s => { s with resResult := 3 })

/-! ## Host reset (R111, R112) -/

/-- Armed resets of the device. -/
def Dev.armed (d : Dev) : Nat :=
  ((d.nodeA.sections ++ d.nodeB.sections).filter fun s => s.arm.isSome).length

/-- The frames within which a confirm must be accepted. -/
def armLimit : Nat := 20000

/-- The arm phase; `accepted` is the frame that accepted it: denied, or the arm with its nonce. -/
def Dev.armReset (h : Half) (i : Nat) (direct : Bool) (port : Fin 2) (nonce accepted : Word) (d : Dev) : Status × Dev :=
  match (d.node h).sect i with
  | none => (.denied, d)
  | some s =>
    if s.resetState direct s.s4state && (s.arm.isSome || d.armed < 8) then
      (.ok, d.onNode h fun n => n.onSect i fun s =>
        { s with arm := some { direct, port, nonce, state := s.s4state, count := s.s4count, frame := accepted } })
    else (.denied, d)

/-- R112: the port may confirm this arm, and has not yet done so. -/
def Sect.portMay (s : Sect) (a : Arm) (port : Fin 2) : Bool := s.cfg.dual || decide (a.port = port)

def Arm.confirm (port : Fin 2) (a : Arm) : Arm :=
  if port = 0 then { a with conf0 := true } else { a with conf1 := true }

/-- The confirm phase (R111): nonce, then kind (none where PAR0 names no kind), port and binding, then Table SEC-3 at the last confirmation. -/
def Dev.confirmReset (h : Half) (i : Nat) (kind : Option Bool) (port : Fin 2) (nonce accepted : Word) (d : Dev) : Status × Dev :=
  let void := fun (d : Dev) => d.onNode h fun n => n.onSect i fun s => { s with arm := none }
  match (d.node h).sect i with
  | none => (.denied, d)
  | some s => match s.arm with
    | none => (.denied, d)
    | some a =>
      if a.nonce ≠ nonce then (.denied, d)
      else if kind ≠ some a.direct || !s.portMay a port || a.state ≠ s.s4state || a.count ≠ s.s4count
          || armLimit < since accepted a.frame then (.denied, void d)
      else
        let a := a.confirm port
        if s.cfg.dual && !(a.conf0 && a.conf1) then
          (.ok, d.onNode h fun n => n.onSect i fun s => { s with arm := some a })
        else d.requestReset h i a.direct { source := port.val + 1 } |> fun r => (r.1, void r.2)

/-! ## Meanings -/

/-- R106: a contributing verdict of the section is overdue; its limit is in ms, two frames each. -/
def Dev.overdue (d : Dev) (s : Sect) : Bool :=
  s.contrib.any fun c => decide (c.verdict = .pending) && decide (2 * s.cfg.vlimit ≤ d.ago c.frame)

/-- VERDICT_OVERDUE (R106). -/
def execVerdictOverdue (h : Half) (i : Nat) : State → Out :=
  upIn (fun _ => h) fun d =>
    match (d.node h).sect i with
    | some s =>
      if d.overdue s && !d.sectFault h i 0x47 then
        (d.onNode h fun n => n.onSect i fun s => { s.transit true false false with caused := some d.frame }).raiseSect h i 0x47
      else d
    | none => d

/-- RESET_ARM_EXPIRY (R111): a confirm that was accepted in the window's last frame executes in the frame after it. -/
def execResetArmExpiry (h : Half) (i : Nat) : State → Out :=
  upIn (fun _ => h) fun d =>
    match (d.node h).sect i with
    | some s => match s.arm with
      | some a => if armLimit + 1 < d.ago a.frame then d.onNode h fun n => n.onSect i fun s => { s with arm := none } else d
      | none => d
    | none => d

end Sys2Proof.Machine
end

