-- ==== Sys2Proof/Machine/Input.lean ====
section
/-! DEFINITION. Safe inputs, EDM inputs and test-pulse sources (08: R142, R146 to R149, R409; 06: R109, R110) with the
meanings of their commands. Inputs 0 to 11 are SIN0 to SIN11, 12 to 19 are EDM0 to EDM7. -/
namespace Sys2Proof.Machine

def Dev.inpFault (d : Dev) (i code : Nat) : Bool := d.hasFault code .input i (d.halfOfInp i)
def Dev.srcFault (d : Dev) (k : Nat) : Bool := d.hasFault 0x5A .tps k (d.halfOfSrc k)

/-- R148, R146: a faulty input reads OFF for every use. -/
def Dev.inpFaulty (d : Dev) (i : Nat) : Bool :=
  d.inpFault i 0x58 || d.inpFault i 0x59 || d.srcFault (d.inp i).cfg.src

/-- The level an input has for its uses. -/
def Dev.inpOn (d : Dev) (i : Nat) : Bool := (d.inp i).filt && !d.inpFaulty i

/-- R142: EDM of output `n` is closed. -/
def Dev.edmClosed (d : Dev) (n : Nat) : Bool := d.inpOn (12 + n)

/-! ## The filtered level (R147) -/

/-- R146: the frame is a pulse frame of source `k`. -/
def pulseFrame (frame : Word) (k : Nat) : Bool := frame.toNat % 8 == 2 * k

/-- Cycle `cyc` of the frame lies in the span the filter of an input on source `k` ignores. -/
def inSpan (frame : Word) (k cyc : Nat) : Bool := pulseFrame frame k && 300 * 96 ≤ cyc && cyc ≤ 480 * 96

/-- A change that a span hid stands from the span's end. -/
def Input.settleSpan (t : Nat) (i : Input) : Input :=
  if i.raw ≠ i.lvl && i.spanEnd < t then { i with lvl := i.raw, rawSince := i.spanEnd } else i

/-- A raw edge at stamp `t`; `spanEnd` where it falls into an ignored span. -/
def Input.rawEdge (on : Bool) (t : Nat) (spanEnd : Option Nat) (i : Input) : Input :=
  let i := i.settleSpan t
  match spanEnd with
  | some e => { i with raw := on, spanEnd := e }
  | none => if i.lvl = on then { i with raw := on } else { i with raw := on, lvl := on, rawSince := t }

/-- SAFE_INPUT_EDGE (R147). -/
def execSafeInputEdge (i : Fin 20) (on : Bool) (cyc : Nat) : State → Out :=
  up fun d => d.onInp i fun x =>
    x.rawEdge on (d.stamp cyc) (if inSpan d.frame x.cfg.src cyc then some (d.stamp (480 * 96)) else none)

/-! ## Presses (R109, R110, R150) -/

/-- Uses whose presses count (R149). -/
def InputUse.presses : InputUse → Bool
  | .reset | .outClear => true
  | _ => false

/-- Input `e` has been free of input faults since stamp `t`. -/
def Dev.faultFree (d : Dev) (e t : Nat) : Bool :=
  !d.inpFaulty e && (match (d.inp e).faultEnd with | some f => decide (f < t) | none => true)

/-- The named enable input, if any, has been on since `t`. -/
def Dev.enabledSince (d : Dev) (i : Input) (t : Nat) : Bool :=
  match i.cfg.enable with
  | some e => (d.inp e).filt && d.faultFree e t && (d.inp e).filtAt ≤ t
  | none => true

/-- The request an accepted press makes. -/
def Input.request (i : Input) : InputReq :=
  match i.cfg.use with
  | .outClear => .clear i.id i.cfg.outmask
  | _ => .reset i.id i.cfg.sect i.cfg.direct

/-- A cause at stamp `t` against the press that runs: the earliest one stays. -/
def Input.spoil (t : Nat) (i : Input) : Input :=
  { i with pressBad := some (match i.pressBad with | some b => min b t | none => t) }

/-- Input `e` fails a press of its own, or one that names it as its enable, at stamp `t`. -/
def Dev.breakPresses (e t : Nat) (d : Dev) : Dev :=
  { d with inputs := mapIf (fun i => decide (i.cfg.enable = some e) || i.id == e) (Input.spoil t) d.inputs }

/-- The cause lies within the press that ends at stamp `t` (R109). -/
def Input.spoilt (t : Nat) (i : Input) : Bool :=
  match i.pressBad with
  | some b => decide (b < t)
  | none => false

/-- A press ends with the filtered off edge stamped `t`: its length in ms decides. A press that its enable input or an
input fault broke leaves IA_PRESS.RESULT 0 (DESIGN CHOICE, log 117). -/
def Input.endPress (t : Nat) (i : Input) : Input × Option InputReq :=
  let ms := (t - i.pressAt) / 96000
  let i := { i with pressing := false, lastPress := min 65535 ms }
  if ms < 50 then ({ i with result := 2, tooShort := satAdd 8 i.tooShort 1 }, none)
  else if 3000 < ms then ({ i with result := 3, tooLong := satAdd 8 i.tooLong 1 }, none)
  else if i.spoilt t then ({ i with result := 0 }, none)
  else ({ i with result := 1, accepted := satAdd 16 i.accepted 1 }, some i.request)

/-- The filtered level of input `i` changes (R147), with what a press makes of it. -/
def Dev.filteredEdge (i : Nat) (d : Dev) : Dev :=
  let x := (d.inp i).settleSpan (d.stamp (500 * 96))
  if x.lvl = x.filt || d.stamp (500 * 96) < x.rawSince + 5000 * 96 then d
  else
    let on := x.lvl
    let x := { x with filt := on, filtAt := x.rawSince, onFrame := if on then d.frame else x.onFrame
                      offFrame := if on then x.offFrame else d.frame }
    if !x.cfg.use.presses || 12 ≤ i then
      let d := d.onInp i fun _ => x
      if on then d else d.breakPresses i x.filtAt
    else if on then
      let bad := !d.faultFree i x.filtAt || !d.enabledSince x x.filtAt
      d.onInp i fun _ => if x.ignored then x else { x with pressing := true, pressAt := x.filtAt, pressBad := if bad then some x.filtAt else none }
    else if x.pressing then
      let r := x.endPress x.filtAt
      let d := d.onInp i fun _ => r.1
      match r.2 with
      | some q => { d with capOpen := { d.capOpen with inputs := d.capOpen.inputs ++ [q] } }
      | none => d
    else d.onInp i fun _ => x

/-- INPUT_FILTERED_EDGE (R147, R109, R150). -/
def execInputFilteredEdge (i : Fin 20) : State → Out := upIn (fun d => d.halfOfInp i) fun d => if (d.inp i).defd then d.filteredEdge i else d

/-- R110: an input that has been on too long is ignored; a press under way is discarded and counted. -/
def Input.stick (x : Input) : Input :=
  let x := { x with ignored := true }
  if x.pressing then { x with pressing := false, result := 3, tooLong := satAdd 8 x.tooLong 1 } else x

/-- RESET_INPUT_STUCK (R110): on for more than 5 000 ms. -/
def execResetInputStuck (i : Fin 12) : State → Out :=
  upIn (fun d => d.halfOfInp i) fun d =>
    let x := d.inp i
    if x.defd && x.cfg.use.presses && x.filt && !x.ignored && x.filtAt + 5000 * 96000 < d.stamp (500 * 96) then
      (d.onInp i Input.stick).raise 0x49 .input i (d.halfOfInp i)
    else d

/-- RESET_INPUT_RELEASED (R110): off for 1 000 ms. -/
def execResetInputReleased (i : Fin 12) : State → Out :=
  upIn (fun d => d.halfOfInp i) fun d =>
    let x := d.inp i
    if x.ignored && !x.filt && x.filtAt + 1000 * 96000 ≤ d.stamp (500 * 96) then
      (d.onInp i fun x => { x with ignored := false }).clearF 0x49 .input i (d.halfOfInp i)
    else d

/-! ## Test-pulse sources (R146, R148) -/

/-- The active rig names source `k` (R22). -/
def Dev.tpsNamed (d : Dev) (k : Nat) : Bool := d.inputs.any fun i => i.defd && i.cfg.src == k

def Dev.tpsOn (d : Dev) (k : Nat) : Bool := d.tpsRun && d.tpsNamed k && d.inService (d.halfOfSrc k)

/-- TPS_PULSE_START (R146). -/
def execTpsPulseStart (k : Fin 4) : State → Out :=
  up fun d => if d.tpsOn k && pulseFrame d.frame k then d.onSrc k fun t => { t with on := false } else d

/-- R146: a named source is on in service, outside its pulse; no pulse touches a boundary. -/
def Dev.settleSources (d : Dev) : Dev := { d with tps := d.tps.map fun (t : Tps) => { t with on := d.tpsOn t.id } }

def count3 (l : List Bool) : Bool := 3 ≤ (l.filter (· == true)).length

/-- R148 for one input at a pulse of source `k`; `raw` its raw level at 380 µs. -/
def Input.pulseCheck (k : Nat) (raw : Bool) (i : Input) : Input × List (Nat × Nat) :=
  if i.cfg.src = k then
    let miss := i.filt && raw
    let hist := (miss :: i.missHist).take 16
    ({ i with missHist := hist, cleanRun := if miss then 0 else i.cleanRun + 1 }, if miss && count3 hist then [(0x58, 0xFFFF)] else [])
  else
    let exc := i.filt && !raw
    let run := if exc then ((i.excRun.find? (·.1 == k)).map (·.2)).getD 0 + 1 else 0
    ({ i with excRun := (k, run) :: i.excRun.filter (·.1 ≠ k), cleanRun := if exc then 0 else i.cleanRun
              named := if 2 ≤ run then k else i.named },
     if exc && 2 ≤ run then [(0x59, k)] else [])

/-- Input `i` at a pulse of source `k`. -/
def Dev.pulseInput (k : Nat) (raw : BitVec 20) (i : Nat) (d : Dev) : Dev :=
  let x := d.inp i
  if !x.defd then d
  else
    let r := x.pulseCheck k (raw.getLsbD i)
    let keys := r.2.map fun (c : Nat × Nat) =>
      ({ code := c.1, kind := .input, obj := i, half := d.halfOfInp i, partner := c.2 } : FaultKey)
    { (d.onInp i fun _ => r.1) with capOpen := { d.capOpen with hwFaults := d.capOpen.hwFaults ++ keys } }

/-- TPS_PULSE_END (R146, R148): the source is on again; its node and every input are checked. -/
def execTpsPulseEnd (k : Fin 4) (high low : Bool) (raw : BitVec 20) : State → Out :=
  up fun d =>
    if d.tpsOn k && pulseFrame d.frame k then
      let bad := !(high && low)
      let hist := (bad :: (d.src k).failHist).take 16
      let d := d.onSrc k fun t => { t with on := true, failHist := hist, cleanRun := if bad then 0 else t.cleanRun + 1 }
      let key : FaultKey := { code := 0x5A, kind := .tps, obj := k, half := d.halfOfSrc k }
      let d := if bad && count3 hist then
        { d with capOpen := { d.capOpen with hwFaults := d.capOpen.hwFaults ++ [key] } } else d
      (List.range 20).foldl (fun d i => d.pulseInput k raw i) d
    else d

/-- The faults of an input clear at stamp `t` (R109). -/
def Input.faultsEnd (t : Nat) (i : Input) : Input := { i with faultEnd := some t }

/-- INPUT_FAULT_RECOVERY (R146, R148): 16 consecutive clean pulse frames. -/
def execInputFaultRecovery (source : Bool) (idx : Fin 20) : State → Out :=
  upIn (fun d => if source then d.halfOfSrc idx else d.halfOfInp idx) fun d =>
    if source then
      (if 16 ≤ (d.src idx).cleanRun then
        { d.clearF 0x5A .tps idx (d.halfOfSrc idx) with
          inputs := mapIf (fun i => i.cfg.src == idx.val) (Input.faultsEnd (d.stamp 0)) d.inputs }
       else d)
    else if 16 ≤ (d.inp idx).cleanRun then
      ((d.clearF 0x58 .input idx (d.halfOfInp idx)).clearF 0x59 .input idx (d.halfOfInp idx)).onInp idx (Input.faultsEnd (d.stamp 0))
    else d

/-- A fault that an input or source showed at offset 380 µs of the previous frame; presses under way are broken. -/
def Dev.raiseHw (k : FaultKey) (d : Dev) : Dev :=
  let d := { d with faults := d.faults.raise k }
  let found := d.stamp 0 - 120 * 96
  match k.kind with
  | .input => (d.breakPresses k.obj found).onInp k.obj fun i => { i with faultFrom := found }
  | .tps => (d.inputs.filter fun i => i.cfg.src == k.obj).foldl
      (fun (d : Dev) i => (d.breakPresses i.id found).onInp i.id fun i => { i with faultFrom := found }) d
  | _ => d

end Sys2Proof.Machine
end

