-- ==== Sys2Proof/Machine/Output.lean ====
section
/-! DEFINITION. Safe outputs (08): node classes (R136), the decision (R137), states and faults (R138, R139), off-pulses
(R140, R153), contactor feedback and proof (R143, R144), clears (R150), adoption (R151), with the meanings of
their commands. -/
namespace Sys2Proof.Machine

/-! ## Levels and modes -/

def onLevel (hi lo : NodeClass) : Bool := decide (hi = .high) && decide (lo = .low)
def offLevel (hi lo : NodeClass) : Bool := decide (hi = .low) && decide (lo = .low)

def OutputRec.edm (c : OutputRec) : Bool := decide (c.mode ≠ .offpulse)
def OutputRec.pulses (c : OutputRec) : Bool := decide (c.mode ≠ .edm)

/-- The part of an output's transition that EDM must confirm (R138, R145). -/
def Dev.edmIs (d : Dev) (o : Output) (closed : Bool) : Bool := !o.cfg.edm || d.edmClosed o.id == closed

/-- Frames since the boundary of the output's gate change; 0 while that boundary is still to come. -/
def Dev.gateAge (d : Dev) (o : Output) : Nat := if d.ago o.gateFrame < 2 ^ 31 then d.ago o.gateFrame else 0

def Dev.raiseOut (n code : Nat) (d : Dev) (partner : Nat := 0xFFFF) : Dev := d.raise code .output n (d.halfOfOut n) partner

/-- R139: FAULT, its gates decided off; the code that moved the output there. -/
def Output.toFault (code : Nat) (frame : Word) (o : Output) : Output :=
  if o.state = .fault then o
  else { o with state := .fault, first := code, reqHi := false, reqLo := false, decided := false, pendingMark := false
                gateFrame := frame + 1, standAt := none }

/-- A fault of Table SIO-5 that latches: raised on the output, which goes to FAULT. -/
def Dev.outFault (n code : Nat) (d : Dev) (partner : Nat := 0xFFFF) : Dev :=
  (d.raiseOut n code partner).onOut n fun o =>
    { o.toFault code d.frame with partner := if code = 0x55 then some partner else o.partner }

/-! ## The decision and the transitions of a frame's work -/

/-- R272, step 2: the half's outputs are decided off. -/
def Dev.shuttingOff (d : Dev) (h : Half) : Bool :=
  match d.shut with
  | some r => 2 ≤ r.step && decide (d.halfOfPort r.port = h)
  | none => false

/-- R137. -/
def Dev.decideOn (d : Dev) (o : Output) : Bool :=
  let n := d.node (d.halfOfOut o.id)
  !o.cfg.sections.isEmpty
  && (o.cfg.sections.all fun i => match n.sect i with | some s => decide (s.state = .clear) | none => false)
  && d.inService (d.halfOfOut o.id) && decide (o.state ≠ .fault) && !d.shuttingOff (d.halfOfOut o.id)

/-- A transition that EDM confirmed restarts the proof interval (R144). -/
def Output.confirmed (frame : Word) (o : Output) : Output :=
  if o.cfg.edm then { o with proofStart := frame, proofDue := false, edmMs := min 65535 (since frame o.gateFrame / 2) } else o

/-- The level a wait waits for, in the classes `hi` and `lo`. -/
def Output.waitLevel (o : Output) (hi lo : NodeClass) : Bool :=
  match o.state with
  | .onWait | .adopt => onLevel hi lo
  | .offWait => offLevel hi lo
  | _ => false

/-- The level step of a wait is done once the level has been seen (R138). -/
def Output.reach (frame : Word) (seen : Bool) (o : Output) : Output :=
  if seen && !o.levelOk then { o with levelOk := true, levelFrame := frame } else o

/-- Waits that have what they wait for: ON_WAIT and ADOPT to ON, OFF_WAIT to OFF. -/
def Dev.outSettle (n : Nat) (d : Dev) : Dev :=
  let d := d.onOut n fun o => o.reach d.frame (decide (1 ≤ d.gateAge o) && o.waitLevel o.hiLast o.loLast)
  let o := d.out n
  match o.state with
  | .onWait | .adopt =>
    if o.levelOk && onLevel o.hiLast o.loLast && d.edmIs o false then
      let d := d.onOut n fun o => { (o.confirmed d.frame) with state := .on }
      if o.cfg.edm then d.clearF 0x57 .output n (d.halfOfOut n) else d
    else d
  | .offWait =>
    if o.levelOk && d.edmIs o true then
      let d := d.onOut n fun o => { (o.confirmed d.frame) with state := .off }
      if o.cfg.edm then d.clearF 0x57 .output n (d.halfOfOut n) else d
    else d
  | _ => d

/-- The gate change that opens a wait takes effect at the next boundary. -/
def Output.toWait (on : Bool) (frame : Word) (o : Output) : Output :=
  { o with state := if on then .onWait else .offWait, reqHi := on, reqLo := on, gateFrame := frame + 1
           levelOk := false, pendingMark := false }

/-- R143: the states outside the transitions, from the boundary at which their gates apply, at stamp `t`. -/
def Output.stand (runs : Bool) (t : Nat) (o : Output) : Output :=
  { o with standAt := match o.state with
      | .off | .fault | .on => if runs then some (o.standAt.getD t) else none
      | _ => none }

/-- Step 6 of a frame's work for output `n` (R137, R138, R152). -/
def Dev.outFrame (n : Nat) (d : Dev) : Dev :=
  if !(d.out n).defd then d
  else
    let edmBad := if (d.out n).cfg.edm && decide ((d.out n).state ≠ .fault) then
        (if d.inpFault (12 + n) 0x58 then some 0x58 else if d.inpFault (12 + n) 0x59 then some 0x59
         else if d.srcFault (d.out n).cfg.edmSrc then some 0x5A else none)
      else none
    let d := match edmBad with
      | some c => d.onOut n fun o => o.toFault c d.frame
      | none => d.outSettle n
    let o := d.out n
    let dec := d.decideOn o && !o.hold
    d.onOut n fun o =>
      let o := { o with decided := dec }
      Output.stand d.tpsRun (d.stamp (500 * 96)) (match o.state with
      | .off => if dec then o.toWait true d.frame else { o with pendingMark := false }
      | .onWait | .on | .adopt => if dec then o else o.toWait false d.frame
      | .offWait => if dec then { o with pendingMark := true } else o
      | .fault => { o with reqHi := false, reqLo := false, decided := false })

/-- Step 6 with the checks of the previous frame's pulses before it (R140, R153). -/
def Dev.outputsFrame (h : Half) (d : Dev) : Dev :=
  let d := (d.capClosed.outFaults.filter fun f => decide (d.halfOfOut f.1 = h)).foldl
    (fun (d : Dev) (f : Nat × Nat × Nat) => d.outFault f.1 f.2.1 f.2.2) d
  ((List.range 8).filter fun n => decide (d.halfOfOut n = h)).foldl (fun d n => d.outFrame n) d

/-! ## Off-pulse slots (R140) -/

/-- φ. -/
def phase (frame : Word) : Nat := frame.toNat % 2000

/-- The frame is the slot of a side of output `n`. -/
def slotOf (frame : Word) (n : Nat) (low : Bool) : Bool := phase frame == 250 * n + (if low then 125 else 0)

/-- The slot is not skipped: ON, and a mode with off-pulses. -/
def Output.pulsable (o : Output) : Bool := o.defd && decide (o.state = .on) && o.cfg.pulses

/-- Frames a pulse touches: it runs from 16 µs to 16 µs + P. -/
def framesTouched (p : Nat) : Nat := (16 + p + 499) / 500

/-- R234: from the announcing frame on, no new off-pulse. -/
def Dev.mayPulse (d : Dev) : Bool := !d.dpx.handover && !d.dpx.hold

/-- R14: the frame that opens is touched by an off-pulse; slots are those of outputs in ON at its start (R140). -/
def Dev.offPulseFrame (frame : Word) (d : Dev) : Bool :=
  d.outputs.any fun o =>
    (d.mayPulse && o.slotOn && (slotOf frame o.id false || slotOf frame o.id true))
    || (match o.pulse with | some p => decide (0 < p.framesLeft) | none => false)

/-- R53: a unit that does not hold the claim only observes. -/
def Dev.observes (d : Dev) : Bool := !d.split && !d.dpx.claim && !d.dpx.hold

/-- Gathers a failed check for the next frame's work, or as an observation for SHADOW. -/
def Dev.pulseFail (n code partner : Nat) (d : Dev) : Dev :=
  if d.observes then d
  else { d with capOpen := { d.capOpen with outFaults := d.capOpen.outFaults ++ [(n, code, partner)] } }

def pulseCode (low : Bool) : Nat := if low then 0x51 else 0x50

/-- Outputs other than `n` whose nodes changed class between 8 µs and 16 µs + 0.8 P (R153). -/
def Dev.foreign (d : Dev) (n : Nat) (before after : List (NodeClass × NodeClass)) : List Nat :=
  (d.outputs.filter fun o => o.id ≠ n && decide (d.halfOfOut o.id = d.halfOfOut n) && o.defd && decide (o.state ≠ .onWait) && decide (o.state ≠ .offWait)
    && decide (o.state ≠ .adopt) && 4 ≤ d.gateAge o && decide (before[o.id]? ≠ after[o.id]?)).map (·.id)

/-- OFF_PULSE_START (R140, R153). -/
def execOffPulseStart (n : Fin 8) (low : Bool) (before after : List (NodeClass × NodeClass)) (otherStayed : Bool) : State → Out :=
  upIn (fun d => d.halfOfOut n) fun d =>
    let o := d.out n
    if !(d.mayPulse && o.slotOn && slotOf d.frame n low) then d
    else
      let own := after.getD n (.mid, .mid)
      let ok := (if low then decide (own.2 = .high) else decide (own.1 = .low)) && otherStayed
      let foreign := d.foreign n before after
      let d := d.onOut n fun o => { o with pulse := some { low, framesLeft := framesTouched o.cfg.pulse - 1, failed := !ok } }
      let d := d.driveGates
      let d := if ok then d else d.pulseFail n (pulseCode low) 0xFFFF
      foreign.foldl (fun d y => (d.pulseFail n 0x55 y).pulseFail y 0x55 n) d

/-- OFF_PULSE_END (R140): the gate is back; both nodes at the on level 100 µs later. -/
def execOffPulseEnd (n : Fin 8) (low otherStayed : Bool) (hi lo : NodeClass) : State → Out :=
  upIn (fun d => d.halfOfOut n) fun d =>
    let o := d.out n
    match o.pulse with
    | none => d
    | some p =>
      if p.low ≠ low then d
      else
        let ok := otherStayed && onLevel hi lo
        let pass := ok && !p.failed
        let d := (d.onOut n fun o => { o with
          pulse := none
          pulsesHi := if pass && !low then satAdd 16 o.pulsesHi 1 else o.pulsesHi
          pulsesLo := if pass && low then satAdd 16 o.pulsesLo 1 else o.pulsesLo }).driveGates
        let d := if d.observes then { d with dpx := { d.dpx with obs := d.dpx.obs ++ [(n.val, pass)] } } else d
        if ok || decide (o.state ≠ .on) then d else d.pulseFail n (pulseCode low) 0xFFFF

/-! ## Node classes and their time limits (R138, R143): a unit that only observes judges no transition of its own -/

/-- Since when a level has not held, at stamp `t`. -/
def notSince (holds : Bool) (t : Nat) (was : Option Nat) : Option Nat := if holds then none else some (was.getD t)

/-- The classes of the nodes are new at stamp `t`. -/
def Output.classed (t : Nat) (o : Output) : Output :=
  { o with leftAt := notSince (onLevel o.hiCls o.loCls || o.pulse.isSome) t o.leftAt
           highAt := notSince (offLevel o.hiCls o.loCls) t o.highAt, nonLow := o.nonLow || !offLevel o.hiCls o.loCls }

/-- OUTPUT_NODE_CLASS_CHANGE (R136). -/
def execOutputNodeClassChange (n : Fin 8) (high : Bool) (cls : NodeClass) (cyc : Nat) : State → Out :=
  up fun d => d.onOut n fun o =>
    let o := (if high then { o with hiCls := cls } else { o with loCls := cls }).classed (d.stamp cyc)
    o.reach d.frame (o.waitLevel o.hiCls o.loCls)

/-- OUTPUT_LEVEL_TIMEOUT (R138, R151): 2 ms are four frames from the boundary of the gate change. -/
def execOutputLevelTimeout (n : Fin 8) : State → Out :=
  upIn (fun d => d.halfOfOut n) fun d =>
    let o := d.out n
    let late := !d.observes && !o.levelOk && 4 ≤ d.gateAge o
    match o.state with
    | .onWait | .adopt => if late then d.outFault n 0x52 else d
    | .offWait => if late then d.outFault n 0x53 else d
    | _ => d

/-- The level has not held for more than `us` µs at stamp `t`. -/
def longerThan (us t : Nat) (since_ : Option Nat) : Bool := match since_ with | some s => decide (s + us * 96 < t) | none => false

/-- OUTPUT_LEVEL_LOST (R138, R153): more than 100 µs off the on level raises 0x55 within another output's pulse, else
0x52. In ON_WAIT and ADOPT, an on level that was reached and lost while EDM is awaited raises 0x52 too (DESIGN CHOICE,
log 118). -/
def execOutputLevelLost (n : Fin 8) (cyc : Nat) : State → Out :=
  upIn (fun d => d.halfOfOut n) fun d =>
    let o := d.out n
    let holds := decide (o.state = .on) || ((decide (o.state = .onWait) || decide (o.state = .adopt)) && o.levelOk)
    if d.observes || !holds || o.pulse.isSome || !longerThan 100 (d.stamp cyc) o.leftAt then d
    else match d.outputs.find? fun x => x.id ≠ n.val && decide (d.halfOfOut x.id = d.halfOfOut n) && x.pulse.isSome with
      | some x => (d.outFault n 0x55 x.id).outFault x.id 0x55 n
      | none => d.outFault n 0x52

/-- OUTPUT_OFF_NODE_TIMEOUT (R138): a node not LOW for 2 ms with the gates off (Table SIO-6); also recorded in FAULT
(R139). -/
def execOutputOffNodeTimeout (n : Fin 8) (cyc : Nat) : State → Out :=
  upIn (fun d => d.halfOfOut n) fun d =>
    let o := d.out n
    if !d.observes && o.defd && (decide (o.state = .off) || decide (o.state = .fault)) && longerThan 2000 (d.stamp cyc + 1) o.highAt && 4 ≤ d.gateAge o
    then d.outFault n 0x54 else d

/-- Stamp since which EDM of output `n` reads as it does: a filtered edge, or a fault of the input that came or went. -/
def Dev.edmSince (d : Dev) (n : Nat) : Nat :=
  let x := d.inp (12 + n)
  if !x.filt then x.filtAt
  else if d.inpFaulty (12 + n) then x.faultFrom
  else max x.filtAt (x.faultEnd.getD 0)

/-- R143: EDM disagrees with the output for longer than T_edm; in a standing state from its own start on. -/
def Dev.edmLate (d : Dev) (o : Output) : Bool :=
  let closed := d.edmClosed o.id
  let held := match o.standAt with
    | some t => decide (max t (d.edmSince o.id) + o.cfg.tedm * 96000 ≤ d.stamp (500 * 96))
    | none => false
  o.cfg.edm && d.tpsRun && match o.state with
    | .onWait | .adopt => closed && 2 * o.cfg.tedm ≤ d.gateAge o
    | .offWait => !closed && o.levelOk && 2 * o.cfg.tedm ≤ d.ago o.levelFrame
    | .off | .fault => !closed && held
    | .on => closed && held

/-- EDM_TIMEOUT (R143). -/
def execEdmTimeout (n : Fin 8) : State → Out :=
  upIn (fun d => d.halfOfOut n) fun d => if !d.observes && (d.out n).defd && d.edmLate (d.out n) then d.outFault n 0x56 else d

/-! ## Proof interval (R144) -/

/-- Frames of an hour. -/
def hourFrames : Nat := 7200000

def Output.proofFrames (o : Output) : Nat := if o.cfg.edm then o.cfg.proof * hourFrames else 0

/-- PROOF_DUE_WARNING: at 90 % of the interval. -/
def execProofDueWarning (n : Fin 8) : State → Out :=
  upIn (fun d => d.halfOfOut n) fun d =>
    let o := d.out n
    if o.defd && o.proofFrames ≠ 0 && 9 * o.proofFrames ≤ 10 * d.ago o.proofStart then
      d.onOut n fun o => { o with proofDue := true }
    else d

/-- OUT_PROOFS of the half (Table REG-14). -/
def Dev.countProof (h : Half) (d : Dev) : Dev :=
  match h with
  | .a => { d with proofCycles := satAdd 16 d.proofCycles 1 }
  | .b => { d with proofCyclesB := satAdd 16 d.proofCyclesB 1 }
def Dev.proofsOf (d : Dev) (h : Half) : Nat := match h with | .a => d.proofCycles | .b => d.proofCyclesB

/-- PROOF_INTERVAL_EXPIRY: the forced proof cycle, or 0x57 under WARN. An output that is not in ON at the expiry waits
with its cycle until it is (DESIGN CHOICE, log 119). -/
def execProofIntervalExpiry (n : Fin 8) : State → Out :=
  upIn (fun d => d.halfOfOut n) fun d =>
    let o := d.out n
    if !(o.defd && o.proofFrames ≠ 0 && o.proofFrames ≤ d.ago o.proofStart) then d
    else if !o.cfg.force then (if d.hasFault 0x57 .output n (d.halfOfOut n) then d else d.raiseOut n 0x57)
    else if o.state = .on then
      (d.onOut n fun o => o.toWait false d.frame).countProof (d.halfOfOut n)
    else d

/-! ## Clear and adoption -/

/-- R150: the conditions of a clear. -/
def Dev.mayClear (d : Dev) (o : Output) : Bool :=
  o.defd && decide (o.state = .fault) && 200 ≤ o.lowRun
    && (!o.cfg.edm || (d.edmClosed o.id && !d.inpFaulty (12 + o.id)))

/-- An executed clear removes the latched faults and moves the output to OFF. -/
def Dev.clearOutput (n : Nat) (d : Dev) : Status × Dev :=
  if d.mayClear (d.out n) then
    let d := d.onOut n fun o => { o with state := .off, first := 0, partner := none, hold := true, gateFrame := d.frame }
    (.ok, [0x50, 0x51, 0x52, 0x53, 0x54, 0x55, 0x56, 0x5B].foldl
      (fun d c => d.clearF c .output n (d.halfOfOut n)) d)
  else (.denied, d)

/-- R136, R151: the classes that the ADC conversions of the last complete frame give its nodes. -/
def Output.reading (vfld : Nat) (o : Output) : NodeClass × NodeClass := (nodeClassOf o.ohsV vfld, nodeClassOf o.olsV vfld)

/-- R151: an output as the unit gains the claim; no gate is on before the first boundary after it. -/
def Output.adopt (frame : Word) (vfld : Nat) (held : Bool) (o : Output) : Output × Bool :=
  let o := { o.applyReq false false with
    gateFrame := frame + 1, levelOk := false, pendingMark := false, pulse := none, reqHi := false, reqLo := false, standAt := none }
  let r := o.reading vfld
  if !held then ({ o with state := .off }, false)
  else if onLevel r.1 r.2 then
    ({ o with state := .adopt, reqHi := true, reqLo := true, decided := true
              levelOk := onLevel o.hiCls o.loCls, levelFrame := frame }, false)
  else if offLevel r.1 r.2 then ({ o with state := .off }, false)
  else ({ o with state := .fault, first := 0x5B }, true)

/-- R151 for every defined output. -/
def Dev.adoptAll (held : Bool) (d : Dev) : Dev :=
  (d.outputs.filter (·.defd)).foldl (fun (d : Dev) (o : Output) =>
    let r := o.adopt d.frame d.obs.vfld held
    let d := d.onOut o.id fun _ => r.1
    if r.2 then d.raiseOut o.id 0x5B else d) d

end Sys2Proof.Machine
end

