-- ==== Sys2Proof/Machine/Probe.lean ====
section
/-! DEFINITION. The latency probe (09): runs and their instants (R163), the probe point and section (R162), spans and
judgement (R164), abandonment (R165), probe faults (R166), with the meanings of its commands. -/
namespace Sys2Proof.Machine

/-- The budgets toward OCCUPIED and CLEAR in µs: Table RXT-1 or the lower REACT budget; members 500 µs more. -/
def Dev.probeBudget (d : Dev) (h : Half) : Nat × Nat :=
  let r := match d.rigPart h with | some p => p.react.val | none => {}
  let m := if d.stackPos = 0 then 0 else 500
  (min 1050 r.locOcc + m, min 3050 r.locClr + m)

/-- The probe interval in frames; 0 selects 10 s. -/
def Dev.probeInterval (d : Dev) (h : Half) : Nat :=
  let r := match d.rigPart h with | some p => p.react.val | none => {}
  2000 * (if r.probe = 0 then 10 else r.probe)
/-- Crossing instants after t_k, in µs (R163). -/
def crossings : List Nat := [0, 3000, 10000, 13000]

/-- R164, check 1: an S32 OCC edge at most 1.032 µs (99 cycles) after its crossing. -/
def ProbeRun.edgeOk (r : ProbeRun) (n t : Nat) (level : Bool) : Bool :=
  match crossings[n]? with
  | some c => r.t0 + 96 * c ≤ t && t ≤ r.t0 + 96 * c + 99 && (level == (n % 2 == 0))
  | none => false

def ProbeRun.failAt (check : Nat) (r : ProbeRun) : ProbeRun :=
  { r with firstFail := if r.firstFail = 0 then check else min r.firstFail check }

/-- The S32 records of a frame against check 1, `n` OCC edges after the start of the run. -/
def ProbeRun.edgeNews (r : ProbeRun) : Nat → List EdgeRec → List ProbeNews
  | _, [] => []
  | n, e :: es =>
    if e.cmp = .occ then .edge true (r.edgeOk n e.hi e.level) :: r.edgeNews (n + 1) es else .edge false false :: r.edgeNews n es

/-- The delayed copy of an S32 record: 2 000 µs later. -/
def EdgeRec.copy (e : EdgeRec) : EdgeRec := { e with lo := e.lo + 2000 * 96, hi := e.hi + 2000 * 96 }

/-- The probe point's reading of a record (R163): pass 1 pairs A = S32, pass 2 A = delayed copy. -/
def ProbeRun.reading (copy : Bool) (e : EdgeRec) (r : ProbeRun) : OccRec :=
  let pass2 := decide (r.t0 + 7000 * 96 ≤ e.hi)
  { side := if copy = pass2 then .A else .B, level := e.level, lo := e.lo, hi := e.hi, res := e.resampled, fr := e.fr }

/-- The probe point's record settings: 140 mm, 450 km/h, profile 0. -/
def probeCfg : PointRec := {}

/-- One record at the probe point, and what it completes. -/
def ProbeRun.step (acc : ProbeRun × List ProbeNews) (x : OccRec) : ProbeRun × List ProbeNews :=
  let r := acc.1
  match r.pas.apply probeCfg x with
  | .moved q _ => ({ r with pas := q }, acc.2)
  | .event q ba _ _ =>
    let s := r.pas.stamp x
    ({ r with pas := q, waits := r.waits ++ [{ onA := s.onA, onB := s.onB, offA := s.offA, offB := s.offB, ba }] }, acc.2 ++ [.event ba])
  | .fail _ => (r, acc.2 ++ [.fail (decide (r.t0 + 7000 * 96 ≤ x.hi))])

/-- The check of R164 that a wrong pass fails. -/
def passCheck (pass2 : Bool) : Nat := if pass2 then 3 else 2

/-- What the probe section and the probe decision make of the news, on the device whose probe it is or, for a member's, at
the master (R162 to R164): an event moves the count, a verdict may clear the section (R105), a record that cannot be
resolved and a verdict other than wheel disturb it. -/
def Probe.take (p : Probe) (e : ProbeNews) : Probe :=
  match p.run with
  | none => p
  | some r => match e with
    | .edge occ ok =>
      let r := if occ then { r with nEdges := r.nEdges + 1 } else r
      { p with run := some (if ok then r else r.failAt 1) }
    | .event ba =>
      let again := if ba then r.ba else r.ab
      let r := { r with pend := r.pend + 1, ab := r.ab || !ba, ba := r.ba || ba }
      { p with run := some (if again then r.failAt (passCheck ba) else r)
               count := p.count + countStep false ba, clear := false, decision := false }
    | .verdict ba v =>
      let wheel := decide (v = .wheel)
      let r := { r with pend := r.pend - 1, abWheel := r.abWheel || (!ba && wheel), baWheel := r.baWheel || (ba && wheel)
                        disturbed := r.disturbed || !wheel }
      let clear := p.count = 0 && r.pend == 0 && !r.disturbed
      { p with run := some (if wheel then r else r.failAt (passCheck ba)), clear := p.clear || clear, decision := p.decision || clear }
    | .fail pass2 =>
      { p with run := some (ProbeRun.failAt (passCheck pass2) { r with disturbed := true }), clear := false, decision := false }

/-- The verdict of a probe event, from S32's stream and the same stream 2 000 µs later (R163). -/
def ProbeRun.verdict (r : ProbeRun) (w : Wait) : Verdict :=
  let later := r.samples.map fun x => { x with at_ := x.at_ + 2000 }
  let tv := usOf (max w.offA w.offB) + 2000
  let v : Speed := if w.ba then { s := 140, on := w.onA - w.onB, off := w.offA - w.offB }
    else { s := 140, on := w.onB - w.onA, off := w.offB - w.offA }
  let occ := fun (on off : Nat) (xs : List CurSample) =>
    ({ cfg := {}, base := 750, susp := false, searchFrom := 0, on, off, tv, samples := xs } : Occupancy)
  let b := boundsFor {} [] 0
  verdictBoth (verdictOf ((occ w.onA w.offA (if w.ba then later else r.samples)).features v b))
    (verdictOf ((occ w.onB w.offB (if w.ba then r.samples else later)).features v b))

/-- The verdicts due by `start` (R73). -/
def ProbeRun.judge (start : Nat) (acc : ProbeRun × List ProbeNews) : ProbeRun × List ProbeNews :=
  let due := acc.1.waits.filter fun w => decide (max w.offA w.offB + 2000 * 96 < start)
  ({ acc.1 with waits := acc.1.waits.filter fun w => !due.contains w }, acc.2 ++ due.map fun w => .verdict w.ba (acc.1.verdict w))

/-- R165: the run ends without a verdict. -/
def Probe.abandon (p : Probe) : Probe :=
  match p.run with
  | some r => { p with run := none, result := 3, check := 0, resOffset := r.offset, resRun := BitVec.ofNat 32 p.k
                       spanOcc := 0, spanClr := 0, delayed := [], news := [], rampStart := none }
  | none => p

/-- R165: S32 has a fault of Table WIN-5. -/
def Dev.probeFaulty (d : Dev) : Bool :=
  d.codeActive 0x3D || [0x37, 0x38, 0x39, 0x3A, 0x3B, 0x3C].any (fun c => d.hasFault c .system 32 (d.halfOfSys 32))

/-- The probe's part of every frame's work: S32's records and delayed records of the closed frame, verdicts due. A
member's probe section takes them a frame later, when the master does (R164; log 125). -/
def Dev.probeFrame (d : Dev) : Dev :=
  let samples : List Sample := match d.obs.systems.find? (·.sys == 32) with | some o => o.samples | none => []
  match d.probe.run with
  | none => d
  | some r =>
    if d.probeFaulty || !d.inService (d.probe.half) then { d with probe := d.probe.abandon }
    else
      let start := d.dt.toNat * 96
      let mine := d.capClosed.edges.filter fun e => e.sys == 32
      let pending := if d.stackPos = 0 then [] else d.probe.news
      let edges := r.edgeNews (r.nEdges + (pending.filter (fun e => match e with | .edge occ _ => occ | _ => false)).length) mine
      let frameUs := d.closedStart
      let r : ProbeRun := { r with samples := r.samples ++ samples.map fun x =>
        ({ at_ := frameUs + x.off, cur := currentOf 1000 x.code, blanked := false } : CurSample) }
      let occs := mine.filter fun e => decide (e.cmp = .occ)
      let copies := d.probe.delayed ++ occs.map EdgeRec.copy
      let due := copies.filter fun e => decide (e.hi < start)
      let recs := (occs.map (r.reading false) ++ due.map (r.reading true)).foldl (fun acc x => insertRec x acc) []
      let x := ProbeRun.judge start (recs.foldl ProbeRun.step (r, edges))
      let p := { d.probe with run := some x.1, news := x.2, delayed := copies.filter fun e => !decide (e.hi < start) }
      { d with probe := (if d.stackPos = 0 then x.2 else pending).foldl Probe.take p }

/-! ## Spans and judgement at the bank swap (R156, R164) -/

/-- µs, rounded up. -/
def usUp (cyc : Nat) : Nat := (cyc + 95) / 96

/-- The end of a run: its first failing check of R164, 0 for a pass. -/
def Probe.firstFailing (budget : Nat × Nat) (spanOcc spanClr : Nat) (r : ProbeRun) : Nat :=
  if r.firstFail = 1 || r.nEdges ≠ 4 then 1
  else if r.firstFail = 2 || !(r.ab && r.abWheel && r.offShown) then 2
  else if r.firstFail = 3 || !(r.ba && r.baWheel && spanClr ≠ 0) then 3
  else if budget.1 * 96 < spanOcc + 2 * 96 || budget.2 * 96 < spanClr + 10 * 96 then 4
  else 0

/-- The spans exceed the budget: the last check of R164, whatever the others say. -/
def overBudget (budget : Nat × Nat) (spanOcc spanClr : Nat) : Bool :=
  decide (budget.1 * 96 < spanOcc + 2 * 96) || decide (budget.2 * 96 < spanClr + 10 * 96)

/-- Ends a run with its result (BGW_PROBE_RUN to BGW_PROBE_PASS), and the fault it raises (Table RXT-3). -/
def Probe.finish (budget : Nat × Nat) (frame : Word) (r : ProbeRun) (spanClr : Nat) (p : Probe) : Probe × Option Nat :=
  let fail := Probe.firstFailing budget r.spanOcc spanClr r
  let q := { p with
    run := none, delayed := [], news := [], resRun := BitVec.ofNat 32 p.k, resOffset := r.offset, check := fail
    result := if fail = 0 then 1 else 2, spanOcc := usUp r.spanOcc, spanClr := usUp spanClr
    failRun := if fail = 0 then 0 else p.failRun + 1 }
  let q := if fail = 0 then { q with passOcc := usUp r.spanOcc, passClr := usUp spanClr, lastPass := frame } else q
  (q, if overBudget budget r.spanOcc spanClr then some 0xB6 else if fail ≠ 0 && 2 ≤ q.failRun then some 0xB7 else none)

/-- A probe at the bank swap `swap` that shows its decision. -/
def Probe.swap (budget : Nat × Nat) (frame : Word) (swap : Nat) (p : Probe) : Probe × Option Nat :=
  match p.run with
  | none => ({ p with shown := p.decision }, none)
  | some r =>
    if p.decision = p.shown then
      (if r.t0 + 96 * 18500 < swap then p.finish budget frame r 0 else (p, none))
    else if p.decision then { p with shown := true }.finish budget frame r (swap - (r.t0 + 96 * 15000))
    else ({ p with shown := false, run := some { r with offShown := true, spanOcc := swap - (r.t0 + 96 * 5000) } }, none)

/-- PROBE_SPAN_STAMP: the bank swap at offset 2 µs of the frame that opens shows the decisions: the own one and, at a
master, those of its members' probes. -/
def Dev.probeSwap (d : Dev) : Dev :=
  let h := d.probe.half
  let budget := d.probeBudget h
  let own := d.probe.swap budget d.frame (d.stamp (2 * 96))
  let far := d.hal.members.map fun m => m.probe.swap (budget.1 + 500, budget.2 + 500) d.frame (d.stamp (2 * 96))
  let e := { d with probe := own.1
                    hal := { d.hal with members := List.zipWith (fun (m : HMember) x => { m with probe := x.1 }) d.hal.members far } }
  match own.2, (far.filterMap Prod.snd).head? with
  | some c, _ => e.safeOf c h 192
  | none, some c => e.safeOf c h 192
  | none, none => e

/-- R164: the probe results of an UP at the master; a run is taken up before its first crossing. -/
def Probe.hear (now : Nat) (u : Option ProbeUp) (p : Probe) : Probe :=
  match u with
  | none => p.abandon
  | some x =>
    let p := if x.k ≠ p.k ∧ now ≤ x.t0 then
        { p with k := x.k, run := some { t0 := x.t0, offset := x.offset }, clear := true, count := 0, decision := true, shown := true }
      else p
    if x.k = p.k then x.news.foldl Probe.take p else p

/-! ## Meanings -/

/-- A run of the probe may start: its interval has passed, or a failed run is repeated (R163, R166). -/
def Dev.probeDue (p : Probe) (d : Dev) : Bool :=
  d.inService p.half && (d.probeInterval p.half ≤ d.ago p.lastStart || (p.failRun ≠ 0 && p.result = 2) || p.k = 0)

/-- R164: in split mode the halves take S32 in turns, each with its own run counter. -/
def Dev.probeTurn (d : Dev) : Dev :=
  if d.split && d.probeDue d.probeOther then { d with probe := d.probeOther, probeOther := d.probe } else d

/-- A new run: the section is CLEAR with count 0; t_k lies in the next frame at (97 k) mod 500 µs (R163). -/
def Dev.startProbe (d : Dev) : Dev :=
  let k := d.probe.k + 1
  let off := 97 * k % 500
  { d with probe := { d.probe with
      k, lastStart := d.frame, run := some { t0 := d.stamp ((500 + off) * 96), offset := off }
      clear := true, count := 0, decision := true, shown := true, ramps := 0, rampStart := none, delayed := [], news := [] } }

/-- PROBE_RUN_START (R163). -/
def execProbeRunStart : State → Out :=
  up fun d =>
    if d.probe.run.isSome || d.probeFaulty then d
    else
      let d := d.probeTurn
      if d.probeDue d.probe then d.startProbe else d

/-- The lead of a ramp before its crossing in SYSCLK cycles, 13.65 µs or 20.06 µs rounded up (R163). -/
def rampLead (rising : Bool) : Nat := if rising then 1311 else 1926

/-- The instant at which ramp `n` of a run starts. -/
def ProbeRun.rampAt (n : Nat) (r : ProbeRun) : Nat := r.t0 + 96 * crossings.getD n 0 - rampLead (n % 2 == 0)

/-- The injector's current in 0.01 mA at `t`: linear ramps of 32 µs between 7.5 mA and 15.0 mA (R163). -/
def Probe.injected (p : Probe) (t : Nat) : Nat :=
  match p.rampStart with
  | none => 750
  | some s =>
    let step := 750 * min (t - s) 3072 / 3072
    if p.ramps % 2 = 1 then 750 + step else 1500 - step

/-- PROBE_RAMP_START (R163): the injector's ramps alternate, rising first, each at its instant. -/
def execProbeRampStart (rising : Bool) (cyc : Nat) : State → Out :=
  upIn (fun d => d.probe.half) fun d =>
    match d.probe.run with
    | some r =>
      if d.probe.ramps < 4 && (rising == (d.probe.ramps % 2 == 0)) && d.stamp cyc == r.rampAt d.probe.ramps then
        { d with probe := { d.probe with ramps := d.probe.ramps + 1, rampStart := some (d.stamp cyc) } }
      else d
    | none => d

/-- PROBE_STARVED (R166): no pass within three probe intervals. -/
def Dev.starved (p : Probe) (d : Dev) : Dev :=
  if d.inService p.half && 3 * d.probeInterval p.half ≤ d.ago p.lastPass then d.safeOf 0xB8 p.half 0 else d

def execProbeStarved : State → Out :=
  up fun d =>
    let d := d.starved d.probe
    if d.split then d.starved d.probeOther else d

end Sys2Proof.Machine
end

