-- ==== Sys2Proof/Machine/Signal.lean ====
section
/-! DEFINITION. What runs on the wire of a line (10): Manchester cells (R170), the transmission envelope (R172), the
wake burst (R182), and the receiver that both decoders of a line are (R171, R173, R174). Instants are SYSCLK cycles
(96 per µs of device time); a wave is the list of instants at which a level toggles, and every wave starts high, where
the bias holds an undriven bus (R168). -/
namespace Sys2Proof.Machine

/-! ## Cells -/

/-- A cell on the wire: a data bit or one of the two non-data cells (R170). -/
inductive Cell | one | zero | plus | minus deriving DecidableEq, Repr

/-- The levels of a cell's two halves. -/
def Cell.halves : Cell → List Bool
  | .one => [true, false]
  | .zero => [false, true]
  | .plus => [true, true]
  | .minus => [false, false]

def Cell.ofBit (b : Bool) : Cell := if b then .one else .zero

def Cell.bit : Cell → Option Bool
  | .one => some true
  | .zero => some false
  | _ => none

/-- SYSCLK cycles in a bit time (Table LIN-2). -/
def bitCycles (rate : Nat) : Nat := 192 / 2 ^ rate

/-- The bits of a byte, the most significant first (R170). -/
def byteBits (b : Byte) : List Bool := (List.range 8).map fun k => b.getLsbD (7 - k)

/-- The byte that eight bits spell, the most significant first. -/
def bitsByte (l : List Bool) : Byte := BitVec.ofNat 8 (l.foldl (fun v b => 2 * v + b2n b) 0)

/-- Whole bytes of a bit string. -/
def bitsBytes : Nat → List Bool → List Byte
  | 0, _ => []
  | n + 1, l => bitsByte (l.take 8) :: bitsBytes n (l.drop 8)

/-! ## Sending (Tables LIN-3, LIN-5) -/

/-- Preamble, start delimiter, telegram, end delimiter. -/
def telegramCells (p : Nat) (bs : List Byte) : List Cell :=
  (List.range p).map (fun k => Cell.ofBit (k % 2 == 0)) ++ [.plus, .minus]
    ++ (bs.flatMap byteBits).map Cell.ofBit ++ [.plus, .plus]

/-- The instants at which a level that stands at `lv` toggles, where it takes `levels` one after another from `t` on,
each for `step` cycles. -/
def toggles (step : Nat) : Nat → Bool → List Bool → List Nat
  | _, _, [] => []
  | t, lv, x :: xs => if x = lv then toggles step (t + step) lv xs else t :: toggles step (t + step) x xs

def cellWave (tb t : Nat) (cells : List Cell) : List Nat := toggles (tb / 2) t true (cells.flatMap Cell.halves)

/-- The driver's lead before the preamble (Table LIN-3). -/
def leadBits : Nat := 8

/-- LX_TX of a transmission whose envelope starts at `t`. -/
def telegramWave (rate p t : Nat) (bs : List Byte) : List Nat :=
  cellWave (bitCycles rate) (t + leadBits * bitCycles rate) (telegramCells p bs)

/-- Cycles from driver enable to driver release of an `l`-byte telegram. -/
def envelope (rate p l : Nat) : Nat := (12 + p + 8 * l) * bitCycles rate

/-- LX_TX of a wake burst: from 4 µs on, ten periods of 10 µs low and 10 µs high. -/
def wakeWave (t : Nat) : List Nat := (List.range 20).map fun k => t + (4 + 10 * k) * 96

/-- Driver release of a wake burst. -/
def wakeCycles : Nat := 204 * 96

/-! ## Driving a line (R172, R178) -/

/-- LX_DE at `t`. -/
def LinePhys.de (p : LinePhys) (t : Nat) : Bool :=
  match p.drive with | some x => decide (x.start ≤ t) && decide (t < x.stop) | none => false

/-- LX_TX at `t`: high unless the wave driven has toggled it. -/
def LinePhys.tx (p : LinePhys) (t : Nat) : Bool :=
  match p.drive with | some x => (x.wave.filter (· ≤ t)).length % 2 == 0 | none => true

/-- The slot gate closes at `t` (R178); a wake burst passes it. -/
def LinePhys.gateClose (t : Nat) (p : LinePhys) : LinePhys :=
  { p with drive := p.drive.map fun x => if x.wake then x else { x with stop := min x.stop t } }

/-! ## Receiving (R171, R173) -/

/-- A decoder at work: its timing, the level before the next toggle, the toggles to come. -/
structure Scan where
  centre : Nat
  level : Bool
  edges : List Nat
  deriving DecidableEq, Repr

/-- The level at `t` and the toggles from there on. -/
def skipTo (t : Nat) (lv : Bool) : List Nat → Bool × List Nat
  | [] => (lv, [])
  | e :: es => if e < t then skipTo t (!lv) es else (lv, e :: es)

/-- One cell: a mid-bit transition within a quarter of a bit time is accepted and re-centres the timing; without one
the cell reads as its level (R171). -/
def Scan.cell (tb : Nat) (s : Scan) : Cell × Scan :=
  let mid := s.centre + tb
  match skipTo (mid - tb / 4) s.level s.edges with
  | (lv, e :: es) =>
    if e ≤ mid + tb / 4 then (.ofBit lv, { centre := e, level := !lv, edges := es })
    else (if lv then .plus else .minus, { centre := mid, level := lv, edges := e :: es })
  | (lv, []) => (if lv then .plus else .minus, { centre := mid, level := lv, edges := [] })

def Scan.cells (tb : Nat) : Nat → Scan → List Cell × Scan
  | 0, s => ([], s)
  | n + 1, s =>
    let r := s.cell tb
    let rest := Scan.cells tb n r.2
    (r.1 :: rest.1, rest.2)

/-- The scan at the end of the start delimiter, V+ and V− after a run of at least 16 preamble cells whose mid-bit
transitions are valid (R173); `run` of them lead up to the one at `last`. -/
def findStart (tb : Nat) : List Nat → Bool → Nat → Nat → Option Scan
  | [], _, _, _ => none
  | e :: es, lv, run, last =>
    if run ≠ 0 ∧ last + tb - tb / 4 ≤ e ∧ e ≤ last + tb + tb / 4 then findStart tb es (!lv) (run + 1) e
    else
      let r := Scan.cells tb 2 { centre := last, level := lv, edges := e :: es }
      if 16 ≤ run ∧ r.1 = [.plus, .minus] then some r.2 else findStart tb es (!lv) 1 e

/-- Up to `n` data cells; whether a code violation ended them. -/
def Scan.data (tb : Nat) : Nat → Scan → List Bool × Bool × Scan
  | 0, s => ([], false, s)
  | n + 1, s =>
    let r := s.cell tb
    match r.1.bit with
    | none => ([], true, r.2)
    | some b =>
      let rest := Scan.data tb n r.2
      (b :: rest.1, rest.2)

/-- A reception: its data cells up to LEN bytes or a code violation, and its start-delimiter end (R173, R174). -/
structure Reception where
  bits : List Bool := []
  violation : Bool := false
  sd : Nat := 0
  deriving DecidableEq, Repr

def Reception.bytes (r : Reception) : List Byte := bitsBytes (r.bits.length / 8) r.bits

/-- What a decoder makes of a wave: nothing without a start delimiter. -/
def receive (tb : Nat) (wave : List Nat) : Option Reception :=
  (findStart tb wave true 0 0).map fun s =>
    let len := Scan.data tb 8 s
    let rest := if len.2.1 then ([], true, len.2.2) else Scan.data tb (8 * ((bitsByte len.1).toNat - 1)) len.2.2
    { bits := len.1 ++ rest.1, violation := rest.2.1, sd := s.centre + tb / 2 }

/-- R179: an own transmission is reproduced, every cell of it. -/
def echoes (tb : Nat) (cells : List Cell) : List Nat → Bool
  | [] => false
  | e :: es => decide ((Scan.cells tb cells.length { centre := e - tb, level := true, edges := e :: es }).1 = cells)

/-! ## Copies (R179) -/

/-- The two decoders' receptions of a copy. -/
def Copy.main? (tb : Nat) (c : Copy) : Option Reception := receive tb c.main
def Copy.sense? (tb : Nat) (c : Copy) : Option Reception := receive tb c.sense

/-- The same bytes and the same end on both decoders. -/
def Copy.agree (tb : Nat) (c : Copy) : Bool :=
  match c.main? tb, c.sense? tb with
  | some a, some b => decide (a.bits = b.bits) && a.violation == b.violation
  | none, none => true
  | _, _ => false

/-- Some decoder has begun a reception. -/
def Copy.begun (tb : Nat) (c : Copy) : Bool := (c.main? tb).isSome || (c.sense? tb).isSome

/-- The complete reception that both decoders bear out: its bytes and its start-delimiter end. -/
def Copy.reception (tb : Nat) (c : Copy) : Option (List Byte × Nat) :=
  match c.main? tb with
  | some r => if c.agree tb && !r.violation then some (r.bytes, r.sd) else none
  | none => none

/-- What a copy shows where the line carries one telegram undisturbed, its envelope starting at `t`. -/
def Copy.clean (rate p t : Nat) (bs : List Byte) : Copy :=
  { main := telegramWave rate p t bs, sense := telegramWave rate p t bs }

/-- Both decoders reproduce an own transmission (R179). -/
def Copy.echoes (tb : Nat) (cells : List Cell) (c : Copy) : Bool :=
  Machine.echoes tb cells c.main && Machine.echoes tb cells c.sense

/-! ## Wake detection (R183) -/

/-- Intervals that are not high for 6 µs or more and then high for 3 µs or more, as the instants of their start and of
the end of those 3 µs, in a wave of the sense class that is known up to `now`. -/
def wakeRuns (now : Nat) : List Nat → List (Nat × Nat)
  | off :: on :: rest =>
    let back := match rest with | next :: _ => next | [] => now
    if off + 6 * 96 ≤ on ∧ on + 3 * 96 ≤ back then (off, on + 3 * 96) :: wakeRuns now rest else wakeRuns now rest
  | _ => []

/-- Five such intervals within 240 µs. -/
def fiveRuns : List (Nat × Nat) → Bool
  | [] => false
  | r :: rest => (match rest[3]? with | some x => decide (x.2 ≤ r.1 + 240 * 96) | none => false) || fiveRuns rest

def wakeSeen (now : Nat) (wave : List Nat) : Bool := fiveRuns (wakeRuns now wave)

end Sys2Proof.Machine
end

