-- ==== Sys2Proof/Machine/Telegram.lean ====
section
/-! DEFINITION. Safe telegrams as bytes (11): entries of Table TEL-3, telegrams of Table TEL-1 with SC1 and SC2
(R187 to R190), the validity of a copy (R188). -/
namespace Sys2Proof.Machine

/-! ## Codes -/

def Verdict.code : Verdict → Nat
  | .pending => 0 | .wheel => 1 | .nonWheel => 2 | .uncertain => 3

def Verdict.ofCode : Nat → Verdict
  | 0 => .pending | 1 => .wheel | 2 => .nonWheel | _ => .uncertain

def ReefMode.code : ReefMode → Nat
  | .normal => 0 | .propose => 1 | .commit => 2 | .reef => 3

def ReefMode.ofCode : Nat → Option ReefMode
  | 0 => some .normal | 1 => some .propose | 2 => some .commit | 3 => some .reef | _ => none

/-- `codes` of `w` bits each, the first in the most significant place. -/
def packCodes (w : Nat) (codes : List Nat) : Nat := codes.foldl (fun acc c => acc * 2 ^ w + c % 2 ^ w) 0

/-- The `n` codes of `w` bits in `v`, the first in the most significant place. -/
def unpackCodes (w : Nat) : Nat → Nat → List Nat
  | 0, _ => []
  | n + 1, v => v / 2 ^ (w * n) % 2 ^ w :: unpackCodes w n v

/-! ## Entries (Table TEL-3) -/

def Entry.bytes : Entry → List Byte
  | .beacon m round sid => [0x10] ++ toBytes 1 m.code ++ toBytes 1 round ++ [0] ++ toBytes 4 sid.toNat
  | .pointEvent v ba res replay pt eseq =>
    [0x01] ++ toBytes 1 (v.code * 64 + b2n ba * 32 + b2n res * 16 + b2n replay * 8 + pt / 256 % 4)
      ++ toBytes 1 (pt % 256) ++ toBytes 4 eseq.toNat ++ [0]
  | .pointStatus g codes => [0x02] ++ toBytes 1 g ++ toBytes 4 (packCodes 2 codes) ++ [0, 0]
  | .sectionState g codes => [0x03] ++ toBytes 1 g ++ toBytes 3 (packCodes 3 codes) ++ [0, 0, 0]
  | .ack owner eseq => [0x04, 0] ++ toBytes 2 owner ++ toBytes 4 eseq.toNat
  | .reefVote yes cyc => [0x05] ++ toBytes 1 (b2n yes) ++ toBytes 2 cyc.toNat ++ [0, 0, 0, 0]
  | .join reason sess => [0x06] ++ toBytes 1 reason ++ [0, 0] ++ toBytes 4 sess.toNat

/-- What 8 bytes spell as an entry; reserved bits are checked by `validCopy`. -/
def parseEntry (bs : List Byte) : Option Entry :=
  let b1 := fieldAt bs 1 1
  match fieldAt bs 0 1 with
  | 0x10 => (ReefMode.ofCode b1).map fun m => .beacon m (fieldAt bs 2 1) (BitVec.ofNat 32 (fieldAt bs 4 4))
  | 0x01 => some (.pointEvent (Verdict.ofCode (b1 / 64)) (b1.testBit 5) (b1.testBit 4) (b1.testBit 3)
      (b1 % 4 * 256 + fieldAt bs 2 1) (BitVec.ofNat 32 (fieldAt bs 3 4)))
  | 0x02 => some (.pointStatus b1 (unpackCodes 2 16 (fieldAt bs 2 4)))
  | 0x03 => some (.sectionState b1 (unpackCodes 3 8 (fieldAt bs 2 3)))
  | 0x04 => some (.ack (fieldAt bs 2 2 % 1024) (BitVec.ofNat 32 (fieldAt bs 4 4)))
  | 0x05 => some (.reefVote (b1 == 1) (BitVec.ofNat 16 (fieldAt bs 2 2)))
  | 0x06 => some (.join b1 (BitVec.ofNat 32 (fieldAt bs 4 4)))
  | _ => none

/-- `k` entries of 8 bytes each. -/
def parseEntries : Nat → List Byte → Option (List Entry)
  | 0, _ => some []
  | k + 1, bs =>
    match parseEntry (bs.take 8), parseEntries k (bs.drop 8) with
    | some e, some es => some (e :: es)
    | _, _ => none

/-- Table TEL-2: the entries that a TYPE carries, and its DST. -/
def Telegram.allowed (t : Telegram) : Bool :=
  match t.type, t.entries with
  | 1, [.beacon _ _ _] => t.dst == 0
  | 2, es => es.length ≤ 5 && es.all fun e => match e with
      | .beacon _ _ _ => false
      | .join _ _ => false
      | _ => true
  | 3, [.join _ _] => t.dst == 0
  | _, _ => false

/-! ## Telegrams (Table TEL-1) -/

/-- Bytes 0 to L − 9. -/
def Telegram.body (t : Telegram) : List Byte :=
  toBytes 1 (24 + 8 * t.entries.length) ++ toBytes 1 t.type
    ++ toBytes 2 (b2n t.dup * 2 ^ 15 + b2n t.dpos * 2 ^ 14 + t.src % 1024) ++ toBytes 2 (t.dst % 1024)
    ++ toBytes 2 t.cycle.toNat ++ toBytes 4 t.tseq.toNat ++ toBytes 4 t.dtime.toNat
    ++ t.entries.flatMap Entry.bytes

/-- R190: both safety codes over bytes. -/
def safetyCodes (key : Word) (body : List Byte) : List Byte :=
  toBytes 4 (crc32c body).toNat ++ toBytes 4 (crc32Keyed key body).toNat

/-- R187: the telegram as it is sent under line key `key`. -/
def Telegram.bytes (key : Word) (t : Telegram) : List Byte := t.body ++ safetyCodes key t.body

def telegramLengths : List Nat := [24, 32, 40, 48, 56, 64]

/-- The fields of a received byte string. -/
def parseTelegram (bs : List Byte) : Option Telegram :=
  let len := fieldAt bs 0 1
  let src := fieldAt bs 2 2
  match parseEntries ((len - 24) / 8) (slice bs 16 (len - 24)) with
  | some es => some
      { type := fieldAt bs 1 1, dup := src.testBit 15, dpos := src.testBit 14, src := src % 1024
        dst := fieldAt bs 4 2 % 1024, cycle := BitVec.ofNat 16 (fieldAt bs 6 2), tseq := BitVec.ofNat 32 (fieldAt bs 8 4)
        dtime := BitVec.ofNat 32 (fieldAt bs 12 4), entries := es }
  | none => none

/-- R188 but for CYCLE: the telegram that a byte string is under key `key`; the string must be the one that its
fields spell, so every reserved bit is 0 and both safety codes check. -/
def telegramOf (key : Word) (bs : List Byte) : Option Telegram :=
  if telegramLengths.contains bs.length && fieldAt bs 0 1 == bs.length then
    match parseTelegram bs with
    | some t => if t.allowed && t.src ≠ 0 && t.bytes key == bs then some t else none
    | none => none
  else none

/-- R188: the telegram of a complete reception; `cyc` the receiver's current cycle number. -/
def telegramIn (key : Word) (cyc : Option Half16) (bs : List Byte) : Option Telegram :=
  match telegramOf key bs with
  | some t => if t.type = 1 || decide (cyc = some t.cycle) then some t else none
  | none => none

end Sys2Proof.Machine
end

