-- ==== Sys2Proof/Machine/Line.lean ====
section
/-! DEFINITION. The Enain line node: line faults and suspension (10, R178 to R184), cycles and missed cycles (R196,
R202 to R204), reception of copies (R175, R180, R192, R193), JOIN (R205), with the meanings of the line commands
that do not send. Instants are SYSCLK cycles, 96 per µs of device time. -/
namespace Sys2Proof.Machine

/-! ## The rig's line records -/

def Dev.lineRec (d : Dev) (h : Half) : LineRec :=
  match d.rigPart h with
  | some p => match p.line with | some r => r.val | none => {}
  | none => {}

def Dev.schedule (d : Dev) (h : Half) : Option (Hashed ScheduleRec) :=
  match d.rigPart h with | some p => p.schedule | none => none

def Dev.slots (d : Dev) (h : Half) : List Slot :=
  match d.schedule h with | some s => s.val.slots | none => []

/-- SCHED_ID: the upper 32 bits of the SCHEDULE record's hash. -/
def Dev.schedId (d : Dev) (h : Half) : Word :=
  match d.schedule h with | some s => BitVec.ofNat 32 (s.rh.toNat / 2 ^ 32) | none => 0

def Dev.lineAddress (d : Dev) (h : Half) : Nat :=
  match d.rigPart h with | some p => p.node.val.address | none => 0

/-- T_path in µs. -/
def Dev.tPath (d : Dev) (h : Half) : Nat :=
  match d.rigPart h with | some p => p.react.val.tPath | none => 0

def Dev.isMaster (d : Dev) (h : Half) : Bool := (d.lineRec h).master == d.lineAddress h

/-- The half is a line node: it holds a LINE record and is no halyard member (R178). -/
def Dev.hasLine (d : Dev) (h : Half) : Bool :=
  (match d.rigPart h with | some p => p.line.isSome | none => false) && d.stackPos == 0 && !(d.node h).safe

/-- `n` bit times. -/
def LineRec.bitTimes (r : LineRec) (n : Nat) : Nat := n * bitCycles r.rate

/-- T_cyc: the LINE record's, in reef 1 000 ms (R202, R207). -/
def LineNode.period (r : LineRec) (l : LineNode) : Nat := (if l.mode = .reef then 1000 else r.cycle) * 96000

/-- Ages and windows carry 100 ppm of a cycle (R180). -/
def LineNode.ppm (r : LineRec) (l : LineNode) : Nat := l.period r / 10000

/-! ## Physical lines -/

def LineNode.phys (l : LineNode) : Line → LinePhys
  | .a => l.lineA
  | .b => l.lineB

def LineNode.onPhys (x : Line) (f : LinePhys → LinePhys) (l : LineNode) : LineNode :=
  match x with
  | .a => { l with lineA := f l.lineA }
  | .b => { l with lineB := f l.lineB }

def Line.num : Line → Nat
  | .a => 0
  | .b => 1

/-- Suspended under Table LIN-4: for 0x61 (cycles left) or 0x62. -/
def LinePhys.suspended (p : LinePhys) : Bool := p.suspCycles ≠ 0 || p.susp62

def LineNode.bothSuspended (l : LineNode) : Bool := l.lineA.suspended && l.lineB.suspended

/-- The node transmits nothing: 0x64, 0x66 or 0x6A (Table REG-8). -/
def LineNode.silent (l : LineNode) : Bool := l.silent64 || l.silent6A || l.bothSuspended

def Dev.line (d : Dev) (h : Half) : LineNode := (d.node h).line
def Dev.onLine (h : Half) (f : LineNode → LineNode) (d : Dev) : Dev := d.onNode h (Node.onLine f)

def Dev.raiseLine (h : Half) (x : Line) (code : Nat) (d : Dev) : Dev := d.raise code .line x.num h
def Dev.clearLine (h : Half) (x : Line) (code : Nat) (d : Dev) : Dev := d.clearF code .line x.num h
def Dev.lineFault (d : Dev) (h : Half) (x : Line) (code : Nat) : Bool := d.hasFault code .line x.num h

/-- 0x66: both lines unusable. -/
def Dev.checkUnusable (h : Half) (d : Dev) : Dev :=
  if (d.line h).bothSuspended && !d.hasFault 0x66 .lineNode 0 h then d.raise 0x66 .lineNode 0 h else d

/-- R205: a JOIN for the first own slots of three cycles, with a fresh SESSION. -/
def Dev.startJoin (h : Half) (reason : Nat) (d : Dev) : Dev :=
  let r := d.fresh
  r.2.onLine h fun l => { l with joinsLeft := 3, joinReason := reason, session := r.1 }

/-- A line is usable again: 0x66 clears, and the node joins (R205). -/
def Dev.usableAgain (h : Half) (d : Dev) : Dev :=
  if d.hasFault 0x66 .lineNode 0 h && !(d.line h).bothSuspended then
    (d.clearF 0x66 .lineNode 0 h).startJoin h 3
  else d

/-- What an own transmission finds on line `x`: both decoders reproduce the cells sent (R179). -/
def CopyPair.on (e : CopyPair) : Line → Copy
  | .a => e.a.getD {}
  | .b => e.b.getD {}

/-- Echo check of an own transmission on line `x` (R179): 2 of the last 8 suspend the line for 256 cycles. -/
def Dev.echoCheck (h : Half) (x : Line) (ok : Bool) (d : Dev) : Dev :=
  if ((d.line h).phys x).suspended then d
  else
    let d := d.onLine h fun l => l.onPhys x fun p =>
      { p with echoHist := ((!ok) :: p.echoHist).take 8, cleanTx := if ok then p.cleanTx + 1 else 0
               echoErr := if ok then p.echoErr else satAdd 16 p.echoErr 1 }
    let bad := (((d.line h).phys x).echoHist.filter (· == true)).length
    if !ok && 2 ≤ bad then
      ((d.onLine h fun l => l.onPhys x fun p => { p with suspCycles := 257, cleanTx := 0, echoHist := [] }).raiseLine h x 0x61).checkUnusable h
    else d

/-- The decoders' agreement on one reception (R179): 0x63 at 3 of the last 64. -/
def Dev.decoderCheck (h : Half) (x : Line) (agree : Bool) (d : Dev) : Dev :=
  let d := d.onLine h fun l => l.onPhys x fun p =>
    { p with decHist := ((!agree) :: p.decHist).take 64, decGood := if agree then p.decGood + 1 else 0
             decDis := if agree then p.decDis else satAdd 16 p.decDis 1 }
  let bad := (((d.line h).phys x).decHist.filter (· == true)).length
  if !agree && 3 ≤ bad then d.raiseLine h x 0x63 else d

/-- A copy that is discarded as invalid (Table REG-8). -/
def LinePhys.countInvalid (p : LinePhys) : LinePhys := { p with invalid := satAdd 16 p.invalid 1 }

/-! ## Cycles (R196, R202 to R204) -/

/-- Remote points of owner `a`. -/
def Node.ownedBy (a : Nat) (p : Point) : Bool := decide (p.cfg.kind = .remote) && p.cfg.owner == a

/-- A tagged READ or WRITE of the entry of one of the points `pts` (Table ARR-1). -/
def HostCmd.namesPoint (pts : List Nat) (c : HostCmd) : Bool :=
  (c.opc == 0x01 || c.opc == 0x02) && decide (0x800 ≤ c.index) && decide (c.index < 0x1800) && pts.contains ((c.index - 0x800) / 4)

/-- R91, R7: pending host operations that name points which enter OFFLINE. -/
def Dev.pointOps (h : Half) (pts : List Nat) (d : Dev) : Dev :=
  let mark := fun (p : Fin 2) (x : Port) =>
    if d.halfOfPort p = h then { x with journal := mapIf (HostCmd.namesPoint pts) (fun c => { c with verdict := some .pointOffline }) x.journal } else x
  { d with port0 := mark 0 d.port0, port1 := mark 1 d.port1 }

/-- R204, R91: the remote points of an owner that became unheard go OFFLINE with 0x44. -/
def Dev.ownerUnheard (h : Half) (a : Nat) (d : Dev) : Dev :=
  let pts := (d.node h).points.filter (Node.ownedBy a)
  let d := d.onNode h fun n => { n with points := mapIf (Node.ownedBy a) (fun p => { p with state := .offline, reported := false }) n.points }
  let fresh := pts.filter fun p => decide (p.state ≠ .offline)
  (fresh.foldl (fun (d : Dev) p => d.raise 0x44 .point p.cfg.index h) d).pointOps h (fresh.map (·.cfg.index))

/-- R203: one cycle ends for a peer; `beacon` says whether the cycle had an accepted BEACON. -/
def Peer.endCycle (beacon : Bool) (p : Peer) : Peer :=
  { p with missed := if p.got && beacon then 0 else min 8 (p.missed + 1), got := false }

/-- The peers whose count reaches its limit in this cycle. -/
def Peer.nowUnheard (p : Peer) : Bool := p.heard && p.cfg.missed ≤ p.missed

/-- A line's part of a cycle's end: a suspension for 0x61 runs down. -/
def LinePhys.endCycle (p : LinePhys) : LinePhys := { p with suspCycles := if 1 < p.suspCycles then p.suspCycles - 1 else p.suspCycles }

/-- The end of a cycle (R202 to R204): counts of peers, recovery runs of the node's faults. -/
def Dev.endCycle (h : Half) (d : Dev) : Dev :=
  let l := d.line h
  let peers := l.peers.map (Peer.endCycle (l.sinceBeacon == 0))
  let lost := peers.filter Peer.nowUnheard
  let d := d.onLine h fun l =>
    { l with
      peers := peers.map fun p => if p.nowUnheard then { p with heard := false, s := 0, last := [] } else p
      lineA := l.lineA.endCycle, lineB := l.lineB.endCycle
      silent64 := false, s64Cycles := l.s64Cycles + 1, ownSlots := 0, failedTx := [], statusSent := 0
      clean65 := !l.sixtyFive, sixtyFive := false
      diffCycles := l.diffCycles + 1, dupCycles := l.dupCycles + 1
      voteWait := l.voteWait - 1 }
  lost.foldl (fun (d : Dev) p => d.ownerUnheard h p.cfg.address) d

def Dev.mutedSource (d : Dev) (h : Half) (a : Nat) : Bool := (d.line h).muted.contains a

/-- R180: a source is silenced until the next valid BEACON; a source already silenced is not counted again. -/
def Dev.muteSource (h : Half) (a : Nat) (d : Dev) : Dev :=
  d.onLine h fun l =>
    { l with lastMuted := a, mutes := if d.mutedSource h a then l.mutes else satAdd 16 l.mutes 1
             muted := if l.muted.contains a then l.muted else a :: l.muted }

/-- 0x65 naming source `a`. -/
def Dev.outOfSlot (h : Half) (a : Nat) (d : Dev) : Dev :=
  (d.raise 0x65 .linePair 0 h a).onLine h fun l => { l with sixtyFive := true, clean65 := false }

/-! ## Slots on the slot clock (R175, R180) -/

/-- R178, R197: slots of this node that this unit transmits in. -/
def Dev.ownsSlot (d : Dev) (h : Half) (s : Slot) : Bool :=
  let first := match d.rigPart h with
    | some p => match p.duplex with | some x => x.val.ownpos == d.position | none => true
    | none => true
  s.owner == d.lineAddress h && match s.kind with
    | .own | .retry => first
    | .twin | .retryTwin => !first
    | .beacon => false

/-- R180: the start-delimiter end `sd` lies in the window of slot `s`. -/
def Dev.inWindow (d : Dev) (h : Half) (ref sd : Nat) (s : Slot) : Bool :=
  let slack := (d.line h).ppm (d.lineRec h) + 2 * 96
  ref + s.offset * 96 ≤ sd + slack && sd ≤ ref + s.offset * 96 + 2 * 96 * d.tPath h + slack

/-- R180: some slot of source `a` takes a start-delimiter end at `sd`. -/
def Dev.inSlot (d : Dev) (h : Half) (a sd : Nat) : Bool :=
  match (d.line h).slotRef with
  | some ref => (d.slots h).any fun s => s.owner == a && decide (s.kind ≠ .beacon) && d.inWindow h ref sd s
  | none => true

/-- R181: a BEACON arrives within the master's window, one cycle after the reference; a node without a current cycle
number takes the first one (R196). DEDUCED: the NORMAL BEACON of R208 may start at any frame boundary, so a node in
reef, or one that missed the BEACON since PROPOSE, takes it at any instant (log 20). -/
def Dev.beaconInSlot (d : Dev) (h : Half) (m : ReefMode) (sd : Nat) : Bool :=
  let l := d.line h
  let free := decide (m = .normal) && l.inReef && (decide (l.mode = .reef) || l.sinceBeacon != 0)
  match l.cycle, l.slotRef with
  | some _, some ref => free || d.inWindow h (ref + l.period (d.lineRec h)) sd { kind := .beacon }
  | _, _ => true

/-- MODE of a telegram that is a BEACON. -/
def Telegram.beaconMode (t : Telegram) : ReefMode :=
  match t.entries with
  | .beacon m _ _ :: _ => m
  | _ => .normal

/-- R180: the instant of a telegram lies in a window of its source. -/
def Dev.timely (d : Dev) (h : Half) (t : Telegram) (sd : Nat) : Bool :=
  if t.type = 1 ∧ t.src = (d.lineRec h).master then d.beaconInSlot h t.beaconMode sd else d.inSlot h t.src sd

/-- R192: both start-delimiter ends lie in one window. -/
def Dev.sameWindow (d : Dev) (h : Half) (sa sb : Nat) : Bool :=
  match (d.line h).cycle, (d.line h).slotRef with
  | some _, some ref =>
    let next := ref + (d.line h).period (d.lineRec h)
    (d.slots h).any (fun s => d.inWindow h ref sa s && d.inWindow h ref sb s)
      || (d.inWindow h next sa { kind := .beacon } && d.inWindow h next sb { kind := .beacon })
      || !((d.slots h).any (fun s => d.inWindow h ref sa s || d.inWindow h ref sb s))
  | _, _ => true

/-! ## Copies (R188, R192) -/

/-- What a line brought: nothing (or it is suspended), an invalid copy, a valid telegram. -/
inductive Received
  | absent
  | invalid
  | valid (t : Telegram) (bytes : List Byte) (sd : Nat)
  deriving DecidableEq, Repr

def Received.telegram : Received → Option Telegram
  | .valid t _ _ => some t
  | _ => none

def Dev.readCopy (d : Dev) (h : Half) (x : Line) (c : Option Copy) : Received :=
  if ((d.line h).phys x).suspended then .absent
  else match c with
    | none => .absent
    | some c =>
      let tb := bitCycles (d.lineRec h).rate
      match c.reception tb with
      | some r => match telegramIn (d.lineRec h).key (d.line h).cycle r.1 with
        | some t => .valid t r.1 r.2
        | none => .invalid
      | none => if c.begun tb then .invalid else .absent

/-- A valid copy that its instant or its source rules out: discarded with 0x65 (R180, When a node hears its own
address), or expected from the partner. -/
inductive Judgement
  | keep
  | drop
  | foreign (a : Nat) (mute : Bool)
  deriving DecidableEq, Repr

def Dev.judge (d : Dev) (h : Half) (t : Telegram) (sd : Nat) : Judgement :=
  let own := d.lineAddress h
  let master := (d.lineRec h).master
  if t.src = own then
    -- the partner's BEACON opens the cycle, its other telegrams are expected
    if d.hasDuplex && t.dup && t.dpos != (d.position == 1) && d.timely h t sd then (if t.type = 1 then .keep else .drop)
    else .foreign own false
  else if !d.timely h t sd then .foreign t.src true
  else if t.type = 1 then (if t.src = master then .keep else .drop)
  else if d.mutedSource h t.src then .drop
  else if t.src = master || ((d.line h).peers.any fun p => p.cfg.address == t.src) then .keep
  else .drop

/-- The counts of one line's reception, and 0x65 where its telegram is out of slot. -/
def Dev.noteCopy (h : Half) (x : Line) (c : Option Copy) (r : Received) (d : Dev) : Dev :=
  match r with
  | .absent => d
  | .invalid =>
    (d.decoderCheck h x (match c with | some c => c.agree (bitCycles (d.lineRec h).rate) | none => true)).onLine h fun l =>
      l.onPhys x LinePhys.countInvalid
  | .valid t _ sd =>
    let d' := d.decoderCheck h x true
    match d.judge h t sd with
    | .foreign a mute => let d' := d'.outOfSlot h a
                         if mute then d'.muteSource h a else d'
    | _ => d'

/-- A received copy that the pair decision of R192 still takes. -/
def Dev.kept (d : Dev) (h : Half) (r : Received) : Received :=
  match r with
  | .valid t _ sd => if d.judge h t sd = .keep then r else .absent
  | r => r

/-- R192. -/
inductive Decision
  | none
  | differ (src : Nat)
  /-- the telegram with the instant of the earlier copy, and the lines it came on -/
  | accept (t : Telegram) (sd : Nat) (onA onB : Bool)
  deriving DecidableEq, Repr

def decidePair : Received → Received → Decision
  | .valid t ba sa, .valid _ bb sb => if ba = bb then .accept t (min sa sb) true true else .differ t.src
  | .valid t _ sa, _ => .accept t sa true false
  | _, .valid t _ sb => .accept t sb false true
  | _, _ => .none

/-- R192, 0x67: an accepted telegram that line `x` did not bring. -/
def Dev.singleCopy (h : Half) (x : Line) (missing : Bool) (d : Dev) : Dev :=
  let d := d.onLine h fun l => l.onPhys x fun p =>
    { p with singleHist := (missing :: p.singleHist).take 64, single := if missing then satAdd 16 p.single 1 else p.single }
  let bad := (((d.line h).phys x).singleHist.filter (· == true)).length
  if missing && 3 ≤ bad then d.raiseLine h x 0x67 else d

/-- R192: two valid copies of which no window holds both are no pair: copy B then stands for itself. -/
def Dev.pairUp (d : Dev) (h : Half) (cp : CopyPair) : CopyPair :=
  match d.readCopy h .a cp.a, d.readCopy h .b cp.b with
  | .valid _ _ sa, .valid _ _ sb => if d.sameWindow h sa sb then cp else { cp with b := none }
  | _, _ => cp

/-- The decision on a copy pair with all its counts; the accepted telegram and its instant. -/
def Dev.receive (h : Half) (pair : CopyPair) (d : Dev) : Option (TakenTel × Nat) × Dev :=
  let cp := d.pairUp h pair
  let ra := d.readCopy h .a cp.a
  let rb := d.readCopy h .b cp.b
  let dec := decidePair (d.kept h ra) (d.kept h rb)
  let d := (d.noteCopy h .a cp.a ra).noteCopy h .b cp.b rb
  match dec with
  | .none => (none, d)
  | .differ src =>
    (none, (d.raise 0x68 .linePair 0 h src |>.muteSource h src).onLine h fun l =>
      { l with diffCycles := 0, namedSrc := src, namedCode := 0x68 })
  | .accept t sd onA onB =>
    let d := (d.singleCopy h .a (!onA)).singleCopy h .b (!onB)
    (some ({ tel := t, onA, onB }, sd), d.onLine h fun l => { l with bothRun := if onA && onB then l.bothRun + 1 else 0 })

/-- The TYPE that a copy pair brings, if any copy of it is valid. -/
def Dev.pairType (d : Dev) (h : Half) (cp : CopyPair) : Option Nat :=
  match (d.readCopy h .a cp.a).telegram with
  | some t => some t.type
  | none => (d.readCopy h .b cp.b).telegram.map (·.type)

/-! ## Peers (R193, R205) -/

def LineNode.peer (l : LineNode) (a : Nat) : Option Peer := l.peers.find? (·.cfg.address == a)
def Dev.onPeer (h : Half) (a : Nat) (f : Peer → Peer) (d : Dev) : Dev :=
  d.onLine h fun l => { l with peers := mapIf (fun p => p.cfg.address == a) f l.peers }

/-- R193: what becomes of an accepted telegram of a peer. -/
inductive Taking | taken | duplicate (differs : Bool) | stale deriving DecidableEq, Repr

def Peer.taking (p : Peer) (t : Telegram) : Taking :=
  if !p.heard || newer p.s t.tseq then .taken
  else if t.tseq = p.s then .duplicate (decide (p.last ≠ t.entries))
  else .stale

/-- An accepted telegram counts its source as heard (R203, R204). -/
def Peer.hear (p : Peer) : Peer := { p with heard := true, got := true, missed := 0 }

/-- A remote point that leaves OFFLINE, or is made DISTURBED until its owner reports it (R91, R205). -/
def Dev.ownerDisturbed (h : Half) (a : Nat) (onlyOffline : Bool) (d : Dev) : Dev :=
  let sel := fun (p : Point) => Node.ownedBy a p && (!onlyOffline || decide (p.state = .offline))
  let pts := (d.node h).points.filter sel
  let d := d.onNode h fun n => { n with points := mapIf sel (fun p => { p.disturb with reported := false, heardOnce := true }) n.points }
  pts.foldl (fun (d : Dev) p => d.clearF 0x44 .point p.cfg.index h) d

/-- R94, R205: `a` is no consumer of any entry. -/
def Journal.dropConsumer (a : Nat) (j : Journal) : Journal :=
  { j with entries := j.entries.map fun e => { e with consumers := e.consumers.filter (· ≠ a) } }

/-- R205: what a node that joins, or one that R95 removed as a consumer, loses and keeps. -/
def Dev.rejoinOf (h : Half) (t : Telegram) (d : Dev) : Dev :=
  let d := d.onPeer h t.src fun p =>
    { p.hear with s := t.tseq, last := t.entries, dropped := false, hi := none, applied := [], verdicted := [] }
  let d := d.onNode h fun n => { n with journal := n.journal.dropConsumer t.src }
  d.ownerDisturbed h t.src false

/-- R193 on the peer, with 0x69 where a duplicate's entries differ; a peer that was dropped as a consumer rejoins
(R95). -/
def Dev.takeFrom (h : Half) (t : Telegram) (d : Dev) : Bool × Dev :=
  match (d.line h).peer t.src with
  | none => (true, d)
  | some p => match p.taking t with
    | .taken => (true, if p.dropped then d.rejoinOf h t
        else d.onPeer h t.src fun p => { p.hear with s := t.tseq, last := t.entries })
    | .duplicate differs =>
      let d := d.onPeer h t.src Peer.hear
      (false, if differs then (d.raise 0x69 .linePair 0 h t.src).onLine h fun l =>
          { l with dupCycles := 0, namedSrc := t.src, namedCode := 0x69 } else d)
    | .stale => (false, d.onPeer h t.src Peer.hear)

/-- R205: a JOIN with a SESSION not accepted before. -/
def Dev.acceptJoin (h : Half) (t : Telegram) (session : Word) (d : Dev) : Dev :=
  match (d.line h).peer t.src with
  | none => d
  | some p =>
    if p.session = some session then (d.takeFrom h t).2
    else (d.rejoinOf h t).onPeer h t.src fun p => { p with session := some session }

/-! ## BEACON (R196, R206 to R208) -/

/-- R104: a RESTING section waits for the owners of its remote boundary points. -/
def Node.startRejoin (n : Node) : Node :=
  { n with sections := n.sections.map fun (s : Sect) =>
      if s.state = .resting then
        { s with rejoin := some ((n.boundPoints s).filterMap fun p => if p.cfg.kind = .remote then some p.cfg.owner else none) }
      else s }

/-- R207: reef-capable CLEAR sections go RESTING. -/
def Node.rest (frame : Word) (n : Node) : Node :=
  { n with sections := n.sections.map fun (s : Sect) =>
      if decide (s.state = .clear) && s.cfg.reef then { s with state := .resting, change := frame, rejoin := none } else s }

/-- What the MODE of a cycle's BEACON does at a node, sent or accepted. -/
def Dev.applyMode (h : Half) (m : ReefMode) (round : Nat) (d : Dev) : Dev :=
  let l := d.line h
  let was := l.mode
  let d := d.onLine h fun l => { l with mode := m, round }
  -- the full cycle is restored, also where the NORMAL BEACON that said so was missed (R104, R208)
  let restored := (decide (was = .reef) || decide (was = .commit)) && (decide (m = .normal) || decide (m = .propose))
  let d := if restored then
      (d.onLine h fun l => { l with fullFrom := l.cycle, peers := l.peers.map fun p => { p with missed := 0 } }).onNode h Node.startRejoin
    else d
  match m with
  | .normal =>
    (d.onLine h fun l => { l with inReef := false, voteDue := none, wakeBursts := 0, wakeReq := false }).clearF 0x6B .lineNode 0 h
  | .propose => d.onLine h fun l => { l with inReef := true, voteDue := l.cycle }
  | .commit => (d.onNode h (Node.rest d.frame)).onLine h fun l => { l with inReef := true, voteDue := none, reefs := satAdd 16 l.reefs 1 }
  | .reef =>
    let d := if was = .reef ∨ was = .commit then d
      else (d.onNode h (Node.rest d.frame)).onLine h fun l => { l with reefs := satAdd 16 l.reefs 1 }
    d.onLine h fun l => { l with inReef := true, voteDue := none }

/-- R206, R210: the MODE and ROUND of the line master's next BEACON. -/
def Dev.nextMode (d : Dev) (h : Half) : ReefMode × Nat :=
  let l := d.line h
  if l.wakePending then (.normal, 0)
  else match l.mode with
    | .commit => if l.zeroReef then (.normal, 0) else (.reef, 0)
    | .reef => (.reef, 0)
    | _ => match l.vote with
      | some v =>
        if v.round = 1 then (.propose, 2)
        else
          let nodes : List Nat := match d.schedule h with | some s => s.val.nodes.map Prod.fst | none => []
          if !v.no && !v.aborted && nodes.all (fun a => v.yes1.contains a && v.yes2.contains a) then (.commit, 0)
          else (.normal, 0)
      | none => if l.proposeReq && (d.lineRec h).reef && l.voteWait = 0 then (.propose, 1) else (.normal, 0)

/-- What a BEACON with CYCLE `cyc` leaves at the line master: the vote's course, E_0 and the next offset from it
(R196, R206 to R208, R210). -/
def LineNode.beaconDone (r : LineRec) (m : ReefMode) (round : Nat) (cyc : Half16) (l : LineNode) : LineNode :=
  let step := if m = .reef then 1000000 else r.cycle * 1000
  let l := { l with beaconCycle := some cyc, e0Next := l.e0Next + step, wakePending := false }
  match m with
  | .propose =>
    { l with vote := if round = 1 then some { round := 1, cycle := cyc } else l.vote.map fun v => { v with round := 2 } }
  | .commit => { l with vote := none, proposeReq := false, zeroReef := false }
  | .reef => l
  | .normal =>
    { l with vote := none, zeroReef := false
             proposeReq := l.proposeReq && l.vote.isNone
             voteWait := if l.vote.isSome then 64 else l.voteWait
             zeroReefs := if l.zeroReef then satAdd 16 l.zeroReefs 1 else l.zeroReefs }

/-- A cycle opens with number `cyc` and the reference `sd` and ends the one before it (R175, R196, R202). -/
def Dev.openCycle (h : Half) (cyc : Half16) (sd : Nat) (d : Dev) : Dev :=
  (if (d.line h).cycle.isSome then d.endCycle h else d).onLine h fun l =>
    { l with cycle := some cyc, sinceBeacon := 0, slotRef := some sd, muted := [] }

/-- R196, R202, R203: an accepted BEACON. The cycle that it ends counts first, then the BEACON is heard. -/
def Dev.acceptBeacon (h : Half) (t : Telegram) (sd : Nat) (d : Dev) : Dev :=
  let fresh := match (d.line h).cycle with | some c => newer c t.cycle | none => true
  match t.entries with
  | [.beacon m round sid] =>
    if !fresh then d
    else
      let old : Bool := match (d.line h).peer t.src with | some p => decide (p.taking t ≠ .taken) | none => false
      if old then (d.takeFrom h t).2
      else
        let d := ((d.openCycle h t.cycle sd).takeFrom h t).2
        let d := d.ownerDisturbed h t.src true
        -- a duplex partner sent the BEACON of this node: the units share TSEQ and the cycle's course (R193)
        let d := if t.src = d.lineAddress h then
            d.onLine h fun l => { (l.beaconDone (d.lineRec h) m round t.cycle) with tseq := t.tseq }
          else d
        let d := if sid = d.schedId h then
            (d.clearF 0x6A .lineNode 0 h).onLine h fun l => { l with silent6A := false }
          else (if d.hasFault 0x6A .lineNode 0 h then d else d.raise 0x6A .lineNode 0 h).onLine h fun l => { l with silent6A := true }
        let d := d.applyMode h m round
        d.onNode h fun n => { n with joinBeacon := n.joinBeacon || !n.line.silent6A }
  | _ => d

/-! ## Meanings: receptions -/

/-- The copies bring a telegram of another TYPE, which is another command's. -/
def Dev.foreignType (d : Dev) (h : Half) (cp : CopyPair) (ty : Nat) : Bool :=
  match d.pairType h cp with | some x => x != ty | none => false

/-- R206: an axle event reported on the line pair, for the first time. -/
def Telegram.reports (t : Telegram) : Bool :=
  t.entries.any fun e => match e with
    | .pointEvent _ _ _ replay _ _ => !replay
    | _ => false

/-- BEACON (R175, R181, R192, R196). -/
def execBeacon (h : Half) (cp : CopyPair) : State → Out :=
  up fun d =>
    if !d.hasLine h || d.foreignType h cp 1 then d
    else match d.receive h cp with
      | (some (t, sd), d) => if t.tel.src = (d.lineRec h).master then d.acceptBeacon h t.tel sd else d
      | (none, d) => d

/-- DATA_TELEGRAM (R192, R193): the entries of a taken telegram are an input of the next frame's work. -/
def execDataTelegram (h : Half) (cp : CopyPair) : State → Out :=
  up fun d =>
    if !d.hasLine h || d.foreignType h cp 2 then d
    else match d.receive h cp with
      | (some (t, _), d) =>
        let d := if t.tel.reports then d.onLine h fun l => { l with quietFrame := d.frame } else d
        let r := d.takeFrom h t.tel
        if r.1 then
          { r.2 with capOpen := { r.2.capOpen with telegrams := r.2.capOpen.telegrams ++ [(h, t)] } }
        else r.2
      | (none, d) => d

/-- JOIN_TELEGRAM (R205). -/
def execJoinTelegram (h : Half) (cp : CopyPair) : State → Out :=
  up fun d =>
    if !d.hasLine h || d.foreignType h cp 3 then d
    else match d.receive h cp with
      | (some (t, _), d) => match t.tel.entries with
        | [.join _ session] => d.acceptJoin h t.tel session
        | _ => d
      | (none, d) => d

/-- INVALID_COPY (R179, R188): a reception that ends as an invalid copy is counted and discarded. -/
def execInvalidCopy (h : Half) (x : Line) (c : Copy) : State → Out :=
  up fun d =>
    if d.hasLine h ∧ d.readCopy h x (some c) = .invalid then d.noteCopy h x (some c) .invalid else d

/-! ## Meanings: line checks and recoveries (Table LIN-4, Table TEL-4) -/

/-- SLOT_GATE_CLOSE (R178). -/
def execSlotGateClose (h : Half) (cyc : Nat) : State → Out :=
  up fun d => d.onLine h fun l =>
    { l with lineA := l.lineA.gateClose (d.stamp cyc), lineB := l.lineB.gateClose (d.stamp cyc) }

/-- BIAS_CHECK (R179): 0x60 at the fourth consecutive failure. -/
def execBiasCheck (h : Half) (x : Line) (high : Bool) : State → Out :=
  up fun d =>
    if !d.hasLine h then d
    else
      let d := d.onLine h fun l => l.onPhys x fun p =>
        { p with biasFails := if high then 0 else p.biasFails + 1, biasGood := if high then p.biasGood + 1 else 0 }
      if 4 ≤ ((d.line h).phys x).biasFails && !d.lineFault h x 0x60 then d.raiseLine h x 0x60 else d

/-- COMMON_MODE_FAULT (Table LIN-4). -/
def execCommonModeFault (h : Half) (x : Line) : State → Out :=
  up fun d =>
    if !d.hasLine h || ((d.line h).phys x).susp62 then d
    else ((d.onLine h fun l => l.onPhys x fun p => { p with susp62 := true, suspFrame := d.frame }).raiseLine h x 0x62).checkUnusable h

/-- LINE_SUSPENSION_END (0x61): transmission resumes after 256 cycles. -/
def execLineSuspensionEnd (h : Half) (x : Line) : State → Out :=
  upIn (fun _ => h) fun d =>
    if ((d.line h).phys x).suspCycles = 1 then
      (d.onLine h fun l => l.onPhys x fun p => { p with suspCycles := 0 }).usableAgain h
    else d

/-- LINE_FAULT_RECOVERY (Table LIN-4). For 0x62 the command says that the comparator has been in range for
1 000 ms, which are 2 000 frames. -/
def execLineFaultRecovery (h : Half) (code : Nat) (x : Line) : State → Out :=
  upIn (fun _ => h) fun d =>
    let l := d.line h
    let p := l.phys x
    match code with
    | 0x60 => if 64 ≤ p.biasGood then d.clearLine h x 0x60 else d
    | 0x61 => if 8 ≤ p.cleanTx && p.suspCycles = 0 then d.clearLine h x 0x61 else d
    | 0x62 =>
      if p.susp62 && 2000 ≤ d.ago p.suspFrame then
        ((d.onLine h fun l => l.onPhys x fun p => { p with susp62 := false }).clearLine h x 0x62).usableAgain h
      else d
    | 0x63 => if 64 ≤ p.decGood then d.clearLine h x 0x63 else d
    | 0x64 => if 2000 ≤ l.s64Cycles then d.clearF 0x64 .lineNode 0 h else d
    | 0x65 => if l.clean65 then d.clearF 0x65 .linePair 0 h else d
    | 0x66 => d.usableAgain h
    | _ => d

/-- R200: published entries that some consumer has not acknowledged. -/
def Journal.inFlight (j : Journal) : Nat := (j.entries.filter fun e => e.published && !e.consumers.isEmpty).length

/-- TELEGRAM_FAULT_RECOVERY (Table TEL-4); 0x6A and 0x6B clear at a BEACON. -/
def execTelegramFaultRecovery (h : Half) (code : Nat) (x : Line) : State → Out :=
  upIn (fun _ => h) fun d =>
    let l := d.line h
    match code with
    | 0x67 => if 64 ≤ l.bothRun then d.clearLine h x 0x67 else d
    | 0x68 => if 64 ≤ l.diffCycles then d.clearF 0x68 .linePair 0 h else d
    | 0x69 => if 64 ≤ l.dupCycles then d.clearF 0x69 .linePair 0 h else d
    | 0x6A => if l.silent6A then d else d.clearF 0x6A .lineNode 0 h
    | 0x6B => if l.mode = .normal then d.clearF 0x6B .lineNode 0 h else d
    | 0x6C => if (d.node h).journal.inFlight < 448 then d.clearF 0x6C d.coreKind (d.coreObj h) h else d
    | _ => d

/-- R202: the instant by which a cycle ends without a BEACON, T_cyc + 2 × T_path + 100 µs after its reference. -/
def Dev.beaconLimit (d : Dev) (h : Half) (ref : Nat) : Nat :=
  ref + (d.line h).period (d.lineRec h) + 2 * 96 * d.tPath h + 100 * 96

/-- MISSED_BEACON_TIMEOUT (R202, R203): the cycle ends, the number advances, the slot clock goes on by T_cyc. The
first timeout ends a cycle that had its BEACON; at the end of the 16th cycle without one the node holds no number
(R196), while its cycles and the suspensions counted in them go on (DEDUCED, log 121). -/
def execMissedBeaconTimeout (h : Half) (cyc : Nat) : State → Out :=
  up fun d =>
    let l := d.line h
    match l.slotRef with
    | some ref =>
      if !d.hasLine h || d.stamp cyc < d.beaconLimit h ref then d
      else
        (d.endCycle h).onLine h fun x =>
          { x with cycle := if 16 ≤ x.sinceBeacon then none else x.cycle.map (· + 1), sinceBeacon := x.sinceBeacon + 1
                   slotRef := some (ref + l.period (d.lineRec h)) }
    | none => d

end Sys2Proof.Machine
end

