-- ==== Sys2Proof/Machine/Cycle.lean ====
section
/-! DEFINITION. The line cycle as a node drives it (10, 11): composition of telegrams (R198 to R201), own, twin and
retry slots (R172, R197, R199), the line master's BEACON (R196), reef and wake (R206 to R210), and step 3 of a
frame's work (R194, R195). -/
namespace Sys2Proof.Machine

/-! ## What a node publishes -/

def Point.published (p : Point) : Bool := p.cfg.publish && decide (p.cfg.kind ≠ .remote)

def dedupNat (l : List Nat) : List Nat := l.foldl (fun acc x => if acc.contains x then acc else acc ++ [x]) []

def Node.pointGroups (n : Node) : List Nat := dedupNat ((n.points.filter Point.published).map (·.cfg.index / 16))
def Node.sectGroups (n : Node) : List Nat := dedupNat ((n.sections.filter (·.cfg.publish)).map (·.cfg.index / 8))

/-- POINT_STATUS codes: COUNTING 0, otherwise 1; 3 where not published. -/
def Node.pointCode (n : Node) (i : Nat) : Nat :=
  match n.point i with
  | some p => if p.published then (if p.state = .counting then 0 else 1) else 3
  | none => 3

def SectionState.code : SectionState → Nat
  | .clear => 0 | .occupied => 1 | .disturbed => 2 | .prep => 3 | .resting => 4

def Node.sectCode (n : Node) (i : Nat) : Nat :=
  match n.sect i with
  | some s => if s.cfg.publish then s.state.code else 7
  | none => 7

def Node.pointEntry (n : Node) (g : Nat) : Entry := .pointStatus g ((List.range 16).map fun k => n.pointCode (16 * g + k))
def Node.sectEntry (n : Node) (g : Nat) : Entry := .sectionState g ((List.range 8).map fun k => n.sectCode (8 * g + k))

/-! ## The transmit queue (R198 to R201) -/

/-- R206: the node votes yes. -/
def Dev.votesYes (d : Dev) (h : Half) (n : Node) : Bool :=
  (d.lineRec h).reef
  && n.journal.entries.all (fun e => e.consumers.isEmpty)
  && n.journal.entries.all (fun e => decide (e.verdict ≠ .pending) ||
      (match n.point e.point with | some p => !p.published | none => true))
  && (n.points.filter Point.published).all fun p => decide (p.state = .counting) && d.vacant h p.cfg.index

/-- A POINT_EVENT entry for journal entry `e` with the verdict `v` that stands at the boundary (R201). -/
def JEntry.entry (e : JEntry) (v : Verdict) : Entry := .pointEvent v e.ba e.res e.sentV.isSome e.point e.seq

/-- The least recently sent first; TSEQs compare under R4. -/
def insertSent (e : JEntry) : List JEntry → List JEntry
  | [] => [e]
  | x :: xs => if newer e.lastSent x.lastSent then e :: x :: xs else x :: insertSent e xs

/-- A status group (of sections, else of points) as an entry. -/
def Node.statusEntry (n : Node) (g : Bool × Nat) : Entry := if g.1 then n.sectEntry g.2 else n.pointEntry g.2

def Node.statusGroups (n : Node) : List (Bool × Nat) := n.pointGroups.map (Prod.mk false) ++ n.sectGroups.map (Prod.mk true)

/-- The published groups, the least recently sent first (R198). -/
def Node.statusOrder (n : Node) (l : LineNode) : List (Bool × Nat) :=
  (n.statusGroups.filter fun g => !l.lru.contains g) ++ l.lru.filter n.statusGroups.contains

/-- Status groups that each cycle has to carry so that every one is sent in 8 cycles (R198). -/
def Node.statusPace (n : Node) : Nat := (n.statusGroups.length + 7) / 8

def LineNode.statusDone (g : Bool × Nat) (l : LineNode) : LineNode :=
  { l with lru := l.lru.filter (· ≠ g) ++ [g], statusSent := l.statusSent + 1 }

/-- The entries of a telegram in R198's order: `view` the device as it stands at the boundary, `n` as transmission has
left it since; `first` in the first own slot. DEDUCED: the status groups without which one would miss its 8 cycles go
before the replays (log 120). -/
def Dev.queue (view : Dev) (h : Half) (n : Node) (first : Bool) : List Entry :=
  let v := view.node h
  let l := n.line
  let verdictOf := fun (e : JEntry) => match v.journal.entries.find? (·.seq == e.seq) with | some x => x.verdict | none => .pending
  let mine := n.journal.entries.filter fun e => !e.consumers.isEmpty && v.journal.entries.any (·.seq == e.seq)
  let fresh := (mine.filter (·.sentV.isNone)).take (512 - n.journal.inFlight)
  let judged := mine.filter fun e => decide (e.sentV = some .pending) && decide (verdictOf e ≠ .pending)
  let replays := (mine.filter fun e => e.sentV.isSome && !(decide (e.sentV = some .pending) && decide (verdictOf e ≠ .pending))).foldl
    (fun acc e => insertSent e acc) []
  let pts := l.changedPts.filter v.line.changedPts.contains
  let secs := l.changedSecs.filter v.line.changedSecs.contains
  let votes := match l.voteDue with
    | some c => if first then [Entry.reefVote (view.votesYes h v) c] else []
    | none => []
  let rest := (v.statusOrder n.line).filter fun g => if g.1 then !secs.contains g.2 else !pts.contains g.2
  let due := v.statusPace - n.line.statusSent
  (l.acks.filter v.line.acks.contains).map (fun a => .ack a.1 a.2)
    ++ fresh.map (fun e => e.entry (verdictOf e)) ++ judged.map (fun e => e.entry (verdictOf e))
    ++ votes ++ pts.map v.pointEntry ++ secs.map v.sectEntry ++ (rest.take due).map v.statusEntry
    ++ replays.map (fun e => e.entry (verdictOf e)) ++ (rest.drop due).map v.statusEntry

/-- What sending an entry leaves in the node; a status group whose state has changed since the boundary stays marked. -/
def Node.sent (own : Nat) (e : Entry) (n : Node) : Node :=
  match e with
  | .ack o q => n.onLine fun l => { l with acks := l.acks.erase (o, q) }
  | .pointEvent v _ _ _ _ q =>
    { n with journal := { n.journal with entries := n.journal.entries.map fun x =>
        if x.seq = q then { x with published := true, sentV := some v, lastSent := n.line.tseq } else x } }
  | .pointStatus g _ => n.onLine fun l =>
      { l.statusDone (false, g) with changedPts := if e = n.pointEntry g then l.changedPts.filter (· ≠ g) else l.changedPts }
  | .sectionState g _ => n.onLine fun l =>
      { l.statusDone (true, g) with changedSecs := if e = n.sectEntry g then l.changedSecs.filter (· ≠ g) else l.changedSecs }
  | .reefVote yes c => n.onLine fun l =>
      { l with voteDue := none
               vote := l.vote.map fun v =>
                 if !yes then { v with no := true }
                 else if c = v.cycle then { v with yes1 := own :: v.yes1 } else { v with yes2 := own :: v.yes2 } }
  | _ => n

/-- R235: the TSEQ of the next new telegram. -/
def Dev.nextTseq (d : Dev) (h : Half) : Word := (d.line h).tseq + (if d.dpx.skipTx then 17 else 1)

/-- Header of a telegram composed at a boundary with device time `dt`. -/
def Dev.header (d : Dev) (h : Half) (type : Nat) (cyc : Half16) (dt : DTime) (es : List Entry) : Telegram :=
  { type, dup := d.hasDuplex, dpos := d.hasDuplex && d.position == 1, src := d.lineAddress h, dst := 0, cycle := cyc
    tseq := d.nextTseq h, dtime := dt.setWidth 32, entries := es }

/-- LX_DE and LX_TX on the lines that are not suspended. -/
def LineNode.driven (x : Drive) (l : LineNode) : LineNode :=
  let put := fun (p : LinePhys) => if p.suspended then p else { p with drive := some x }
  { l with lineA := put l.lineA, lineB := put l.lineB }

/-- What the lines are to echo of a telegram (R179). -/
def Dev.cellsOf (d : Dev) (h : Half) (t : Telegram) : List Cell :=
  telegramCells (d.lineRec h).preamble (t.bytes (d.lineRec h).key)

/-- The echo on line `x` reproduces telegram `t`. -/
def Dev.echoOk (d : Dev) (h : Half) (x : Line) (t : Telegram) (e : CopyPair) : Bool :=
  (e.on x).echoes (bitCycles (d.lineRec h).rate) (d.cellsOf h t)

/-- The telegram's bytes go out from `start` on, and the echoes are checked (R172, R179). -/
def Dev.drive (h : Half) (t : Telegram) (e : CopyPair) (start : Nat) (d : Dev) : Dev :=
  let r := d.lineRec h
  let bs := t.bytes r.key
  let d := d.onLine h fun l =>
    { (l.driven { start, stop := start + envelope r.rate r.preamble bs.length, wave := telegramWave r.rate r.preamble start bs }) with txTel := some t }
  (d.echoCheck h .a (d.echoOk h .a t e)).echoCheck h .b (d.echoOk h .b t e)

/-- A new telegram takes its TSEQ and goes out. -/
def Dev.transmit (h : Half) (t : Telegram) (e : CopyPair) (start : Nat) (d : Dev) : Dev :=
  (({ d with dpx := { d.dpx with skipTx := false } } : Dev).onLine h fun l => { l with tseq := t.tseq }).drive h t e start

/-- An own transmission whose echo fails on a line in use (R199); `d` as it stands before the transmission. -/
def Dev.echoFails (d : Dev) (h : Half) (t : Telegram) (e : CopyPair) : Bool :=
  (!(d.line h).lineA.suspended && !d.echoOk h .a t e) || (!(d.line h).lineB.suspended && !d.echoOk h .b t e)

/-- R198: a DATA telegram with room for `k` entries, and what composing it leaves. -/
def Dev.compose (h : Half) (k : Nat) (first : Bool) (view : Dev) (cyc : Half16) (d : Dev) : Telegram × Dev :=
  let es := (view.queue h (d.node h) first).take k
  (d.header h 2 cyc view.dt es, d.onNode h fun n => es.foldl (fun n e => n.sent (d.lineAddress h) e) n)

/-! ## SLOT_START -/

/-- Roles that transmit (Table DPX-1, R229). -/
def Dev.roleTransmits (d : Dev) : Bool :=
  !d.hasDuplex || match d.dpx.role with
    | .active | .solo => true
    | .standby => d.dpx.unmirrored = 0
    | _ => false

/-- R175: the node has a valid BEACON in this cycle and may request a transmission. -/
def Dev.mayRequest (d : Dev) (h : Half) : Bool :=
  let l := d.line h
  d.hasLine h && d.inService h && d.roleTransmits && l.cycle.isSome && l.sinceBeacon == 0

/-- 0x64, or 0x6D with the safe state while 0x64 is active (Table LIN-4). -/
def Dev.outsideWindow (h : Half) (d : Dev) : Dev :=
  if d.hasFault 0x64 .lineNode 0 h then d.safeOf 0x6D h 0
  else (d.raise 0x64 .lineNode 0 h).onLine h fun l => { l with silent64 := true, s64Cycles := 0 }

/-- The published state that a slot starting at `start` is composed from: that of the latest boundary at least 40 µs
before it (R198). -/
def Dev.viewAt (bank prev d : Dev) (start : Nat) : Dev := if d.stamp 0 + 40 * 96 ≤ start then bank else prev

def SlotKind.retries : SlotKind → Bool
  | .retry | .retryTwin => true
  | _ => false

/-- The start of slot `s` on the slot clock (11, The cycle). -/
def Dev.slotAt (d : Dev) (h : Half) (s : Slot) : Nat :=
  let r := d.lineRec h
  ((d.line h).slotRef.getD 0) + s.offset * 96 - r.bitTimes (10 + r.preamble)

/-- R178: a request at `t` lies in slot `s`, which is this unit's, and an `len`-byte telegram ends by its close. -/
def Dev.inGate (d : Dev) (h : Half) (s : Slot) (t len : Nat) : Bool :=
  let r := d.lineRec h
  d.ownsSlot h s && decide (d.slotAt h s ≤ t)
    && decide (t + envelope r.rate r.preamble len ≤ d.slotAt h s + envelope r.rate r.preamble s.lclass)

/-- A transmission in an own slot that this unit owns, requested at `at_`. -/
def Dev.useSlot (h : Half) (s : Slot) (e : CopyPair) (at_ : Nat) (view : Dev) (d : Dev) : Dev :=
  let l := d.line h
  let cyc := l.cycle.getD 0
  let first := l.ownSlots == 0 && !s.kind.retries
  let room := (s.lclass - 24) / 8
  -- a telegram that would overrun the window is dropped with 0x64 before anything of it happens
  let send := fun (t : Telegram) (next : Dev) => if d.inGate h s at_ (24 + 8 * t.entries.length) then next else d.outsideWindow h
  let note := fun (t : Telegram) (x : Dev) => x.onLine h fun l =>
    if s.kind.retries then l
    else { l with ownSlots := l.ownSlots + 1, failedTx := if d.echoFails h t e then l.failedTx ++ [t] else l.failedTx }
  let new := fun (_ : Unit) =>
    let c := Dev.compose h room first view cyc d
    send c.1 (note c.1 (c.2.transmit h c.1 e at_))
  match if s.kind.retries then l.failedTx else [] with
  | t :: rest =>
    -- the repeat carries the TSEQ of the original
    if 24 + 8 * t.entries.length ≤ s.lclass then send t ((d.onLine h fun l => { l with failedTx := rest }).drive h t e at_)
    else new ()
  | [] =>
    if first && l.joinsLeft ≠ 0 then
      let t := d.header h 3 cyc view.dt [.join l.joinReason l.session]
      send t (note t ((d.onLine h fun l => { l with joinsLeft := l.joinsLeft - 1 }).transmit h t e at_))
    else new ()

/-- SLOT_START (R172, R178, R197 to R199, R207): a request outside this node's windows is dropped with 0x64, in a
silent cycle too (Table LIN-4, 0x6D). -/
def execSlotStart (h : Half) (slot : Nat) (echo : CopyPair) (cyc : Nat) (s : State) : Out :=
  up (fun d =>
    match (d.slots h)[slot]? with
    | none => d
    | some x =>
      if !d.mayRequest h then d
      else if !d.inGate h x (d.stamp cyc) 24 then d.outsideWindow h
      else if (d.line h).silent ∨ ((d.line h).mode = .reef ∧ ((d.line h).ownSlots ≠ 0 ∨ x.kind.retries)) then d
      else Dev.useSlot h x echo (d.stamp cyc) (Dev.viewAt s.bank s.prev d (d.slotAt h x)) d) s

/-! ## BEACON_SEND -/

/-- The unit that sends its node's BEACON: the claiming one; while it joins, one that no partner's claim forestalls
(DEDUCED: slot 0 has no twin, log 21). -/
def Dev.sendsBeacon (d : Dev) (h : Half) : Bool :=
  d.hasLine h && d.isMaster h && !(d.line h).silent
  && (!d.hasDuplex || d.dpx.claim || (decide ((d.node h).sys = .verify) && !d.dpx.pclaim))

/-- R175: the start-delimiter end of the earlier echo of the BEACON `t` that both decoders bear out. -/
def Dev.beaconEcho (d : Dev) (h : Half) (t : Telegram) (e : CopyPair) : Option Nat :=
  let on := fun (x : Line) => if ((d.line h).phys x).suspended then none else
    match (e.on x).reception (bitCycles (d.lineRec h).rate) with
    | some r => if r.1 = t.bytes (d.lineRec h).key then some r.2 else none
    | none => none
  match on .a, on .b with
  | some a, some b => some (min a b)
  | some a, none => some a
  | none, x => x

/-- BEACON_SEND (R175, R196, R206 to R208, R210): due at E_0 and its offset, within this frame at the latest; composed
like every telegram at the latest boundary 40 µs before it (R198). The echo starts the master's slot clock; without
one it has no valid BEACON in this cycle and its clock goes on from the nominal instant. -/
def execBeaconSend (h : Half) (echo : CopyPair) (s : State) : Out :=
  up (fun d =>
    let l := d.line h
    let r := d.lineRec h
    let due := l.e0.toNat + l.e0Next
    if !d.sendsBeacon h || d.dt.toNat + 500 ≤ due then d
    else
      let m := d.nextMode h
      let cyc := match l.beaconCycle with | some c => c + 1 | none => 0
      let t := d.header h 1 cyc (Dev.viewAt s.bank s.prev d (due * 96)).dt [.beacon m.1 m.2 (d.schedId h)]
      let heard := d.beaconEcho h t echo
      let d := d.openCycle h cyc (heard.getD (due * 96 + r.bitTimes (10 + r.preamble)))
      let d := d.transmit h t echo (due * 96)
      let d := d.onLine h fun l => l.beaconDone r m.1 m.2 cyc
      let d := d.applyMode h m.1 m.2
      let d := d.onLine h fun l => if heard.isSome then l else { l with sinceBeacon := 1 }
      d.onNode h fun n => { n with joinBeacon := n.joinBeacon || heard.isSome }) s

/-! ## Wake (R182, R183, R208 to R210) -/

/-- R210: a wake at the line master, by the course of the reef; in reef E_0 is the second boundary after the frame that
takes the wake, `lead` µs after the open frame's (R208). -/
def Dev.masterWake (h : Half) (lead : Nat) (d : Dev) : Dev :=
  match (d.line h).mode with
  | .propose => d.onLine h fun l => { l with wakeReq := false, vote := l.vote.map fun v => { v with aborted := true } }
  | .commit => d.onLine h fun l => { l with wakeReq := false, zeroReef := true }
  | .reef =>
    if (d.line h).wakePending then d
    else d.onLine h fun l => { l with wakeReq := false, wakePending := true, e0 := d.dt + BitVec.ofNat 48 lead, e0Next := 0 }
  | .normal => d

/-- WAKE_DETECTED (R183, R208, R210): outside reef it is only counted; the master takes it in its next frame's work
(10, Worked case: the Tesk Valley line). Either line's sense class counts, suspended or not. -/
def execWakeDetected (h : Half) (a b : List Nat) (cyc : Nat) : State → Out :=
  up fun d =>
    if !d.hasLine h || !(wakeSeen (d.stamp cyc) a || wakeSeen (d.stamp cyc) b) then d
    else if !(d.line h).inReef then d.onLine h fun l => { l with wakesIgnored := satAdd 16 l.wakesIgnored 1 }
    else if d.isMaster h then d.masterWake h 1500
    else d

/-- R182: one burst from `t` on, on the lines that are not suspended (Table LIN-4). -/
def Dev.burst (h : Half) (t : Nat) (d : Dev) : Dev :=
  d.onLine h fun l =>
    { (l.driven { start := t, stop := t + wakeCycles, wave := wakeWave t, wake := true }) with
      wakeReq := false, wakeBursts := l.wakeBursts + 1, wakeEnd := t + wakeCycles, wakesSent := satAdd 16 l.wakesSent 1 }

/-- R208: a cause of waking, acted on in a frame's work: a node's burst starts at the boundary that ends the frame, the
instant being its own choice (DESIGN CHOICE, log 122). While a course of bursts runs, a cause adds nothing. -/
def Dev.wakeCause (h : Half) (d : Dev) : Dev :=
  let l := d.line h
  if !l.wakeReq then d
  else if !l.inReef || !d.hasLine h || !d.roleTransmits then d.onLine h fun l => { l with wakeReq := false }
  else if d.isMaster h then d.masterWake h 1000
  else if (d.lineRec h).wake && l.wakeBursts = 0 && !l.bothSuspended then d.burst h (d.stamp 0 + 48000)
  else d.onLine h fun l => { l with wakeReq := false }

/-- WAKE_RETRY (R209): 30 ms + 220 µs × address after the end of the burst; after eight, 0x6B, and the next cause
starts anew. -/
def execWakeRetry (h : Half) (cyc : Nat) : State → Out :=
  up fun d =>
    let l := d.line h
    if !d.hasLine h || !l.inReef || l.wakeBursts = 0 || d.stamp cyc < l.wakeEnd + (30000 + 220 * d.lineAddress h) * 96 then d
    else if l.wakeBursts < 8 then d.burst h (d.stamp cyc)
    else (if d.hasFault 0x6B .lineNode 0 h then d else d.raise 0x6B .lineNode 0 h).onLine h fun l => { l with wakeBursts := 0 }

/-- REEF_QUIET_TIMEOUT (R206): the line master proposes after the quiet time. -/
def execReefQuietTimeout (h : Half) : State → Out :=
  up fun d =>
    let r := d.lineRec h
    let l := d.line h
    if d.hasLine h && d.isMaster h && r.reef && !l.inReef && 2000 * r.quiet ≤ d.ago l.quietFrame then
      d.onLine h fun l => { l with proposeReq := true }
    else d

/-! ## Step 3 of a frame's work (R91, R194, R195, R201, R206) -/

/-- Events and verdicts that step 3 hands to step 4. -/
structure Remote where
  evs : List AxleEvt := []
  vs : List VerdictIn := []
  deriving DecidableEq, Repr

/-- R194 over the record kept for an owner. -/
inductive Eseq | fresh | known | old deriving DecidableEq, Repr

def Peer.eseq (p : Peer) (q : Word) : Eseq :=
  if p.applied.contains q then .known
  else match p.hi with
    | none => .fresh
    | some m => if newer (m - 1024) q then .fresh else .old

/-- ESEQ `q` has been applied: only the 1 024 values up to the highest are kept. -/
def Peer.apply (q : Word) (p : Peer) : Peer :=
  let hi := match p.hi with | some m => if newer m q then q else m | none => q
  let keep := fun (x : Word) => newer (hi - 1024) x
  { p with hi := some hi, applied := (q :: p.applied).filter keep, verdicted := p.verdicted.filter keep }

/-- R195: one ACK for every copy of an entry. -/
def LineNode.addAck (a : Nat × Word) (l : LineNode) : LineNode := { l with acks := l.acks ++ [a] }

/-- A POINT_EVENT entry from owner `a` (R194, R195). -/
def Dev.remoteEvent (h : Half) (a : Nat) (v : Verdict) (ba res : Bool) (pt : Nat) (q : Word) (x : Remote) (d : Dev) :
    Remote × Dev :=
  match (d.line h).peer a, (d.node h).points.find? fun p => Node.ownedBy a p && p.cfg.ownerPoint == pt with
  | some p, some r =>
    let judged := decide (v ≠ .pending)
    let ack := fun (d : Dev) => if judged then d.onLine h (LineNode.addAck (a, q)) else d
    let mark := fun (d : Dev) => if judged then d.onPeer h a fun p => { p with verdicted := q :: p.verdicted } else d
    match p.eseq q with
    | .fresh =>
      let d := d.onPeer h a (Peer.apply q)
      let d := d.onNode h fun n => n.onPoint r.cfg.index fun p =>
        { p with eseq := q, lastBa := ba, lastV := v, lastRes := res, events := satAdd 16 p.events 1 }
      ({ x with evs := x.evs ++ [{ owner := a, eseq := q, point := r.cfg.index, ba, verdict := v }] }, ack (mark d))
    | .known =>
      if judged && !p.verdicted.contains q then
        let d := d.onNode h fun n => n.onPoint r.cfg.index fun p => if p.eseq = q then { p with lastV := v } else p
        ({ x with vs := x.vs ++ [{ owner := a, eseq := q, verdict := v }] }, ack (mark d))
      else (x, ack d)
    | .old => (x, d)
  | _, _ => (x, d)

/-- R91: a POINT_STATUS entry of owner `a`; 0b10 and 0b11 make a point DISTURBED. -/
def Node.pointStatus (a g : Nat) (codes : List Nat) (n : Node) : Node :=
  { n with points := n.points.map fun p =>
      if Node.ownedBy a p && p.cfg.ownerPoint / 16 == g then
        match codes[p.cfg.ownerPoint % 16]? with
        | some 0 => { p with state := .counting, reported := true }
        | some c => { p with state := .disturbed, reported := c == 1 }
        | none => p
      else p }

/-- R201, R94: an ACK from consumer `a` for an owned event. -/
def Journal.acknowledge (a : Nat) (q : Word) (j : Journal) : Journal :=
  { j with entries := j.entries.map fun e => if e.seq = q then { e with consumers := e.consumers.filter (· ≠ a) } else e }

/-- A REEF_VOTE of node `a` for cycle `c` at the line master. -/
def ReefVote.take (a : Nat) (yes : Bool) (c : Half16) (v : ReefVote) : ReefVote :=
  if !yes then { v with no := true }
  else if c = v.cycle then { v with yes1 := a :: v.yes1 }
  else if c = v.cycle + 1 then { v with yes2 := a :: v.yes2 } else v

def Dev.remoteEntry (h : Half) (a : Nat) (e : Entry) (x : Remote × Dev) : Remote × Dev :=
  let d := x.2
  match e with
  | .pointEvent v ba res _ pt q => d.remoteEvent h a v ba res pt q x.1
  | .pointStatus g codes => (x.1, d.onNode h (Node.pointStatus a g codes))
  | .sectionState g codes =>
    let shown := (List.range codes.length).map fun k => (8 * g + k, codes.getD k 7)
    (x.1, d.onPeer h a fun p => { p with sections := shown ++ p.sections.filter (fun s => decide (s.1 / 8 ≠ g)) })
  | .ack owner q =>
    (x.1, if owner = d.lineAddress h then d.onNode h fun n => { n with journal := n.journal.acknowledge a q } else d)
  | .reefVote yes c => (x.1, d.onLine h fun l => { l with vote := l.vote.map (ReefVote.take a yes c) })
  | _ => x

/-- R104: a telegram of `a` in a full cycle has been accepted. The events that the owner replays in it are applied with
it; DESIGN CHOICE: that one telegram is taken for all that the owner replayed, since a receiver is told of no others
(log 115). -/
def Node.heardFrom (a : Nat) (n : Node) : Node :=
  { n with sections := n.sections.map fun (s : Sect) => { s with rejoin := s.rejoin.map fun l => l.filter (· ≠ a) } }

/-- One telegram of step 3; of one whose DST names another node the entries are ignored (R188). -/
def Dev.remoteTelegram (h : Half) (x : Remote × Dev) (t : Telegram) : Remote × Dev :=
  let d := x.2.ownerDisturbed h t.src true
  let mine := t.dst == 0 || t.dst == d.lineAddress h
  let r := (if mine then t.entries else []).foldl (fun x e => Dev.remoteEntry h t.src e x) (x.1, d)
  let full : Bool := decide ((d.line h).mode ≠ .reef) && match (d.line h).fullFrom with | some c => !newer t.cycle c | none => true
  if full then (r.1, r.2.onNode h (Node.heardFrom t.src)) else r

/-- Step 3 of a frame's work. -/
def Dev.remoteFrame (h : Half) (ts : List Telegram) (d : Dev) : Remote × Dev :=
  ts.foldl (Dev.remoteTelegram h) ({}, d)

/-- The line's part at the end of a frame's work: the in-flight limit (R200), causes of waking (R208). -/
def Dev.lineFrame (h : Half) (completed : Bool) (d : Dev) : Dev :=
  if !d.hasLine h then d
  else
    let n := (d.node h).journal.inFlight
    let d := if 512 ≤ n && !d.hasFault 0x6C d.coreKind (d.coreObj h) h then d.raise 0x6C d.coreKind (d.coreObj h) h else d
    let d := if completed then d.onLine h fun l => { l with quietFrame := d.frame, wakeReq := l.wakeReq || l.inReef } else d
    d.wakeCause h

/-- At a boundary: the groups whose published states differ from the bank that closes, and with it a cause of waking
in reef; RESTING itself is none (DEDUCED, log 22). -/
def Node.noteChanges (before n : Node) : Node :=
  let pts := n.pointGroups.filter fun g => decide (n.pointEntry g ≠ before.pointEntry g)
  let secs := n.sectGroups.filter fun g => decide (n.sectEntry g ≠ before.sectEntry g)
  let wakes := !pts.isEmpty || n.sections.any fun s =>
    s.cfg.publish && decide (s.state ≠ .resting) && n.sectCode s.cfg.index != before.sectCode s.cfg.index
  n.onLine fun l =>
    { l with changedPts := dedupNat (l.changedPts ++ pts), changedSecs := dedupNat (l.changedSecs ++ secs)
             wakeReq := l.wakeReq || (wakes && l.inReef) }

end Sys2Proof.Machine
end

