-- ==== Sys2Proof/Machine/Record.lean ====
section
/-! DEFINITION. The link layer of the halyard and of the twin link (R246, Table HAL-2), and RECORD as bytes (R408,
Table DPX-3a). -/
namespace Sys2Proof.Machine

/-! ## Messages (R246) -/

/-- A message: its header (Table HAL-2) and its payload. -/
structure LinkMsg where
  type : Nat := 0
  pos : Nat := 0
  epoch : Half16 := 0
  frame : Word := 0
  payload : List Byte := []
  deriving DecidableEq, Repr

/-- Header and payload. -/
def LinkMsg.body (m : LinkMsg) : List Byte :=
  toBytes 1 m.type ++ toBytes 1 m.pos ++ toBytes 2 m.epoch.toNat ++ toBytes 4 m.frame.toNat ++ toBytes 2 m.payload.length ++ m.payload

/-- What stands between the start and the end character. -/
def LinkMsg.bytes (m : LinkMsg) : List Byte := m.body ++ toBytes 4 (crc32c m.body).toNat

/-- The message that a byte string between a start and an end character is, where its count matches LEN and its CRC
checks. -/
def linkOf (bs : List Byte) : Option LinkMsg :=
  let n := bs.length - 4
  if 14 ≤ bs.length ∧ fieldAt bs 8 2 + 10 = n ∧ (crc32c (bs.take n)).toNat = fieldAt bs n 4 then
    some { type := fieldAt bs 0 1, pos := fieldAt bs 1 1, epoch := BitVec.ofNat 16 (fieldAt bs 2 2)
           frame := BitVec.ofNat 32 (fieldAt bs 4 4), payload := slice bs 10 (n - 10) }
  else none

/-- TYPEs of the twin link. -/
def twinTypes : List Nat := [0x11, 0x12, 0x13, 0x14]

/-! ## RECORD (Table DPX-3a) -/

def PointState.code : PointState → Nat
  | .counting => 0 | .disturbed => 1 | .offline => 2

def PointState.ofCode : Nat → Option PointState
  | 0 => some .counting | 1 => some .disturbed | 2 => some .offline | _ => none

def PointResult.bytes : PointResult → List Byte
  | .event e => [0x01] ++ toBytes 1 (2 * b2n e.ba + b2n e.res) ++ toBytes 2 e.point ++ toBytes 4 (e.dtime.toNat % 2 ^ 32)
  | .state p s => [0x02] ++ toBytes 1 s.code ++ toBytes 2 p
  | .verdict p v => [0x03] ++ toBytes 1 v.code ++ toBytes 2 p

def TakenTel.bytes (key : Word) (t : TakenTel) : List Byte :=
  let bs := t.tel.bytes key
  [0x04] ++ toBytes 1 (b2n t.onA + 2 * b2n t.onB) ++ toBytes 2 bs.length ++ bs

def RecCmd.bytes (c : RecCmd) : List Byte :=
  [0x05] ++ toBytes 1 c.port.val ++ toBytes 1 c.opc ++ toBytes 1 c.tag ++ toBytes 2 c.index ++ [0, 0] ++ toBytes 4 c.data.toNat
    ++ (List.range 4).flatMap (fun k => toBytes 4 (c.par.getD k 0).toNat) ++ toBytes 4 c.nonce.toNat

/-- The payload under line key `key`. -/
def RecordMsg.payload (key : Word) (m : RecordMsg) : List Byte :=
  toBytes 4 m.signature.toNat ++ toBytes 1 (b2n m.handover) ++ [0]
    ++ toBytes 2 (m.results.length + m.telegrams.length + m.commands.length)
    ++ m.results.flatMap PointResult.bytes ++ m.telegrams.flatMap (TakenTel.bytes key) ++ m.commands.flatMap RecCmd.bytes

/-- An entry of a payload. -/
inductive RecEntry
  | result (r : PointResult)
  | telegram (t : TakenTel)
  | command (c : RecCmd)
  deriving DecidableEq, Repr

/-- The first entry of `bs` with its length; a point event carries 32 bits of its device time. -/
def recEntryOf (key : Word) (bs : List Byte) : Option (RecEntry × Nat) :=
  let b1 := fieldAt bs 1 1
  let pt := fieldAt bs 2 2
  match fieldAt bs 0 1 with
  | 0x01 => if 8 ≤ bs.length ∧ b1 < 4 then
      some (.result (.event { point := pt, ba := b1.testBit 1, res := b1.testBit 0, dtime := BitVec.ofNat 48 (fieldAt bs 4 4) }), 8) else none
  | 0x02 => if 4 ≤ bs.length then (PointState.ofCode b1).map fun s => (.result (.state pt s), 4) else none
  | 0x03 => if 4 ≤ bs.length ∧ b1 < 4 then some (.result (.verdict pt (Verdict.ofCode b1)), 4) else none
  | 0x04 => if 4 + pt ≤ bs.length ∧ b1 < 4 then
      (telegramOf key (slice bs 4 pt)).map fun t => (.telegram { tel := t, onA := b1.testBit 0, onB := b1.testBit 1 }, 4 + pt) else none
  | 0x05 => if 32 ≤ bs.length ∧ b1 < 2 ∧ fieldAt bs 6 2 = 0 then
      some (.command { port := if b1 = 0 then 0 else 1, opc := pt / 256, tag := pt % 256, index := fieldAt bs 4 2
                       data := BitVec.ofNat 32 (fieldAt bs 8 4)
                       par := (List.range 4).map fun k => BitVec.ofNat 32 (fieldAt bs (12 + 4 * k) 4)
                       nonce := BitVec.ofNat 32 (fieldAt bs 28 4) }, 32) else none
  | _ => none

/-- `n` entries that fill `bs`. -/
def recEntriesOf (key : Word) : Nat → List Byte → Option (List RecEntry)
  | 0, bs => if bs.isEmpty then some [] else none
  | n + 1, bs => match recEntryOf key bs with
    | some e => (recEntriesOf key n (bs.drop e.2)).map (e.1 :: ·)
    | none => none

/-- The RECORD that a message carries, if its payload is one. -/
def recordOf (key : Word) (m : LinkMsg) : Option RecordMsg :=
  let bs := m.payload
  if 8 ≤ bs.length ∧ fieldAt bs 4 1 < 2 ∧ fieldAt bs 5 1 = 0 then
    (recEntriesOf key (fieldAt bs 6 2) (bs.drop 8)).map fun es =>
      { epoch := m.epoch, frame := m.frame, handover := fieldAt bs 4 1 == 1, signature := BitVec.ofNat 32 (fieldAt bs 0 4)
        results := es.filterMap fun e => match e with | .result r => some r | _ => none
        telegrams := es.filterMap fun e => match e with | .telegram t => some t | _ => none
        commands := es.filterMap fun e => match e with | .command c => some c | _ => none }
  else none

/-- The boundary frame and device time that the 32 bits of an event stand for (R249). -/
def Dev.rebuild (d : Dev) (e : RawEvent) : RawEvent :=
  let back := (d.dt.setWidth 32 - (e.dtime.setWidth 32 : Word)).toNat
  { e with dtime := d.dt - BitVec.ofNat 48 back, frame := d.frame - BitVec.ofNat 32 ((back + 499) / 500) }

end Sys2Proof.Machine
end

