-- ==== Sys2Proof/Machine/Duplex.lean ====
section
/-! DEFINITION. Duplex pairs and the shroud (12): claims and roles (R214 to R222), giving up control and held handover
(R232 to R234), the twin link's HELLO, SHADOW and TRANSFER (R223, R224, R228, R237, R238), with the meanings of
their commands. RECORD and what a missing RECORD means stand with the frame's work. -/
namespace Sys2Proof.Machine

def Dev.onDpx (f : Dpx → Dpx) (d : Dev) : Dev := { d with dpx := f d.dpx }

/-- The device is the standalone or master device of a unit of a duplex pair (R212, R215, R240). -/
def Dev.pair (d : Dev) : Bool := d.hasDuplex && !d.split && d.stackPos == 0 && !d.nodeA.safe

/-- R215: SHO0 and SHO1 at stamp `t`. -/
def Dev.sho0 (d : Dev) (t : Nat) : Bool := d.dpx.claim && d.stackPos == 0 && decide (t / 96 % 100 < 50)
def Dev.sho1 (d : Dev) (t : Nat) : Bool := d.dpx.claim && d.stackPos == 0 && decide (50 ≤ t / 96 % 100)

def Dev.raiseUnit (code : Nat) (d : Dev) : Dev := d.raise code .unit 0
def Dev.clearUnit (code : Nat) (d : Dev) : Dev := d.clearF code .unit 0
def Dev.unitFault (d : Dev) (code : Nat) : Bool := d.hasFault code .unit 0

/-- Opcode of SWITCHOVER (Table HST-3). -/
def opcSwitchover : Nat := 0x25

/-- A pending SWITCHOVER completes. -/
def Dev.endSwitch (st : Status) (d : Dev) : Dev :=
  match d.dpx.switchCmd with
  | some c => (d.complete { port := c.1, opc := opcSwitchover, tag := c.2 } st 0).onDpx fun x => { x with switchCmd := none }
  | none => d

/-- Opcode of RESYNC (Table HST-3). -/
def opcResync : Nat := 0x26

/-- A pending RESYNC completes. -/
def Dev.endResync (st : Status) (d : Dev) : Dev :=
  match d.dpx.resyncCmd with
  | some c => (d.complete { port := c.1, opc := opcResync, tag := c.2 } st 0).onDpx fun x => { x with resyncCmd := none }
  | none => d

/-- R241: what awaits a partner that is lost completes TWIN_LOST: SWITCHOVER, RESYNC, an activation not yet in the
frame work. -/
def Dev.endPartnerOps (d : Dev) : Dev :=
  let awaits := fun (c : HostCmd) => c.opc == 0x33 && c.ran.isNone && c.verdict.isNone
  let mark := fun (x : Port) => { x with journal := mapIf awaits (fun c => { c with verdict := some .twinLost }) x.journal }
  let d := (d.endSwitch .twinLost).endResync .twinLost
  { d with port0 := mark d.port0, port1 := mark d.port1 }

/-! ## Roles (Table DPX-2) -/

/-- A role change clears 0x78 (Table DPX-6). -/
def Dev.setRole (r : Role) (d : Dev) : Dev :=
  if d.dpx.role = r then d
  else (d.onDpx fun x => { x with role := r, offAt := if r = .offline then d.dt.toNat * 96 else x.offAt }).clearUnit 0x78

/-- A mirroring unit that leaves sync goes on with its own point machines (Table DPX-1, OFFLINE). -/
def Dev.dropMirror (d : Dev) : Dev :=
  let own := fun (p : Point) => match d.dpx.shadow.find? (·.cfg.index == p.cfg.index) with | some s => { s with waits := [] } | none => p
  ({ d with nodeA := { d.nodeA with points := d.nodeA.points.map own } }).onDpx fun x =>
    { x with shadow := [], queue := [], step := 0, progress := 0, mirror := false, skipSeq := false, skipTx := false }

/-- R224, R226, R235: a unit leaves STANDBY or SYNCING for OFFLINE. -/
def Dev.leaveSync (d : Dev) : Dev :=
  match d.dpx.role with
  | .standby | .syncing => (d.dropMirror.setRole .offline).onDpx fun x => { x with unmirrored := 0 }
  | _ => d

/-- An ACTIVE unit whose partner left sync goes on SOLO; what awaited the partner completes TWIN_LOST (R241). -/
def Dev.partnerGone (d : Dev) : Dev :=
  let d := d.onDpx fun x => { x with prole := none, partnerHo := [], partnerStaged := none, snapshot := none, sentBlocks := 0 }
  if d.dpx.role = .active then (d.setRole .solo).endPartnerOps else (d.endSwitch .twinLost).endResync .twinLost

/-- R238: a failed attempt; three within 60 s raise 0x76. -/
def Dev.failSync (d : Dev) : Dev :=
  if d.dpx.role ≠ .syncing then d
  else
    let d := d.leaveSync
    let fails := d.frame :: d.dpx.fails.filter fun f => d.ago f ≤ 120000
    let d := d.onDpx fun x => { x with fails, failFrame := d.frame, retryWait := true }
    if 3 ≤ fails.length then (d.raiseUnit 0x76).onDpx fun x => { x with lock76 := true } else d

/-- R224: the twin link freezes. -/
def Dev.freezeTwin (d : Dev) : Dev :=
  if d.dpx.frozen then d
  else
    let d := (d.onDpx fun x => { x with frozen := true, frozenFrame := d.frame, bad := 0 }).raiseUnit 0x75
    let d := if d.dpx.role = .syncing then d.failSync else d
    (d.leaveSync).partnerGone

/-! ## The claim (R215 to R222, R232) -/

/-- The unit's lines follow what it may supply (R53, R54). -/
def Dev.adjustLines (d : Dev) : Dev := if d.supplies .a then d.linesOn .a else d.linesOff .a

/-- The claim stops: R39 opens the lines; where no partner claims they return after their DISCHARGE (Table DPX-1). -/
def Dev.stopClaim (d : Dev) : Dev :=
  let d := (d.onDpx fun x => { x with claim := false }).linesOff .a
  (if d.dpx.pclaim then d else d.linesOn .a).driveGates

/-- R232 without hold. -/
def Dev.giveUp (d : Dev) : Dev :=
  let d := (d.onDpx fun x => { x with hold := false, handover := false, handNext := false }).stopClaim
  (d.endSwitch .twinLost).setRole .offline

/-- R222. -/
def Dev.positionConflict (d : Dev) : Dev :=
  let d := d.leaveSync
  let d := if d.dpx.claim then d.giveUp else d.setRole .offline
  (d.raiseUnit 0x7A).onDpx fun x => { x with lock7A := true }

/-- Events of point `pt` in this frame's results that wait for RECORD. -/
def Dev.unnumbered (d : Dev) (pt : Nat) : Nat :=
  if d.dpx.awaitRecord then (d.dpx.results.filter fun r => match r with | .event e => e.point == pt | _ => false).length else 0

/-- R236: a unit that gains the claim keeps its shadow machines; a point DISTURBED on either side is DISTURBED. The
waiting verdicts belong to the point's latest pending journal entries; events of a frame not yet evaluated come after. -/
def Dev.adoptShadow (d : Dev) : Dev :=
  let merge := fun (p : Point) => match d.dpx.shadow.find? (·.cfg.index == p.cfg.index) with
    | some s =>
      let pend := (d.nodeA.journal.entries.filter fun e => e.point == p.cfg.index && decide (e.verdict = .pending)).map (·.seq)
      let old := s.waits.take (s.waits.length - d.unnumbered p.cfg.index)
      let n := min pend.length old.length
      let waits := List.zipWith (fun (w : Wait) q => { w with eseq := q, numbered := true }) (old.drop (old.length - n)) (pend.drop (pend.length - n))
      let q := { p with pas := s.pas, recover := s.recover, entered := s.entered, waits := waits ++ s.waits.drop old.length }
      if decide (p.state = .disturbed) || decide (s.state = .disturbed) then q.disturb else q
    | none => p
  ({ d with nodeA := { d.nodeA with points := d.nodeA.points.map merge } }).onDpx fun x => { x with shadow := [] }

/-- CLAIM_START with OUTPUT_ADOPTION (R215, R151). -/
def Dev.gainClaim (held : Bool) (d : Dev) : Dev :=
  let d := d.onDpx fun x => { x with claim := true, claimFrame := d.frame, partnerHandover := false, unmirrored := 0 }
  ((d.setRole .solo).adoptAll held).driveGates

/-- R221: the partner's claim is present while the own claim runs. -/
def Dev.contention (d : Dev) : Dev :=
  if d.position = 0 then
    ((d.onDpx fun x => { x with contSince := some (x.contSince.getD d.frame) }).raiseUnit 0x70).driveGates
  else
    let again := d.dpx.giveUps.any fun f => d.ago f ≤ 120000
    let d := (d.raiseUnit 0x70).giveUp.onDpx fun x => { x with giveUps := d.frame :: x.giveUps, contEnd := d.frame }
    if again then d.positionConflict else d

/-- CLAIM_PRESENT: the partner's claim appears. -/
def Dev.partnerClaims (t : Nat) (d : Dev) : Dev :=
  let d := d.onDpx fun x => { x with pclaim := true, presAt := t }
  if d.dpx.claim && d.pair then d.contention
  else if d.dpx.hold then (d.endSwitch .ok).adjustLines
  else d.adjustLines

/-- SHROUD_VALID_PAIR (R216, R221): a change of both lines in opposite directions. One that comes 40 µs to 60 µs after
the one before is a valid pair; any other is only the first of a new run, and keeps no claim present. -/
def execShroudValidPair (cyc : Nat) : State → Out :=
  up fun d =>
    let t := d.stamp cyc
    let x := d.dpx
    let valid := decide (1 ≤ x.pairRun) && decide (x.pairRef + 40 * 96 ≤ t) && decide (t ≤ x.pairRef + 60 * 96)
    let run := if valid then min 4 (x.pairRun + 1) else 1
    let d := d.onDpx fun x => { x with pairRun := run, pairRef := t, lastPair := if valid then t else x.lastPair }
    if 4 ≤ run && !x.pclaim then d.partnerClaims t else d

/-- CLAIM_ABSENT (R216, R220, R221): 250 µs without a valid pair. -/
def execClaimAbsent (cyc : Nat) : State → Out :=
  up fun d =>
    let t := d.stamp cyc
    if !d.dpx.pclaim || t < d.dpx.lastPair + 250 * 96 then d
    else
      let d := d.onDpx fun x => { x with pclaim := false, pairRun := 0, absentSince := t }
      if !d.pair then d.adjustLines
      else match d.dpx.role with
        | .standby =>
          -- R54, R220: lines on, and the claim without a wait
          let held := d.dpx.partnerHandover
          ((d.takeoverLines.adoptShadow).endSwitch .twinLost).gainClaim held
        | .syncing => d.failSync.adjustLines
        | .offline => (d.endResync .twinLost).adjustLines
        | _ =>
          -- R221: the gate permits again, outputs restart from OFF
          if d.dpx.contSince.isSome then
            ((d.onDpx fun x => { x with contSince := none, contEnd := d.frame }).adoptAll false).driveGates
          else d.driveGates

/-- CLAIM_READBACK_FAIL (R218): in two consecutive periods. -/
def execClaimReadbackFail : State → Out :=
  up fun d => if d.dpx.claim then d.giveUp.raiseUnit 0x77 else d

/-- R220: the sections of a unit that wins the arbitration are DISTURBED. -/
def Node.disturbAll (n : Node) : Node :=
  { n with sections := n.sections.map fun (s : Sect) => s.transit true false false }

/-- The unit may still claim: 0x77 and 0x7A forbid it until RESET_N. -/
def Dev.mayArbitrate (d : Dev) : Bool := !d.dpx.lock7A && !d.unitFault 0x77

/-- Cycles of the arbitration wait: 300 µs of absence, then 0 ms or 200 ms (R220). -/
def Dev.arbEnd (d : Dev) : Nat := max (d.dpx.absentSince + 300 * 96) d.dpx.offAt + (if d.position = 0 then 0 else 200000 * 96)

/-- ARBITRATION_WAIT_END (R220). -/
def execArbitrationWaitEnd : State → Out :=
  up fun d =>
    if !d.pair || d.dpx.role ≠ .offline || d.dpx.hold || d.dpx.pclaim || !d.inService .a || !d.mayArbitrate
        || d.stamp (500 * 96) < d.arbEnd then d
    else ({ d with nodeA := d.nodeA.disturbAll }.gainClaim false).adjustLines

/-- CONTENTION_TIMEOUT (R222): position 0, 2 000 frames. -/
def execContentionTimeout : State → Out :=
  up fun d =>
    match d.dpx.contSince with
    | some f => if d.pair && d.position = 0 && 2000 ≤ d.ago f then d.positionConflict.onDpx fun x => { x with contSince := none } else d
    | none => d

/-! ## Held handover (R234) -/

/-- HOLD_START: offset 250 µs of the announcing frame. -/
def execHoldStart : State → Out :=
  up fun d =>
    if d.pair && d.dpx.handover && d.dpx.claim then
      (d.onDpx fun x => { x with hold := true, holdAt := d.stamp (250 * 96) }).stopClaim
    else d

/-- HOLD_END: 400 µs after the partner's claim is present, or 3 000 µs after the own claim stopped, with 0x78. -/
def execHoldEnd : State → Out :=
  up fun d =>
    let now := d.stamp (500 * 96)
    let x := d.dpx
    let seen := x.pclaim && x.presAt + 400 * 96 ≤ now
    let expired := x.holdAt + 3000 * 96 ≤ now
    if !x.hold || !(seen || expired) then d
    else
      let d := (d.onDpx fun x => { x with hold := false, handover := false }).endSwitch .twinLost
      let d := (d.setRole .offline).driveGates
      if x.pclaim then d else d.raiseUnit 0x78

/-- Handover faults of the unit (R233). -/
def Dev.handoverFaults (d : Dev) : List Nat := [0x3D, 0x5A, 0x66, 0x80].filter d.codeActive

/-- R233, R239: in a frame's work, whether control is given up in the next frame, and since when each fault stands. -/
def Dev.handoverFrame (d : Dev) : Dev :=
  let now := d.handoverFaults
  let since := now.map fun c => (c, ((d.dpx.hoSince.find? (·.1 == c)).map (·.2)).getD d.frame)
  let d := d.onDpx fun x => { x with hoSince := since }
  let standby := decide (d.dpx.prole = some .standby)
  let due := decide (d.dpx.role = .active) && standby && now.all (fun c => !d.dpx.partnerHo.contains c)
    && since.any (fun s => 200 ≤ d.ago s.2) && 20000 ≤ d.ago d.dpx.claimFrame
  if due then d.onDpx fun x => { x with handNext := true } else d

/-! ## The twin link -/

/-- A message with the unit's epoch on a link that is not frozen; of others HELLO is still looked at. -/
def Dev.twinTakes (d : Dev) (epoch : Half16) : Bool := d.pair && !d.dpx.frozen && decide (epoch = d.dpx.epoch)

/-- R237, step 1: the unit enters SYNCING with the partner's timebase. -/
def Dev.enterSync (m : HelloMsg) (d : Dev) : Dev :=
  let local_ := (d.nodeA.points.filter fun p => p.cfg.kind ≠ .remote).map fun p => { p with waits := [] }
  let d := d.onDpx fun x => { x with
    epoch := x.epoch + 1, shadow := local_, step := 1, progress := 0, queue := [], mirror := false, unmirrored := 0
    awaitRecord := false, shown := [], prevShown := [] }
  (({ d with frame := m.frame, dt := m.dt, codePos := m.codePos % 63 }.setRole .syncing).clearUnit 0x71).clearUnit 0x73

/-- R237: both rigs and ROMs are equal, the positions differ. -/
def Dev.compatible (d : Dev) (m : HelloMsg) : Bool :=
  (match d.rig.active with | some r => decide (r.hash = m.hash) | none => false)
  && decide (m.romver = Config.romVersion) && m.position != d.position

/-- HELLO of a partner with the unit's epoch or a newer one. -/
def Dev.takeHello (m : HelloMsg) (d : Dev) : Dev :=
  let d := d.onDpx fun x => { x with prole := some m.role, epoch := m.epoch, bad := 0 }
  if m.position = d.position then (if d.unitFault 0x7A then d else d.positionConflict)
  else
    -- a partner that sends HELLO is not in sync; a STANDBY unit leaves sync under R235 only
    let d := if d.dpx.role = .active then (d.setRole .solo).endPartnerOps else d
    let d := d.onDpx fun x => { x with partnerShown := [] }
    let d := if m.role = .syncing then d.clearUnit 0x71 else d
    let d := if d.compatible m then d.clearUnit 0x73 else d
    let d := d.endResync .ok
    if d.dpx.role = .offline && d.dpx.pclaim && d.inService .a && d.mayArbitrate && !d.dpx.hold
        && !d.dpx.lock76 && !d.dpx.retryWait then
      (if d.compatible m then d.enterSync m else if d.unitFault 0x73 then d else d.raiseUnit 0x73)
    else d

/-- R225: one of the two units aligns its frames to the other's. -/
def Dev.alignedWith (d : Dev) (partner : Role) : Bool :=
  [Role.syncing, .standby].contains d.dpx.role || [Role.syncing, .standby].contains partner

def Dev.aligned (d : Dev) : Bool := d.alignedWith (d.dpx.prole.getD .offline)

/-- HELLO (R222, R224, R237): a frozen link opens after 2 000 frames to a newer epoch. -/
def execHello (m : HelloMsg) : State → Out :=
  up fun d =>
    if !d.pair then d
    else
      let newerEpoch := newer d.dpx.epoch m.epoch
      if d.dpx.frozen then
        (if newerEpoch && 2000 ≤ d.ago d.dpx.frozenFrame then
          ((d.onDpx fun x => { x with frozen := false, bad := 0 }).clearUnit 0x75).takeHello m
        else d)
      else if newerEpoch || m.epoch = d.dpx.epoch then
        if m.position = d.position then d.takeHello m
        else if !m.inWindow || (d.alignedWith m.role && m.frame ≠ d.frame) then d.freezeTwin
        -- a SYNCING unit hears its partner's HELLO under the old epoch; it does not leave sync for it
        else if d.dpx.role = .syncing then d.onDpx fun x => { x with prole := some m.role, bad := 0 }
        else d.takeHello m
      else d

/-! ## SHADOW at the active (R226, R228, R151) -/

def resultPoint : PointResult → Nat
  | .event e => e.point
  | .state p _ => p
  | .verdict p _ => p

/-- R228: what the two units' results of one frame say of a point. -/
structure PointView where
  events : List Bool
  verdicts : List Verdict
  deriving DecidableEq, Repr

def viewOf (pt : Nat) (rs : List PointResult) : PointView :=
  { events := rs.filterMap fun r => match r with | .event e => if e.point = pt then some e.ba else none | _ => none
    verdicts := rs.filterMap fun r => match r with | .verdict p v => if p = pt then some v else none | _ => none }

/-- Events or verdicts that raise 0x72. -/
def PointView.differs (a b : PointView) : Bool :=
  a.events ≠ b.events
    || (List.zip a.verdicts b.verdicts).any fun v =>
        (v.1 = .nonWheel && v.2 = .wheel) || (v.1 = .wheel && v.2 = .nonWheel)

def PointView.uncertains (a b : PointView) : Nat :=
  ((List.zip a.verdicts b.verdicts).filter fun v =>
    (v.1 = .uncertain && v.2 = .wheel) || (v.1 = .wheel && v.2 = .uncertain)).length

/-- The states of points after the state entries of some results. -/
def statesAfter (rs : List PointResult) (known : List (Nat × PointState)) : List (Nat × PointState) :=
  rs.foldl (fun acc r => match r with
    | .state p s => (p, s) :: acc.filter fun x => x.1 ≠ p
    | _ => acc) known

/-- The points that are DISTURBED on one side only, of those whose state both sides have shown. -/
def oneSided (a b : List (Nat × PointState)) : List Nat :=
  (a.filter fun x => match b.find? (·.1 == x.1) with
    | some y => decide (x.2 = .disturbed) != decide (y.2 = .disturbed)
    | none => false).map (·.1)

/-- R228 over all points that either unit reports; a disagreeing point is disturbed in the next frame's work. DEDUCED: a
point on which 0x72 stands is not raised anew for being DISTURBED on one side, since 0x72 itself makes it so (log
124). -/
def Dev.compareResults (m : ShadowMsg) (d : Dev) : Dev :=
  let own := d.dpx.prevResults
  let theirs := m.results
  let sided := oneSided d.dpx.prevShown d.dpx.partnerShown
  let pts := (dedupNat ((own ++ theirs).map resultPoint ++ sided)).filter fun p => !m.incomparable.contains p
  pts.foldl (fun (d : Dev) pt =>
    let a := viewOf pt own
    let b := viewOf pt theirs
    let d := d.onDpx fun x => { x with uncert := x.uncert + a.uncertains b }
    if a.differs b || (sided.contains pt && !d.hasFault 0x72 .point pt) then
      (d.raise 0x72 .point pt).onDpx fun x => { x with disagree := x.disagree + 1, pend72 := x.pend72 ++ [pt] }
    else d) d

/-- R237, step 4: the results of RECORD differ from the unit's own of the same frame, or a point is DISTURBED in the
mirror or in the shadow only. -/
def Dev.shadowDiffers (theirs : List PointResult) (d : Dev) : Bool :=
  let own := d.dpx.results
  let states := fun (l : List Point) => (l.filter fun p => decide (p.cfg.kind ≠ .remote)).map fun p => (p.cfg.index, p.state)
  (dedupNat ((own ++ theirs).map resultPoint)).any (fun pt => (viewOf pt own).differs (viewOf pt theirs))
    || !(oneSided (states d.nodeA.points) (states d.dpx.shadow)).isEmpty

/-- R151: a standby's observations of the output pulses. -/
def Dev.takeObs (m : ShadowMsg) (d : Dev) : Dev :=
  let d := m.obsDiffer.foldl (fun (d : Dev) n =>
    let d := d.onOut n fun o => { o with obsAgree := 0 }
    if d.hasFault 0x79 .output n then d else d.raise 0x79 .output n) d
  m.obsAgree.foldl (fun (d : Dev) n => d.onOut n fun o => { o with obsAgree := o.obsAgree + 1 }) d

/-- SHADOW (R214, R224, R226, R228). -/
def execShadow (m : ShadowMsg) : State → Out :=
  up fun d =>
    if !d.twinTakes m.epoch then d
    else if !m.inWindow || m.frame ≠ d.frame then d.freezeTwin
    else if !d.dpx.claim then d.onDpx fun x => { x with bad := 0 }
    else
      let d := d.onDpx fun x => { x with prole := some m.role, partnerHo := m.handoverFaults, partnerStaged := m.stagedHash, bad := 0
                                         partnerShown := statesAfter m.results x.partnerShown }
      if m.signature ≠ d.nodeA.cores.sig && decide (m.role = .standby) then
        -- R226: the standby leaves sync, the active goes on SOLO
        (if d.unitFault 0x74 then d else d.raiseUnit 0x74).partnerGone
      else
        let d := (if m.role = .standby then d.compareResults m else d).takeObs m
        if m.role = .standby ∧ d.dpx.role = .solo then (d.setRole .active).clearUnit 0x74
        else if m.role ≠ .standby ∧ d.dpx.role = .active then (d.setRole .solo).endPartnerOps
        else d

/-! ## TRANSFER and the end of a resync (R237, R238) -/

/-- The mirror as the image leaves it; the unit's own system state, phase and line reception stay. -/
def Node.load (i : Node) (n : Node) : Node :=
  { i with points := i.points.map fun p => { p with waits := [] }
           sys := n.sys, safe := n.safe, phase := n.phase, cores := n.cores
           line := { i.line with lineA := n.line.lineA, lineB := n.line.lineB, cycle := n.line.cycle, slotRef := n.line.slotRef
                                 sinceBeacon := n.line.sinceBeacon, txTel := n.line.txTel, muted := n.line.muted } }

/-- Output states of the image, gates undriven. -/
def Output.load (i : Output) (o : Output) : Output :=
  { o with state := i.state, decided := i.decided, pendingMark := i.pendingMark, first := i.first, partner := i.partner
           proofStart := i.proofStart, proofDue := i.proofDue }

/-- TRANSFER (R224, R237, steps 2 and 3): blocks in order, the image with the last. -/
def execTransfer (m : TransferMsg) : State → Out :=
  up fun d =>
    if !d.twinTakes m.epoch then d
    else if !m.inWindow || (d.aligned && m.frame ≠ d.frame) then d.freezeTwin
    else if d.dpx.role ≠ .syncing || d.dpx.step ≠ 1 then d.onDpx fun x => { x with bad := 0 }
    else if m.block ≠ d.dpx.progress || 128 ≤ m.block then d.failSync
    else
      let d := d.onDpx fun x => { x with progress := x.progress + 1, bad := 0 }
      match m.image with
      | none => d
      | some i =>
        let d := { d with
          nodeA := Node.load { i.node with line := { i.node.line with mode := i.reef } } d.nodeA
          outputs := d.outputs.map fun (o : Output) => match i.outputs.find? (fun (y : Output) => y.id == o.id) with | some x => x.load o | none => o }
        -- RECORDs from f_s + 1 on follow
        d.onDpx fun x => { x with step := 2, progress := 0, queue := x.queue.filter fun r => newer i.frame r.frame }

/-- RESYNC_COMPLETE (R237, step 4): 2 000 agreeing frames. -/
def execResyncComplete : State → Out :=
  up fun d =>
    if d.pair && decide (d.dpx.role = .syncing) && d.dpx.step = 3 && 2000 ≤ d.dpx.progress then
      ((d.setRole .standby).clearUnit 0x74).onDpx fun x => { x with step := 0, progress := 0, fails := [] }
    else d

/-- RESYNC_RETRY (R238): 2 000 frames after a failed attempt. -/
def execResyncRetry : State → Out :=
  upLive fun d =>
    if d.dpx.retryWait && !d.dpx.lock76 && 2000 ≤ d.ago d.dpx.failFrame then d.onDpx fun x => { x with retryWait := false } else d

/-- DUPLEX_FAULT_RECOVERY (Table DPX-6): 0x70 after 2 000 frames, 0x79 after 16 agreeing pulses. -/
def execDuplexFaultRecovery (code : Nat) (out : Fin 8) : State → Out :=
  upLive fun d =>
    match code with
    | 0x70 => if d.dpx.contSince.isNone && 2000 ≤ d.ago d.dpx.contEnd then d.clearUnit 0x70 else d
    | 0x79 => if 16 ≤ (d.out out).obsAgree then d.clearF 0x79 .output out else d
    | _ => d

/-- TWIN_LINK_LOST (R235, R241) at the active unit. -/
def execTwinLinkLost : State → Out :=
  up fun d =>
    if d.pair && decide (d.dpx.role = .active) then (if d.unitFault 0x71 then d else d.raiseUnit 0x71).partnerGone else d

/-- A twin-link message that fails its framing or its CRC: three in a row freeze the link (R224). -/
def Dev.twinBad (d : Dev) : Dev :=
  if 2 ≤ d.dpx.bad then d.freezeTwin else d.onDpx fun x => { x with bad := x.bad + 1 }

/-- INVALID_TWIN_MESSAGE (R224, R246): three in a row that fail their CRC or framing freeze the link, one of an undefined
TYPE does so at once; a message with another epoch is discarded. -/
def execInvalidTwinMessage (bytes : List Byte) : State → Out :=
  up fun d =>
    if !d.pair || d.dpx.frozen then d
    else match linkOf bytes with
      | none => d.twinBad
      | some m => if m.epoch ≠ d.dpx.epoch || twinTypes.contains m.type then d else d.freezeTwin

/-! ## TWIN_LINK_EXCHANGE (R223) -/

/-- Units not in sync send HELLO. -/
def Dev.hello (d : Dev) : HelloMsg :=
  { epoch := d.dpx.epoch, frame := d.frame, position := d.position
    floating := match d.rigPart .a with | some p => (match p.duplex with | some x => x.val.floating | none => false) | none => false
    role := d.dpx.role, hash := match d.rig.active with | some r => r.hash | none => 0
    romver := Config.romVersion, dt := d.dt, codePos := d.codePos }

/-- The RECORD of the frame whose work has just taken its inputs (R408). -/
def Dev.record (d : Dev) : RecordMsg :=
  { epoch := d.dpx.epoch, frame := d.frame, handover := d.dpx.handover, signature := d.nodeA.cores.sig
    results := d.dpx.results, telegrams := d.dpx.recTel, commands := d.dpx.recCmds }

/-- RECORD on the link (R246). -/
def Dev.recordBytes (d : Dev) : List Byte :=
  LinkMsg.bytes { type := 0x12, pos := d.position, epoch := d.dpx.epoch, frame := d.frame
                  payload := d.record.payload (d.lineRec .a).key }

/-- Points whose own systems 0x36 makes incomparable (Table HED-5). -/
def Dev.incomparable (d : Dev) : List Nat :=
  (d.dpx.shadow.filter fun p => d.runsPoint p.cfg
      && (d.hasFault 0x36 .system (2 * p.cfg.owner) || d.hasFault 0x36 .system (2 * p.cfg.owner + 1))).map (·.cfg.index)

/-- The SHADOW of a mirroring unit. -/
def Dev.shadowMsg (d : Dev) : ShadowMsg :=
  { epoch := d.dpx.epoch, frame := d.frame, role := d.dpx.role, signature := d.nodeA.cores.sig, results := d.dpx.prevResults
    incomparable := d.incomparable
    obsDiffer := dedupNat ((d.dpx.obs.filter fun o => !o.2).map (·.1))
    obsAgree := dedupNat ((d.dpx.obs.filter (·.2)).map (·.1))
    handoverFaults := d.handoverFaults
    stagedHash := match d.rig.passed with | some r => some r.hash | none => none }

/-- R237, step 2: the snapshot of a frame, with that frame's work where it has run. -/
def Dev.image (d : Dev) : MirrorImage :=
  { frame := if d.workDone then d.frame else d.frame - 1, node := d.nodeA, outputs := d.outputs, reef := (d.line .a).mode }

/-- The blocks of the image that is sent, 1 to 128. -/
def Dev.imageBlocks (d : Dev) : Nat := 1 + Config.imageBlocks (d.dpx.epoch.toNat) % 128

/-- TRANSFER to a partner that is SYNCING: one block in each frame, the image complete with the last. -/
def Dev.sendBlock (d : Dev) : Dev :=
  let i := d.dpx.snapshot.getD d.image
  if d.imageBlocks ≤ d.dpx.sentBlocks then d.onDpx fun x => { x with sentTransfer := none }
  else d.onDpx fun x => { x with
    snapshot := some i, sentBlocks := x.sentBlocks + 1
    sentTransfer := some { epoch := x.epoch, frame := d.frame, block := x.sentBlocks
                           image := if x.sentBlocks + 1 = d.imageBlocks then some i else none } }

/-- No message goes out. -/
def Dpx.quiet (x : Dpx) : Dpx := { x with sentHello := none, sentRecord := none, sentShadow := none, sentTransfer := none }

/-- TWIN_LINK_EXCHANGE: what the unit's role sends (Table DPX-3); a unit that is not in sync sends HELLO, on a frozen link
too, whose other messages its partner's resync makes useless. -/
def execTwinLinkExchange : State → Out :=
  up fun d =>
    let q := d.onDpx Dpx.quiet
    if !d.pair then q
    else match d.dpx.role with
      | .active => q.onDpx fun x => { x with sentRecord := some d.recordBytes }
      | .solo =>
        let q := q.onDpx fun x => { x with sentHello := some d.hello }
        if d.dpx.prole = some .syncing ∧ d.dpx.frozen = false then
          (q.onDpx fun x => { x with sentRecord := some d.recordBytes }).sendBlock
        else q.onDpx fun x => { x with sentBlocks := 0, snapshot := none }
      | .standby => q.onDpx fun x => { x with sentShadow := some d.shadowMsg, obs := [] }
      | .syncing => q.onDpx fun x => { x with sentHello := some d.hello, sentShadow := some d.shadowMsg, obs := [] }
      | .offline => q.onDpx fun x => { x with sentHello := some d.hello }

end Sys2Proof.Machine
end

