-- ==== Sys2Proof/Machine/Halyard.lean ====
section
/-! DEFINITION. Stacking on the halyard (13): copies of two directions (R250), membership and epochs (R251 to R253),
loss and freezing (R254 to R256), what master and member send (R248, R249), with the meanings of their commands. -/
namespace Sys2Proof.Machine

def Dev.onHal (f : Hal → Hal) (d : Dev) : Dev := { d with hal := f d.hal }

/-- N of the STACK record, 1 without one (R244). -/
def Dev.stackN (d : Dev) : Nat :=
  match d.rigPart .a with
  | some p => match p.stack with | some n => n.val | none => 1
  | none => 1

/-- In board-test mode a device takes no part in the ring (R36). -/
def Dev.stackMaster (d : Dev) : Bool := d.stackPos == 0 && !d.split && 1 < d.stackN && !d.nodeA.safe && !d.boardTest
def Dev.stackMember (d : Dev) : Bool := d.stackPos ≠ 0 && !d.split && !d.nodeA.safe && !d.boardTest

/-- The master's view of position `m`; position 0 is its own and has none. -/
def Dev.member (d : Dev) (m : Nat) : HMember := if m = 0 then {} else d.hal.members.getD (m - 1) {}
def Dev.onMember (m : Nat) (f : HMember → HMember) (d : Dev) : Dev :=
  if m = 0 then d else d.onHal fun x => { x with members := x.members.modify (m - 1) f }

def Dev.activeSerial (d : Dev) : Word := match d.rig.active with | some r => r.serial | none => 0
def Dev.activeHash (d : Dev) : Hash256 := match d.rig.active with | some r => r.hash | none => 0

/-! ## Copies (R250) -/

/-- R192's decision on the copies of the forward and the reverse direction. -/
inductive Pick (α : Type)
  | none
  | differ (a b : α)
  | one (a : α) (fwd : Bool)
  | both (a : α)
  deriving DecidableEq, Repr

def pick {α : Type} [DecidableEq α] : Option α → Option α → Pick α
  | some a, some b => if a = b then .both a else .differ a b
  | some a, none => .one a true
  | none, some b => .one b false
  | none, none => .none

/-- The counts of one pick: a single copy counts its missing direction. -/
def Hal.count {α : Type} (p : Pick α) (x : Hal) : Hal :=
  match p with
  | .one _ true => { x with exR := true, failR := satAdd 16 x.failR 1 }
  | .one _ false => { x with exF := true, failF := satAdd 16 x.failF 1 }
  | .both _ => { x with exBoth := true }
  | _ => x

/-- The end of an exchange for the direction counts: 0x81 at 8 of the last 64. -/
def Dev.closeDirections (d : Dev) : Dev :=
  let d := d.onHal fun x =>
    { x with dirF := (x.exF :: x.dirF).take 64, dirR := (x.exR :: x.dirR).take 64
             bothOk := if x.exF || x.exR then 0 else if x.exBoth then x.bothOk + 1 else x.bothOk
             exF := false, exR := false, exBoth := false }
  let bad := fun (l : List Bool) => 8 ≤ (l.filter (· == true)).length
  if (bad d.hal.dirF || bad d.hal.dirR) && (d.hal.dirF.head? = some true || d.hal.dirR.head? = some true) && !d.unitFault 0x81
  then d.raiseUnit 0x81 else d

/-! ## Membership at the master (Table HAL-5, R254, R256) -/

def Dev.raiseMember (m code : Nat) (d : Dev) : Dev := if d.hasFault code .member m then d else d.raise code .member m

/-- R254: a member leaves PRESENT: its requests, forwarded or still to be (R392), complete MEMBER_ABSENT, its points go
DISTURBED. -/
def Dev.memberLost (m : Nat) (d : Dev) : Dev :=
  let gone := d.hal.requests.filter fun r => r.fwd.member == m
  let d := gone.foldl (fun (d : Dev) r => d.complete { port := r.port, opc := r.opc, tag := r.tag } .memberAbsent 0) d
  let d := (d.onMember m fun x => { x with probe := {} }).onHal fun x => { x with
    requests := x.requests.filter fun r => r.fwd.member != m, inbox := x.inbox.filter fun u => u.1 ≠ m }
  d.mapOwn .a fun p => if decide (p.cfg.kind = .member) && p.cfg.stackpos == m then { p.disturb with waits := [] } else p

/-- R256. -/
def Dev.freezeMember (m code : Nat) (d : Dev) : Dev :=
  match (d.member m).state with
  | .joining | .present =>
    let d := (d.raiseMember m code).raiseMember m 0x82
    (d.onMember m fun x => { x with state := .frozen, freezeFrame := d.frame, ready := false, miss := 0, inval := 0 }).memberLost m
  | _ => d

/-- Two exchanges without a valid UP (R251). -/
def Dev.memberAbsent (m : Nat) (d : Dev) : Dev :=
  ((d.onMember m fun x => { x with state := .absent, ready := false, miss := 0 }).raiseMember m 0x80).memberLost m

/-- A member becomes PRESENT: its faults clear (Table HAL-6). -/
def Dev.memberPresent (m : Nat) (u : UpMsg) (d : Dev) : Dev :=
  let d := d.onMember m fun x => { x with state := .present, ready := u.ready, hash := u.hash, miss := 0, inval := 0, gotUp := true }
  let d := [0x80, 0x82, 0x83].foldl (fun (d : Dev) c => d.clearF c .member m) d
  d.mapOwn .a fun p => if decide (p.cfg.kind = .member) && p.cfg.stackpos == m then p.disturb else p

/-- R253: a discard, without a fault. -/
def Dev.discardUp (d : Dev) : Dev := d.onHal fun x => { x with discard := x.discard + 1 }

/-- R256: what freezes the sender of a message that R253 does not discard. -/
def Dev.violates (d : Dev) (u : UpMsg) : Bool := !u.inSlot || !u.typeOk || decide (u.frame ≠ d.frame)

/-- An accepted UP of member `m` (R251, R256); one that R253 discards freezes nothing. -/
def Dev.takeUp (m : Nat) (u : UpMsg) (d : Dev) : Dev :=
  let x := d.member m
  if u.epoch ≠ x.epoch || u.serial ≠ d.activeSerial then d.discardUp
  else match x.state with
  | .frozen | .absent => d.discardUp
  | .joining =>
    if !u.ready then d.discardUp
    else if d.violates u || u.hash ≠ d.activeHash then d.freezeMember m 0x82
    else d.memberPresent m u
  | .present =>
    if d.violates u then d.freezeMember m 0x82
    else
      (d.onMember m fun x => { x with gotUp := true, inval := 0, ready := u.ready, hash := u.hash, sysState := u.state, rigFail := u.rigFail }).onHal fun h =>
        { h with inbox := h.inbox ++ [(m, u)] }

/-- UP (R249, R250): no copy stands for an UP whose copies are both invalid. -/
def execUp (m : Fin 8) (fwd rev : Option UpMsg) : State → Out :=
  up fun d =>
    if !d.stackMaster || m.val = 0 then d
    else
      let p := pick fwd rev
      let d := d.onHal (Hal.count p)
      match p with
      | .one u _ => d.takeUp m u
      | .both u => d.takeUp m u
      | .differ _ _ => d.freezeMember m 0x83
      | .none =>
        let d := d.onMember m fun x => { x with inval := x.inval + 1 }
        if 3 ≤ (d.member m).inval then d.freezeMember m 0x82 else d

/-- The check of R252 that a JOIN_REQ fails, as HAL_MEMBERm.REFUSE shows it; 0 for none. -/
def Dev.refusal (d : Dev) (m : JoinReqMsg) : Nat :=
  if m.pos = 0 || d.stackN ≤ m.pos then 1
  else if m.duplex != (d.position == 1) then 2
  else if m.romver ≠ Config.romVersion then 3
  else 0

/-- A grant with the next epoch, for the next DOWN, whose timebase it carries (R252). -/
def Dev.grant (m : JoinReqMsg) (d : Dev) : Dev :=
  let epoch := (d.member m.pos).epoch + 1
  let d := d.onMember m.pos fun x =>
    { x with state := .joining, epoch, refuse := 0, session := m.session, hash := m.hash, ready := false, inval := 0, miss := 0
             grantFrame := d.frame, served := decide (m.hash = d.activeHash) }
  let d := d.clearF 0x85 .member m.pos
  d.onHal fun x => { x with grants := x.grants ++
    [{ member := m.pos, epoch, serial := d.activeSerial, hash := d.activeHash }] }

/-- JOIN_REQ (R251, R252). -/
def execJoinReq (m : JoinReqMsg) : State → Out :=
  up fun d =>
    if !d.stackMaster then d
    else
      let x := d.member m.pos
      let ask := match x.state with
        | .absent => true
        | .frozen => m.session ≠ x.session && 2000 ≤ d.ago x.freezeFrame
        | _ => false
      if !ask then d
      else if d.refusal m ≠ 0 then (d.onMember m.pos fun x => { x with refuse := d.refusal m }).raiseMember m.pos 0x85
      else d.grant m

/-- JOIN_GRANT_TIMEOUT (R251): 400 frames after the grant. -/
def execJoinGrantTimeout (m : Fin 8) : State → Out :=
  up fun d =>
    if d.stackMaster && m.val ≠ 0 && decide ((d.member m).state = .joining) && 400 ≤ d.ago (d.member m).grantFrame then
      d.onMember m fun x => { x with state := .absent }
    else d

/-! ## HALYARD_EXCHANGE and its close -/

/-- HALYARD_EXCHANGE (R248, R249): DOWN; what it forwards is pending from here on (R254). -/
def execHalyardExchange : State → Out :=
  up fun d =>
    if !d.stackMaster then d
    else
      let msg : DownMsg :=
        { frame := d.frame, dt := d.dt, codePos := d.codePos, role := d.dpx.role, serial := d.activeSerial
          members := d.hal.members.map (·.state), refusals := d.hal.members.map (·.refuse), requests := d.hal.requests.map (·.fwd)
          grants := d.hal.grants.map fun g => { g with frame := d.frame, dt := d.dt, codePos := d.codePos } }
      let granted := d.hal.grants.map (·.member)
      let d := granted.foldl (fun (d : Dev) m => d.onMember m fun x => { x with grantFrame := d.frame }) d
      d.onHal fun x => { x with downSent := some msg, grants := [], requests := x.requests.map fun r => { r with sent := true } }

/-- Members that still need the rig in BULK: joining with another hash, or present while a checked rig is
distributed (R252, R306). -/
def Dev.bulkNext (d : Dev) : Option Nat :=
  (List.range 7).find? fun i =>
    let x := d.member (i + 1)
    !x.served && (decide (x.state = .joining) ||
      (decide (x.state = .present) && match d.rig.memberHash with | some h => decide (x.hash ≠ h) | none => false))

/-- The length of the image that BULK carries: face and back. -/
def Dev.bulkLength (d : Dev) : Nat :=
  2 * match d.rig.memberHash, d.rig.passed, d.rig.active with
    | some _, some r, _ => r.length
    | _, _, some r => r.length
    | _, _, none => 0

/-- R248: the BULK window of a frame carries two messages of up to 3 072 bytes. -/
def Dev.bulkStep (d : Dev) : Dev :=
  match d.bulkNext with
  | none => d.onHal fun x => { x with bulkActive := false }
  | some i =>
    let sent := (if d.hal.bulkActive && d.hal.bulkMember = i + 1 then d.hal.bulkBytes else 0) + 6144
    let done := d.bulkLength ≤ sent
    let d := d.onHal fun x => { x with bulkActive := !done, bulkMember := i + 1, bulkBytes := min sent d.bulkLength }
    if done then d.onMember (i + 1) fun x => { x with served := true } else d

/-- The master's view of one member at the close of an exchange. -/
def Dev.closeMember (m : Nat) (d : Dev) : Dev :=
  let x := d.member m
  match x.state with
  | .present =>
    if x.gotUp then d.onMember m fun x => { x with miss := 0, gotUp := false }
    else if 1 ≤ x.miss then d.memberAbsent m
    else d.onMember m fun x => { x with miss := x.miss + 1 }
  | _ => d.onMember m fun x => { x with gotUp := false }

/-- R255: a member discards its point positions and asks to join again with a new SESSION. -/
def Dev.leaveMaster (frozen : Bool) (d : Dev) : Dev :=
  let d := if d.hasFault 0x84 .member d.stackPos then d else d.raise 0x84 .member d.stackPos
  let d := d.disturbLocal
  d.onHal fun x => { x with selfState := if frozen then .frozen else .absent, lost := true, lostFrame := d.frame, frozenSelf := frozen
                            needSession := true, masterRole := .offline, missDown := 0
                            upEvents := [], upVerdicts := [], outEvents := [], outVerdicts := [], fwdIn := [], upReplies := []
                            stepTo := none, outProbe := none }

/-- The exchange closes at offset 120 µs (R248, R250, R251, R254, R255). -/
def Dev.closeExchange (d : Dev) : Dev :=
  let d := d.onHal fun x => { x with exClosed := true }
  if d.stackMaster then
    ((List.range 7).foldl (fun (d : Dev) i => d.closeMember (i + 1)) d.closeDirections).bulkStep
  else if d.stackMember then
    let d := d.closeDirections
    if d.hal.gotDown then d.onHal fun x => { x with gotDown := false, missDown := 0 }
    else if 1 ≤ d.hal.missDown then
      (if d.hal.selfState = .present ∨ d.hal.selfState = .joining then d.leaveMaster false else d)
    else d.onHal fun x => { x with missDown := x.missDown + 1 }
  else d

/-- RING_DIRECTION_RECOVERY (Table HAL-6). -/
def execRingDirectionRecovery : State → Out :=
  upLive fun d => if 2000 ≤ d.hal.bothOk then d.clearUnit 0x81 else d

/-! ## The member's side (R249, R252, R255) -/

/-- The grant for this member: epoch, the rig it is to hold, the timebase from the next boundary on (R252). -/
def Dev.takeGrant (g : Grant) (d : Dev) : Dev :=
  let d := d.onHal fun x => { x with selfState := .joining, selfEpoch := g.epoch, want := some (g.serial, g.hash), frozenSelf := false
                                     stepTo := some g }
  if d.nodeA.sys = .awaitRig then d.onNode .a fun n => { n with sys := .verify } else d

/-- A member whose timebase is the master's takes the code position, and the device time of the boundary, from every DOWN
(R44, Table HAL-4). -/
def Dev.follow (m : DownMsg) (d : Dev) : Dev :=
  if (d.hal.selfState = .present ∨ d.hal.selfState = .joining) ∧ d.hal.stepTo = none then { d with codePos := m.codePos % 63, dt := m.dt }
  else d

/-- Table HAL-6, R252: its faults clear; from PRESENT the member's points are DISTURBED until R90 holds, its systems unusable until R56 does. -/
def Dev.enterPresent (d : Dev) : Dev :=
  let d := ((d.clearF 0x84 .member d.stackPos).clearF 0x83 .member d.stackPos).disturbLocal
  { d with systems := d.systems.map fun (s : Sys) => { s with usable := false, run4 := 0 } }

/-- DOWN shows this member's state. -/
def Dev.takeDown (m : DownMsg) (d : Dev) : Dev :=
  let pos := d.stackPos
  let d := (d.onHal fun x => { x with gotDown := true, masterRole := m.role }).follow m
  let d : Dev := match m.grants.find? (fun (g : Grant) => g.member == pos) with | some g => d.takeGrant g | none => d
  let d : Dev := match m.members[pos - 1]? with
    | some .present =>
      let d := if d.hal.selfState = .joining then d.enterPresent else d
      d.onHal fun x => { x with selfState := .present, lost := false }
    | some .frozen => if d.hal.selfState = .frozen then d else d.leaveMaster true
    | some .absent =>
      (match d.hal.selfState with
       | .present => d.leaveMaster false
       | .joining => d.onHal fun x => { x with selfState := .absent, needSession := true }
       | _ => d)
    | _ => d
  if d.hal.selfState = .present then
    d.onHal fun x => { x with fwdIn := x.fwdIn ++ m.requests.filter (·.member == pos) }
  else d

/-- DOWN (R249, R250, R255). -/
def execDown (fwd rev : Option DownMsg) : State → Out :=
  up fun d =>
    if !d.stackMember then d
    else
      let p := pick fwd rev
      let d := d.onHal (Hal.count p)
      match p with
      | .one m _ => d.takeDown m
      | .both m => d.takeDown m
      | .differ _ _ => d.raiseMember d.stackPos 0x83
      | .none => d

/-- The UP of a member (Table HAL-4): READY names the granted or staged rig it has verified, else the active one. -/
def Dev.upMsg (d : Dev) : UpMsg :=
  let staged := match d.rig.passed with | some r => some r.hash | none => none
  let wanted := match d.hal.want with | some w => w.2 | none => d.activeHash
  let ready := d.rig.active.isSome && (decide (d.activeHash = wanted) || decide (staged = some wanted))
  { epoch := d.hal.selfEpoch, frame := d.frame, state := d.nodeA.sys
    serial := if d.hal.selfState = .present then d.activeSerial else (match d.hal.want with | some w => w.1 | none => 0)
    ready := ready || staged.isSome, hash := match staged with | some h => h | none => d.activeHash
    events := d.hal.outEvents.take 16, verdicts := d.hal.outVerdicts.take 16
    points := (d.nodeA.points.filter fun p => d.runsPoint p.cfg).map fun p => (p.cfg.index, p.state, p.pas.pos)
    faults := d.faults.active.length, rigFail := d.rig.bulkFail, replies := d.hal.upReplies, probe := d.hal.outProbe }

/-- MEMBER_SUB_SLOT (R248, R255): UP from a member that holds its epoch, else JOIN_REQ; a frozen one waits 2 000
frames. -/
def execMemberSubSlot : State → Out :=
  up fun d =>
    if !d.stackMember || d.straps.done = false then d
    else match d.hal.selfState with
      | .present | .joining =>
        let m := d.upMsg
        d.onHal fun x => { x with upSent := some m, joinSent := none, outEvents := x.outEvents.drop 16
                                  outVerdicts := x.outVerdicts.drop 16, upReplies := [] }
      | _ =>
        if d.hal.frozenSelf && d.ago d.hal.lostFrame < 2000 then d.onHal fun x => { x with upSent := none, joinSent := none }
        else
          let r := if d.hal.needSession then d.fresh else (d.hal.selfSession, d)
          r.2.onHal fun x =>
            { x with needSession := false, selfSession := r.1, upSent := none
                     joinSent := some { pos := d.stackPos, frame := d.frame, duplex := d.position == 1, romver := Config.romVersion
                                        session := r.1, hash := d.activeHash } }

/-! ## Step 2 of a frame's work at the master (R249, R254) -/

/-- Replies complete the host operations that wait for them (R254); a READ's FRAME is the stamp of the member's bank, that
of the frame (R392). -/
def Dev.takeReply (m : Nat) (r : Nat × Status × Word) (d : Dev) : Dev :=
  match d.hal.requests.find? fun q => q.fwd.member == m && q.fwd.rtag == r.1 && q.sent with
  | some q =>
    let c : HostCmd := { port := q.port, opc := q.opc, tag := q.tag }
    (if q.opc = 0x01 && r.2.1 = .ok then d.completeAt c r.2.1 r.2.2 d.frame else d.complete c r.2.1 r.2.2).onHal fun x =>
      { x with requests := x.requests.filter fun y => !(y.fwd.member == m && y.fwd.rtag == r.1) }
  | none => d

/-- The state and position that a member reports of one of its points (R249). A point that is DISTURBED here too
recovers under R90: the member's count and this one, which what the point's levels show on the way restarts, have
both come to 200 frames, and no 0x43 stands; an UP comes a frame after the work it tells of. -/
def Point.memberState (st : PointState) (pos : Position) (q : Point) : Point :=
  match st, q.state with
  | .counting, .counting => { q with pas := { q.pas with pos } }
  | .counting, _ =>
    let n := if q.entered ≠ 0 ∨ pos ≠ .vacant then 0 else satAdd 8 q.recover 1
    if 201 ≤ n ∧ q.jfull = false then { q with state := .counting, pas := {}, recover := 0, startup := false } else { q with recover := n }
  | _, .counting => { q.disturb with entered := 1 }
  | _, _ => { q with recover := if q.entered ≠ 0 then 0 else satAdd 8 q.recover 1 }

/-- A point of member `m` under index `i`. -/
def Point.ofMember (m i : Nat) (q : Point) : Bool := decide (q.cfg.kind = .member) && q.cfg.stackpos == m && q.cfg.index == i

/-- A point of member `m` whose results of the last frame count: at an activation, one that it has not changed (16, When
members report across the activation boundary). -/
def Dev.hearsPoint (d : Dev) (m i : Nat) : Bool := (d.ownPoints .a).any fun q => q.ofMember m i && !q.fresh

/-- A point state of an UP; the faults of a point that recovers clear (R90). -/
def Dev.takePoint (m : Nat) (x : Nat × PointState × Position) (d : Dev) : Dev :=
  let was := (d.ownPoint .a x.1).map (·.state)
  let d := d.mapOwn .a fun q => if q.ofMember m x.1 && !q.fresh then q.memberState x.2.1 x.2.2 else q
  if was = some .disturbed ∧ (d.ownPoint .a x.1).map (·.state) = some .counting then
    [0x40, 0x41, 0x42, 0x72].foldl (fun (d : Dev) c => d.clearPt .a x.1 c) d
  else d

/-- An event of member `m` under the master's timebase (R249); it waits for its verdict. -/
def Dev.takeEvent (m : Nat) (e : RawEvent) (d : Dev) : Dev :=
  d.mapOwn .a fun q => if q.ofMember m e.point then { q with waits := q.waits ++ [{ ba := e.ba, mtag := e.mtag }] } else q

/-- The waiting event of member `m` that an MTAG names: its point, and its number if it has one. -/
def Dev.memberWait (d : Dev) (m mtag : Nat) : Option (Nat × Wait) :=
  (d.ownPoints .a).findSome? fun q =>
    if q.cfg.kind = .member ∧ q.cfg.stackpos = m then (q.waits.find? (·.mtag == mtag)).map fun w => (q.cfg.index, w) else none

/-- A verdict of member `m` leaves its event's wait: the point, the number, the verdict. -/
def Dev.takeVerdict (m : Nat) (x : List (Nat × Option Word × Verdict) × Dev) (v : Nat × Verdict) : List (Nat × Option Word × Verdict) × Dev :=
  match x.2.memberWait m v.1 with
  | some (i, w) => (x.1 ++ [(i, if w.numbered then some w.eseq else none, v.2)], x.2.onOwn .a i fun q => { q with waits := q.waits.erase w })
  | none => x

/-- Step 2: the inbox: point states, replies, probe results; the events it holds with their member, and the verdicts on
the points' events. `waits` where this unit evaluates them. -/
def Dev.memberFrame (waits : Bool) (d : Dev) : List (Nat × RawEvent) × List (Nat × Option Word × Verdict) × Dev :=
  let box := d.hal.inbox
  let d := d.onHal fun x => { x with inbox := [] }
  let d := box.foldl (fun (d : Dev) (u : Nat × UpMsg) =>
    let d := u.2.points.foldl (fun (d : Dev) p => d.takePoint u.1 p) d
    let d := d.onMember u.1 fun x => { x with probe := x.probe.hear (d.stamp 0) u.2.probe }
    u.2.replies.foldl (fun (d : Dev) r => d.takeReply u.1 r) d) d
  let evs := box.flatMap fun u => (u.2.events.filter fun e => d.hearsPoint u.1 e.point).map fun e => (u.1, d.rebuild e)
  let d := if waits then evs.foldl (fun (d : Dev) e => d.takeEvent e.1 e.2) d else d
  let vs := box.foldl (fun (x : List (Nat × Option Word × Verdict) × Dev) u => u.2.verdicts.foldl (Dev.takeVerdict u.1) x) ([], d)
  (evs, vs.1, vs.2)

end Sys2Proof.Machine
end

