-- ==== Sys2Proof/Machine/Supply.lean ====
section
/-! DEFINITION. Supplies, internal reset, straps and test access (02; 14: R270, R271) with the meanings of their
commands. -/
namespace Sys2Proof.Machine

/-! ## Internal reset (R25, R26, R270, R271) -/

/-- What survives an internal reset: the stores on flash and OTP, COR_MMINFO, the cause fields, the free stream, an
overvoltage whose recovery is open. The banks and registers of both cores are cleared: core A's to 0, core B's to
0xFFFF_FFFF (R117). -/
def Dev.afterReset (d : Dev) : Dev :=
  { Dev.blank with
    resetN := d.resetN, vfldOver := d.vfldOver, resetCause := d.resetCause, nreset := d.nreset, lastCause := d.lastCause, mm := d.mm
    freeCtr := d.freeCtr
    log := { slots := d.log.slots, newest := d.log.newest, wmark := d.log.wmark, erases := d.log.erases }
    store := { d.store with recover := none } }

/-- Everything held in the internal reset; the staging buffer and the snapshots are lost, the QSPI flash stays. -/
def State.holdReset (d : Dev) (s : State) : State :=
  { s with dev := d, bank := d, prev := d, frozenA := none, frozenB := none, snap0 := none, snap1 := none, staging := [] }

/-- VSUP_POWER_ON_RESET (R26, R271): the cause fields and COR_MMINFO clear as well. -/
def execVsupPowerOnReset (s : State) : Out :=
  .next (s.holdReset { s.dev.afterReset with vfldOver := false, resetCause := 1, nreset := 0, lastCause := {}, mm := {} })

/-- RESET_N_ASSERT (R270). -/
def execResetNAssert (s : State) : Out :=
  if s.dev.inReset then .next { s with dev := { s.dev with resetN := false } }
  else
    .next (s.holdReset { s.dev.afterReset with
      resetN := false, resetCause := 2, nreset := satAdd 16 s.dev.nreset 1 })

/-- RESET_N_RELEASE (R270): the wait before the release starts. -/
def execResetNRelease (s : State) : Out := .next { s with dev := { s.dev with resetN := true } }

/-- BOOT of a half from the release on (Table STU-1). -/
def Node.boot : Node := { sys := .boot, phase := .straps }

/-- The internal reset may be released (Table BAL-4, R27, R35, R270): RESET_N has been high for 10 µs, VSUP above
2.40 V for 1 ms, VIO stands above 1.66 V, the PLL reports lock, and after an overvoltage VFLD is at or below 36 V
(DEDUCED, log 104). -/
def Dev.mayRelease (r : RailObs) (d : Dev) : Bool :=
  d.inReset && d.resetN && 10 ≤ r.resetUs && 1000 ≤ r.vsupUs && 1660 < r.vioMv && r.pllLocked && (!d.vfldOver || r.vfld ≤ 3600)

/-- The PLL's report while the internal reset holds (R35). -/
def Dev.seeLock (r : RailObs) (d : Dev) : Dev := if d.inReset then { d with pll := r.pllLocked } else d

/-- INTERNAL_RESET_RELEASE (R27, R11, R44, R115): both cores leave the reset together; time, frame number and code
position start at 0, and the first bank shows them (R365). Where a condition is missing the reset holds on. -/
def execInternalResetRelease (rails : RailObs) (s : State) : Out :=
  if !s.dev.mayRelease rails then .next (s.lift (Dev.seeLock rails))
  else
    let d := { s.dev with inReset := false, vfldOver := false, pll := true, dt := 0, frame := 0, codePos := 0, nodeA := Node.boot, nodeB := Node.boot }
    .next { s with dev := d, bank := d, prev := d }

/-! ## Supervisors (Table BAL-4, R35) -/

/-- VSUP_BROWN_OUT: armed from the release of the internal reset (R27). -/
def execVsupBrownOut (cyc : Nat) : State → Out := up (Dev.safeAll 0x10 cyc)
/-- VIO_BROWN_OUT. -/
def execVioBrownOut (cyc : Nat) : State → Out := up (Dev.safeAll 0x11 cyc)
/-- VFLD_OVERVOLTAGE: the safe state opens the HSUP lines. -/
def execVfldOvervoltage (cyc : Nat) : State → Out := up fun d => { d with vfldOver := true }.safeAll 0x13 cyc

/-- In the safe state no boundary publishes: a record of the fault ring is written at once (02, When VSUP and VFLD
fail together; R346). -/
def Dev.recordNow (d : Dev) : Dev := if d.allSafe then { d with faults := d.faults.publish d.frame d.dt } else d

/-- VFLD_UNDERVOLTAGE. -/
def execVfldUndervoltage : State → Out :=
  up fun d => (({ d with vfldUnder := true, vfldLow := d.frame }.disturbLocal).raise 0x12 .device 0).recordNow

/-- VFLD_UNDERVOLTAGE_RECOVERY: VFLD has stayed above 8.8 V for 100 ms, that is 200 frames since the last one that saw it
lower. -/
def execVfldUndervoltageRecovery : State → Out :=
  up fun d => if d.vfldUnder && 200 ≤ d.ago d.vfldLow then ({ d with vfldUnder := false }.clearF 0x12 .device 0).recordNow else d

/-- PLL_LOCK_LOST (R35). -/
def execPllLockLost (cyc : Nat) : State → Out := up fun d => { d with pll := false }.safeAll 0x15 cyc

/-! ## Straps (R28 to R32, R36) -/

/-- The first of at most three attempts whose eight samples agree: its number and value. -/
def agreeing : Nat → List (List Byte) → Option (Nat × Byte)
  | _, [] => none
  | n, a :: rest =>
    match a with
    | v :: _ => if a.length = 8 && a.all (· == v) then some (n, v) else agreeing (n + 1) rest
    | [] => agreeing (n + 1) rest

/-- R31. -/
def strapConflict (v : Byte) (forbid : Bool) : Bool :=
  v.getLsbD 3 && (forbid || bits v 2 0 ≠ 0 || v.getLsbD 4)

/-- STRAP_LATCH (R30, R31, R36): while fewer than three attempts have been made and none agrees, the sampling goes on. -/
def execStrapLatch (attempts : List (List Byte)) : State → Out :=
  up fun d =>
    if d.straps.done || d.nodeA.sys ≠ .boot || d.nodeA.safe then d
    else match agreeing 1 (attempts.take 3) with
      | none => if 3 ≤ attempts.length then d.safeAll 0x16 0 else d
      | some (n, v) =>
        let d := { d with straps := { done := true, latched := v, attempts := n, raw := v, forbidLatched := d.store.otpForbid } }
        if strapConflict v d.store.otpForbid then d.safeAll 0x17 0
        else if v.getLsbD 7 then
          d.halves.foldl (fun (d : Dev) h => d.onNode h fun n => { n with sys := .boardTest }) { d with boardTest := true }
        else d.halves.foldl (fun (d : Dev) h => d.onNode h fun n => { n with phase := .otp }) d

/-- STRAP_REREAD (R32): the strap balls, without TMODE; ten matching re-reads end the warning. -/
def execStrapReread (raw : Byte) : State → Out :=
  up fun d =>
    if !d.straps.done then d
    else
      let same := raw.toNat % 128 == d.straps.latched.toNat % 128
      let run := if same then min 10 (d.straps.matches_ + 1) else 0
      { d with straps := { d.straps with raw, matches_ := run, drift := if same then d.straps.drift && run < 10 else true } }

/-- TMODE_HIGH_AFTER_LATCH (R36). -/
def execTmodeHighAfterLatch (cyc : Nat) : State → Out :=
  up fun d => if d.straps.done && !d.boardTest then d.safeAll 0x18 cyc else d

/-- TEST_ACCESS_INSTRUCTION (R36): in mission mode EXTEST is not offered; an instruction that is not offered selects
BYPASS (PRESUMED, IEEE 1149.1, log 8). -/
def execTestAccessInstruction (ir : TapInstr) (drive : Nat) : State → Out :=
  up fun d =>
    match ir with
    | .extest => if d.boardTest then { d with tap := .extest, tapDrive := drive } else { d with tap := .bypass }
    | .other => { d with tap := .bypass, tapDrive := 0 }
    | i => { d with tap := i, tapDrive := 0 }

end Sys2Proof.Machine
end

