-- ==== Sys2Proof/Machine/Log.lean ====
section
/-! DEFINITION. Change log, calibration store and OTP (17): entries with chain and CRC, capacity and watermark,
the two copies of a store record, OTP words, and what the commands of Table LOG-1 do in a frame's work. -/
namespace Sys2Proof.Machine

def Dev.onLog (f : ChangeLog → ChangeLog) (d : Dev) : Dev := { d with log := f d.log }
def Dev.onStore (f : Store → Store) (d : Dev) : Dev := { d with store := f d.store }

/-! ## Entries (R316) -/

/-- Bytes 0 to 59 of an entry (Table LOG-2). -/
def LogEntry.body (e : LogEntry) : List Byte :=
  toBytes 4 e.entry.toNat ++ toBytes 6 e.dtime.toNat ++ toBytes 2 e.operator ++ toBytes 4 e.utcHi.toNat ++ toBytes 4 e.utcLo.toNat
    ++ toBytes 2 e.action ++ toBytes 1 e.port ++ toBytes 1 e.half ++ toBytes 4 e.object.toNat ++ toBytes 8 e.old.toNat
    ++ toBytes 8 e.new.toNat ++ toBytes 4 e.frame.toNat ++ toBytes 8 e.chain.toNat ++ toBytes 4 0

/-- The 64 bytes of an entry. -/
def LogEntry.bytes (e : LogEntry) : List Byte := e.body ++ toBytes 4 (crc32c e.body).toNat

/-- The words that LOG_FETCH copies. -/
def LogEntry.words (e : LogEntry) : List Word := wordsOf 16 e.bytes

/-- CHAIN after an entry; 64 bytes of 0x00 stand before entry 1. -/
def chainAfter (e : Option LogEntry) : Hash64 :=
  trunc64 (sha256 (match e with | some e => e.bytes | none => List.replicate 64 0))

/-- The newest entry whose slot reads back. -/
def ChangeLog.last (l : ChangeLog) : Option LogEntry := (l.slots.filter (·.good)).getLast?

def ChangeLog.find (n : Nat) (l : ChangeLog) : Option LogEntry := l.slots.find? fun e => e.good && e.entry.toNat == n

/-! ## Capacity (R319) -/

def logSlots : Nat := 3584

/-- Free capacity: erased slots less the reservations. -/
def ChangeLog.free (l : ChangeLog) : Nat := logSlots - l.occupied - l.reserved

/-- Table LOG-5: 0xA7 stands while no capacity is free. -/
def Dev.logCapacity (d : Dev) : Dev :=
  if d.log.free = 0 then (if d.hasFault 0xA7 .device 0 then d else d.raise 0xA7 .device 0) else d.clearF 0xA7 .device 0

/-- A logged action may be accepted (R318). -/
def Dev.mayReserve (d : Dev) : Bool := 0 < d.log.free && !d.log.writeFault

def Dev.reserve (d : Dev) : Dev := (d.onLog fun l => { l with reserved := l.reserved + 1 }).logCapacity
def Dev.release (d : Dev) : Dev := (d.onLog fun l => { l with reserved := l.reserved - 1 }).logCapacity

/-! ## Writing (R318) -/

/-- Programs one slot; the slot reads back or not. -/
def ChangeLog.program (e : LogEntry) (l : ChangeLog) : ChangeLog :=
  let n := l.newest + 1
  let good := l.writeFails == 0
  let e := { e with entry := BitVec.ofNat 32 n, chain := chainAfter l.last, good }
  { l with slots := l.slots ++ [e], newest := n, programmed := true, writeFails := l.writeFails - 1 }

/-- An entry in at most two slots: written, or not. -/
def ChangeLog.write (e : LogEntry) (l : ChangeLog) : Bool × ChangeLog :=
  if logSlots ≤ l.occupied then (false, l)
  else
    let l1 := l.program e
    if l.writeFails == 0 then (true, l1)
    else if logSlots ≤ l1.occupied then (false, l1)
    else (l1.writeFails == 0, l1.program e)

/-- An entry of this frame: its time fields. -/
def Dev.entryNow (e : LogEntry) (d : Dev) : LogEntry := { e with dtime := d.dt, frame := d.frame }

/-- R318: a logged action's entry under its reservation; 0xA8 where it fails in two slots. -/
def Dev.writeEntry (e : LogEntry) (d : Dev) : Bool × Dev :=
  let d := d.onLog fun l => { l with reserved := l.reserved - 1 }
  let r := d.log.write (d.entryNow e)
  let d := d.onLog fun _ => r.2
  if r.1 then (true, (d.clearF 0xA8 .device 0).logCapacity)
  else (false, ((d.onLog fun l => { l with writeFault := true }).raise 0xA8 .device 0).logCapacity)

/-- A device entry: dropped and counted where no capacity is free. -/
def Dev.deviceEntry (e : LogEntry) (d : Dev) : Dev :=
  if d.log.free = 0 then d.onLog fun l => { l with dropped := l.dropped + 1 }
  else
    let r := d.log.write (d.entryNow e)
    (d.onLog fun _ => r.2).logCapacity

/-- The fields that a host command gives its entry (R289, R313). -/
def Dev.cmdEntry (d : Dev) (c : HostCmd) (action : Nat) (object : Word) : LogEntry :=
  { operator := c.operator.getD 0, utcHi := c.utcHi, utcLo := c.utcLo, action, port := c.port.val
    half := if d.split then (d.halfOfPort c.port).num else 0, object }

/-- A command ends without executing: a reservation it holds is released (R318). -/
def Dev.refuse (c : HostCmd) (st : Status) (d : Dev) : Dev :=
  (if c.reserved then d.release else d).complete c st 0

/-- R318: the entry, then the action, or ABORTED. -/
def Dev.logged (c : HostCmd) (e : LogEntry) (data : Word) (act : Dev → Dev) (d : Dev) : Dev :=
  let r := d.writeEntry e
  if r.1 then (act r.2).complete c .ok data else r.2.complete c .aborted 0

/-! ## LOG_FETCH and LOG_ACK (R315, R319) -/

def doLogFetch (c : HostCmd) (d : Dev) : Dev :=
  let n := c.par.getD 0 0
  match d.log.find n.toNat with
  | some e => (d.onPort c.port fun p => { p with logEntry := e.words }).complete c .ok n
  | none => d.complete c .denied 0

/-- Table LOG-5: a watermark at or after the broken entry clears 0xA9. -/
def Dev.ackBreak (w : Word) (d : Dev) : Dev :=
  if d.log.chainBrk ≠ 0 && !newer w (BitVec.ofNat 32 d.log.chainBrk) then
    (d.clearF 0xA9 .device 0).onLog fun l => { l with chainBrk := 0 }
  else d

/-- Table LOG-5: 0xAB clears once no record is lost. -/
def Dev.storeFound (d : Dev) : Dev :=
  if d.store.calLost || d.store.lwLost || d.store.pw.state = 2 then d else d.clearF 0xAB .device 0

/-! ## Regions of the calibration store (R320) -/

/-- Bytes of a record of kind 0 CAL, 1 PW, 2 LOGW. -/
def recordSize : Nat → Nat
  | 0 => 1152
  | 1 => 128
  | _ => 64

/-- A record of kind `k` at the end of what is written. -/
def StoreRegion.place (k : Nat) (r : StoreRegion) : StoreRegion :=
  { r with written := r.written + recordSize k, starts := r.starts.set k r.written }

/-- R320: the current records of the oldest page go forward and the page is given up. -/
def StoreRegion.giveUp (r : StoreRegion) : StoreRegion :=
  let r := (List.range 3).foldl (fun (r : StoreRegion) k => if r.starts.getD k 0 < r.erased + 2048 then r.place k else r) r
  { r with erased := r.erased + 2048 }

/-- R320: pages are given up until a record of kind `k` fits; they are answered in order. -/
def StoreRegion.makeRoom (k : Nat) : Nat → StoreRegion → StoreRegion × List Nat
  | 0, r => (r, [])
  | fuel + 1, r =>
    if r.written + recordSize k ≤ r.erased + 16384 then (r, [])
    else
      let t := StoreRegion.makeRoom k fuel r.giveUp
      (t.1, r.erased / 2048 % 8 :: t.2)

def StoreRegion.append (k : Nat) (r : StoreRegion) : StoreRegion × List Nat :=
  let t := r.makeRoom k 8
  (t.1.place k, t.2)

/-- A record of kind `k` is appended in region A (pages 112 to 119 of LOG_WEAR), in region B (pages 120 to 127). -/
def Store.appendA (k : Nat) (s : Store) : Store :=
  let t := s.regionA.append k
  { s with regionA := t.1, toErase := s.toErase ++ t.2.map (112 + ·) }
def Store.appendB (k : Nat) (s : Store) : Store :=
  let t := s.regionB.append k
  { s with regionB := t.1, toErase := s.toErase ++ t.2.map (120 + ·) }

def doLogAck (c : HostCmd) (d : Dev) : Dev :=
  let w := c.par.getD 0 0
  if newer w (BitVec.ofNat 32 d.log.wmark) || newer (BitVec.ofNat 32 d.log.newest) w then d.complete c .denied 0
  else
    let d := d.onLog fun l => { l with wmark := w.toNat, storeWrite := true }
    let d := d.onStore fun s =>
      { (s.appendA 2).appendB 2 with lwA := { seq := s.lwA.seq + 1 }, lwB := { seq := s.lwA.seq + 1 }, lwLost := false }
    (d.ackBreak w).storeFound.complete c .ok 0

/-! ## Erasure (R319) -/

/-- Page of entry `n`. -/
def logPage (n : Nat) : Nat := (n - 1) / 32 % 112

def ChangeLog.inPage (pg : Nat) (e : LogEntry) : Bool := logPage e.entry.toNat == pg

/-- The page of the oldest entry, where all of it is at or before W and the newest entry lies elsewhere. -/
def ChangeLog.erasable (l : ChangeLog) : Option Nat :=
  match l.slots with
  | [] => none
  | e :: _ =>
    let pg := logPage e.entry.toNat
    if pg ≠ logPage l.newest && (l.slots.filter (ChangeLog.inPage pg)).all (fun x => x.entry.toNat ≤ l.wmark) then some pg else none

def bumpErase (pg : Nat) : List (Nat × Nat) → List (Nat × Nat)
  | [] => [(pg, 1)]
  | (p, n) :: rest => if p == pg then (p, satAdd 16 n 1) :: rest else (p, n) :: bumpErase pg rest

/-- A page is erased: 0 to 111 of the log, 112 to 127 of the store. -/
def Dev.erasePage (pg : Nat) (d : Dev) : Dev :=
  ((d.onStore fun s => { s with toErase := s.toErase.filter (· != pg) }).onLog fun l => { l with slots := l.slots.filter (fun e => !ChangeLog.inPage pg e), erases := bumpErase pg l.erases }).logCapacity

/-! ## Store records (R320 to R322) -/

/-- The calibration targets in target order (Table LOG-4). -/
def calTargets : List Nat :=
  List.range 33 ++ (List.range 99).map (0x1000 + ·) ++ [0x2000, 0x3000]

/-- The 8 bytes of a target's user entry. -/
def calBytes (t : Nat) (cal : List CalEntry) : List Byte :=
  match cal.find? (·.target == t) with
  | some e => toBytes 4 (unsignedOf 32 e.gain) ++ toBytes 2 (unsignedOf 16 e.offset) ++ toBytes 2 1
  | none => List.replicate 8 0

def calPayload (cal : List CalEntry) : List Byte := calTargets.flatMap fun t => calBytes t cal

def PwRecord.payload (p : PwRecord) : List Byte :=
  toBytes 4 p.state ++ (p.salt ++ List.replicate 16 0).take 16 ++ toBytes 4 4096 ++ hashBytes p.hash

/-- The value OLD and NEW of Table LOG-3 carry for bytes. -/
def hash64 (bs : List Byte) : Hash64 := trunc64 (sha256 bs)

/-- R321: copy A now; copy B follows at the boundary. -/
def Store.writeCal (new : List CalEntry) (s : Store) : Store :=
  { s.appendA 0 with calOldB := some (s.calOldB.getD s.cal), cal := new, calA := { seq := s.calA.seq + 1 } }
def Store.writePw (new : PwRecord) (s : Store) : Store :=
  { s.appendA 1 with pwOldB := some (s.pwOldB.getD s.pw), pw := new, pwA := { seq := s.pwA.seq + 1 } }

/-- R321: copy B at the boundary that publishes the frame. -/
def Store.copyB (s : Store) : Store :=
  let t := if s.calOldB.isSome then s.appendB 0 else s
  let t := if s.pwOldB.isSome then t.appendB 1 else t
  { t with calB := (if s.calOldB.isSome then s.calA else s.calB), calOldB := none
           pwB := (if s.pwOldB.isSome then s.pwA else s.pwB), pwOldB := none }

/-- R322: which copy is in force. -/
inductive CopyChoice | both | useA | useB | lost deriving DecidableEq, Repr

def chooseCopy (a b : StoreCopy) (matched : Bool) : CopyChoice :=
  if a.valid && b.valid then
    (if a.seq = b.seq then .both else if b.seq < a.seq then (if matched then .useA else .useB) else .useA)
  else if a.valid then .useA else if b.valid then .useB else .lost

/-- STORE_REPAIR with 0xAA, which clears with the rewrite (R322, Table LOG-5); record kinds 0 CAL, 1 PW, 2 LOGW. -/
def Dev.storeRepair (kind : Nat) (discarded inForce : List Byte) (d : Dev) : Dev :=
  ((d.raise 0xAA .device 0).clearF 0xAA .device 0).deviceEntry
    { action := 0x0050, object := BitVec.ofNat 32 kind, old := hash64 discarded, new := hash64 inForce }

/-- A read of the CAL record at boot. -/
def Dev.bootCal (matched : Bool) (d : Dev) : Dev :=
  let s := d.store
  let inB := s.calOldB.getD s.cal
  match chooseCopy s.calA s.calB matched with
  | .both => d
  | .useA => (d.onStore fun s => { s.appendB 0 with calOldB := none, calB := s.calA }).storeRepair 0 (calPayload inB) (calPayload s.cal)
  | .useB => (d.onStore fun s => { s.appendA 0 with cal := inB, calOldB := none, calA := s.calB }).storeRepair 0 (calPayload s.cal) (calPayload inB)
  | .lost => (d.onStore fun s => { s with cal := [], calOldB := none, calLost := true, calA := { valid := false }, calB := { valid := false } }).raise 0xAB .device 0

/-- A read of the PW record at boot; both lost leaves LOCKED. -/
def Dev.bootPw (matched : Bool) (d : Dev) : Dev :=
  let s := d.store
  let inB := s.pwOldB.getD s.pw
  match chooseCopy s.pwA s.pwB matched with
  | .both => d
  | .useA => (d.onStore fun s => { s.appendB 1 with pwOldB := none, pwB := s.pwA }).storeRepair 1 inB.payload s.pw.payload
  | .useB => (d.onStore fun s => { s.appendA 1 with pw := inB, pwOldB := none, pwA := s.pwB }).storeRepair 1 s.pw.payload inB.payload
  | .lost => (d.onStore fun s => { s with pw := { state := 2 }, pwOldB := none, pwA := { valid := false }, pwB := { valid := false } }).raise 0xAB .device 0

/-- A read of the LOGW record at boot; both lost set W before the oldest entry. -/
def Dev.bootLogw (d : Dev) : Dev :=
  let w := toBytes 4 d.log.wmark
  match chooseCopy d.store.lwA d.store.lwB true with
  | .both => d
  | .useA => (d.onStore fun s => { s.appendB 2 with lwB := s.lwA }).storeRepair 2 w w
  | .useB => (d.onStore fun s => { s.appendA 2 with lwA := s.lwB }).storeRepair 2 w w
  | .lost =>
    let oldest := match d.log.slots with | e :: _ => e.entry.toNat - 1 | [] => d.log.newest
    ((d.onLog fun l => { l with wmark := oldest }).onStore fun s => { s with lwA := { valid := false }, lwB := { valid := false }, lwLost := true }).raise 0xAB .device 0

/-- The entry that was being programmed when the power failed. -/
def ChangeLog.tear (l : ChangeLog) : ChangeLog :=
  match l.slots.getLast? with
  | some e => { l with slots := l.slots.dropLast ++ [{ e with good := false }] }
  | none => l

/-- Lost numbers that no GAP entry names yet. -/
def ChangeLog.gaps (l : ChangeLog) : List Nat :=
  ((l.slots.filter fun e => !e.good).map fun e => e.entry.toNat).filter fun n =>
    !l.slots.any fun g => g.good && g.action == 0x0051 && g.object.toNat == n

/-- The read of log and stores at boot; a lost copy stays lost until it is written (R322, 17, When power fails during a log write). -/
def Dev.bootStores (bad : List Nat) (torn : Bool) (d : Dev) : Dev :=
  let mark := fun (k : Nat) (c : StoreCopy) => { c with valid := c.valid && !bad.contains k }
  let d := d.onStore fun s =>
    { s with calA := mark 0 s.calA, calB := mark 1 s.calB, pwA := mark 2 s.pwA, pwB := mark 3 s.pwB
             lwA := mark 4 s.lwA, lwB := mark 5 s.lwB }
  let d := if torn then d.onLog ChangeLog.tear else d
  let d := d.log.gaps.foldl (fun (d : Dev) n => d.deviceEntry { action := 0x0051, object := BitVec.ofNat 32 n }) d
  ((d.bootCal (!torn)).bootPw (!torn)).bootLogw.logCapacity

/-! ## OTP (R323) -/

def Dev.otpBody (i : Nat) : Word :=
  if i = 0 then 0x0001A641 else if 0x8B ≤ i && i ≤ 0xFD then 0 else Config.otpFactory i

/-- A word of the OTP after ECC correction. -/
def Dev.otpWord (i : Nat) (d : Dev) : Word :=
  if i = 0xFE then BitVec.ofNat 32 (b2n d.store.otpForbid)
  else if i = 0xFF then crc32c ((List.range 0xFE).flatMap fun k => toBytes 4 (Dev.otpBody k).toNat)
  else Dev.otpBody i

def doOtpRead (c : HostCmd) (d : Dev) : Dev :=
  if c.index < 256 then d.complete c .ok (d.otpWord c.index) else d.complete c .denied 0

/-- SPLIT_FORBID (R134): the bit is programmed once; straps see it from the next latching. -/
def doSplitForbid (c : HostCmd) (d : Dev) : Dev :=
  d.logged c (d.cmdEntry c 0x0032 0) 0 fun d => d.onStore fun s => { s with otpForbid := true }

/-! ## Calibration (R324, R325) -/

/-- The systems a target names; all of them for the reference and the temperature sensor. -/
def calSystems (t : Nat) : List Nat :=
  if t ≤ 0x20 then [t] else if 0x1000 ≤ t && t ≤ 0x1062 then [(t - 0x1000) / 3] else List.range 33

/-- R324: gain and offset inside their bounds on a target of Table LOG-4. -/
def calInBounds (t : Nat) (gain offset : Int) : Bool :=
  calTargets.contains t && decide (-40000 ≤ gain) && decide (gain ≤ 40000) && decide (-48 ≤ offset) && decide (offset ≤ 48)
    && (t ≠ 0x2000 || decide (offset = 0))

def setCal (e : CalEntry) (cal : List CalEntry) : List CalEntry := cal.filter (·.target ≠ e.target) ++ [e]
def clearCal (t : Nat) (cal : List CalEntry) : List CalEntry := if t = 0xFFFF then [] else cal.filter (·.target ≠ t)

/-- The change of a target on this device: masks and points (R325). -/
def Dev.applyCal (t : Nat) (new : List CalEntry) (d : Dev) : Dev :=
  let d := d.onStore fun s => { s.writeCal new with calLost := false }
  let d := d.storeFound
  (calSystems t).foldl (fun (d : Dev) i =>
    (d.onSys i fun s => { s with rwUntil := d.stamp (500 * 96) + 16 * 96 }).disturbPointOf i) d

/-- R325: a unit in SOLO or OFFLINE, or a device without a DUPLEX record. -/
def Dev.mayCal (d : Dev) : Bool :=
  !d.hasDuplex || decide (d.dpx.role = .solo) || decide (d.dpx.role = .offline)

/-- A calibration change goes to a member (R325, R254), or its completion says why not. -/
def Dev.forwardCal (c : HostCmd) (pos : Nat) (op : FwdOp) (e : LogEntry) (d : Dev) : Dev :=
  if d.stackN ≤ pos then d.refuse c .denied
  else if decide ((d.member pos).state ≠ .present) then d.refuse c .memberAbsent
  else
    let r := d.writeEntry e
    if r.1 then
      r.2.onHal fun x =>
        { x with nextTag := x.nextTag + 1
                 requests := x.requests ++ [{ fwd := { member := pos, rtag := x.nextTag, op }, port := c.port, opc := c.opc, tag := c.tag }] }
    else r.2.complete c .aborted 0

/-- R7: the calibration command names a member of the stack that is not PRESENT. -/
def Dev.calAbsent (d : Dev) (c : HostCmd) : Bool :=
  let pos := (c.par.getD 2 0).toNat
  (c.opc == 0x3C || c.opc == 0x3D) && d.stackMaster && decide (0 < pos) && decide (pos < d.stackN) && decide ((d.member pos).state ≠ .present)

/-- A 64-bit free value: what a member holds (log 5). -/
def Dev.fresh64 (d : Dev) : Hash64 × Dev :=
  let a := d.fresh
  let b := a.2.fresh
  (BitVec.ofNat 64 (a.1.toNat * 2 ^ 32 + b.1.toNat), b.2)

def calPosition (c : HostCmd) : Nat := bits (c.par.getD 2 0) 2 0

/-- OBJECT of CAL_WRITE and CAL_CLEAR (Table LOG-3). -/
def calObject (c : HostCmd) : Word := BitVec.ofNat 32 (calPosition c * 65536 + c.index)

def doCalWrite (c : HostCmd) (d : Dev) : Dev :=
  let gain := (c.par.getD 0 0).toInt
  let offset := (c.par.getD 1 0).toInt
  let e : CalEntry := { target := c.index, gain, offset }
  let pos := calPosition c
  if !calInBounds c.index gain offset || 7 < (c.par.getD 2 0).toNat then d.refuse c .denied
  else if pos = 0 then
    let new := setCal e d.store.cal
    let le := { d.cmdEntry c 0x0010 (calObject c) with
      old := hash64 (calBytes c.index d.store.cal), new := hash64 (calBytes c.index new) }
    d.logged c le 0 (Dev.applyCal c.index new)
  else
    let r := d.fresh64
    r.2.forwardCal c pos (.cal c.index gain offset false)
      { d.cmdEntry c 0x0010 (calObject c) with old := r.1, new := hash64 (calBytes c.index [e]) }

def doCalClear (c : HostCmd) (d : Dev) : Dev :=
  let pos := calPosition c
  let all := c.index == 0xFFFF
  if !(all || calTargets.contains c.index) || 7 < (c.par.getD 2 0).toNat then d.refuse c .denied
  else if pos = 0 then
    let new := clearCal c.index d.store.cal
    let image := fun (cal : List CalEntry) => if all then calPayload cal else calBytes c.index cal
    let le := { d.cmdEntry c 0x0011 (calObject c) with old := hash64 (image d.store.cal), new := hash64 (image new) }
    d.logged c le 0 (Dev.applyCal c.index new)
  else
    let r := d.fresh64
    r.2.forwardCal c pos (.cal c.index 0 0 true)
      { d.cmdEntry c 0x0011 (calObject c) with
        old := r.1, new := hash64 (if all then calPayload [] else List.replicate 8 0) }

/-! ## PW_SET and PW_RECOVER (R312 to R314) -/

/-- R314: 20 000 frames. -/
def recoverFrames : Nat := 20000

def Dev.mayRecover (d : Dev) : Bool :=
  decide (d.nodeA.sys = .awaitRig) && d.bootSel == 3 && d.store.pw.state ≠ 0

/-- PW_RECOVER: the first request waits for the second, on the other port with the same PAR0. -/
def doPwRecover (c : HostCmd) (d : Dev) : Dev :=
  if !d.mayRecover then d.refuse c .denied
  else match d.store.recover with
    | some f =>
      if f.port ≠ c.port && f.par.getD 0 0 == c.par.getD 0 0 && d.ago f.frame ≤ recoverFrames then
        let d := d.onStore fun s => { s with recover := none }
        let d := if f.reserved then d.release else d
        let e := { d.cmdEntry c 0x0002 (c.par.getD 0 0) with operator := 0xFFFF }
        let r := d.writeEntry e
        if r.1 then
          let d := (r.2.onStore fun s => s.writePw { state := 0 }).storeFound
          (d.complete f .ok 0).complete c .ok 0
        else (r.2.complete f .aborted 0).complete c .aborted 0
      else d.refuse c .denied
    | none => d.onStore fun s => { s with recover := some c }

/-- PW_RECOVER_TIMEOUT (R314). -/
def execPwRecoverTimeout : State → Out :=
  up fun d => match d.store.recover with
    | some f => if recoverFrames ≤ d.ago f.frame then (d.onStore fun s => { s with recover := none }).refuse f .aborted else d
    | none => d

/-- A password's characters (R311). -/
def pwChars (bs : List Byte) : Bool := bs.all fun b => decide (0x20 ≤ b.toNat) && decide (b.toNat ≤ 0x7E)

/-- A fresh 16-byte salt (R311): a free value. -/
def Dev.freshSalt (d : Dev) : List Byte × Dev :=
  let a := d.fresh
  let b := a.2.fresh
  let c := b.2.fresh
  let e := c.2.fresh
  (toBytes 4 a.1.toNat ++ toBytes 4 b.1.toNat ++ toBytes 4 c.1.toNat ++ toBytes 4 e.1.toNat, e.2)

end Sys2Proof.Machine
end

