-- ==== Sys2Proof/Machine/RigVerify.lean ====
section
/-! DEFINITION. Verification of a rig image pair (16, Table RIG-9): header, complement, hashes, framing, records,
refusal rules, bands, fit to the device, agreement of the two images. Every failure is located at a face offset
(R301). -/
namespace Sys2Proof.Machine

/-- A record of the face: its offset, TYPE and value. -/
structure FRec where
  off : Nat := 0
  type : Nat := 0
  val : List Byte := []
  deriving DecidableEq, Repr

def FRec.f (r : FRec) (off len : Nat) : Nat := fieldAt r.val off len
/-- The record's face bytes, TLV header included. -/
def FRec.bytes (r : FRec) : List Byte := toBytes 2 r.type ++ toBytes 2 r.val.length ++ r.val

/-- How a verification ends. -/
inductive Verified
  | pass (r : Rig)
  | fail (code off : Nat)
  deriving DecidableEq, Repr

/-- R301: the lowest located offset of a step, if any failure is. -/
def lowest (l : List Nat) : Option Nat :=
  match l with
  | [] => none
  | x :: xs => some (xs.foldl min x)

/-- Offsets of what fails `p`. -/
def failing {α : Type} (off : α → Nat) (p : α → Bool) (l : List α) : List Nat := (l.filter p).map off

/-! ## Steps 1 to 4 -/

/-- Step 1 (Table RIG-1): offsets of the failing header fields. -/
def headerFails (h : List Byte) : List Nat :=
  let len := fieldAt h 20 4
  let serial := fieldAt h 8 4
  (if fieldAt h 0 4 ≠ 0x52415247 then [0] else []) ++ (if fieldAt h 4 2 ≠ 1 then [4] else [])
    ++ (if fieldAt h 6 2 ≠ 0xA641 then [6] else []) ++ (if serial = 0 || serial = 0xFFFFFFFF then [8] else [])
    ++ (if len % 4 ≠ 0 || len < 104 || 262144 < len then [20] else []) ++ (if fieldAt h 28 4 ≠ 0 then [28] else [])

/-- Step 2: header words whose complement the back does not hold. -/
def complementFails (face back : List Byte) : List Nat :=
  ((List.range 16).filter fun k => (slice face (4 * k) 4).map (fun b => ~~~ b) ≠ slice back (4 * k) 4).map (4 * ·)

/-- The records in `bs`, which lies at face offset `off`, as their length fields frame them; what is left over. -/
def walk : Nat → Nat → List Byte → List FRec × List Byte
  | 0, _, bs => ([], bs)
  | n + 1, off, bs =>
    if bs.length < 4 then ([], bs)
    else
      let len := fieldAt bs 2 2
      if len % 4 ≠ 0 || bs.length < 4 + len then ([], bs)
      else
        let r : FRec := { off, type := fieldAt bs 0 2, val := slice bs 4 len }
        let rest := walk n (off + 4 + len) (bs.drop (4 + len))
        (r :: rest.1, rest.2)

/-- R298 undone: the face that a back stands for; the records other than END return to their order. -/
def faceOfBack (back : List Byte) : List Byte :=
  let plain := back.map fun b => ~~~ b
  let recs := (walk plain.length 64 (plain.drop 64)).1
  let others := recs.filter fun r => r.type ≠ 0x7FFF
  let ends := recs.filter fun r => r.type == 0x7FFF
  plain.take 64 ++ (others.reverse ++ ends).flatMap FRec.bytes

/-- R299. -/
def rigHash (face : List Byte) : Hash256 := sha256 (face.take 32 ++ face.drop 64)

/-- The value length that Table RIG-2 gives a record; none for an undefined TYPE. -/
def FRec.length (r : FRec) : Option Nat :=
  match r.type with
  | 1 => some 8
  | 2 => some 4
  | 3 => some 4
  | 4 => some 20
  | 5 => some (4 + 4 * r.f 2 2 + 8 * r.f 0 2)
  | 6 => some 8
  | 7 => some 16
  | 8 => some 20
  | 9 => some 4
  | 10 => some 32
  | 11 => some ((20 + 2 * r.f 16 2 + 3) / 4 * 4)
  | 12 => some 8
  | 13 => some 4
  | 14 => some 20
  | 15 => some 8
  | 0x7FFF => some 4
  | _ => none

/-- Step 4: framing. The number of records is judged once they are framed. -/
def framingFails (face : List Byte) : List Nat :=
  let w := walk face.length 64 (face.drop 64)
  let recs := w.1
  let used := face.length - w.2.length
  let n := recs.length
  let frame := failing FRec.off (fun r => r.length ≠ some r.val.length) recs
    ++ failing FRec.off (fun r => r.type = 0x7FFF) recs.dropLast
    ++ (if w.2.isEmpty then [] else [used])
    ++ (match recs.getLast? with
        | some e => if e.type = 0x7FFF then [] else [e.off]
        | none => [64])
  if frame.isEmpty then
    (if fieldAt face 24 2 = n then [] else [24])
      ++ (match recs.getLast? with | some e => if e.f 0 4 = n then [] else [e.off] | none => [])
  else frame

/-! ## Decoding the records (Tables RIG-3 to RIG-7) -/

def Hashed.of {α : Type} (r : FRec) (x : α) : Hashed α := { val := x, rh := trunc64 (sha256 r.bytes), off := r.off }

def FRec.node (r : FRec) : NodeRec := { address := r.f 0 2, half := r.f 2 1, install := BitVec.ofNat 32 (r.f 4 4) }
def FRec.duplex (r : FRec) : DuplexRec := { floating := r.f 0 1 == 1, ownpos := r.f 1 1 }
def FRec.react (r : FRec) : ReactRec :=
  { probe := r.f 0 1, tPath := r.f 2 2, locOcc := r.f 4 2, locClr := r.f 6 2, remOcc := r.f 8 4, remClr := r.f 12 4 }
def FRec.line (r : FRec) : LineRec :=
  { rate := r.f 0 1, preamble := r.f 1 1, cycle := r.f 2 2, master := r.f 4 2, reef := (r.f 6 1).testBit 0
    wake := (r.f 6 1).testBit 1, allow := r.f 7 1, quiet := r.f 8 4, key := BitVec.ofNat 32 (r.f 12 4), repeaters := r.f 16 1 }
def slotKind : Nat → SlotKind
  | 0 => .beacon | 1 => .own | 2 => .twin | 3 => .retry | _ => .retryTwin
def FRec.nodeEntries (r : FRec) : List (Nat × Nat) := (List.range (r.f 2 2)).map fun k => (r.f (4 + 4 * k) 2, r.f (6 + 4 * k) 2)
def FRec.slotAt (r : FRec) (j : Nat) : Slot :=
  let o := 4 + 4 * r.f 2 2 + 8 * j
  { owner := r.f o 2, kind := slotKind (r.f (o + 2) 1), lclass := r.f (o + 3) 1, offset := r.f (o + 4) 4 }
def FRec.schedule (r : FRec) : ScheduleRec := { nodes := r.nodeEntries, slots := (List.range (r.f 0 2)).map r.slotAt }
def FRec.peer (r : FRec) : PeerRec := { address := r.f 0 2, missed := r.f 2 1, duplex := (r.f 3 1).testBit 0 }
def FRec.caldef (r : FRec) : CalDefRec :=
  { profile := r.f 0 1, platMin := r.f 2 2, platMax := r.f 4 2, rippleMax := r.f 6 2, rise := r.f 8 2, fall := r.f 10 2
    occMin := r.f 12 2, occMax := r.f 14 2, settle := r.f 16 2 }
def FRec.head (r : FRec) : HeadRec := { stackpos := r.f 0 1, head := r.f 1 1, type := r.f 2 2 }
def FRec.system (r : FRec) : SystemRec :=
  { stackpos := r.f 0 1, system := r.f 1 1, polarity := (r.f 2 1).testBit 0, hyst := r.f 3 1, shunt := r.f 4 2
    openMax := r.f 6 2, idleMin := r.f 8 2, idleMax := r.f 10 2, occMin := r.f 12 2, occMax := r.f 14 2, shortMin := r.f 16 2
    thOpen := r.f 18 2, thOcc := r.f 20 2, thShort := r.f 22 2, eblank := r.f 24 2, recovery := r.f 26 2 }
def pointKind : Nat → PointKind
  | 0 => .localHead | 1 => .member | _ => .remote
def FRec.point (r : FRec) : PointRec :=
  { index := r.f 0 2, kind := pointKind (r.f 2 1), stackpos := r.f 3 1, owner := r.f 4 2, ownerPoint := r.f 6 2
    spacing := r.f 8 2, vmax := r.f 10 2, tgap := r.f 12 2, profile := r.f 14 1, publish := (r.f 15 1).testBit 0
    onMember := (r.f 15 1).testBit 1, subs := (List.range (r.f 16 2)).map fun k => r.f (20 + 2 * k) 2 }
def FRec.section_ (r : FRec) : SectionRec :=
  let fl := r.f 2 1
  { index := r.f 0 2, direct := fl.testBit 0, fromOcc := fl.testBit 1, dual := fl.testBit 2, reef := fl.testBit 3
    publish := fl.testBit 4, nbound := r.f 3 1, vlimit := r.f 4 2 }
def FRec.boundary (r : FRec) : Boundary := { sect := r.f 0 2, outward := (r.f 2 2).testBit 15, point := r.f 2 2 % 1024 }
def checkMode : Nat → CheckMode
  | 0 => .offpulse | 1 => .edm | _ => .both
def FRec.output (r : FRec) : OutputRec :=
  { output := r.f 0 1, mode := checkMode (r.f 1 1), pulse := r.f 2 2, tedm := r.f 4 2, proof := r.f 6 1
    force := (r.f 7 1).testBit 0, edmSrc := r.f 8 1, sections := (List.range (r.f 9 1)).map fun k => r.f (12 + 2 * k) 2 }
def inputUse : Nat → InputUse
  | 0 => .status | 1 => .reset | 2 => .enable | _ => .outClear
def FRec.input (r : FRec) : InputRec :=
  { input := r.f 0 1, use := inputUse (r.f 1 1), src := r.f 2 1, enable := if r.f 3 1 = 0xFF then none else some (r.f 3 1)
    sect := r.f 4 2, direct := r.f 6 1 == 1, outmask := r.f 7 1 }

/-- A record enters the tables of its part. -/
def RigPart.add (p : RigPart) (r : FRec) : RigPart :=
  match r.type with
  | 1 => { p with node := .of r r.node }
  | 2 => { p with stack := some (.of r (r.f 0 1)) }
  | 3 => { p with duplex := some (.of r r.duplex) }
  | 4 => { p with line := some (.of r r.line) }
  | 5 => { p with schedule := some (.of r r.schedule) }
  | 6 => { p with peers := p.peers ++ [.of r r.peer] }
  | 7 => { p with react := .of r r.react }
  | 8 => { p with caldefs := p.caldefs ++ [.of r r.caldef] }
  | 9 => { p with heads := p.heads ++ [.of r r.head] }
  | 10 => { p with systems := p.systems ++ [.of r r.system] }
  | 11 => { p with points := p.points ++ [.of r r.point] }
  | 12 => { p with sections := p.sections ++ [.of r r.section_] }
  | 13 => { p with bounds := p.bounds ++ [.of r r.boundary] }
  | 14 => { p with outputs := p.outputs ++ [.of r r.output] }
  | 15 => { p with inputs := p.inputs ++ [.of r r.input] }
  | _ => p

/-- R296: the parts of a face, each opened by a NODE record; END is dropped. -/
def partsOf : List FRec → List (List FRec)
  | [] => []
  | r :: rs =>
    if r.type = 0x7FFF then partsOf rs
    else match partsOf rs with
      | [] => [[r]]
      | p :: ps => if (match p.head? with | some q => q.type == 1 | none => false) then [r] :: p :: ps else (r :: p) :: ps

/-! ## Step 5: fields (R297) -/

def within (lo hi v : Nat) : Bool := lo ≤ v && v ≤ hi

/-- A SCHEDULE's entries inside their stated values. -/
def FRec.badSchedule (r : FRec) : Bool :=
  let s := r.schedule
  !within 2 4096 (r.f 0 2) || !within 1 1023 (r.f 2 2)
    || s.nodes.any (fun n => !within 1 1023 n.1 || 10000 < n.2)
    || (List.range s.slots.length).any (fun j =>
      let o := 4 + 4 * r.f 2 2 + 8 * j
      !within 1 1023 (r.f o 2) || 4 < r.f (o + 2) 1 || !within 24 64 (r.f (o + 3) 1) || r.f (o + 3) 1 % 8 ≠ 0)

/-- A field outside its stated values, a reserved field not 0, a minimum above its maximum, bands not rising. -/
def FRec.bad (r : FRec) (half : Nat) (hasLine : Bool) : Bool :=
  match r.type with
  | 1 => 2 < r.f 2 1 || r.f 3 1 ≠ 0 || (if hasLine then !within 1 1023 (r.f 0 2) else r.f 0 2 ≠ 0)
  | 2 => !within 2 8 (r.f 0 1) || r.f 1 3 ≠ 0
  | 3 => 1 < r.f 0 1 || 1 < r.f 1 1 || r.f 2 2 ≠ 0
  | 4 => 3 < r.f 0 1 || !within 24 112 (r.f 1 1) || r.f 1 1 % 8 ≠ 0 || !within 4 200 (r.f 2 2) || !within 1 1023 (r.f 4 2)
    || 3 < r.f 6 1 || !within 1 38 (r.f 7 1) || !within 10 86400 (r.f 8 4) || 63 < r.f 16 1 || r.f 17 3 ≠ 0
  | 5 => r.badSchedule
  | 6 => !within 1 1023 (r.f 0 2) || !within 1 8 (r.f 2 1) || 1 < r.f 3 1 || r.f 4 4 ≠ 0
  | 7 => 60 < r.f 0 1 || r.f 1 1 ≠ 0 || 10000 < r.f 2 2 || !within 1010 1050 (r.f 4 2) || !within 3020 3050 (r.f 6 2)
  | 8 => !within 1 15 (r.f 0 1) || r.f 1 1 ≠ 0 || r.f 4 2 < r.f 2 2 || r.f 14 2 < r.f 12 2 || r.f 18 2 ≠ 0
  | 9 => 7 < r.f 0 1 || (half ≠ 0 && r.f 0 1 ≠ 0) || 15 < r.f 1 1
  | 10 =>
    let s := r.system
    7 < s.stackpos || (half ≠ 0 && s.stackpos ≠ 0) || 31 < s.system || 1 < r.f 2 1 || 15 < s.hyst || !within 500 2000 s.shunt
      || !(s.openMax < s.idleMin && s.idleMin < s.idleMax && s.idleMax < s.occMin && s.occMin < s.occMax && s.occMax < s.shortMin)
      || 1020 < s.eblank || s.eblank % 4 ≠ 0 || !within 40 376 s.recovery || s.recovery % 4 ≠ 0 || r.f 28 4 ≠ 0
  | 11 =>
    let k := r.f 2 1
    let fl := r.f 15 1
    let nsub := r.f 16 2
    (if half = 0 then 1023 else 511) < r.f 0 2 || 2 < k || (if k = 1 then !within 1 7 (r.f 3 1) else r.f 3 1 ≠ 0)
      || (if k = 2 then !within 1 1023 (r.f 4 2) || 1023 < r.f 6 2 else 15 < r.f 4 2 || r.f 6 2 ≠ 0)
      || !within 60 300 (r.f 8 2) || !within 1 (450 * r.f 8 2 / 140) (r.f 10 2) || !within 10 1000 (r.f 12 2)
      || 15 < r.f 14 1 || 3 < fl || (k ≠ 2 && fl.testBit 1) || 256 < nsub || (!fl.testBit 0 && nsub ≠ 0) || r.f 18 2 ≠ 0
      || (nsub % 2 = 1 && r.f (20 + 2 * nsub) 2 ≠ 0)
  | 12 => (if half = 0 then 511 else 255) < r.f 0 2 || 31 < r.f 2 1 || !within 1 16 (r.f 3 1) || !within 100 5000 (r.f 4 2)
      || r.f 6 2 ≠ 0
  | 13 => (r.f 2 2 / 1024) % 32 ≠ 0
  | 14 =>
    let nsec := r.f 9 1
    7 < r.f 0 1 || 2 < r.f 1 1 || !within 100 1000 (r.f 2 2) || r.f 2 2 % 4 ≠ 0 || !within 10 500 (r.f 4 2)
      || (if r.f 1 1 = 0 then r.f 6 1 ≠ 0 else !within 1 24 (r.f 6 1)) || 1 < r.f 7 1 || 3 < r.f 8 1 || !within 1 4 nsec
      || r.f 10 2 ≠ 0 || ((List.range 4).any fun k => nsec ≤ k && r.f (12 + 2 * k) 2 ≠ 0xFFFF)
  | 15 =>
    let use := r.f 1 1
    11 < r.f 0 1 || 3 < use || 3 < r.f 2 1
      || (if use = 1 then !(r.f 3 1 ≤ 11 || r.f 3 1 = 0xFF) || 1 < r.f 6 1
          else !(r.f 3 1 = 0 || r.f 3 1 = 0xFF) || r.f 4 2 ≠ 0 || r.f 6 1 ≠ 0)
      || (if use = 3 then r.f 7 1 = 0 else r.f 7 1 ≠ 0)
  | _ => false

/-- R296: order within a part; equal objects are refused as the objects are told apart by number. -/
def FRec.key (r : FRec) : Nat := r.type * 2 ^ 4096 + ofBytes (r.val.take 512 ++ List.replicate (512 - r.val.length) 0)
/-- The bytes that number an object of the type. -/
def FRec.ident (r : FRec) : Nat :=
  match r.type with
  | 9 | 10 => r.f 0 2
  | 13 => r.f 0 4
  | 6 | 11 | 12 => r.f 0 2
  | _ => r.f 0 1
def orderFails : List FRec → List Nat
  | a :: b :: rest =>
    (if b.key ≤ a.key || (a.type == b.type && a.ident == b.ident) then [b.off] else []) ++ orderFails (b :: rest)
  | _ => []

/-! ## Step 5: multiplicity and references -/

def countOf (t : Nat) (p : List FRec) : Nat := (p.filter fun r => r.type == t).length

/-- Records of a type beyond their number. -/
def beyond (t n : Nat) (p : List FRec) : List Nat := ((p.filter fun r => r.type == t).drop n).map FRec.off

/-- Table RIG-2 for one part; what is missing is located at END. -/
def multiplicityFails (split : Bool) (endOff : Nat) (p : List FRec) : List Nat :=
  beyond 2 (if split then 0 else 1) p ++ beyond 3 (if split then 0 else 1) p ++ beyond 4 1 p ++ beyond 5 (countOf 4 p) p
    ++ beyond 6 256 p ++ beyond 7 1 p ++ beyond 8 16 p ++ beyond 9 (if split then 8 else 128) p ++ beyond 11 (if split then 512 else 1024) p
    ++ beyond 12 (if split then 256 else 512) p ++ beyond 14 8 p ++ beyond 15 12 p
    ++ (if countOf 1 p = 1 && countOf 7 p = 1 then [] else [endOff])
    ++ (if countOf 4 p = 1 && countOf 5 p = 0 then failing FRec.off (fun r => r.type = 4) p else [])

def RigPart.cal (p : RigPart) (profile : Nat) : Option CalDefRec :=
  if profile = 0 then some {} else (p.caldefs.find? (·.val.profile == profile)).map (·.val)
def RigPart.hasHead (p : RigPart) (pos h : Nat) : Bool := p.heads.any fun x => x.val.stackpos == pos && x.val.head == h
def RigPart.hasPeer (p : RigPart) (a : Nat) : Bool := p.peers.any (·.val.address == a)
def RigPart.nodeDelay (p : RigPart) (a : Nat) : Option Nat :=
  match p.schedule with
  | some s => (s.val.nodes.find? (·.1 == a)).map (·.2)
  | none => none

/-- Every index referenced exists. -/
def RigPart.refFails (p : RigPart) : List Nat :=
  (p.heads.filterMap fun (h : Hashed HeadRec) =>
      let two := p.systems.filter fun s => s.val.stackpos == h.val.stackpos && s.val.system / 2 == h.val.head
      if two.length = 2 then none else some ((two.map (·.off)).foldl max h.off))
    ++ failing Hashed.off (fun (s : Hashed SystemRec) => !p.hasHead s.val.stackpos (s.val.system / 2)) p.systems
    ++ failing Hashed.off (fun (x : Hashed PointRec) =>
      (match x.val.kind with
        | .remote => !p.hasPeer x.val.owner
        | _ => !p.hasHead x.val.stackpos x.val.owner)
      || (p.cal x.val.profile).isNone || x.val.subs.any (fun a => !p.hasPeer a)) p.points
    ++ failing Hashed.off (fun (b : Hashed Boundary) =>
      !p.sections.any (·.val.index == b.val.sect) || !p.points.any (·.val.index == b.val.point)) p.bounds
    ++ (p.sections.filterMap fun (s : Hashed SectionRec) =>
      let mine := p.bounds.filter fun b => b.val.sect == s.val.index
      if mine.length = s.val.nbound then none else some ((mine.map (·.off)).foldl max s.off))
    ++ failing Hashed.off (fun (o : Hashed OutputRec) => o.val.sections.any fun i => !p.sections.any (·.val.index == i)) p.outputs
    ++ failing Hashed.off (fun (x : Hashed InputRec) =>
      (decide (x.val.use = .reset) && !p.sections.any (·.val.index == x.val.sect))
      || ((List.range 8).any fun n => x.val.outmask.testBit n && !p.outputs.any (·.val.output == n))) p.inputs
    ++ (match p.schedule with
        | some s => if s.val.slots.any (fun x => (p.nodeDelay x.owner).isNone) || (p.nodeDelay p.node.val.address).isNone
                      || (match p.line with | some l => (p.nodeDelay l.val.master).isNone | none => false) then [s.off] else []
        | none => [])
    ++ (if p.schedule.isSome then failing Hashed.off (fun (x : Hashed PeerRec) => (p.nodeDelay x.val.address).isNone) p.peers else [])

/-! ## Step 5: refusal rules -/

def RigPart.vMax (p : RigPart) : Nat := (p.points.map (·.val.vmax)).foldl max 1

/-- R67: E against half the shortest occupancy of a point's profile at the rig's maximum speed. -/
def RigPart.r67 (p : RigPart) : List Nat :=
  failing Hashed.off (fun (x : Hashed PointRec) =>
    decide (x.val.kind ≠ .remote) && p.systems.any fun s =>
      s.val.stackpos == x.val.stackpos && s.val.system / 2 == x.val.owner
        && ((p.cal x.val.profile).getD {}).occMin * 3600 ≤ 2 * s.val.eblank * p.vMax) p.points

/-- R98: a point once per section, and at most two sections per point. -/
def RigPart.r98 (p : RigPart) : List Nat :=
  let earlier := fun (b : Hashed Boundary) => p.bounds.filter fun c => c.val.point == b.val.point && c.off < b.off
  failing Hashed.off (fun (b : Hashed Boundary) =>
    (earlier b).any (fun c => c.val.sect == b.val.sect) || 2 ≤ (earlier b).length) p.bounds

/-- R112: no dual-port confirmation in split mode. -/
def RigPart.r112 (split : Bool) (p : RigPart) : List Nat :=
  if split then failing Hashed.off (fun (s : Hashed SectionRec) => s.val.dual) p.sections else []

/-- R129, Table COR-5: what a half's part may name. -/
def RigPart.r129 (p : RigPart) : List Nat :=
  let b := p.node.val.half == 2
  let other := fun (n i : Nat) => p.node.val.half ≠ 0 && (b != decide (n ≤ 2 * i))
  failing Hashed.off (fun (x : Hashed HeadRec) => other 16 x.val.head) p.heads
    ++ failing Hashed.off (fun (x : Hashed SystemRec) => other 32 x.val.system) p.systems
    ++ failing Hashed.off (fun (x : Hashed OutputRec) => other 8 x.val.output || other 4 x.val.edmSrc) p.outputs
    ++ failing Hashed.off (fun (x : Hashed InputRec) => other 12 x.val.input || other 4 x.val.src
      || (match x.val.enable with | some e => decide (x.val.use = .reset) && other 12 e | none => false)
      || ((List.range 8).any fun n => x.val.outmask.testBit n && other 8 n)) p.inputs

def RigPart.inputRec (p : RigPart) (i : Nat) : Option (Hashed InputRec) := p.inputs.find? (·.val.input == i)

/-- R148, R149: a reset input's enable; EDM inputs of outputs with a common section. -/
def RigPart.r148 (p : RigPart) : List Nat :=
  (p.inputs.filterMap fun (x : Hashed InputRec) =>
    if x.val.use ≠ .reset then none
    else match x.val.enable with
      | none => none
      | some e => match p.inputRec e with
        | some y => if e = x.val.input || y.val.use ≠ .enable || y.val.src = x.val.src then some (max x.off y.off) else none
        | none => some x.off)
    ++ failing Hashed.off (fun (o : Hashed OutputRec) =>
      decide (o.val.mode ≠ .offpulse) && p.outputs.any fun q =>
        q.off < o.off && decide (q.val.mode ≠ .offpulse) && q.val.edmSrc == o.val.edmSrc
          && q.val.sections.any (fun i => o.val.sections.contains i)) p.outputs

/-- The bit time of a RATE in 0.05 µs. -/
def bitTime2 (rate : Nat) : Nat := 40 / 2 ^ rate

/-- T_rem,occ of R158 in µs, for a remote point with the peer's missed-cycle limit. -/
def tRemOcc (l : LineRec) (r : ReactRec) (missed : Nat) (onMember : Bool) : Nat :=
  (if onMember then 1500 else 1000) + l.cycle * 1000 * missed + 32 * bitTime2 l.rate + r.tPath + 1050

/-- R160: the remote budgets of the REACT record. -/
def RigPart.r160 (p : RigPart) : List Nat :=
  failing Hashed.off (fun (x : Hashed PointRec) =>
    decide (x.val.kind = .remote) && p.bounds.any (fun b => b.val.point == x.val.index)
      && (match p.line, p.peers.find? (·.val.address == x.val.owner) with
        | some l, some q =>
          let t := tRemOcc l.val p.react.val q.val.missed x.val.onMember
          p.react.val.remOcc < t || p.react.val.remClr < t + 2000
        | _, _ => false)) p.points

/-- The end of a slot's envelope in 0.05 µs (Table LIN-3). -/
def slotEnd (l : LineRec) (s : Slot) : Nat := s.offset * 20 + (12 + l.preamble + 8 * s.lclass) * bitTime2 l.rate

/-- G_ij of R176 in µs, delays in 0.1 µs. -/
def guard (l : LineRec) (di dj : Nat) : Nat := (2 * (di - dj) + l.cycle + 2 * bitTime2 l.rate + 20 + 9) / 10

/-- R176, R197: slot `b` after slot `a`. -/
def RigPart.gapOk (p : RigPart) (l : LineRec) (a b : Slot) : Bool :=
  slotEnd l a + 20 * guard l ((p.nodeDelay a.owner).getD 0) ((p.nodeDelay b.owner).getD 0) ≤ b.offset * 20

/-- R197: the order of the slots after the BEACON; a twin directly after its own slot. -/
def orderOk : Bool → List Slot → Bool
  | _, [] => true
  | retries, s :: rest =>
    let twin := fun (k : SlotKind) => match rest with
      | t :: _ => decide (t.kind = k) && t.owner == s.owner && t.lclass == s.lclass
      | [] => false
    match s.kind with
    | .beacon => false
    | .own => !retries && (match rest with | t :: _ => t.kind ≠ .twin || twin .twin | [] => true) && orderOk false rest
    | .twin => !retries && orderOk false rest
    | .retry => (match rest with | t :: _ => t.kind ≠ .retryTwin || twin .retryTwin | [] => true) && orderOk true rest
    | .retryTwin => orderOk true rest

/-- A twin slot never stands without the slot it belongs to before it. -/
def twinsOk : List Slot → Bool
  | a :: b :: rest =>
    (decide (b.kind ≠ .twin) || decide (a.kind = .own)) && (decide (b.kind ≠ .retryTwin) || decide (a.kind = .retry)) && twinsOk (b :: rest)
  | _ => true

/-- R197: with a node duplex in the schedule, each of its own and retry slots has its twin. -/
def duplexForm (slots : List Slot) (a : Nat) : Bool :=
  let n := fun (k : SlotKind) => (slots.filter fun s => s.owner == a && decide (s.kind = k)).length
  n .twin = 0 && n .retryTwin = 0 || (n .own == n .twin && n .retry == n .retryTwin)

def ownsTwin (slots : List Slot) (a : Nat) : Bool := slots.any fun s => s.owner == a && decide (s.kind = .twin)

/-- Room of a node's own slots in entries (R187). -/
def roomOf (slots : List Slot) (a : Nat) : Nat :=
  ((slots.filter fun s => s.owner == a && decide (s.kind = .own)).map fun s => (s.lclass - 24) / 8).foldl (· + ·) 0

def gapsOk (p : RigPart) (l : LineRec) : List Slot → Bool
  | a :: b :: rest => p.gapOk l a b && gapsOk p l (b :: rest)
  | [a] => slotEnd l a + 20 * guard l ((p.nodeDelay a.owner).getD 0) ((p.nodeDelay l.master).getD 0) ≤ l.cycle * 20000
  | [] => true

/-- R176, R197 for the SCHEDULE record. -/
def RigPart.scheduleOk (p : RigPart) (l : LineRec) (s : ScheduleRec) : Bool :=
  let addrs := s.nodes.map (·.1)
  (match s.slots with
    | b :: rest => decide (b.kind = .beacon) && b.lclass == 32 && b.offset == 0 && b.owner == l.master && orderOk false rest && twinsOk s.slots
    | [] => false)
    && (addrs.all fun a =>
      let own := (s.slots.filter fun x => x.owner == a && decide (x.kind = .own)).length
      within 1 8 own && duplexForm s.slots a && l.allow + 2 ≤ roomOf s.slots a && (addrs.filter (· == a)).length == 1)
    && (s.slots.filter fun x => decide (x.kind = .retry)).length ≤ 16
    && gapsOk p l s.slots
    && (ownsTwin s.slots p.node.val.address == p.duplex.isSome)

/-- R186, R191 at the LINE record, R176 and R197 at the SCHEDULE, a peer's duplex flag at its PEER record. -/
def RigPart.lineFails (p : RigPart) : List Nat :=
  match p.line with
  | none => []
  | some l =>
    (if l.val.preamble < 16 + 2 * l.val.repeaters || 40 < l.val.repeaters || l.val.key = 0 || l.val.key = 0xFFFFFFFF then [l.off] else [])
      ++ (match p.schedule with
          | some s =>
            (if p.scheduleOk l.val s.val then [] else [s.off])
              ++ failing Hashed.off (fun (x : Hashed PeerRec) => x.val.duplex != ownsTwin s.val.slots x.val.address) p.peers
          | none => [])

/-! ## Cost model (R121, R227, R408) -/

/-- Slots that this unit does not transmit itself; `pos` is its ST_DUPLEX. -/
def RigPart.received (p : RigPart) (pos : Nat) : List Slot :=
  match p.schedule with
  | none => []
  | some s => s.val.slots.filter fun x =>
      x.owner ≠ p.node.val.address || (match p.duplex with
        | some d => (decide (x.kind = .twin) || decide (x.kind = .retryTwin)) == (d.val.ownpos == pos) && decide (x.kind ≠ .beacon)
        | none => false)

def RigPart.nTel (p : RigPart) (pos : Nat) : Nat :=
  match p.line, (p.received pos).map (·.lclass) with
  | some l, c :: cs => let span := 8 * cs.foldl min c * bitTime2 l.val.rate; (10000 + span - 1) / span
  | _, _ => 0

def RigPart.nBounds (p : RigPart) (i : Nat) : Nat := (p.bounds.filter fun b => b.val.point == i).length

def sumOf (l : List Nat) : Nat := l.foldl (· + ·) 0

/-- Table COR-3, step 1: fixed cycles, point scan, local points. -/
def RigPart.cost1 (p : RigPart) : Nat :=
  1500 + 4 * p.points.length + (p.points.filter fun x => decide (x.val.kind = .localHead)).length * (30 + 12 * 32)

/-- Table COR-3, steps 2 to 6; one host port per half, two otherwise. -/
def RigPart.cost2 (split : Bool) (pos : Nat) (p : RigPart) : Nat :=
  6 * p.sections.length + sumOf (p.points.map fun x => 36 + 18 * p.nBounds x.val.index) + 80 * p.nTel pos
    + (if split then 600 else 1200) + 12 * p.outputs.length

def RigPart.ownPoints (p : RigPart) : Nat := (p.points.filter fun x => decide (x.val.kind ≠ .remote)).length

/-- The worst-case RECORD of R408 in bytes. -/
def RigPart.recordBytes (p : RigPart) (pos : Nat) : Nat :=
  8 + 16 * p.ownPoints + p.nTel pos * (4 + ((p.received pos).map (·.lclass)).foldl max 0) + 256

def RigPart.overCost (split : Bool) (pos : Nat) (p : RigPart) : Bool :=
  21120 < p.cost1 + p.cost2 split pos
    || (p.duplex.isSome && (11520 < p.cost1 || 5760 < p.cost2 split pos || 1200 < p.recordBytes pos || 448 < p.ownPoints))

/-! ## Step 6: bands (R43, R59) -/

/-- A trip point at `v` µV with the extra tolerance `tol` µV lies 0.5 mA inside the gap `lo` to `hi` (0.01 mA). -/
def tripInside (shunt lo hi : Nat) (v tol : Int) : Bool :=
  let spread := 85 * v + 10000 * (6000 + tol)
  decide (((lo : Int) + 50) * shunt * 10000 ≤ 10000 * v - spread) && decide (10000 * v + spread ≤ ((hi : Int) - 50) * shunt * 10000)

def SystemRec.bandsOk (s : SystemRec) : Bool :=
  let v := fun (i : Nat) => ((i * s.shunt : Nat) : Int)
  let tol := 250 * (s.hyst : Int) + 500
  tripInside s.shunt s.openMax s.idleMin (v s.openAt) 0
    && tripInside s.shunt s.idleMax s.occMin (v s.occAt + 5000 * s.hyst) tol
    && tripInside s.shunt s.idleMax s.occMin (v s.occAt - 5000 * s.hyst) tol
    && tripInside s.shunt s.occMax s.shortMin (v s.shortAt) 0

/-! ## Step 7: fit -/

/-- What step 7 asks of the device: ST_SPLIT, ST_STACK, ST_DUPLEX. -/
structure Fit where
  split : Bool := false
  stackPos : Nat := 0
  pos : Nat := 0
  deriving DecidableEq, Repr

def RigPart.fitFails (f : Fit) (p : RigPart) : List Nat :=
  let n := match p.stack with | some s => s.val | none => 1
  (if (p.node.val.half ≠ 0) != f.split then [p.node.off] else [])
    ++ (if f.stackPos = 0 then [] else match p.stack with
        | some s => if s.val ≤ f.stackPos then [s.off] else []
        | none => [p.node.off])
    ++ failing Hashed.off (fun (x : Hashed HeadRec) => n ≤ x.val.stackpos) p.heads
    ++ failing Hashed.off (fun (x : Hashed SystemRec) => n ≤ x.val.stackpos) p.systems
    ++ failing Hashed.off (fun (x : Hashed PointRec) => decide (x.val.kind = .member) && n ≤ x.val.stackpos) p.points

/-! ## The whole of Table RIG-9 -/

def partOf (p : List FRec) : RigPart := p.foldl RigPart.add {}

/-- The number of parts against the HALF of their NODE records (R296). -/
def halvesFails (endOff : Nat) (parts : List (List FRec)) : List Nat :=
  match parts.map (fun p => (partOf p).node) with
  | [n] => if n.val.half = 0 then [] else [endOff]
  | [a, b] => if a.val.half = 1 && b.val.half = 2 then [] else [b.off]
  | _ :: _ :: c :: _ => [c.off]
  | [] => [endOff]

/-- Step 5 for the parts of a face. -/
def recordFails (f : Fit) (endOff : Nat) (parts : List (List FRec)) : List Nat :=
  let split := 1 < parts.length
  halvesFails endOff parts ++ parts.flatMap fun rs =>
    let p := partOf rs
    orderFails rs ++ multiplicityFails split endOff rs
      ++ failing FRec.off (fun r => r.bad p.node.val.half p.line.isSome) rs
      ++ p.refFails ++ p.r67 ++ p.r98 ++ p.r112 split ++ p.r129 ++ p.r148 ++ p.r160 ++ p.lineFails
      ++ (if p.overCost split f.pos then [(rs.getLast?.map FRec.off).getD endOff] else [])

def bandFails (parts : List (List FRec)) : List Nat :=
  parts.flatMap fun rs => failing Hashed.off (fun (s : Hashed SystemRec) => !s.val.bandsOk) (partOf rs).systems

/-- Step 8: records that the back spells otherwise. -/
def tableFails (recs : List FRec) (rebuilt : List Byte) : List Nat :=
  failing FRec.off (fun r => slice rebuilt r.off (4 + r.val.length) ≠ r.bytes) recs

/-- The checks of Table RIG-9 in order; the first step with a failure ends them. -/
def runSteps : List (Nat × List Nat) → Rig → Verified
  | [], r => .pass r
  | (code, fails) :: rest, r =>
    match lowest fails with
    | some off => .fail code off
    | none => runSteps rest r

/-- Steps 3 to 8 on an image of the header's LENGTH. -/
def verifyImage (f : Fit) (face back : List Byte) : Verified :=
  let rebuilt := faceOfBack back
  let hash := ofBytes (slice face 32 32)
  let recs := (walk face.length 64 (face.drop 64)).1
  let endOff := (recs.getLast?.map FRec.off).getD 64
  let parts := partsOf recs
  let rig : Rig := {
    serial := BitVec.ofNat 32 (fieldAt face 8 4), hash := BitVec.ofNat 256 hash, length := face.length
    partA := partOf (parts.getD 0 []), partB := (parts[1]?).map partOf }
  runSteps [
    (0xA1, if (rigHash face).toNat = hash && (rigHash rebuilt).toNat = hash then [] else [32]),
    (0xA0, framingFails face),
    (0xA3, recordFails f endOff parts),
    (0xA3, bandFails parts),
    (0xA4, parts.flatMap fun rs => (partOf rs).fitFails f),
    (0xA2, tableFails recs rebuilt)] rig

/-- Verification of the pair that `read` gives: `read off n` are `n` bytes, face at 0 and back at 0x4_0000 (R301). -/
def verifyPair (f : Fit) (read : Nat → Nat → List Byte) : Verified :=
  let head := read 0 64
  match lowest (headerFails head) with
  | some off => .fail 0xA0 off
  | none => match lowest (complementFails head (read 0x40000 64)) with
    | some off => .fail 0xA2 off
    | none => let len := fieldAt head 20 4; verifyImage f (read 0 len) (read 0x40000 len)

def Dev.fit (d : Dev) : Fit := { split := d.split, stackPos := d.stackPos, pos := d.position }

/-- A bank of the flash (Table RIG-8), and the staging buffer. -/
def State.readBank (s : State) (bank off n : Nat) : List Byte := memBytes flashZ s.flash (bank * 0x80000 + off) n
def State.readStaging (s : State) (off n : Nat) : List Byte := memBytes stagingZ s.staging off n
def State.verifyBank (s : State) (bank : Nat) : Verified := verifyPair s.dev.fit (s.readBank bank)
def State.verifyStaging (s : State) : Verified := verifyPair s.dev.fit s.readStaging

end Sys2Proof.Machine
end

