-- ==== Sys2Proof/Machine/Operands.lean ====
section
/-! DEFINITION. The register map (21, 22): what every register index reads from a bank at a port. A bank is a whole
device; the ports' own sets, windows and halves follow the reading port (R366, R367). -/
namespace Sys2Proof.Machine

def hi16 (t : DTime) : Nat := t.toNat / 2 ^ 32
def lo32 (t : DTime) : Nat := t.toNat % 2 ^ 32
def sat (w v : Nat) : Nat := min v (2 ^ w - 1)
def word (v : Nat) : Word := BitVec.ofNat 32 v

/-! ## Fault ring (R370, Table REG-4) -/

def Kind.code : Kind → Nat
  | .device => 0 | .half => 1 | .unit => 2 | .system => 3 | .point => 4 | .sect => 5 | .output => 6 | .input => 7
  | .tps => 8 | .line => 9 | .linePair => 10 | .lineNode => 11 | .member => 12 | .port => 13

/-- OBJECT: a system carries the device's stack position. -/
def ringObject (pos : Nat) (k : Kind) (obj : Nat) : Nat :=
  match k with
  | .system => pos * 2 ^ 13 + obj % 32
  | .device | .unit | .linePair | .lineNode => 0
  | _ => obj % 2 ^ 16

def ringPartner (pos : Nat) (k : Kind) (p : Nat) : Nat :=
  if p = 0xFFFF then 0xFFFF else match k with | .system => pos * 2 ^ 13 + p % 32 | _ => p % 2 ^ 16

def RingRec.words (pos : Nat) (r : RingRec) : List Word :=
  [pack [(r.key.code, 24), (b2n r.clr, 23), (r.key.kind.code, 16), (ringObject pos r.key.kind r.key.obj, 0)],
   pack [(ringPartner pos r.key.kind r.key.partner, 16), (hi16 r.dt, 0)], r.frame, word (lo32 r.dt)]

/-! ## DEV and SYS -/

def Dev.readDev (d : Dev) (i : Nat) : Word :=
  match i with
  | 0 => d.otpWord 0
  | 1 => d.otpWord 1
  | 2 => d.otpWord 2
  | 3 => d.otpWord 3
  | 4 => 0x1A641001
  | 5 => word (hi16 d.dt)
  | 6 => word (lo32 d.dt)
  | 7 => d.frame
  | 8 => word d.codePos
  | _ => 0

/-- Codes `0x10 + 32k` to `0x10 + 32k + 31`. -/
def Dev.faultSet (d : Dev) (k : Nat) : Word :=
  pack ((List.range 32).map fun n => (b2n (d.codeActive (0x10 + 32 * k + n)), n))

def Faults.count (code : Nat) (f : Faults) : Nat := ((f.occ.find? (·.1 == code)).map (·.2)).getD 0

def Half.other : Half → Half
  | .a => .b
  | .b => .a

def Dev.readSys (d : Dev) (p : Fin 2) (i : Nat) : Word :=
  let h := d.halfOfPort p
  let win := (d.port p).winsel
  match i with
  | 0 => pack [((d.node h).sys.code, 0), (if d.split then (d.node h.other).sys.code else 0, 4), (b2n d.split, 8), (b2n d.faultN, 9)]
  | 1 => pack [(d.straps.latched.toNat, 0), (d.straps.attempts, 8), (d.straps.raw.toNat, 16), (b2n d.straps.drift, 24)]
  | 2 => pack [(d.resetCause, 0), (d.nreset, 16)]
  | 3 => pack [(d.lastCause.code, 0), (d.lastCause.half, 8)]
  | 4 => d.lastCause.frame
  | 5 => word (hi16 d.lastCause.dt)
  | 6 => word (lo32 d.lastCause.dt)
  | 7 => word (sat 16 d.faults.active.length)
  | 14 => word d.warnBits
  | 15 => word (sat 16 d.store.otpCor)
  | 16 => d.faults.ringHead
  | 21 => let c := bits win 15 8
          pack [(d.faults.count c, 0), (b2n (d.codeActive c), 16), (c, 24)]
  | 22 => 0
  | i =>
    if 8 ≤ i && i ≤ 13 then d.faultSet (i - 8)
    else if 17 ≤ i && i ≤ 20 then
      (match d.faults.ring[bits win 5 0]? with | some r => (r.words d.stackPos).getD (i - 17) 0 | none => 0)
    else 0

/-! ## HST (R372) -/

/-- Frames of a session's idle interval and of a lockout (R289, R290). -/
def idleFrames : Nat := 1200000
def lockFrames : Nat := 120000

def Port.locked (frame : Word) (p : Port) : Bool :=
  match p.lockout with | some f => since frame f < lockFrames | none => false

def Dev.readHst (d : Dev) (p : Fin 2) (i : Nat) : Word :=
  let x := d.port p
  match i with
  | 4 => x.utcHi
  | 5 => x.utcLo
  | 6 => word x.irqStat
  | 7 => word x.irqMask
  | 8 => match x.session with
    | some s => pack [(s.operator, 0), ((idleFrames - d.ago s.last) / 200, 16), (1, 31)]
    | none => 0
  | 9 =>
    let left := match x.lockout with | some f => (lockFrames - d.ago f) / 2000 | none => 0
    pack [(x.cq.length, 0), (x.tags.length, 8), (left, 16), (b2n x.snapHeld, 29), (b2n (x.locked d.frame), 30), (b2n x.frozen, 31)]
  | 10 => pack [(x.lastViol, 0), (x.crcRun, 8), (x.pwRun, 12), (x.nviol, 16)]
  | 11 => x.winsel
  | i => if i < 4 then x.par.getD i 0 else 0

/-! ## COR and AFE -/

def Dev.readCor (d : Dev) (p : Fin 2) (i : Nat) : Word :=
  let c := (d.node (d.halfOfPort p)).cores
  match i with
  | 0 => Config.romVersion
  | 1 => Config.romSignature
  | 2 => pack [(b2n d.split, 0), (b2n d.store.otpForbid, 1), (b2n d.straps.forbidLatched, 2)]
  | 3 => c.sig
  | 4 => pack [(c.resyncTotal, 0), ((c.resyncFrames.filter fun f => d.ago f ≤ 20000).length, 16)]
  | 5 => pack [(sat 16 c.workLast, 0), (sat 16 c.workMax, 16)]
  | 6 => d.mm.frame
  | 7 => pack [(d.mm.cycle, 0), (d.mm.group, 24), (b2n d.mm.valid, 31)]
  | 8 => d.mm.a
  | 9 => d.mm.b
  | _ => 0

def Dev.readAfe (d : Dev) (i : Nat) : Word :=
  let o := d.obs
  let b := d.bgw
  match i with
  | 0 => word (sat 16 o.vfld)
  | 1 => word (sat 16 o.vsup)
  | 2 => word (sat 16 o.vio)
  | 3 => word (sat 16 o.rail5)
  | 4 => word (sat 16 o.rail10)
  | 5 => word (sat 16 o.cpump)
  | 6 => word (unsignedOf 16 o.temp)
  | 7 => pack [(b.zeroMean % 4096, 0), (b.refMean % 4096, 16)]
  | 8 => pack [(unsignedOf 16 b.corOffset, 0), (unsignedOf 16 b.corGain, 16)]
  | 9 => pack [(sat 16 b.calAge, 0), (sat 8 b.calGood, 16)]
  | 10 => pack [(b.rbIdx, 0), (unsignedOf 8 b.rbDiff, 8)]
  | _ => 0

/-! ## LIN, DPX, HAL -/

def LineNode.modeCode (l : LineNode) : Nat :=
  match l.mode with
  | .normal => 0
  | .propose => if l.round = 2 then 2 else 1
  | .commit => 3
  | .reef => 4

def Dev.readLin (d : Dev) (p : Fin 2) (i : Nat) : Word :=
  let h := d.halfOfPort p
  let l := d.line h
  let r := d.lineRec h
  let k := bits (d.port p).winsel 31 24
  let peer := l.peers[k]?
  let phys := fun (x : LinePhys) (j : Nat) => match j with
    | 0 => pack [(x.single, 0), (x.invalid, 16)]
    | 1 => pack [(x.echoErr, 0), (x.decDis, 16)]
    | _ => pack [(sat 8 x.biasMin, 0), (sat 8 x.biasNow, 8)]
  if !(match d.rigPart h with | some q => q.line.isSome | none => false) then
    (match i with
      | 5 => (d.node h).journal.nextSeq - 1
      | 6 => pack [((d.node h).journal.inFlight, 0), (d.span, 16)]
      | 18 => pack [(k, 24)]
      | _ => 0)
  else match i with
  | 0 => pack [(d.lineAddress h, 0), (r.master, 16), (r.rate, 26), (b2n r.reef, 28), (b2n r.wake, 29), (b2n (d.isMaster h), 30), (1, 31)]
  | 1 => pack [(r.cycle, 0), (r.preamble, 8)]
  | 2 => pack [((l.cycle.getD 0).toNat, 0), (l.modeCode, 16), (b2n l.inReef, 19), (b2n l.lineA.suspended, 20)
               , (b2n l.lineB.suspended, 21), (b2n l.silent, 22)]
  | 3 => d.schedId h
  | 4 => l.tseq
  | 5 => (d.node h).journal.nextSeq - 1
  | 6 => pack [((d.node h).journal.inFlight, 0), (d.span, 16)]
  | 7 => pack [((l.peers.filter (·.heard)).length, 0), (l.peers.length, 16)]
  | 8 => pack [(l.lastMuted, 0), (l.mutes, 16)]
  | 9 => pack [(l.namedSrc, 0), (l.namedCode, 16)]
  | 10 => pack [(l.reefs, 0), (l.zeroReefs, 16)]
  | 11 => pack [(l.wakesSent, 0), (l.wakesIgnored, 16)]
  | 12 => phys l.lineA 0
  | 13 => phys l.lineA 1
  | 14 => phys l.lineA 2
  | 15 => phys l.lineB 0
  | 16 => phys l.lineB 1
  | 17 => phys l.lineB 2
  | 18 => match peer with
    | some q => pack [(q.cfg.address, 0), (q.missed, 10), (b2n (!q.heard), 16), (b2n (l.muted.contains q.cfg.address), 17), (b2n q.cfg.duplex, 18), (1, 19), (k, 24)]
    | none => pack [(k, 24)]
  | 19 => match peer with | some q => q.s | none => 0
  | 20 => match peer with | some q => q.hi.getD 0 | none => 0
  | _ => 0

/-- ROLE: 0, its reset value, until Table DPX-2's start gives the unit a role (DEDUCED, log 102). -/
def Dev.shownRole (d : Dev) : Nat :=
  if d.nodeA.phase = .done || d.nodeA.safe then d.dpx.role.code else 0

/-- R377; every field reads 0 in split mode (R366). -/
def Dev.readDpx (d : Dev) (i : Nat) : Word :=
  let x := d.dpx
  if d.split then 0
  else match i with
  | 0 =>
    let floating := match d.rigPart .a with | some p => (match p.duplex with | some r => r.val.floating | none => false) | none => false
    pack [(b2n d.hasDuplex, 0), (d.position, 1), (b2n floating, 2), (d.shownRole, 4)
          , ((x.prole.map Role.code).getD 7, 8), (b2n x.claim, 12), (b2n x.pclaim, 13), (b2n x.hold, 14), (b2n x.frozen, 15)
          , (b2n x.pinnedAway, 16), (b2n x.mirror, 17)]
  | 1 => word x.epoch.toNat
  | 2 => pack [(sat 16 x.progress, 0), (x.step, 16), (min 15 (x.fails.filter fun f => d.ago f ≤ 120000).length, 24)]
  | 3 => word x.uncert
  | 4 => word x.disagree
  | 5 => word x.unmirr
  | 6 => pack ((List.range 8).map fun n => (b2n (d.hasFault 0x79 .output n), n))
  | 7 => x.claimFrame
  | _ => 0

def Membership.code : Membership → Nat
  | .absent => 0 | .joining => 1 | .present => 2 | .frozen => 3

def Dev.readHal (d : Dev) (i : Nat) : Word :=
  let x := d.hal
  if d.split || !d.straps.done then 0
  else if i = 0 then pack [(d.stackPos, 0), (d.stackN, 4), (b2n (d.stackPos == 0), 8)]
  else if i ≤ 7 then
    (if d.stackPos ≠ 0 then 0
      else let m := d.member i
           pack [(m.state.code, 0), (b2n m.ready, 4), (m.refuse, 5), (m.epoch.toNat, 16)])
  else match i with
  | 8 => if d.stackPos = 0 then 0 else pack [(x.selfState.code, 0), (b2n (d.hasFault 0x84 .member d.stackPos), 4), (x.selfEpoch.toNat, 16)]
  | 9 => word x.discard
  | 10 => pack [(sat 16 x.failF, 0), (sat 16 x.failR, 16)]
  | 11 => pack [(x.bulkMember, 0), (x.bulkBytes % 2 ^ 20, 8), (b2n x.bulkActive, 31)]
  | _ => 0

/-! ## RIG and LOG -/

def RigSource.code : RigSource → Nat
  | .none => 0 | .bank0 => 1 | .bank1 => 2 | .host => 3

def Dev.readRig (d : Dev) (i : Nat) : Word :=
  let g := d.rig
  let passed := match g.passed with | some _ => g.staged | none => false
  if 1 ≤ i && i ≤ 8 then word (d.activeHash.toNat / 2 ^ (32 * (8 - i)) % 2 ^ 32)
  else match i with
  | 0 => d.activeSerial
  | 9 => g.actFrame
  | 10 => pack [(g.source.code, 0), (b2n g.fallback, 4)]
  | 11 => match g.active with | some r => word r.length | none => 0
  | 12 => pack [(g.bank0.2, 0), (g.bank0.1, 24)]
  | 13 => pack [(g.bank1.2, 0), (g.bank1.1, 24)]
  | 14 => pack [(b2n g.staged, 0), (b2n (g.owner == some 1), 1), (b2n passed, 2), (b2n g.pendAct.isSome, 3), (b2n g.store.isSome, 4)]
  | 15 => if g.staged then g.stagedSerial else 0
  | _ => 0

def wearLimit : Nat := 20000

def Dev.readLog (d : Dev) (p : Fin 2) (i : Nat) : Word :=
  let l := d.log
  match i with
  | 0 => word l.newest
  | 1 => word l.wmark
  | 2 => pack [(l.occupied, 0), (l.free, 16), (if l.free = 0 then 2 else if 3226 ≤ l.occupied then 1 else 0, 28)]
  | 3 => word l.dropped
  | 4 =>
    let top := l.erases.foldl (fun (m : Nat × Nat) e => if m.2 < e.2 then e else m) (0, 0)
    pack [(top.2, 0), (top.1, 16), (b2n (wearLimit ≤ top.2), 31)]
  | 5 =>
    let s := d.store
    pack [(s.pw.state, 0), (b2n s.calA.valid, 4), (b2n s.calB.valid, 5), (b2n s.pwA.valid, 6), (b2n s.pwB.valid, 7)
          , (b2n s.lwA.valid, 8), (b2n s.lwB.valid, 9), (b2n l.chainDone, 16), (b2n (l.chainBrk ≠ 0), 17)]
  | 6 => word l.chainBrk
  | i => if 0x10 ≤ i && i ≤ 0x1F then (d.port p).logEntry.getD (i - 0x10) 0 else 0

/-! ## BGW and OUT global -/

/-- The 64 bytes of a telemetry record (Table BGW-2). -/
def TelRec.bytes (t : TelRec) : List Byte :=
  let b := toBytes 4 t.trec ++ toBytes 6 t.dtime.toNat ++ toBytes 4 t.frame.toNat ++ toBytes 1 t.state ++ toBytes 1 t.role
    ++ toBytes 4 t.install.toNat ++ toBytes 2 (unsignedOf 16 t.temp) ++ toBytes 2 (sat 16 t.vsup) ++ toBytes 2 (sat 16 t.vfld)
    ++ toBytes 2 (sat 16 t.vio) ++ toBytes 2 t.warn ++ toBytes 2 (sat 16 t.nfault) ++ toBytes 2 (sat 16 t.scrubCor)
    ++ toBytes 2 (sat 16 t.resync) ++ toBytes 2 (sat 16 t.singleA) ++ toBytes 2 (sat 16 t.singleB) ++ toBytes 2 (sat 16 t.resets)
    ++ toBytes 2 (sat 16 t.redund) ++ toBytes 1 (sat 8 t.zeroReef) ++ toBytes 1 (sat 8 t.proofs) ++ toBytes 1 (sat 8 t.biasA)
    ++ toBytes 1 (sat 8 t.biasB) ++ toBytes 2 (sat 16 t.slackMin) ++ toBytes 2 (sat 16 t.probeOcc) ++ toBytes 2 (sat 16 t.probeClr)
    ++ toBytes 2 (sat 16 t.dropped) ++ toBytes 1 t.half ++ toBytes 3 0
  b ++ toBytes 4 (crc32c b).toNat

/-- The half's own telemetry records, newest first. -/
def Bgw.telOf (split : Bool) (h : Half) (b : Bgw) : List TelRec := b.tel.filter fun t => !split || t.half == h.num

def Dev.probeOf (d : Dev) (h : Half) : Probe := if d.probe.half = h then d.probe else d.probeOther

def Dev.readBgw (d : Dev) (p : Fin 2) (i : Nat) : Word :=
  let h := d.halfOfPort p
  let b := d.bgw
  let x := d.probeOf h
  let tel := b.telOf d.split h
  match i with
  | 0 => x.resRun
  | 1 => pack [(x.result, 0), (x.check, 4), (x.resOffset, 16)]
  | 2 => pack [(sat 16 x.spanOcc, 0), (sat 16 x.spanClr, 16)]
  | 3 => pack [(sat 16 x.passOcc, 0), (sat 16 x.passClr, 16)]
  | 4 => pack [(sat 16 b.scrubPasses, 0), (sat 16 b.scrubCor, 16)]
  | 5 => pack [(b.scrubPos % 2048, 0), (sat 13 (if b.running then d.ago b.scrubStart else 0), 16)]
  | 6 => pack [(sat 16 b.cmpPasses, 0), (sat 13 (if b.cmpRunning then d.ago b.cmpStart else 0), 16)]
  | 7 => pack [(sat 16 b.dropped, 0), (sat 16 b.telSkipped, 16)]
  | 8 => pack [(if b.slack < b.slackMin then 0 else b.slackMin, 0), (b.slack, 16)]
  | 9 => match tel with | t :: _ => word t.trec | [] => 0
  | 10 => word (sat 16 b.romPasses)
  | i =>
    if 0x10 ≤ i && i ≤ 0x1F then
      (match tel[bits (d.port p).winsel 19 16]? with | some t => (wordsOf 16 t.bytes).getD (i - 0x10) 0 | none => 0)
    else 0

def OutState.code : OutState → Nat
  | .off => 0 | .onWait => 1 | .on => 2 | .offWait => 3 | .adopt => 4 | .fault => 5

/-- The outputs, inputs and sources that the port's half shows (R366). -/
def Dev.showsOut (d : Dev) (p : Fin 2) (n : Nat) : Bool := decide (d.halfOfOut n = d.halfOfPort p)
def Dev.showsInp (d : Dev) (p : Fin 2) (n : Nat) : Bool := decide (d.halfOfInp n = d.halfOfPort p)
def Dev.showsSys (d : Dev) (p : Fin 2) (n : Nat) : Bool := decide (d.halfOfSys n = d.halfOfPort p)

def Dev.readOutGlobal (d : Dev) (p : Fin 2) (i : Nat) : Word :=
  let outs := fun (w lo : Nat) (f : Output → Nat) => (d.outputs.filter fun o => d.showsOut p o.id).map fun o => (f o, lo + w * o.id)
  let inps := fun (lo from_ to_ : Nat) (f : Nat → Bool) =>
    ((List.range to_).filter fun n => from_ ≤ n && d.showsInp p n).map fun n => (b2n (f n), lo + n - from_)
  match i with
  | 0 => pack (outs 3 0 fun o => o.state.code)
  | 1 => pack (outs 1 0 (fun o => b2n o.gateLo) ++ outs 1 8 (fun o => b2n o.gateHi) ++ [(b2n (d.gatePermit (d.halfOfPort p)), 16)])
  | 2 => pack (outs 1 0 (fun o => b2n o.pendingMark) ++ outs 1 8 (fun o => b2n o.proofDue) ++ outs 1 16 (fun o => b2n o.decided))
  | 3 => word (if d.dt = 0 then 0 else phase (d.frame - 1))
  | 4 => pack (inps 0 0 12 (fun n => (d.inp n).filt) ++ inps 16 12 20 (fun n => (d.inp n).filt))
  | 5 => pack (inps 0 0 12 d.inpFaulty ++ inps 16 12 20 d.inpFaulty
      ++ ((List.range 4).filter fun k => decide (d.halfOfSrc k = d.halfOfPort p)).map fun k => (b2n (d.srcFault k), 24 + k))
  | 6 => word (sat 16 (d.proofsOf (d.halfOfPort p)))
  | _ => 0

/-! ## Output and input arrays (R387, R388) -/

def NodeClass.code : NodeClass → Nat
  | .low => 0 | .mid => 1 | .high => 2

def CheckMode.code : CheckMode → Nat
  | .offpulse => 0 | .edm => 1 | .both => 2

def Dev.readOut (d : Dev) (p : Fin 2) (n r : Nat) : Word :=
  let o := d.out n
  if !o.defd || !d.showsOut p n then 0
  else match r with
  | 0 => pack [(o.state.code, 0), (b2n o.decided, 3), (b2n o.pendingMark, 4), (b2n o.proofDue, 5), (o.hiCls.code, 8)
               , (o.loCls.code, 10), (b2n (d.edmClosed n), 12), (b2n (d.inpFaulty (12 + n)), 13), (1, 31)]
  | 1 => pack ((List.range 12).map (fun k => (b2n (d.hasFault (0x50 + k) .output n (d.halfOfOut n)), k))
      ++ [((o.partner.getD 0) % 8, 16), (b2n o.partner.isSome, 19), (o.first, 24)])
  | 2 => pack [(sat 16 o.ohsV, 0), (sat 16 o.olsV, 16)]
  | 3 => pack [(sat 16 o.pulsesHi, 0), (sat 16 o.pulsesLo, 16)]
  | 4 => pack [(sat 16 o.edmMs, 0), (if o.cfg.mode = .offpulse then 0 else sat 16 ((o.proofFrames - d.ago o.proofStart) / 120000), 16)]
  | 5 => pack [(o.cfg.pulse, 0), (o.cfg.tedm, 10), (o.cfg.proof, 19), (b2n o.cfg.force, 24), (o.cfg.mode.code, 25), (o.cfg.edmSrc, 27)
               , (o.cfg.sections.length, 29)]
  | 6 => pack [(o.cfg.sections.getD 0 0xFFFF, 0), (o.cfg.sections.getD 1 0xFFFF, 16)]
  | _ => pack [(o.cfg.sections.getD 2 0xFFFF, 0), (o.cfg.sections.getD 3 0xFFFF, 16)]

def InputUse.code : InputUse → Nat
  | .status => 0 | .reset => 1 | .enable => 2 | .outClear => 3

def Dev.readInp (d : Dev) (p : Fin 2) (n r : Nat) : Word :=
  let i := d.inp n
  if !i.defd || !d.showsInp p n then 0
  else match r with
  | 0 => pack [(b2n i.filt, 0), (b2n i.raw, 1), (b2n (d.inpFaulty n), 2), (b2n i.ignored, 3), (i.cfg.use.code, 4), (i.cfg.src, 8)
               , (b2n (d.inpFault n 0x49), 16), (b2n (d.inpFault n 0x58), 17), (b2n (d.inpFault n 0x59), 18), (b2n (d.srcFault i.cfg.src), 19)
               , (i.named % 4, 24), (1, 31)]
  | 1 => pack [(sat 16 i.lastPress, 0), (i.result, 16)]
  | 2 => pack [(sat 16 i.accepted, 0), (sat 8 i.tooShort, 16), (sat 8 i.tooLong, 24)]
  | _ => pack [(i.cfg.enable.getD 0xFF, 0), (i.cfg.outmask, 8), (i.cfg.sect, 16), (b2n i.cfg.direct, 25)]

/-! ## System array (R389, R391) -/

def HsupMode.code : HsupMode → Nat
  | .off => 0 | .discharge => 1 | .on => 2 | .chip => 3 | .proof => 4

def PosSet.lo (s : PosSet) : Word := s.setWidth 32
def PosSet.hi (s : PosSet) : Word := (s >>> 32).setWidth 32

def Dev.readSystem (d : Dev) (p : Fin 2) (n r : Nat) : Word :=
  let s := d.sys n
  if !s.defd || !d.showsSys p n then 0
  else match r with
  | 0 => pack [(b2n s.occ, 0), (b2n s.cOpen.live, 1), (b2n s.cShort.live, 2), (s.band, 4), (s.mode.code, 8), (s.node.code, 12)
               , (b2n s.usable, 16), (b2n (d.sysDisturbed n), 17), (b2n (!s.susp), 18), (b2n s.baseWarn, 19), (b2n s.cfg.polarity, 20), (1, 31)]
  | 1 => pack ((List.range 15).map (fun k => (b2n (if k = 13 then d.codeActive 0x3D else d.sysFault n (0x30 + k)), k))
      ++ [(b2n s.ambig, 16), (b2n s.unident, 17)])
  | 2 => pack ((List.range 4).filterMap fun k => (s.partners[k]?).map fun l => (l % 32 + 128, 8 * k))
  | 3 => pack [(s.lastCode % 4096, 0), (sat 16 s.lastCur, 16)]
  | 4 => pack [(sat 16 s.baseline, 0), (sat 16 s.baseAge, 16)]
  | 5 => pack [(s.dacOpen, 0), (s.dacOcc, 10), (s.dacShort, 20)]
  | 6 => pack [(s.cfg.hyst, 0), (s.cfg.eblank, 4), (s.cfg.recovery, 16)]
  | 7 => pack [(s.cfg.shunt, 0), (b2n s.holdoff, 16)]
  | 8 => pack [((s.missHist.filter (· == true)).length, 0), (min 31 s.exceptions, 8), (s.applied, 16), (s.clean, 24)]
  | 9 => s.dSet.lo
  | 10 => s.dSet.hi
  | 11 => s.iSet.lo
  | 12 => s.iSet.hi
  | 13 => s.vSet.lo
  | 14 => s.vSet.hi
  | _ => pack [(sat 8 s.noiseRun, 0), ((s.disHist.filter (· == true)).length, 8), (sat 16 s.hidden, 16)]

/-! ## Point and section arrays (R393, R394) -/

def PointKind.code : PointKind → Nat
  | .localHead => 0 | .member => 1 | .remote => 2
def Position.code : Position → Nat
  | .vacant => 0 | .aOnly => 1 | .both => 2 | .bOnly => 3

def Dev.readPoint (d : Dev) (p : Fin 2) (n r : Nat) : Word :=
  let h := d.halfOfPort p
  match (d.node h).point n with
  | none => 0
  | some x =>
    let inside := decide (x.state = .counting) && decide (x.cfg.kind ≠ .remote)
    match r with
    | 0 => pack ([(x.state.code, 0), (if inside then x.pas.pos.code else 0, 4), (b2n (inside && decide (x.pas.entry = .B)), 6)
                 , (b2n (inside && x.pas.overlap), 7), (x.cfg.kind.code, 8), (x.cfg.stackpos, 10), (1, 31)]
        ++ (List.range 5).map (fun k => (b2n (d.hasFault (0x40 + k) .point n h || (k == 3 && x.jfull)), 16 + k))
        ++ [(b2n (d.hasFault 0x72 .point n h), 21)])
    | 1 => x.eseq
    | 2 => pack [(b2n x.lastBa, 0), (x.lastV.code, 1), (b2n x.lastRes, 3), (if x.cfg.kind = .remote then 0 else sat 16 x.ton, 16)]
    | _ => pack [(sat 16 x.events, 0), (sat 8 x.hidden, 16), (sat 8 x.recover, 24)]

def Dev.readSection (d : Dev) (p : Fin 2) (n r : Nat) : Word :=
  let h := d.halfOfPort p
  match (d.node h).sect n with
  | none => 0
  | some s => match r with
    | 0 => pack ([(s.state.code, 0), (b2n s.cfg.direct, 4), (b2n s.cfg.fromOcc, 5), (b2n s.cfg.dual, 6), (b2n s.cfg.reef, 7)
                 , (b2n s.cfg.publish, 8), (b2n s.pending, 20), (b2n s.arm.isSome, 21), (b2n (decide (s.state = .prep) && s.rose), 22)
                 , (s.cfg.nbound, 24), (1, 31)]
        ++ (List.range 4).map fun k => (b2n (d.hasFault (0x45 + k) .sect n h), 16 + k))
    | 1 => pack [(unsignedOf 16 s.count, 0), (sat 16 s.contrib.length, 16)]
    | 2 => s.resFrame
    | 3 => pack [(b2n s.resDirect, 0), (s.resSource, 1), (s.resInput, 4), (s.resResult, 8), (sat 16 s.nRedund, 16)]
    | 4 => s.change
    | 5 =>
      let ages := (s.contrib.filter fun c => decide (c.verdict = .pending)).map fun c => d.ago c.frame / 2
      pack [(s.cfg.vlimit, 0), (sat 16 (ages.foldl max 0), 16)]
    | 6 => match s.arm with
      | some a => pack [(1, 0), (b2n a.direct, 1), (a.port.val, 2), (b2n a.conf0, 3), (b2n a.conf1, 4), (armLimit - d.ago a.frame, 16)]
      | none => 0
    | _ => match s.arm with | some a => a.frame | none => 0

/-! ## Journal window (R395) -/

/-- The entry that holds slot `j`, and the half it belongs to. -/
def Dev.slotEntry (d : Dev) (j : Nat) : Option (Half × JEntry) :=
  match d.nodeA.journal.entries.find? (·.idx % 4096 == j) with
  | some e => some (.a, e)
  | none => (d.nodeB.journal.entries.find? (·.idx % 4096 == j)).map fun e => (.b, e)

/-- Table CNT-4. -/
def JEntry.field (w : Nat) (e : JEntry) : Word :=
  match w with
  | 0 => e.seq
  | 1 => pack [(b2n e.member.isSome, 30), (e.member.getD 0, 27), (b2n e.ba, 26), (e.verdict.code, 24), (b2n e.res, 23), (e.point, 0)]
  | 2 => e.frame
  | 3 => pack [(hi16 e.dtime, 16), (e.pending, 0)]
  | _ => word (lo32 e.dtime)

def Dev.readJournal (d : Dev) (p : Fin 2) (i : Nat) : Word :=
  if d.stackPos ≠ 0 then 0
  else if i = 0 then word d.jHead
  else if i = 1 then
    (match d.nodeA.journal.open_ ++ d.nodeB.journal.open_ with
      | [] => pack [(1, 31)]
      | x :: xs => word (xs.foldl min x % 4096))
  else if i < 16 then 0
  else match d.slotEntry ((i - 16) / 8) with
    | none => 0
    | some (h, e) =>
      let other := decide (h ≠ d.halfOfPort p)
      match (i - 16) % 8 with
      | 5 => pack [(1, 0), (b2n (e.pending == 0), 1), (b2n other, 2)]
      | w => if w < 5 && !other then e.field w else 0

/-! ## The map (R365, R384) -/

/-- What register `i` of bank `d` reads at port `p`; an undefined index reads 0 (R6). -/
def Dev.readReg (p : Fin 2) (i : Nat) (d : Dev) : Word :=
  if i < 0x40 then d.readDev i
  else if i < 0x80 then d.readSys p (i - 0x40)
  else if i < 0xA0 then d.readHst 0 (i - 0x80)
  else if i < 0xC0 then d.readHst 1 (i - 0xA0)
  else if i < 0x100 then d.readCor p (i - 0xC0)
  else if i < 0x140 then d.readAfe (i - 0x100)
  else if i < 0x180 then d.readLin p (i - 0x140)
  else if i < 0x1A0 then d.readDpx (i - 0x180)
  else if i < 0x1C0 then d.readHal (i - 0x1A0)
  else if i < 0x1E0 then d.readRig (i - 0x1C0)
  else if i < 0x200 then d.readLog p (i - 0x1E0)
  else if i < 0x240 then d.readBgw p (i - 0x200)
  else if i < 0x280 then d.readOutGlobal p (i - 0x240)
  else if i < 0x2C0 then d.readOut p ((i - 0x280) / 8) (i % 8)
  else if i < 0x2F0 then d.readInp p ((i - 0x2C0) / 4) (i % 4)
  else if i < 0x400 then 0
  else if i < 0x600 then d.readSystem p ((i - 0x400) / 16) (i % 16)
  else if i < 0x800 then 0
  else if i < 0x1800 then d.readPoint p ((i - 0x800) / 4) (i % 4)
  else if i < 0x2800 then d.readSection p ((i - 0x1800) / 8) (i % 8)
  else if i < 0x3000 then 0
  else if i < 0xB010 then d.readJournal p (i - 0x3000)
  else 0

/-- Registers of access code RS: they read from the snapshot only (R285). -/
def isRS (i : Nat) : Bool := (0x51 ≤ i && i ≤ 0x54) || (0x210 ≤ i && i ≤ 0x21F)

/-- Registers that take a WRITE, within a port's own set or the device: RW, W1C, WO and RWP (Tables REG-3, REG-5, ARR-4). -/
inductive Access | ro | rw | w1c | rwp | undefd deriving DecidableEq, Repr

def hstAccess (o : Nat) : Access :=
  if o ≤ 5 || o = 7 || o = 11 || (0x10 ≤ o && o ≤ 0x1F) then .rw
  else if o = 6 then .w1c else if o ≤ 10 then .ro else .undefd

/-- Last listed index of a block against its base (Table REG-1); gaps inside LOG and BGW are undefined. -/
def blockDefined (i : Nat) : Bool :=
  i ≤ 8 || (0x40 ≤ i && i ≤ 0x56) || (0xC0 ≤ i && i ≤ 0xC9) || (0x100 ≤ i && i ≤ 0x10A) || (0x140 ≤ i && i ≤ 0x154)
    || (0x180 ≤ i && i ≤ 0x187) || (0x1A0 ≤ i && i ≤ 0x1AB) || (0x1C0 ≤ i && i ≤ 0x1CF) || (0x1E0 ≤ i && i ≤ 0x1E6)
    || (0x1F0 ≤ i && i ≤ 0x1FF) || (0x200 ≤ i && i ≤ 0x20A) || (0x210 ≤ i && i ≤ 0x21F) || (0x240 ≤ i && i ≤ 0x246)
    || (0x280 ≤ i && i ≤ 0x2EF) || (0x400 ≤ i && i ≤ 0x5FF) || (0x800 ≤ i && i ≤ 0x27FF) || i = 0x3000 || i = 0x3001
    || (0x3010 ≤ i && i ≤ 0xB00F && (i - 0x3010) % 8 < 6)

def isSyCtrl (i : Nat) : Bool := 0x400 ≤ i && i ≤ 0x5FF && i % 16 == 7

def accessOf (i : Nat) : Access :=
  if 0x80 ≤ i && i ≤ 0xBF then hstAccess ((i - 0x80) % 32)
  else if i = 0x56 || isSyCtrl i then .rwp
  else if blockDefined i then .ro
  else .undefd

end Sys2Proof.Machine
end

