-- ==== Sys2Proof/Machine/Host.lean ====
section
/-! DEFINITION. Host ports (15): what a port makes of a request (R276 to R281), its responses, snapshots and results,
what acceptance decides of WRITEs and commands (R280, R287 to R289), violations and freezing (R290 to R292), what the
update applies and delivers (R282), with the meanings of the port operations. -/
namespace Sys2Proof.Machine

/-! ## Responses (R278) -/

/-- Table HST-4. -/
def Status.code : Status → Nat
  | .ok => 0 | .notReady => 1 | .cqEmpty => 2 | .frozen => 3 | .rigChanged => 4 | .memberAbsent => 5 | .twinLost => 6
  | .pointOffline => 7 | .aborted => 8 | .denied => 9

/-- Byte 1 of a frame (Table HST-1). -/
def byte1 (tag : Nat) (tagged snaprd : Bool) : Nat := tag % 64 * 4 + 2 * b2n tagged + b2n snaprd

/-- Table HST-1: the request frame of an operation. -/
def Req.frame (q : Req) (opc : Nat) (tagged snaprd : Bool) : List Byte :=
  let b := toBytes 1 opc ++ toBytes 1 (byte1 q.tag tagged snaprd) ++ toBytes 2 (q.index % 65536) ++ toBytes 4 q.data.toNat
  b ++ toBytes 2 (crc16 b).toNat

/-- Table HST-2: the response frame. -/
def Resp.bytes (r : Resp) : List Byte :=
  let b := toBytes 1 r.opc ++ toBytes 1 r.byte1 ++ toBytes 1 (64 * r.kind + 32 * b2n r.replayed + r.code)
    ++ toBytes 1 (128 * b2n r.session + 64 * b2n r.snap + 32 * b2n r.event + 16 * b2n r.cqne + r.state)
    ++ toBytes 4 r.frame.toNat ++ toBytes 4 r.data.toNat
  b ++ toBytes 2 (crc16 b).toNat

/-- R275: MISO sends 0x00 in bytes 0 to 13, then the response frame. -/
def Port.answer (r : Resp) (x : Port) : Port := Port.withIrq { x with resp := r, miso := List.replicate 14 0 ++ r.bytes }

/-- A response leaves the port with its status fields. -/
def Dev.reply (p : Fin 2) (r : Resp) (d : Dev) : Dev :=
  d.onPort p fun x => x.answer { r with
    session := x.session.isSome, snap := x.snapHeld, event := x.event, cqne := !x.cq.isEmpty
    state := (d.node (d.halfOfPort p)).sys.code }

/-- A response whose FRAME the spec does not state (log 5). -/
def Dev.replyFree (p : Fin 2) (r : Resp) (d : Dev) : Dev :=
  let w := d.fresh
  w.2.reply p { r with frame := w.1 }

/-- R291: the answer of a frozen port, and to the request that commits a violation. -/
def frozenResp (opc b1 : Nat) : Resp := { opc, byte1 := b1, code := Status.frozen.code }

def Dev.replyFrozen (p : Fin 2) (opc b1 : Nat) (d : Dev) : Dev :=
  d.onPort p (Port.answer (frozenResp opc b1))

/-! ## The gate in front of every operation -/

/-- Operations that a port answers in SAFE (R346, R347): direct READ, SNAP, SNAP_RELEASE, CQ_POP, RESULT, RECALL, NOP. -/
def safeOp (opc : Nat) (tagged : Bool) : Bool := !tagged && [0x01, 0x03, 0x04, 0x05, 0x06, 0x07, 0x08].contains opc

inductive Gate | silent | frozen | denied | busy | pass
  deriving DecidableEq, Repr

/-- R36, R267, R281, R291, R346: what comes before the operation itself. -/
def Dev.gate (p : Fin 2) (opc tag : Nat) (tagged : Bool) (d : Dev) : Gate :=
  let n := d.node (d.halfOfPort p)
  if d.boardTest then (if (opc = 0x01 && !tagged) || opc = 0x08 then .pass else .denied)
  else if n.sys = .boot then .silent
  else if (d.port p).frozen then .frozen
  else if n.safe then (if safeOp opc tagged then .pass else .denied)
  else if tagged && (d.port p).tags.any (fun t => t.1 == tag % 64) then .busy
  else .pass

/-- A well-formed request with a correct CRC: the gate, then the operation. -/
def State.request (q : Req) (opc : Nat) (tagged snaprd : Bool) (act : State → State) (s : State) : State :=
  if s.dev.inReset then s
  else
    let b1 := byte1 q.tag tagged snaprd
    let s := s.lift fun d => d.onPort q.port fun x => { x with mosi := q.frame opc tagged snaprd, miso := List.replicate 28 0 }
    let counted := fun (d : Dev) => d.onPort q.port fun x => { x with crcRun := 0 }
    match s.dev.gate q.port opc q.tag tagged with
    | .silent => s
    | .frozen => s.lift (Dev.replyFrozen q.port opc b1)
    | .denied => s.lift fun d => (counted d).replyFree q.port { opc, byte1 := b1, code := Status.denied.code }
    | .busy => s.lift fun d => (counted d).replyFree q.port { opc, byte1 := b1, kind := 2, code := 2 }
    | .pass => act (s.lift counted)

/-! ## Snapshots and banks (R284, R285) -/

/-- R284: the bank that a direct READ or SNAP accepted at cycle `cyc` sees; in the safe state the bank that was in force at
its entry, with the fault fields that hardware writes (R346). -/
def State.bankAt (p : Fin 2) (cyc : Nat) (s : State) : Dev :=
  let h := s.dev.halfOfPort p
  let b := if cyc < 4 * 96 then s.prev else s.bank
  if (s.dev.node h).safe then
    s.dev.withFaultFields ((match h with | .a => s.frozenA | .b => s.frozenB).getD b)
  else b

def State.snapOf (p : Fin 2) (s : State) : Option Dev := if p = 0 then s.snap0 else s.snap1
def State.setSnap (p : Fin 2) (x : Option Dev) (s : State) : State :=
  if p = 0 then { s with snap0 := x } else { s with snap1 := x }

/-- What a read of index `i` returns against bank `b`: status, stamp, value. -/
def State.readResult (p : Fin 2) (i : Nat) (snaprd : Bool) (b : Dev) (s : State) : Status × Word × Word :=
  if snaprd || isRS i then
    match s.snapOf p with
    | some x => (.ok, x.frame, x.readReg p i)
    | none => (.notReady, 0, 0)
  else (.ok, b.frame, b.readReg p i)

/-! ## Violations and freezing (R290, R291) -/

/-- The session closes other than by SESSION_CLOSE (R373, bit 9 of the port's causes). -/
def Dev.loseSession (p : Fin 2) (d : Dev) : Dev :=
  if (d.port p).session.isSome then
    { d.onPort p (fun x => { x with session := none }) with irqNew := d.irqNew ||| (if p = 0 then 2 ^ 9 else 2 ^ 25) }
  else d

/-- The staged rig ends (R305). -/
def RigMgr.unstage (g : RigMgr) : RigMgr :=
  { g with staged := false, owner := none, stagedSerial := 0, passed := none, memberHash := none }

/-- A journaled entry that a freeze ends: a WRITE not yet applied, a command not yet in the frame work. -/
def HostCmd.abortable (c : HostCmd) : Bool := c.opc ≠ 0x01 && c.ran.isNone

/-- Journaled entries of the port end ABORTED (R291, R305), or with what was decided of them before (R7). -/
def Dev.abortJournal (p : Fin 2) (d : Dev) : Dev :=
  let ended := (d.port p).journal.filter fun c =>
    c.abortable && !d.done.any fun x => decide (x.1 = p) && x.2.tag == c.tag
  let d := ended.foldl (fun (d : Dev) c => d.refuse c (c.verdict.getD .aborted)) d
  let d := { d with done := d.done.map fun (x : Fin 2 × Completion) => if decide (x.1 = p) && x.2.opc == 0x31 then (x.1, { x.2 with status := .aborted }) else x }
  d.onPort p fun x => { x with pwJobs := [] }

/-- The staging owner freezes: its staged rig and what runs on it end (R305). -/
def Dev.freezeOwner (p : Fin 2) (d : Dev) : Dev :=
  let mine := fun (j : Option RigJob) => match j with | some x => decide (x.cmd.port = p) | none => false
  let pend := match d.rig.pendAct with | some c => decide (c.port = p) | none => false
  let g := { d.rig with
    job := if mine d.rig.job then none else d.rig.job, store := if mine d.rig.store then none else d.rig.store
    pendAct := if pend then none else d.rig.pendAct }
  { d with rig := if g.owner = some p then g.unstage else g }

/-- R290, R291: violation `v` freezes the port. -/
def Dev.freeze (p : Fin 2) (v : Nat) (d : Dev) : Dev :=
  let d := ((d.loseSession p).abortJournal p).freezeOwner p
  let d := d.onPort p fun x => Port.withIrq { x with
    frozen := true, snapHeld := false, lastViol := v, nviol := satAdd 16 x.nviol 1 }
  d.raise 0x90 .port p.val (d.halfOfPort p)

def State.freeze (p : Fin 2) (v : Nat) (s : State) : State := (s.lift (Dev.freeze p v)).setSnap p none

/-- R290, violation 4: 0x91 and the lockout beside the freeze. -/
def State.lockOut (p : Fin 2) (s : State) : State :=
  (s.freeze p 4).lift fun d =>
    (d.onPort p fun x => { x with lockout := some d.frame }).raise 0x91 .port p.val (d.halfOfPort p)

/-! ## Acceptance (R279, R281, R287 to R289) -/

/-- What acceptance records of a request. -/
def Dev.hostCmd (q : Req) (opc : Nat) (snaprd : Bool) (d : Dev) : HostCmd :=
  let x := d.port q.port
  { port := q.port, opc, tag := q.tag % 64, index := q.index, data := q.data, par := x.par, utcHi := x.utcHi, utcLo := x.utcLo
    operator := x.session.map (·.operator), frame := d.frame, cyc := q.cyc, snaprd }

/-- A tagged operation is queued: its tag is in use, it stands in the journal; a WRITE or command restarts the idle
interval. -/
def Dev.enqueue (c : HostCmd) (d : Dev) : Dev :=
  let d := d.onPort c.port fun x => { x with
    tags := x.tags ++ [(c.tag, c.opc)], journal := x.journal ++ [c]
    session := if c.opc = 0x01 || c.opc = 0x10 then x.session else x.session.map fun (y : Session) => { y with last := d.frame } }
  d.reply c.port { opc := c.opc, byte1 := byte1 c.tag true c.snaprd, kind := 1, frame := d.frame }

/-- Opcodes whose commands execute in step 5 of a frame's work (R16, R287). -/
def frameOps : List Nat :=
  [0x20, 0x21, 0x22, 0x23, 0x24, 0x25, 0x26, 0x27, 0x28, 0x29, 0x39, 0x3B, 0x3C, 0x3D, 0x3E]

/-- Table LOG-3: opcodes of logged actions. -/
def loggedOps : List Nat := [0x25, 0x27, 0x29, 0x33, 0x34, 0x38, 0x39, 0x3C, 0x3D]

/-- Opcodes that need a session (Tables HST-3, LOG-1); PW_SET apart. -/
def sessionOps : List Nat :=
  [0x22, 0x25, 0x26, 0x27, 0x28, 0x29, 0x30, 0x31, 0x32, 0x33, 0x34, 0x35, 0x36, 0x3B, 0x3C, 0x3D]

/-- Commands admitted in AWAIT_RIG (R267). -/
def awaitOps : List Nat := [0x30, 0x31, 0x32, 0x33, 0x34, 0x35, 0x36, 0x38, 0x39, 0x3A, 0x3E]

/-- Commands that STANDBY and SYNCING refuse (R230, R304). -/
def evalOps : List Nat := [0x20, 0x21, 0x22, 0x23, 0x24, 0x33]

/-- R312: PW_SET on this port. -/
def Dev.mayPwSet (d : Dev) (c : HostCmd) : Bool :=
  match d.store.pw.state with
  | 0 => true
  | 1 => c.operator.isSome
  | _ => false

/-- R134, R230, R257, R267, R272, R280, R325: acceptance refuses the command. -/
def Dev.refuses (d : Dev) (c : HostCmd) : Bool :=
  let st := (d.node (d.halfOfPort c.port)).sys
  (d.stackMember && c.opc ≠ 0x3A && c.opc ≠ 0x3E)
    || !(st.inService || (decide (st = .awaitRig) && awaitOps.contains c.opc))
    || (sessionOps.contains c.opc && c.operator.isNone)
    || (evalOps.contains c.opc && (decide (d.dpx.role = .standby) || decide (d.dpx.role = .syncing)))
    || (c.opc = 0x29 && d.split)
    || (c.opc = 0x38 && !d.mayPwSet c)
    || (c.opc = 0x39 && !d.mayRecover)
    || ((c.opc = 0x3C || c.opc = 0x3D) && !d.mayCal)

/-- R280, R318: the verdict that acceptance fixes, and the reservation of a logged action. -/
def Dev.takeIn (c : HostCmd) (d : Dev) : HostCmd × Dev :=
  if d.refuses c then ({ c with verdict := some .denied }, d)
  else if loggedOps.contains c.opc then
    (if d.mayReserve then ({ c with reserved := true }, d.reserve) else ({ c with verdict := some .denied }, d))
  else (c, d)

/-- A command is accepted: it waits for step 5 of a frame's work. -/
def Dev.acceptCommand (opc : Nat) (q : Req) (d : Dev) : Dev :=
  let r := d.takeIn (d.hostCmd q opc false)
  r.2.enqueue r.1

def State.command (opc : Nat) (q : Req) (s : State) : State :=
  s.request q opc true false fun s => s.lift (Dev.acceptCommand opc q)

/-- R280: the command's DATA must name the active rig at execution. -/
def Dev.serialFails (d : Dev) (c : HostCmd) : Bool :=
  ((0x20 ≤ c.opc && c.opc ≤ 0x29) || (0x38 ≤ c.opc && c.opc ≤ 0x3E)) && decide (c.data ≠ d.activeSerial)

/-! ## WRITEs (R5, R6, R282, R386, R390, R392) -/

/-- What acceptance decides of a WRITE. -/
inductive WriteAnswer | violation (v : Nat) | denied | take
  deriving DecidableEq, Repr

/-- The stack position that a system-array access of a stack master names (R392). -/
def HostCmd.stackPos (c : HostCmd) : Nat := bits (c.par.getD 3 0) 2 0

def isSystemArray (i : Nat) : Bool := 0x400 ≤ i && i ≤ 0x5FF

/-- The access is forwarded to a member, or refused because the stack has no such position. -/
def Dev.toMember (d : Dev) (c : HostCmd) : Bool :=
  d.stackMaster && isSystemArray c.index && c.stackPos ≠ 0 && !c.snaprd

/-- A WRITE to SY_CTRL (R386, R390): the other half's is not writable; HOLDOFF needs the role. -/
def Dev.ctrlAnswer (d : Dev) (c : HostCmd) : WriteAnswer :=
  let i := (c.index - 0x400) / 16
  if !d.toMember c && !d.showsSys c.port i then .denied
  else if c.operator.isNone then .violation 2
  else if d.toMember c && d.stackN ≤ c.stackPos then .denied
  else if !d.toMember c && !(d.sys i).defd then .take
  else if d.mayCal then .take
  else .denied

def Dev.writeAnswer (d : Dev) (c : HostCmd) : WriteAnswer :=
  let st := (d.node (d.halfOfPort c.port)).sys
  let hst := 0x80 ≤ c.index && c.index ≤ 0xBF
  let own := hst && (c.index - 0x80) / 32 == c.port.val
  let o := (c.index - 0x80) % 32
  if d.stackMember then .denied
  else if !st.inService then
    (if decide (st = .awaitRig) && own && (o ≤ 3 || 0x10 ≤ o) then .take else .denied)
  else if hst && !own then (if hstAccess o = .undefd then .take else .violation 5)
  else match accessOf c.index with
    | .ro => .denied
    | .rwp => if isSyCtrl c.index then d.ctrlAnswer c else if c.operator.isNone then .violation 2 else .take
    | _ => .take

/-- A tagged WRITE is accepted, or commits a violation. -/
def State.write (q : Req) (s : State) : State :=
  s.request q 0x02 true false fun s =>
    let c := s.dev.hostCmd q 0x02 false
    match s.dev.writeAnswer c with
    | .violation v => (s.freeze q.port v).lift (Dev.replyFrozen q.port 0x02 (byte1 q.tag true false))
    | .denied => s.lift (Dev.enqueue { c with verdict := some .denied })
    | .take => s.lift (Dev.enqueue c)

/-- R390: the hold-off of a system changes. -/
def Dev.holdoff (i : Nat) (set : Bool) (d : Dev) : Dev :=
  let s := d.sys i
  if !s.defd || s.holdoff == set then d
  else if set then (d.onSys i fun s => { s.switchOff with holdoff := true, usable := false }).disturbPointOf i
  else
    let d := d.onSys i fun s => { s with holdoff := false }
    if d.supplies (d.halfOfSys i) && (d.sys i).mayOn then d.onSys i Sys.switchOn else d

/-- R371: the counter groups. -/
def Dev.clearCounters (h : Half) (w : Word) (d : Dev) : Dev :=
  let d := if bit w 0 then { d with faults := { d.faults with occ := [] } } else d
  let zero := fun (x : LinePhys) => { x with single := 0, invalid := 0, echoErr := 0, decDis := 0 }
  let d := if bit w 1 then d.onLine h fun l =>
      { l with mutes := 0, reefs := 0, zeroReefs := 0, wakesSent := 0, wakesIgnored := 0, lineA := zero l.lineA, lineB := zero l.lineB }
    else d
  let d := if bit w 2 then d.onHal fun x => { x with discard := 0, failF := 0, failR := 0 } else d
  let d := if bit w 3 then d.onDpx fun x => { x with uncert := 0, disagree := 0, unmirr := 0 } else d
  let d := if bit w 4 then { d with bgw := { d.bgw with
      scrubPasses := 0, scrubCor := 0, cmpPasses := 0, dropped := 0, telSkipped := 0, romPasses := 0 } } else d
  if bit w 5 then d.onNode h fun n => { n with cores := { n.cores with resyncTotal := 0 } } else d

/-- A register of the port's own set takes a value (Table REG-5). -/
def Port.setReg (o : Nat) (w : Word) (x : Port) : Port :=
  if o ≤ 3 then { x with par := x.par.set o w }
  else if o = 4 then { x with utcHi := w }
  else if o = 5 then { x with utcLo := w }
  else if o = 6 then { x with irqStat := x.irqStat &&& (8191 - w.toNat % 8192) }
  else if o = 7 then { x with irqMask := w.toNat % 8192 }
  else if o = 11 then { x with winsel := w &&& 0xFF0FFF3F }
  else if 0x10 ≤ o then { x with pwbuf := x.pwbuf.set (o - 0x10) w }
  else x

/-- A WRITE takes effect at the update. -/
def Dev.applyWrite (c : HostCmd) (d : Dev) : Dev :=
  if 0x80 ≤ c.index && c.index ≤ 0xBF then
    (if (c.index - 0x80) / 32 == c.port.val then d.onPort c.port (Port.setReg ((c.index - 0x80) % 32) c.data) else d)
  else if c.index = 0x56 then d.clearCounters (d.halfOfPort c.port) c.data
  else if isSyCtrl c.index then d.holdoff ((c.index - 0x400) / 16) (bit c.data 16)
  else d

/-! ## The update's part: WRITEs, READs and completions (R282, R287) -/

def cmdLe (x y : HostCmd) : Bool :=
  let a := (since y.frame x.frame)
  if a = 0 then x.cyc < y.cyc || (x.cyc == y.cyc && decide (x.port ≤ y.port)) else decide (a < 2 ^ 31)

def insertCmd (x : HostCmd) : List HostCmd → List HostCmd
  | [] => [x]
  | y :: ys => if cmdLe y x then y :: insertCmd x ys else x :: y :: ys

/-- Both journals in order of acceptance, HP0 first in one cycle. -/
def Dev.journaled (d : Dev) (p : HostCmd → Bool) : List HostCmd :=
  ((d.port0.journal ++ d.port1.journal).filter p).foldl (fun acc c => insertCmd c acc) []

/-- The journal entry of a command changes. -/
def Dev.onJournal (c : HostCmd) (f : HostCmd → HostCmd) (d : Dev) : Dev :=
  d.onPort c.port fun x => { x with journal := mapIf (·.tag == c.tag) f x.journal }

/-- R392: an access of a member position goes into the next DOWN. -/
def Dev.forward (c : HostCmd) (d : Dev) : Dev :=
  if d.stackN ≤ c.stackPos then d.complete c .denied 0
  else if decide ((d.member c.stackPos).state ≠ .present) then d.complete c .memberAbsent 0
  else
    let op := if c.opc = 0x01 then FwdOp.read c.index else .holdoff ((c.index - 0x400) / 16) (bit c.data 16)
    (d.onJournal c fun y => { y with ran := some d.frame }).onHal fun x =>
      { x with nextTag := x.nextTag + 1
               requests := x.requests ++ [{ fwd := { member := c.stackPos, rtag := x.nextTag, op }, port := c.port, opc := c.opc, tag := c.tag }] }

/-- R7, R392: the access names a member of the stack that is not PRESENT. -/
def Dev.toAbsent (d : Dev) (c : HostCmd) : Bool :=
  d.toMember c && decide (c.stackPos < d.stackN) && decide ((d.member c.stackPos).state ≠ .present)

/-- A WRITE not yet applied: its verdict, or its effect. -/
def Dev.updateWrite (d : Dev) (c : HostCmd) : Dev :=
  -- 15, When a rig is activated with operations pending
  if d.rig.actDue.isSome && 0x280 ≤ c.index then d.complete c .rigChanged 0
  else if d.toAbsent c then d.complete c .memberAbsent 0
  else match c.verdict with
  | some st => d.complete c st 0
  | none => if d.toMember c then d.forward c else (d.applyWrite c).complete c .ok 0

def Dev.pendingOf (d : Dev) (opc : Nat) : List HostCmd :=
  d.journaled fun c => c.opc == opc && c.ran.isNone && !d.done.any fun x => decide (x.1 = c.port) && x.2.tag == c.tag

def Dev.updateWrites (d : Dev) : Dev := (d.pendingOf 0x02).foldl Dev.updateWrite d

/-- A tagged READ completes at the update; a snapshot read with the snapshot's value. -/
def State.updateRead (s : State) (c : HostCmd) : State :=
  match c.verdict with
  | some st => s.lift fun d => d.complete c st 0
  | none =>
    if s.dev.toMember c then s.lift (Dev.forward c)
    else
      let r := s.readResult c.port c.index c.snaprd s.dev
      s.lift fun d =>
        if r.1 = .ok && (c.snaprd || isRS c.index) then d.completeAt c r.1 r.2.2 r.2.1 else d.complete c r.1 0

/-- The value that a delivered READ of the bank takes from it (the device `s.dev` as the update leaves it). -/
def State.fillRead (s : State) (c : HostCmd) : State :=
  if s.dev.toMember c || c.snaprd || isRS c.index then s
  else s.lift fun d => d.onPort c.port fun x =>
    { x with cq := mapIf (fun (y : Completion) => y.tag == c.tag && decide (y.status = .ok)) (fun y => { y with data := d.readReg c.port c.index }) x.cq }

/-- The completions of this update enter the queue in order of acceptance. -/
def Port.deliver (frame : Word) (mine : List Completion) (x : Port) : Port :=
  let named := x.journal.filterMap fun c => mine.find? (·.tag == c.tag)
  let others := mine.filter fun m => !x.journal.any (·.tag == m.tag)
  Port.withIrq { x with
    cq := x.cq ++ (named ++ others).map (fun m => { m with frame := m.stamp.getD frame })
    journal := x.journal.filter fun c => !mine.any (·.tag == c.tag) }

def Dev.deliver (d : Dev) : Dev :=
  let of := fun (p : Fin 2) => (d.done.filter fun x => decide (x.1 = p)).map (·.2)
  { d with port0 := d.port0.deliver d.frame (of 0), port1 := d.port1.deliver d.frame (of 1), done := [] }

/-! ## Port operations -/

/-- READ (R257, R284, R285). -/
def execRead (q : Req) (tagged snaprd : Bool) (s : State) : Out :=
  .next (s.request q 0x01 tagged snaprd fun s =>
    if tagged then s.lift fun d => d.enqueue (d.hostCmd q 0x01 snaprd)
    else
      let r := s.readResult q.port q.index snaprd (s.bankAt q.port q.cyc)
      let resp : Resp := { opc := 0x01, byte1 := byte1 q.tag false snaprd, code := r.1.code, frame := r.2.1, data := r.2.2 }
      s.lift (if r.1 = .ok then Dev.reply q.port resp else Dev.replyFree q.port resp))

/-- REGISTER_WRITE (R282). -/
def execRegisterWrite (q : Req) (s : State) : Out := .next (s.write q)

/-- IRQSTAT_CLEAR: a WRITE to the port's own HST_IRQSTAT (R373). -/
def execIrqstatClear (q : Req) (s : State) : Out := .next (s.write { q with index := 0x86 + 32 * q.port.val })

/-- HOLDOFF_SET and HOLDOFF_CLEAR: WRITEs to SY_CTRL of system INDEX (R390). -/
def holdoffReq (q : Req) (set : Bool) : Req :=
  { q with index := 0x407 + 16 * (q.index % 32), data := if set then 0x00010000 else 0 }
def execHoldoffSet (q : Req) (s : State) : Out := .next (s.write (holdoffReq q true))
def execHoldoffClear (q : Req) (s : State) : Out := .next (s.write (holdoffReq q false))

/-- WRITEs to SYS_CNTCLR of one bit (R371). -/
def clearReq (q : Req) (b : Nat) : Req := { q with index := 0x56, data := BitVec.ofNat 32 (2 ^ b) }
def execClearOccurrenceCounters (q : Req) (s : State) : Out := .next (s.write (clearReq q 0))
def execClearLinCounters (q : Req) (s : State) : Out := .next (s.write (clearReq q 1))
def execClearHalCounters (q : Req) (s : State) : Out := .next (s.write (clearReq q 2))
def execClearDpxCounters (q : Req) (s : State) : Out := .next (s.write (clearReq q 3))
def execClearBgwCounters (q : Req) (s : State) : Out := .next (s.write (clearReq q 4))
def execClearResyncCounter (q : Req) (s : State) : Out := .next (s.write (clearReq q 5))

/-- A direct operation without a result. -/
def State.direct (q : Req) (opc : Nat) (st : Status) (s : State) : State :=
  s.lift (Dev.replyFree q.port { opc, byte1 := byte1 q.tag false false, code := st.code })

/-- SNAP (R285). -/
def execSnap (q : Req) (s : State) : Out :=
  .next (s.request q 0x03 false false fun s =>
    ((s.setSnap q.port (some (s.bankAt q.port q.cyc))).lift (Dev.onPort q.port fun x => { x with snapHeld := true })).direct q 0x03 .ok)

/-- SNAP_RELEASE (R285). -/
def execSnapRelease (q : Req) (s : State) : Out :=
  .next (s.request q 0x04 false false fun s =>
    ((s.setSnap q.port none).lift (Dev.onPort q.port fun x => { x with snapHeld := false })).direct q 0x04 .ok)

/-- The response that carries a completion. -/
def Completion.resp (c : Completion) : Resp :=
  { opc := c.opc, byte1 := byte1 c.tag true false, replayed := c.replayed, code := c.status.code, frame := c.frame, data := c.data }

/-- A completion is consumed (R281, R286). -/
def Port.consume (c : Completion) (x : Port) : Port :=
  { x with cq := x.cq.filter (·.tag ≠ c.tag), tags := x.tags.filter (·.1 ≠ c.tag), recalled := (c :: x.recalled).take 16 }

/-- CQ_POP (R286). -/
def execCqPop (q : Req) (s : State) : Out :=
  .next (s.request q 0x05 false false fun s =>
    match (s.dev.port q.port).cq with
    | c :: _ => s.lift fun d => (d.onPort q.port (Port.consume c)).reply q.port c.resp
    | [] => s.direct q 0x05 .cqEmpty)

/-- RESULT (R286). -/
def execResult (q : Req) (s : State) : Out :=
  .next (s.request q 0x06 false false fun s =>
    match (s.dev.port q.port).cq.find? (·.tag == q.tag % 64) with
    | some c => s.lift fun d => (d.onPort q.port (Port.consume c)).reply q.port c.resp
    | none => s.direct q 0x06 (if (s.dev.port q.port).tags.any (·.1 == q.tag % 64) then .notReady else .cqEmpty))

/-- RECALL (R286). -/
def execRecall (q : Req) (s : State) : Out :=
  .next (s.request q 0x07 false false fun s =>
    match (s.dev.port q.port).recalled.find? (·.tag == q.tag % 64) with
    | some c => s.lift (Dev.reply q.port { c.resp with replayed := true })
    | none => s.direct q 0x07 .cqEmpty)

/-- NOP (R278). -/
def execNop (q : Req) (s : State) : Out := .next (s.request q 0x08 false false fun s => s.direct q 0x08 .ok)

/-! ## Rejected requests (R276, R277, R279, R290) -/

/-- A request that fails its CRC; the third in a row is a violation. -/
def State.crcError (p : Fin 2) (s : State) : State :=
  let d := s.dev
  let n := d.node (d.halfOfPort p)
  if d.inReset || d.boardTest || decide (n.sys = .boot) || (d.port p).frozen then s
  else if 2 ≤ (d.port p).crcRun then s.freeze p 1
  else s.lift (Dev.onPort p fun x => { x with crcRun := x.crcRun + 1 })

/-- HOST_TRANSACTION_CUT (R276). -/
def execHostTransactionCut (p : Fin 2) (s : State) : Out := .next (s.crcError p)

/-- Table HST-3: TAGGED as the opcode allows it; none for an undefined opcode. -/
def tagsAllowed (opc : Nat) : Option (Bool × Bool) :=
  if opc = 0x01 then some (true, true)
  else if (0x03 ≤ opc && opc ≤ 0x08) || opc = 0x11 then some (true, false)
  else if opc = 0x02 || opc = 0x10 || (0x20 ≤ opc && opc ≤ 0x29) || (0x30 ≤ opc && opc ≤ 0x36) || (0x38 ≤ opc && opc ≤ 0x3E) then
    some (false, true)
  else none

/-- R279. -/
def malformed (opc b1 : Nat) : Bool :=
  match tagsAllowed opc with
  | none => true
  | some (direct, tagged) => (if b1.testBit 1 then !tagged else !direct) || (b1.testBit 0 && opc ≠ 0x01)

/-- REQUEST_REJECTED: ten bytes that fail their CRC or are malformed; other bytes are no rejected request. -/
def execRequestRejected (p : Fin 2) (bytes : List Byte) (s : State) : Out :=
  let opc := fieldAt bytes 0 1
  let b1 := fieldAt bytes 1 1
  let s := if s.dev.inReset then s else s.lift fun d => d.onPort p fun x => { x with mosi := bytes.take 10, miso := List.replicate 28 0 }
  let d := s.dev
  if bytes.length ≠ 10 || d.inReset || (decide ((d.node (d.halfOfPort p)).sys = .boot)) then .next s
  else if (d.port p).frozen then .next (s.lift (Dev.replyFrozen p opc b1))
  else if (crc16 (bytes.take 8)).toNat ≠ fieldAt bytes 8 2 then
    let s := s.crcError p
    .next (s.lift (if (s.dev.port p).frozen then Dev.replyFrozen p opc b1 else Dev.replyFree p { opc, byte1 := b1, kind := 2, code := 1 }))
  else if !malformed opc b1 then .next s
  else if d.boardTest then .next (s.lift (Dev.replyFree p { opc, byte1 := b1, code := Status.denied.code }))
  else .next ((s.freeze p 3).lift (Dev.replyFrozen p opc b1))

/-! ## Sessions (R289, R311 to R313) -/

/-- The password in HST_PWBUF (Table REG-5). -/
def Port.password (n : Nat) (x : Port) : List Byte := (x.pwbuf.flatMap fun w => toBytes 4 w.toNat).take n

/-- A SESSION_OPEN or PW_SET starts its 200 frames. -/
def Dev.acceptPassword (c : HostCmd) (len : Nat) (d : Dev) : Dev :=
  (d.enqueue c).onPort c.port fun x =>
    { x with pwJobs := x.pwJobs ++ [{ cmd := c, password := x.password len, frame := d.frame }] }

/-- SESSION_OPEN. -/
def execSessionOpen (q : Req) (s : State) : Out :=
  .next (s.request q 0x10 true false fun s => s.lift fun d =>
    let c := d.hostCmd q 0x10 false
    let st := (d.node (d.halfOfPort q.port)).sys
    let c := if d.stackMember || !(st.inService || decide (st = .awaitRig)) then { c with verdict := some .denied } else c
    d.acceptPassword c q.data.toNat)

/-- SESSION_CLOSE. -/
def execSessionClose (q : Req) (s : State) : Out :=
  .next (s.request q 0x11 false false fun s =>
    let st := (s.dev.node (s.dev.halfOfPort q.port)).sys
    if s.dev.stackMember || !(st.inService || decide (st = .awaitRig)) then s.direct q 0x11 .denied
    else (s.lift (Dev.onPort q.port fun x => { x with session := none })).direct q 0x11 .ok)

/-- PW_SET (R312). -/
def execPwSet (q : Req) (s : State) : Out :=
  .next (s.request q 0x38 true false fun s => s.lift fun d =>
    let c := d.hostCmd q 0x38 false
    let c := if d.store.pw.state = 0 then { c with operator := some q.index } else c
    let r := d.takeIn c
    r.2.acceptPassword r.1 (c.par.getD 0 0).toNat)

/-- R313. -/
def operatorOk (n : Nat) : Bool := 1 ≤ n && n ≤ 0xFFFE

/-- R311. -/
def lengthOk (n : Nat) : Bool := 12 ≤ n && n ≤ 64

/-- The outcome of a SESSION_OPEN: OK, DENIED for the password or its length, or DENIED otherwise. -/
inductive OpenResult | opened | wrong | refused
  deriving DecidableEq, Repr

def Dev.openResult (j : PwJob) (d : Dev) : OpenResult :=
  let pw := d.store.pw
  if j.cmd.verdict.isSome || pw.state ≠ 1 || !operatorOk j.cmd.index || (d.port j.cmd.port).session.isSome then .refused
  else if lengthOk j.cmd.data.toNat && decide (pwHash pw.salt j.password = pw.hash) then .opened
  else .wrong

/-- The check of a SESSION_OPEN ends. -/
def State.endOpen (j : PwJob) (s : State) : State :=
  let p := j.cmd.port
  let done := fun (st : Status) (f : Port → Port) (s : State) => s.lift fun d => (d.onPort p f).complete j.cmd st 0
  match s.dev.openResult j with
  | .opened => done .ok (fun x => { x with pwRun := 0, session := some { operator := j.cmd.index, last := s.dev.frame } }) s
  | .refused => done .denied id s
  | .wrong =>
    let s1 := done .denied (fun x => { x with pwRun := min 2 (x.pwRun + 1) }) s
    if 2 ≤ (s.dev.port p).pwRun then s1.lockOut p else s1

/-- PW_SET takes effect with its entry (R312, R318, R321). -/
def Dev.setPassword (j : PwJob) (d : Dev) : Dev :=
  let c := j.cmd
  let op := c.operator.getD 0
  let other : Fin 2 := if c.port = 0 then 1 else 0
  let salt := d.freshSalt
  salt.2.logged c (salt.2.cmdEntry c 0x0001 (BitVec.ofNat 32 op)) 0 fun d =>
    (d.onStore fun s => s.writePw { state := 1, salt := salt.1, hash := pwHash salt.1 j.password }).loseSession other

/-- The check of a PW_SET ends. -/
def Dev.endPwSet (j : PwJob) (d : Dev) : Dev :=
  let c := j.cmd
  if d.serialFails c then d.refuse c .rigChanged
  else match c.verdict with
    | some st => d.refuse c st
    | none =>
      if operatorOk (c.operator.getD 0) && lengthOk (c.par.getD 0 0).toNat && pwChars j.password then d.setPassword j
      else d.refuse c .denied

/-- PASSWORD_CHECK_COMPLETE (R311): in the 200th frame after acceptance; HST_PWBUF is cleared. -/
def execPasswordCheckComplete (p : Fin 2) (s : State) : Out :=
  if s.dev.inReset then .next s
  else match (s.dev.port p).pwJobs with
    | j :: rest =>
      if s.dev.ago j.frame < 200 then .next s
      else
        let s := s.lift (Dev.onPort p fun x => { x with pwJobs := rest, pwbuf := List.replicate 16 0 })
        .next (if j.cmd.opc = 0x10 then s.endOpen j else s.lift (Dev.endPwSet j))
    | [] => .next s

/-- SESSION_IDLE_TIMEOUT (R289). -/
def execSessionIdleTimeout (p : Fin 2) : State → Out :=
  up fun d => match (d.port p).session with
    | some x => if idleFrames ≤ d.ago x.last then d.loseSession p else d
    | none => d

/-- LOCKOUT_END (R290): UNFREEZE is admitted again. -/
def execLockoutEnd (p : Fin 2) : State → Out :=
  up fun d => match (d.port p).lockout with
    | some f => if lockFrames ≤ d.ago f then d.onPort p fun x => { x with lockout := none } else d
    | none => d

/-- UNFREEZE (R292). -/
def doUnfreeze (c : HostCmd) (d : Dev) : Dev :=
  if 2 ≤ c.index then d.refuse c .denied
  else
    let p : Fin 2 := if c.index = 0 then 0 else 1
    let x := d.port p
    if p = c.port || !x.frozen || x.locked d.frame then d.refuse c .denied
    else
      let d := d.onPort p fun x => Port.withIrq { x with frozen := false, crcRun := 0, pwRun := 0, lockout := none }
      let d := d.clearF 0x90 .port p.val (d.halfOfPort p)
      (d.clearF 0x91 .port p.val (d.halfOfPort p)).complete c .ok 0

end Sys2Proof.Machine
end

