-- ==== Sys2Proof/Machine/Commands.lean ====
section
/-! DEFINITION. The host commands that execute in step 5 of a frame's work (R16, R123, R287): resets (R111, R112), OUT_CLEAR
(R150), REEF_PROPOSE and WAKE (R206, R208), SWITCHOVER and RESYNC (R238, R239), SHUTDOWN (R272), and the commands of 17;
the meanings that accept them. -/
namespace Sys2Proof.Machine

/-- A command that completes with a status and no data. -/
def Dev.ends (c : HostCmd) (r : Status × Dev) : Dev := r.2.complete c r.1 0

/-- PAR0 of a reset: 0 preparatory, 1 direct. -/
def HostCmd.kind (c : HostCmd) : Option Bool :=
  match (c.par.getD 0 0).toNat with | 0 => some false | 1 => some true | _ => none

/-- RESET_ARM (R111): the result is the nonce. -/
def doResetArm (c : HostCmd) (d : Dev) : Dev :=
  match c.kind with
  | none => d.refuse c .denied
  | some direct =>
    let r := d.armReset (d.halfOfPort c.port) c.index direct c.port c.nonce c.frame
    r.2.complete c r.1 (if r.1 = .ok then c.nonce else 0)

/-- RESET_CONFIRM (R111, R112). -/
def doResetConfirm (c : HostCmd) (d : Dev) : Dev :=
  Dev.ends c (d.confirmReset (d.halfOfPort c.port) c.index c.kind c.port (c.par.getD 1 0) c.frame)

/-- OUT_CLEAR (R150). -/
def doOutClear (c : HostCmd) (d : Dev) : Dev :=
  if c.index < 8 && d.showsOut c.port c.index then Dev.ends c (d.clearOutput c.index) else d.refuse c .denied

/-- REEF_PROPOSE (R206): on a line master whose LINE record allows reef. -/
def doReefPropose (c : HostCmd) (d : Dev) : Dev :=
  let h := d.halfOfPort c.port
  if d.hasLine h && d.isMaster h && (d.lineRec h).reef then
    (d.onLine h fun l => { l with proposeReq := true }).complete c .ok 0
  else d.refuse c .denied

/-- WAKE (R208): a node in reef whose LINE record allows waking, or the master. -/
def doWake (c : HostCmd) (d : Dev) : Dev :=
  let h := d.halfOfPort c.port
  if d.hasLine h && (d.line h).inReef && (d.isMaster h || (d.lineRec h).wake) then
    (d.onLine h fun l => { l with wakeReq := true }).complete c .ok 0
  else d.refuse c .denied

/-- A held handover may be announced: an ACTIVE unit with a STANDBY partner. -/
def Dev.mayHandOver (d : Dev) : Bool := decide (d.dpx.role = .active) && decide (d.dpx.prole = some .standby)

/-- SWITCHOVER (R239): with its entry, control is given up from the next frame on; it completes at the partner's claim. -/
def doSwitchover (c : HostCmd) (d : Dev) : Dev :=
  if !d.mayHandOver || d.dpx.switchCmd.isSome then d.refuse c .denied
  else
    let r := d.writeEntry (d.cmdEntry c 0x0030 (BitVec.ofNat 32 (1 - d.position)))
    if r.1 then r.2.onDpx fun x => { x with switchCmd := some (c.port, c.tag), handNext := true }
    else r.2.complete c .aborted 0

/-- RESYNC (R238): releases a unit that 0x76 holds OFFLINE. It then awaits the partner (R241): it completes OK with the
partner's next HELLO, TWIN_LOST where the partner is lost or the link frozen (DEDUCED, log 128). -/
def doResync (c : HostCmd) (d : Dev) : Dev :=
  if !d.hasDuplex || d.dpx.role ≠ .offline || d.dpx.resyncCmd.isSome then d.refuse c .denied
  else
    let d := (d.onDpx fun x => { x with lock76 := false, retryWait := false, fails := [] }).clearUnit 0x76
    if d.dpx.pclaim && !d.dpx.frozen then d.onDpx fun x => { x with resyncCmd := some (c.port, c.tag) }
    else d.complete c .twinLost 0

/-- SHUTDOWN (R272): its entry, then step 1 or, with nothing to hand over, step 2. -/
def doShutdown (c : HostCmd) (d : Dev) : Dev :=
  if d.shut.isSome || !d.inService (d.halfOfPort c.port) then d.refuse c .denied
  else
    let r := d.writeEntry (d.cmdEntry c 0x0031 0)
    if !r.1 then r.2.complete c .aborted 0
    else if r.2.mayHandOver then
      { r.2.onDpx (fun x => { x with handNext := true }) with shut := some { step := 1, port := c.port, tag := c.tag, frame := d.frame } }
    else { r.2 with shut := some { step := 2, port := c.port, tag := c.tag, frame := d.frame } }

/-- R272, step 1 ends when the unit is no longer ACTIVE. -/
def Dev.shutFrame (d : Dev) : Dev :=
  match d.shut with
  | some r => if r.step = 1 && decide (d.dpx.role ≠ .active) then { d with shut := some { r with step := 2, frame := d.frame } } else d
  | none => d

/-! ## Step 5 -/

/-- What a command of step 5 does, once its DATA and acceptance let it. -/
def doCmd (c : HostCmd) (d : Dev) : Dev :=
  match c.opc with
  | 0x20 => doResetArm c d
  | 0x21 => doResetConfirm c d
  | 0x22 => doOutClear c d
  | 0x23 => doReefPropose c d
  | 0x24 => doWake c d
  | 0x25 => doSwitchover c d
  | 0x26 => doResync c d
  | 0x27 => doShutdown c d
  | 0x28 => doUnfreeze c d
  | 0x29 => doSplitForbid c d
  | 0x39 => doPwRecover c d
  | 0x3B => doLogAck c d
  | 0x3C => doCalWrite c d
  | 0x3D => doCalClear c d
  | 0x3E => doOtpRead c d
  | _ => d

/-- R7: RIG_CHANGED comes before MEMBER_ABSENT, and that before DENIED. -/
def runCmd (c : HostCmd) (d : Dev) : Dev :=
  if d.serialFails c then d.refuse c .rigChanged
  else if d.calAbsent c then d.refuse c .memberAbsent
  else match c.verdict with
    | some st => d.refuse c st
    | none => doCmd c d

/-- A command entry of RECORD (Table DPX-3a). -/
def HostCmd.entry (c : HostCmd) : RecCmd :=
  { port := c.port, opc := c.opc, tag := c.tag, index := c.index, data := c.data, par := c.par
    nonce := if c.opc = 0x20 then c.nonce else if c.opc = 0x21 then c.par.getD 1 0 else 0 }

/-- A command of step 5: an arm draws its nonce (R111); it counts as run in this frame (R288), in the re-run of an
abandoned one it was executed again (R125). An accepted one, which
nothing has refused before its step, enters RECORD (R230). -/
def Dev.stepCmd (d : Dev) (c : HostCmd) : Dev :=
  let n := if c.opc = 0x20 then d.fresh else (c.nonce, d)
  let c := { c with nonce := n.1 }
  let again := (d.node (d.halfOfPort c.port)).cores.reran
  let d := n.2.onJournal c fun y => { y with ran := some d.frame, nonce := n.1, replayed := y.replayed || again }
  let accepted := !d.serialFails c && c.verdict.isNone
  (runCmd c d).onDpx fun x => { x with recCmds := if accepted then x.recCmds ++ [c.entry] else x.recCmds }

/-- Commands accepted in earlier frames (R15) that wait for step 5, in order of acceptance; at most four of a port enter
a frame (R123). -/
def Dev.frameCmds (d : Dev) : List HostCmd :=
  let of := fun (p : Fin 2) => ((d.port p).journal.filter fun c => frameOps.contains c.opc && c.ran.isNone && decide (c.frame ≠ d.frame)).take 4
  ((of 0) ++ (of 1)).foldl (fun acc c => insertCmd c acc) []

/-- Step 5 for the host commands of the halves `hs`. -/
def Dev.cmdsFrame (hs : List Half) (d : Dev) : Dev :=
  (d.frameCmds.filter fun c => hs.contains (d.halfOfPort c.port)).foldl Dev.stepCmd d

/-! ## Meanings -/

def execResetArm (q : Req) (s : State) : Out := .next (s.command 0x20 q)
def execResetConfirm (q : Req) (s : State) : Out := .next (s.command 0x21 q)
def execOutClear (q : Req) (s : State) : Out := .next (s.command 0x22 q)
def execReefPropose (q : Req) (s : State) : Out := .next (s.command 0x23 q)
def execWake (q : Req) (s : State) : Out := .next (s.command 0x24 q)
def execSwitchover (q : Req) (s : State) : Out := .next (s.command 0x25 q)
def execResync (q : Req) (s : State) : Out := .next (s.command 0x26 q)
def execShutdown (q : Req) (s : State) : Out := .next (s.command 0x27 q)
def execUnfreeze (q : Req) (s : State) : Out := .next (s.command 0x28 q)
def execSplitForbid (q : Req) (s : State) : Out := .next (s.command 0x29 q)
def execPwRecover (q : Req) (s : State) : Out := .next (s.command 0x39 q)
def execLogAck (q : Req) (s : State) : Out := .next (s.command 0x3B q)
def execCalWrite (q : Req) (s : State) : Out := .next (s.command 0x3C q)
def execCalClear (q : Req) (s : State) : Out := .next (s.command 0x3D q)
def execOtpRead (q : Req) (s : State) : Out := .next (s.command 0x3E q)

/-- LOG_FETCH completes at the next update (R315): the entry is taken at acceptance. -/
def execLogFetch (q : Req) (s : State) : Out :=
  .next (s.request q 0x3A true false fun s => s.lift fun d =>
    let r := d.takeIn (d.hostCmd q 0x3A false)
    let d := r.2.enqueue r.1
    if d.serialFails r.1 then d.refuse r.1 .rigChanged
    else match r.1.verdict with
      | some st => d.refuse r.1 st
      | none => doLogFetch r.1 d)

/-- SHUTDOWN_OUTPUTS_OFF (R272, step 2): every output OFF or in FAULT, or 2 ms + 500 ms have passed. -/
def execShutdownOutputsOff : State → Out :=
  up fun d => match d.shut with
    | some r =>
      let h := d.halfOfPort r.port
      let off := d.outputs.all fun (o : Output) => !o.defd || decide (d.halfOfOut o.id ≠ h) || decide (o.state = .off) || decide (o.state = .fault)
      if r.step = 2 && (off || 1004 ≤ d.ago r.frame) then { d with shut := some { r with step := 3, frame := d.frame } } else d
    | none => d

/-- R272, step 3 ends: nothing in flight, four line cycles, a node without a line, or a standby unit. -/
def Dev.drained (d : Dev) (r : ShutdownRun) : Bool :=
  let h := d.halfOfPort r.port
  !d.hasLine h || decide (d.dpx.role = .standby) || (d.node h).journal.inFlight == 0
    || 4 * (d.line h).period (d.lineRec h) ≤ d.ago r.frame * 48000

/-- SHUTDOWN_EVENTS_DRAINED (R272, steps 4 and 5): the command completes OK, then the safe state without a fault record. -/
def execShutdownEventsDrained : State → Out :=
  up fun d => match d.shut with
    | some r =>
      if r.step = 3 && d.drained r then
        let d := d.onPort r.port fun x => Port.deliver d.frame [{ opc := 0x27, tag := r.tag, replayed := d.replayed { port := r.port, tag := r.tag } }] x
        d.enterSafe 0x01 false (if d.split then [d.halfOfPort r.port] else [.a]) 0
      else d
    | none => d

end Sys2Proof.Machine
end

