-- ==== Sys2Proof/Machine/Rig.lean ====
section
/-! DEFINITION. Rig management (16): staging (R305), verification at boot, for a host and on a member (R267, R301, R303,
R306), storing (R306, R318), and what lets an activation go ahead (R307, R308), with the meanings of their commands. -/
namespace Sys2Proof.Machine

def Dev.onRig (f : RigMgr → RigMgr) (d : Dev) : Dev := { d with rig := f d.rig }

/-- A rig command executes outside the frame work (R304): acceptance, then its effect. -/
def State.rigOp (opc : Nat) (q : Req) (act : HostCmd → State → State) (s : State) : State :=
  s.request q opc true false fun s =>
    let r := s.dev.takeIn (s.dev.hostCmd q opc false)
    let s := s.lift fun _ => r.2.enqueue r.1
    match r.1.verdict with
    | some st => s.lift (Dev.refuse r.1 st)
    | none => act r.1 s

def State.ends (c : HostCmd) (st : Status) (data : Word) (s : State) : State := s.lift (Dev.complete c st data)
def State.refused (c : HostCmd) (s : State) : State := s.lift (Dev.refuse c .denied)

/-- DATA of a failed verification (Table RIG-9a). -/
def failData (code off : Nat) : Word := pack [(code, 24), (off % 2 ^ 24, 0)]
/-- DATA of a passed one: hash bits 255:224. -/
def passData (h : Hash256) : Word := (h >>> 224).setWidth 32

/-- A verification ended (R373, bit 10). -/
def Dev.rigNews (d : Dev) : Dev := { d with irqNew := d.irqNew ||| 2 ^ 10 ||| 2 ^ 26 }

/-! ## Staging (R305) -/

def Dev.ownsStaging (d : Dev) (p : Fin 2) : Bool := d.rig.staged && decide (d.rig.owner = some p)

/-- A new staging of serial `w` with the bytes `m`. -/
def State.stage (p : Fin 2) (w : Word) (m : List Host.Cell) (s : State) : State :=
  { s with staging := m }.lift (Dev.onRig fun g =>
    { g with staged := true, owner := some p, stagedSerial := w, passed := none, memberHash := none })

/-- RIG_BEGIN. -/
def execRigBegin (q : Req) (s : State) : Out :=
  .next (s.rigOp 0x30 q fun c s =>
    if s.dev.rig.owner.isSome && !decide (s.dev.rig.owner = some c.port) then s.refused c
    else (s.stage c.port c.data []).ends c .ok 0)

/-- RIG_WRITE: a word of the face or back; it withdraws a pass. -/
def execRigWrite (q : Req) (s : State) : Out :=
  .next (s.rigOp 0x31 q fun c s =>
    let kind := (c.par.getD 0 0).toNat
    if !s.dev.ownsStaging c.port || 2 ≤ kind then s.refused c
    else
      let m := memWriteMany stagingZ s.staging (kind * 0x40000 + 4 * (c.index % 65536)) (toBytes 4 c.data.toNat)
      ({ s with staging := m }.lift (Dev.onRig fun g => { g with passed := none, memberHash := none })).ends c .ok 0)

/-- RIG_CHECK: the verification runs; DATA must name the staged serial. -/
def execRigCheck (q : Req) (s : State) : Out :=
  .next (s.rigOp 0x32 q fun c s =>
    if !s.dev.ownsStaging c.port || c.data ≠ s.dev.rig.stagedSerial || s.dev.rig.job.isSome then s.refused c
    else s.lift (Dev.onRig fun g => { g with job := some { cmd := c, frame := s.dev.frame } }))

/-- The image in a bank as a load copies it: face and back up to the header's LENGTH. -/
def State.bankImage (bank : Nat) (s : State) : List Host.Cell :=
  let len := fieldAt (s.readBank bank 0 64) 20 4
  let n := if 64 ≤ len && len ≤ 262144 then len else 64
  memWriteMany stagingZ (memWriteMany stagingZ [] 0 (s.readBank bank 0 n)) 0x40000 (s.readBank bank 0x40000 n)

/-- RIG_LOAD: a flash bank is read into the staging buffer; its verification runs. -/
def execRigLoad (q : Req) (s : State) : Out :=
  .next (s.rigOp 0x35 q fun c s =>
    let other := s.dev.rig.owner.isSome && !decide (s.dev.rig.owner = some c.port)
    if other || 2 ≤ c.index || s.dev.rig.job.isSome then s.refused c
    else
      let serial := BitVec.ofNat 32 (fieldAt (s.readBank c.index 0 64) 8 4)
      (s.stage c.port serial (s.bankImage c.index)).lift (Dev.onRig fun g => { g with job := some { cmd := c, frame := s.dev.frame } }))

/-- RIG_DISCARD. -/
def execRigDiscard (q : Req) (s : State) : Out :=
  .next (s.rigOp 0x36 q fun c s => ({ s with staging := [] }.lift (Dev.onRig RigMgr.unstage)).ends c .ok 0)

/-- RIG_STORE: it waits for its log entry (R318). -/
def execRigStore (q : Req) (s : State) : Out :=
  .next (s.rigOp 0x34 q fun c s =>
    if !s.dev.ownsStaging c.port || 2 ≤ c.index || s.dev.rig.passed.isNone || c.data ≠ s.dev.rig.stagedSerial || s.dev.rig.store.isSome
    then s.refused c
    else s.lift (Dev.onRig fun g => { g with store := some { cmd := c, frame := s.dev.frame }, storeLogged := false }))

/-- R308: the port's RIG_ACTIVATE is the second of two. -/
def Dev.secondActivate (d : Dev) (c : HostCmd) : Bool :=
  match d.rig.pendAct with
  | some f => f.port ≠ c.port && d.ago f.frame ≤ 20000
  | none => false

/-- RIG_ACTIVATE (R305, R307, R308): from the staging owner, or as the second of a split device. -/
def execRigActivate (q : Req) (s : State) : Out :=
  .next (s.rigOp 0x33 q fun c s =>
    let d := s.dev
    if d.split && d.secondActivate c && c.data = d.rig.stagedSerial then s.lift (Dev.onRig fun g => { g with pendAct := none })
    else if !d.ownsStaging c.port || c.data ≠ d.rig.stagedSerial || d.rig.pendAct.isSome then s.refused c
    else if d.split then s.lift (Dev.onRig fun g => { g with pendAct := some c })
    else s)

/-- SPLIT_ACTIVATE_TIMEOUT (R308). -/
def execSplitActivateTimeout : State → Out :=
  upLive fun d => match d.rig.pendAct with
    | some c => if 20000 < d.ago c.frame then (d.onRig fun g => { g with pendAct := none }).refuse c .aborted else d
    | none => d

/-! ## RIG_ACTIVATE in a frame's work (R307, R231, R258) -/

/-- The accepted RIG_ACTIVATEs that are due: of earlier frames, none pending for the other port. -/
def Dev.dueActivates (d : Dev) : List HostCmd :=
  if d.rig.pendAct.isSome || (d.journaled fun c => c.opc == 0x33 && c.verdict ≠ some .denied && decide (c.frame = d.frame)) ≠ [] then []
  else d.journaled fun c =>
    c.opc == 0x33 && decide (c.frame ≠ d.frame) && c.ran.isNone
      && !d.done.any fun x => decide (x.1 = c.port) && x.2.tag == c.tag

/-- R258: every PRESENT member has the rig. -/
def Dev.membersReady (d : Dev) (h : Hash256) : Bool :=
  !d.stackMaster || d.hal.members.all fun m => decide (m.state ≠ .present) || (m.ready && decide (m.hash = h))

def Dev.mayActivate (d : Dev) (r : Rig) : Bool :=
  d.rig.staged && decide (r.hash ≠ d.activeHash)
    && d.halves.all (fun h => (d.node h).sys.inService || decide ((d.node h).sys = .awaitRig))
    && (d.dpx.role ≠ .active || decide (d.dpx.partnerStaged = some r.hash)) && d.membersReady r.hash

/-- R317: the entry of an activation. -/
def Dev.activateEntry (d : Dev) (r : Rig) (c : HostCmd) : LogEntry :=
  { d.cmdEntry c 0x0020 r.serial with old := trunc64 d.activeHash, new := trunc64 r.hash }

/-- The entries, each half's under its port (R308); whether all were written. -/
def Dev.writeEntries : List LogEntry → Dev → Bool × Dev
  | [], d => (true, d)
  | e :: rest, d => let r := d.writeEntry e
                    if r.1 then r.2.writeEntries rest else (false, r.2)

/-- The activation executes in this frame's work; the tables change at the boundary that publishes it. -/
def Dev.activateFrame (d : Dev) : Dev :=
  match d.dueActivates with
  | [] => d
  | c :: cs =>
    let all := c :: cs
    let d := all.foldl (fun (d : Dev) x => d.onJournal x fun y => { y with ran := some d.frame }) d
    if all.any (·.verdict.isSome) then all.foldl (fun (d : Dev) x => d.refuse x (x.verdict.getD .denied)) d
    else match d.rig.passed with
    | none => all.foldl (fun (d : Dev) x => d.refuse x .denied) d
    | some r =>
      if !d.mayActivate r then all.foldl (fun (d : Dev) x => d.refuse x .denied) d
      else
        let w := d.writeEntries (all.map (d.activateEntry r))
        if w.1 then
          (w.2.onRig fun g => { g with actDue := some (r, all), actSource := .host }).onDpx fun x =>
            { x with recCmds := x.recCmds ++ all.map HostCmd.entry }
        else all.foldl (fun (d : Dev) x => d.complete x .aborted 0) w.2

/-! ## Verification ends (R301, R303, R306, R310) -/

def RigMgr.setBank (b : Nat) (x : Nat × Nat) (g : RigMgr) : RigMgr := if b = 0 then { g with bank0 := x } else { g with bank1 := x }

/-- A verification of a flash bank for the boot is running. -/
def Dev.bootVerifies (d : Dev) : Bool :=
  d.live.any (fun h => decide ((d.node h).sys = .verify)) && d.stackPos == 0 && d.bootSel ≠ 3 && d.rig.active.isNone && d.rig.actDue.isNone

def Dev.toAwaitRig (d : Dev) : Dev := d.live.foldl (fun (d : Dev) h => d.onNode h fun n => { n with sys := .awaitRig }) d

/-- A bank fails at boot: its fault, its offset, then the fallback bank (R28, R303). -/
def Dev.bootFails (code off : Nat) (d : Dev) : Dev :=
  let d := ((d.raise code .device 0).onRig (RigMgr.setBank d.rig.bootBank (code, off))).rigNews
  if d.bootSel < 2 && d.rig.bootTried = 0 then d.onRig fun g => { g with bootBank := 1 - g.bootBank, bootTried := 1 }
  else d.toAwaitRig

/-- A bank passes at boot: its rig becomes active at the next boundary (R268). -/
def Dev.bootPasses (r : Rig) (d : Dev) : Dev :=
  (d.onRig fun g => { g with
    actDue := some (r, []), actSource := if g.bootBank = 0 then .bank0 else .bank1, fallback := g.fallback || g.bootTried ≠ 0 }).rigNews

/-- A host's verification passes. RIG_CHECK on a stack master then waits for its members (R306). -/
def Dev.jobPasses (j : RigJob) (r : Rig) (d : Dev) : Dev :=
  let d := d.rigNews
  if j.cmd.opc = 0x35 then
    ((d.onRig fun g => (g.setBank j.cmd.index (0, 0))).onRig fun g => { g with job := none }).complete j.cmd .ok (passData r.hash)
  else if d.stackMaster then
    let d := d.onRig fun g => { g with job := some { j with verified := true }, passed := some r, memberHash := some r.hash }
    d.onHal fun x => { x with members := x.members.map fun m => { m with served := false, rigFail := 0 } }
  else (d.onRig fun g => { g with job := none, passed := some r }).complete j.cmd .ok (passData r.hash)

def Dev.jobFails (j : RigJob) (code off : Nat) (d : Dev) : Dev :=
  let d := d.rigNews.onRig fun g => { (if j.cmd.opc = 0x35 then g.setBank j.cmd.index (code, off) else g) with job := none }
  d.complete j.cmd .denied (failData code off)

/-- R306: the distribution of a checked rig ends with every PRESENT member's READY, or with a member's failure. -/
def Dev.rigDistribution (d : Dev) : Dev :=
  match d.rig.job, d.rig.passed with
  | some j, some r =>
    if !j.verified then d
    else match d.hal.members.find? fun m => decide (m.state = .present) && m.rigFail ≠ 0 with
      | some m => (d.onRig fun g => { g with job := none, passed := none, memberHash := none }).complete j.cmd .denied (failData m.rigFail 0)
      | none =>
        if d.membersReady r.hash then (d.onRig fun g => { g with job := none }).complete j.cmd .ok (passData r.hash) else d
  | some j, none => if j.verified then (d.onRig fun g => { g with job := none }).complete j.cmd .denied 0 else d
  | none, _ => d

/-- A source of a rig for which the spec names no code (a member's, log 5). -/
def Dev.freeSource (d : Dev) : RigSource × Dev :=
  let w := d.fresh
  (match bits w.1 1 0 with | 0 => .none | 1 => .bank0 | 2 => .bank1 | _ => .host, w.2)

/-- A member verified what BULK brought (R252, R306). -/
def Dev.memberVerified (v : Verified) (d : Dev) : Dev :=
  match v with
  | .pass r =>
    let d := (d.onRig fun g => { g with passed := some r, bulkFail := 0 }).rigNews
    if d.nodeA.sys = .verify then
      let src := d.freeSource
      src.2.onRig fun g => { g with actDue := some (r, []), actSource := src.1 }
    else d
  | .fail code _ =>
    let d := (d.onRig fun g => { g with staged := false, bulkFail := code }).rigNews
    if d.nodeA.sys = .verify then (d.raise code .device 0).toAwaitRig else d

/-- RIG_VERIFICATION_END: of the boot bank, of a host's image, or of a member's BULK image. -/
def execRigVerificationEnd (s : State) : Out :=
  if s.dev.inReset || s.dev.allSafe then .next s
  else match s.dev.rig.job with
    | some j =>
      if j.verified then .next (s.lift Dev.rigDistribution)
      else match s.verifyStaging with
        | .pass r => .next (s.lift (Dev.jobPasses j r))
        | .fail code off => .next (s.lift (Dev.jobFails j code off))
    | none =>
      if s.dev.bootVerifies then
        match s.verifyBank s.dev.rig.bootBank with
        | .pass r => .next (s.lift (Dev.bootPasses r))
        | .fail code off => .next (s.lift (Dev.bootFails code off))
      else if s.dev.stackMember && s.dev.rig.staged && s.dev.rig.passed.isNone then .next (s.lift (Dev.memberVerified s.verifyStaging))
      else .next s

/-- BANK_VERIFICATION_TIMEOUT (R267, R301): the flash access fails with 0xA5. -/
def execBankVerificationTimeout (s : State) : Out :=
  if s.dev.inReset || s.dev.allSafe then .next s
  else match s.dev.rig.job, s.dev.rig.store with
    | some j, _ => if j.cmd.opc = 0x35 then .next (s.lift (Dev.jobFails j 0xA5 0)) else .next s
    | none, some j =>
      if s.dev.rig.storeLogged then
        .next (s.lift fun d => ((d.onRig fun g => { g.setBank j.cmd.index (0xA5, 0) with store := none }).rigNews).complete j.cmd .denied (failData 0xA5 0))
      else .next s
    | none, none => if s.dev.bootVerifies then .next (s.lift (Dev.bootFails 0xA5 0)) else .next s

/-! ## BULK on a member (R252, R306) -/

/-- BULK: block `k` of 3 072 bytes of the face or the back; the last one starts the verification. -/
def execBulk (block : Nat) (face : Bool) (data : List Byte) (last : Bool) (s : State) : Out :=
  let d := s.dev
  if d.inReset || !d.stackMember || (d.hal.selfState ≠ .joining && d.hal.selfState ≠ .present) || 86 ≤ block then .next s
  else
    let m := if face && block = 0 then [] else s.staging
    let m := memWriteMany stagingZ m ((if face then 0 else 0x40000) + 3072 * block) (data.take 3072)
    .next ({ s with staging := m }.lift (Dev.onRig fun g => { g with passed := none, staged := last, bulkFail := 0 }))

/-! ## RIG_STORE (R306, R318) -/

/-- The hash of what a bank holds, 0 where it does not verify (R317). -/
def State.bankHash (bank : Nat) (s : State) : Hash64 :=
  match s.verifyBank bank with | .pass r => trunc64 r.hash | .fail _ _ => 0

/-- In a frame whose work programs no other entry, a waiting RIG_STORE writes its entry; then the bank is erased. -/
def State.storeFrame (s : State) : State :=
  match s.dev.rig.store, s.dev.rig.passed with
  | some j, some r =>
    if s.dev.rig.storeLogged || s.dev.log.programmed || j.cmd.frame = s.dev.frame then s
    else
      let e := { s.dev.cmdEntry j.cmd 0x0021 (BitVec.ofNat 32 j.cmd.index) with old := s.bankHash j.cmd.index, new := trunc64 r.hash }
      let w := s.dev.writeEntry e
      if w.1 then
        { s with flash := memErase s.flash (j.cmd.index * 0x80000) 0x80000 }.lift fun _ => w.2.onRig fun g => { g with storeLogged := true }
      else s.lift fun _ => (w.2.onRig fun g => { g with store := none }).complete j.cmd .aborted 0
  | some j, none => if s.dev.rig.storeLogged then s else s.lift fun d => (d.onRig fun g => { g with store := none }).refuse j.cmd .denied
  | none, _ => s

/-- The staged image written to a bank: the back, then the face. -/
def State.programBank (bank len : Nat) (s : State) : State :=
  let f := memWriteMany flashZ s.flash (bank * 0x80000 + 0x40000) (s.readStaging 0x40000 len)
  { s with flash := memWriteMany flashZ f (bank * 0x80000) (s.readStaging 0 len) }

/-- RIG_STORE_COMPLETE: the bank reads back and verifies, or not; the fallback warning ends with the failed bank's pass. -/
def execRigStoreComplete (s : State) : Out :=
  if s.dev.inReset || s.dev.allSafe || !s.dev.rig.storeLogged then .next s
  else match s.dev.rig.store with
    | none => .next s
    | some j =>
      let b := j.cmd.index
      let s := s.programBank b (fieldAt (s.readStaging 0 64) 20 4)
      let was := if b = 0 then s.dev.rig.bank0 else s.dev.rig.bank1
      match s.verifyBank b with
      | .pass r =>
        .next (s.lift fun d => ((d.onRig fun g =>
          { g.setBank b (0, 0) with store := none, storeLogged := false, fallback := g.fallback && was.1 = 0 }).rigNews).complete j.cmd .ok (passData r.hash))
      | .fail code off =>
        .next (s.lift fun d => ((d.onRig fun g =>
          { g.setBank b (code, off) with store := none, storeLogged := false }).rigNews).complete j.cmd .denied (failData code off))

end Sys2Proof.Machine
end

