-- ==== Sys2Proof/Machine/Activation.lean ====
section
/-! DEFINITION. The activation boundary (16: R309, Table RIG-10; 14: R268; 22: R396): closure hashes, what each object
keeps or restarts, and RIG_ACTIVATION. -/
namespace Sys2Proof.Machine

/-! ## Closure hashes (R299, Table RIG-10) -/

/-- A closure: face offsets of records with their hashes. -/
abbrev Closure := List (Nat × Hash64)

def insertRef (x : Nat × Hash64) : Closure → Closure
  | [] => [x]
  | y :: ys => if x.1 < y.1 then x :: y :: ys else if x.1 == y.1 then y :: ys else y :: insertRef x ys

/-- The closure hash: each record once, in face order. -/
def closureHash (c : Closure) : Hash64 :=
  trunc64 (sha256 ((c.foldl (fun acc x => insertRef x acc) []).flatMap fun x => toBytes 8 x.2.toNat))

def Hashed.ref {α : Type} (x : Hashed α) : Nat × Hash64 := (x.off, x.rh)

def refs {α : Type} (p : α → Bool) (l : List (Hashed α)) : Closure := (l.filter fun x => p x.val).map Hashed.ref

/-- SYSTEM and its HEAD. -/
def RigPart.systemRefs (p : RigPart) (pos i : Nat) : Closure :=
  refs (fun (s : SystemRec) => s.stackpos == pos && s.system == i) p.systems
    ++ refs (fun (h : HeadRec) => h.stackpos == pos && h.head == i / 2) p.heads

/-- POINT, its CALDEF, its systems' closures, or its owner's PEER. -/
def RigPart.pointRefs (p : RigPart) (x : Hashed PointRec) : Closure :=
  x.ref :: match x.val.kind with
    | .remote => refs (fun (r : PeerRec) => r.address == x.val.owner) p.peers
    | _ => refs (fun (c : CalDefRec) => x.val.profile ≠ 0 && c.profile == x.val.profile) p.caldefs
        ++ p.systemRefs x.val.stackpos (2 * x.val.owner) ++ p.systemRefs x.val.stackpos (2 * x.val.owner + 1)

/-- SECTION, its BOUNDARY records, its points' closures. -/
def RigPart.sectionRefs (p : RigPart) (x : Hashed SectionRec) : Closure :=
  let bs := p.bounds.filter fun b => b.val.sect == x.val.index
  x.ref :: bs.map Hashed.ref ++ (p.points.filter fun q => bs.any fun b => b.val.point == q.val.index).flatMap p.pointRefs

/-- A change of NODE, STACK or DUPLEX is a change of every object. -/
def nodeChanged (old : Option RigPart) (new : RigPart) : Bool :=
  let key := fun (p : RigPart) => (p.node.rh, p.stack.map (·.rh), p.duplex.map (·.rh))
  match old with
  | some o => decide (key o ≠ key new)
  | none => true

/-! ## Systems -/

/-- A comparator whose system is removed: the live level alone. -/
def Cmp.forget (c : Cmp) : Cmp := { live := c.live }

/-- A changed or new system: its line, comparators and hold-off stay, its DACs are rewritten, everything else restarts. -/
def Sys.restart (cfg : SystemRec) (ch : Hash64) (t : Nat) (s : Sys) : Sys :=
  Sys.rewrite t
    { id := s.id, defd := true, cfg, ch, cOpen := s.cOpen, cOcc := s.cOcc, cShort := s.cShort, sched := s.sched, schedUntil := s.schedUntil
      mode := s.mode, dischLeft := s.dischLeft, pendOn := s.pendOn, holdoff := s.holdoff, retrying := s.retrying, retryFrame := s.retryFrame
      onWhole := s.onWhole, chip := s.chip, blank := s.blank, node := s.node, feFailed := s.feFailed, lastCode := s.lastCode
      rbOpen := s.rbOpen, rbOcc := s.rbOcc, rbShort := s.rbShort }

/-- A removed system: its line goes to DISCHARGE; no level of it is reported any more. -/
def Sys.remove (s : Sys) : Sys :=
  Sys.switchOff { id := s.id, cOpen := s.cOpen.forget, cOcc := s.cOcc.forget, cShort := s.cShort.forget
                  sched := s.sched, schedUntil := s.schedUntil, mode := s.mode, dischLeft := s.dischLeft
                  node := s.node, feFailed := s.feFailed }

def Dev.clearObj (k : Kind) (obj : Nat) (h : Half) (d : Dev) : Dev :=
  d.clearWhere fun x => decide (x.kind = k) && x.obj == obj && decide (x.half = h)

def Dev.carrySystem (h : Half) (p : RigPart) (all : Bool) (i : Nat) (d : Dev) : Dev :=
  let s := d.sys i
  match p.systems.find? fun x => x.val.stackpos == d.stackPos && x.val.system == i with
  | some x =>
    let ch := closureHash (p.systemRefs d.stackPos i)
    if s.defd && decide (s.ch = ch) && !all then d else d.onSys i (Sys.restart x.val ch (d.stamp 0))
  | none => if s.defd then (d.onSys i Sys.remove).clearObj .system i h else d

/-! ## Points and the journal -/

/-- A changed or new point: DISTURBED; a remote one OFFLINE while its owner is unheard (R89, R268). DESIGN CHOICE:
Table CNT-3 lets an activation that finds the systems usable and vacant enter COUNTING; a new or changed point always
enters DISTURBED here (log 113). -/
def newPoint (cfg : PointRec) (ch : Hash64) (heard first : Bool) : Point :=
  { cfg, ch, fresh := true, state := if cfg.kind = .remote && !heard then .offline else .disturbed, startup := first }

def carryPoint (p : RigPart) (all first : Bool) (heard : Nat → Bool) (old : List Point) (x : Hashed PointRec) : Point :=
  let ch := closureHash (p.pointRefs x)
  match old.find? (·.cfg.index == x.val.index) with
  | some q => if decide (q.ch = ch) && !all then q else newPoint x.val ch (heard x.val.owner) first
  | none => newPoint x.val ch (heard x.val.owner) first

/-- The point's state is kept. -/
def keptPoint (old new : List Point) (i : Nat) : Bool :=
  match old.find? (·.cfg.index == i), new.find? (·.cfg.index == i) with
  | some a, some b => decide (a.ch = b.ch)
  | _, _ => false

/-- R94: the consumers that the new rig still names; pending verdicts of changed and removed points become uncertain. -/
def JEntry.carry (p : RigPart) (kept : Nat → Bool) (e : JEntry) : JEntry :=
  let subs := match p.points.find? fun x => x.val.index == e.point with
    | some x => if x.val.publish then x.val.subs else []
    | none => []
  { e with consumers := e.consumers.filter fun c => subs.contains c && p.hasPeer c
           verdict := if e.verdict = .pending && !kept e.point then .uncertain else e.verdict }

/-! ## Sections, outputs, inputs, peers, line -/

/-- A changed section keeps its count alone; every armed reset ends (R111). -/
def carrySection (p : RigPart) (all : Bool) (frame : Word) (old : List Sect) (x : Hashed SectionRec) : Sect :=
  let ch := closureHash (p.sectionRefs x)
  let bounds := (p.bounds.filter fun b => b.val.sect == x.val.index).map fun b => (b.val.point, b.val.outward)
  let fresh : Sect := { cfg := x.val, bounds, ch, state := .disturbed, s4state := .disturbed, change := frame }
  match old.find? (·.cfg.index == x.val.index) with
  | some s => if decide (s.ch = ch) && !all then { s with arm := none } else { fresh with count := s.count, s4count := s.count }
  | none => fresh

def Output.restart (cfg : OutputRec) (ch : Hash64) (frame : Word) (o : Output) : Output :=
  { id := o.id, defd := true, cfg, ch, state := o.state, reqHi := o.reqHi, reqLo := o.reqLo, appHi := o.appHi, appLo := o.appLo
    nHi := o.nHi, nLo := o.nLo, slotOn := o.slotOn, leftAt := o.leftAt, highAt := o.highAt, standAt := o.standAt
    gateHi := o.gateHi, gateLo := o.gateLo, hiCls := o.hiCls, loCls := o.loCls, hiLast := o.hiLast, loLast := o.loLast
    gateFrame := if o.defd then o.gateFrame else frame, levelOk := o.levelOk, levelFrame := o.levelFrame, lowRun := o.lowRun, nonLow := o.nonLow
    hold := true, first := o.first, partner := o.partner, proofStart := frame }

def Output.remove (o : Output) : Output :=
  { id := o.id, hiCls := o.hiCls, loCls := o.loCls, hiLast := o.hiLast, loLast := o.loLast, leftAt := o.leftAt, highAt := o.highAt }

def Dev.carryOutput (h : Half) (p : RigPart) (all : Bool) (n : Nat) (d : Dev) : Dev :=
  let o := d.out n
  match p.outputs.find? fun x => x.val.output == n with
  | some x =>
    let ch := closureHash [x.ref]
    if o.defd && decide (o.ch = ch) && !all then d else d.onOut n (Output.restart x.val ch d.frame)
  | none => if o.defd then (d.onOut n Output.remove).clearObj .output n h else d

/-- The record of an input: INPUT, or for EDMn the OUTPUT record that uses it. -/
def RigPart.inputOf (p : RigPart) (i : Nat) : Option (Hashed InputRec) :=
  if i < 12 then p.inputs.find? fun x => x.val.input == i
  else (p.outputs.find? fun x => x.val.output == i - 12 && x.val.edm).map fun x =>
    { val := { input := i, src := x.val.edmSrc }, rh := x.rh, off := x.off }

/-- A changed or new input: its level stays, and what its faults wait for; a press is discarded. -/
def Input.restart (cfg : InputRec) (ch : Hash64) (i : Input) : Input :=
  { id := i.id, defd := true, cfg, ch, raw := i.raw, rawSince := i.rawSince, lvl := i.lvl, spanEnd := i.spanEnd, filt := i.filt
    filtAt := i.filtAt, offFrame := i.offFrame, onFrame := i.onFrame, ignored := i.ignored, faultEnd := i.faultEnd, faultFrom := i.faultFrom }

def Input.remove (i : Input) : Input := { id := i.id, raw := i.raw, rawSince := i.rawSince, lvl := i.lvl, filt := i.filt, filtAt := i.filtAt }

def Dev.carryInput (h : Half) (p : RigPart) (all : Bool) (i : Nat) (d : Dev) : Dev :=
  let x := d.inp i
  match p.inputOf i with
  | some r =>
    let ch := closureHash [r.ref]
    if x.defd && decide (x.ch = ch) && !all then d else d.onInp i (Input.restart r.val ch)
  | none => if x.defd then (d.onInp i Input.remove).clearObj .input i h else d

def carryPeer (all : Bool) (old : List Peer) (x : Hashed PeerRec) : Peer :=
  match old.find? (·.cfg.address == x.val.address) with
  | some q => if decide (q.ch = x.rh) && !all then q else { cfg := x.val, ch := x.rh }
  | none => { cfg := x.val, ch := x.rh }

/-- The line node of a changed LINE or SCHEDULE record: no cycle number, E_0 at this boundary (R196, R268). -/
def LineNode.restart (now : DTime) (l : LineNode) : LineNode :=
  { l.undriven with
           cycle := none, slotRef := none, sinceBeacon := 0, ownSlots := 0, mode := .normal, round := 0, inReef := false
           e0 := now, e0Next := 0, vote := none, voteDue := none, voteWait := 0, proposeReq := false, wakeReq := false, wakeBursts := 0
           wakePending := false, zeroReef := false, fullFrom := none, lru := [], statusSent := 0, failedTx := [] }

def sameRef {α : Type} (a b : Option (Hashed α)) : Bool := decide (a.map (·.rh) = b.map (·.rh))

/-- The line node of a half at the activation; a JOIN follows a change while it is in service (R205). -/
def Dev.carryLine (h : Half) (old : Option RigPart) (p : RigPart) (all : Bool) (d : Dev) : Dev :=
  match p.line with
  | none =>
    let d := d.onLine h fun l => { tseq := l.tseq, beaconCycle := l.beaconCycle, peers := [] }
    d.clearWhere fun k => (decide (k.kind = .line) || decide (k.kind = .linePair) || decide (k.kind = .lineNode)) && decide (k.half = h)
  | some _ =>
    let same := match old with | some o => sameRef o.line p.line && sameRef o.schedule p.schedule && !all | none => false
    let samePeers := match old with | some o => decide (o.peers.map (·.rh) = p.peers.map (·.rh)) && !all | none => false
    let d := d.onLine h fun l => { (if same then l else l.restart d.dt) with peers := p.peers.map (carryPeer all l.peers) }
    if (same && samePeers) || !d.inService h then d else d.startJoin h 2

/-! ## A half at the boundary -/

def Node.removedPoints (n : Node) (p : RigPart) : List Nat :=
  (n.points.map (·.cfg.index)).filter fun i => !p.points.any fun x => x.val.index == i
def Node.removedSections (n : Node) (p : RigPart) : List Nat :=
  (n.sections.map (·.cfg.index)).filter fun i => !p.sections.any fun x => x.val.index == i

/-- From AWAIT_RIG or VERIFY the joins start (R268). -/
def Node.startJoins (frame : Word) (n : Node) : Node :=
  if n.sys.inService then n else { n with sys := .verify, phase := .joins, joinBeacon := false, joinFrame := frame }

def Dev.activateHalf (old : Option RigPart) (p : RigPart) (h : Half) (d : Dev) : Dev :=
  if (d.node h).safe then d else
  let all := nodeChanged old p
  let d := ((List.range 32).filter fun i => decide (d.halfOfSys i = h)).foldl (fun (d : Dev) i => d.carrySystem h p all i) d
  let d := d.carryLine h old p all
  let n := d.node h
  let heard := fun a => n.line.peers.any fun q => q.cfg.address == a && q.heard
  let pts := p.points.map (carryPoint p all old.isNone heard n.points)
  let kept := fun i => keptPoint n.points pts i && !all
  let d := (n.removedPoints p).foldl (fun (d : Dev) i => d.clearObj .point i h) d
  let d := (n.removedSections p).foldl (fun (d : Dev) i => d.clearObj .sect i h) d
  let d := d.onNode h fun m => Node.startJoins d.frame
    { m with points := pts, sections := p.sections.map (carrySection p all d.frame m.sections)
             journal := { m.journal with entries := m.journal.entries.map (JEntry.carry p kept) } }
  let d := if h = .a && !d.dpx.shadow.isEmpty then
      d.onDpx fun x => { x with shadow := (p.points.filter fun y => decide (y.val.kind ≠ .remote)).map (carryPoint p all old.isNone heard x.shadow) }
    else d
  let d := ((List.range 8).filter fun i => decide (d.halfOfOut i = h)).foldl (fun (d : Dev) i => d.carryOutput h p all i) d
  let d := ((List.range 20).filter fun i => decide (d.halfOfInp i = h)).foldl (fun (d : Dev) i => d.carryInput h p all i) d
  let react := match old with | some o => decide (o.react.rh = p.react.rh) && !all | none => false
  let d := if react then d
    else d.onHal fun x => { x with members := x.members.map fun m => { m with probe := m.probe.abandon } }
  let d := if react then d
    else if d.probe.half = h then { d with probe := d.probe.abandon } else { d with probeOther := d.probeOther.abandon }
  if d.supplies h then d.linesOn h else d

/-! ## RIG_ACTIVATION -/

/-- The new tables become active (R302, R307, R309, R331); the faults of Table RIG-11 that end with it clear. -/
def Dev.activate (r : Rig) (cmds : List HostCmd) (d : Dev) : Dev :=
  let oldA := d.rigPart .a
  let oldB := d.rigPart .b
  let src := d.rig.actSource
  let d := d.onRig fun g =>
    { g.unstage with active := some r, source := src, actFrame := d.frame, actDue := none, pendAct := none }
  let d := d.activateHalf oldA r.partA .a
  let d := match r.partB with | some p => d.activateHalf oldB p .b | none => d
  let d := d.clearWhere fun k => 0xA0 ≤ k.code && k.code ≤ 0xA5
  let d := { d with bgw := { d.bgw with cmpPos := 0, cmpStart := d.frame, cmpRunning := true } }
  let d := d.onHal fun x => { x with want := none }
  let d := if d.inService .a && !d.split && !d.hasDuplex && d.stackPos == 0 then
      (d.setRole .solo).onDpx fun x => { x with claim := true }
    else d
  (cmds.foldl (fun (d : Dev) c => d.complete c .ok 0) d).rigNews.settleSources.driveGates

/-- The rig that this boundary activates: the one due, or on a member the staged one with its master (R258). -/
def Dev.activating (d : Dev) : Option (Rig × List HostCmd) :=
  match d.rig.actDue with
  | some x => some x
  | none => match d.rig.passed with
    | some r => if d.stackMember && decide (r.hash ≠ d.activeHash) then some (r, []) else none
    | none => none

/-! ## Interrupt causes of an update (R373) -/

/-- Bits 0 to 12 for port `p` between the bank `b` and the device; bits 9 and 10 come from `irqNew`. -/
def Dev.causes (p : Fin 2) (b d : Dev) : Nat :=
  let h := d.halfOfPort p
  let raised := fun (clr : Bool) => (d.faults.ring.take (d.faults.ringHead - b.faults.ringHead).toNat).any (·.clr == clr)
  let n := d.node h
  let m := b.node h
  let ss := fun (x : Node) => x.sections.map fun s => (s.cfg.index, s.state)
  let ps := fun (x : Node) => x.points.map fun q => (q.cfg.index, q.state)
  b2n (raised false) + 2 * b2n (raised true) + 4 * b2n (decide (n.sys ≠ m.sys)) + 8 * b2n (decide (d.dpx.role ≠ b.dpx.role))
    + 16 * b2n (decide (ss n ≠ ss m)) + 32 * b2n (decide (ps n ≠ ps m)) + 64 * b2n (n.journal.head != m.journal.head)
    + 128 * b2n (d.warnBits != b.warnBits) + 256 * b2n (decide (d.bgw.tel.head? ≠ b.bgw.tel.head?))
    + 512 * b2n (d.irqNew.testBit (9 + 16 * p.val)) + 1024 * b2n (d.irqNew.testBit 10)
    + 2048 * b2n (n.line.modeCode != m.line.modeCode)
    + 4096 * b2n (decide (d.hal.members.map (·.state) ≠ b.hal.members.map (·.state)) || decide (d.hal.selfState ≠ b.hal.selfState))

/-- The causes of an update enter HST_IRQSTAT. -/
def Dev.setCauses (b d : Dev) : Dev :=
  let set := fun (p : Fin 2) (d : Dev) => d.onPort p fun x => Port.withIrq { x with irqStat := x.irqStat ||| Dev.causes p b d }
  { set 1 (set 0 d) with irqNew := 0 }

/-- RIG_ACTIVATION (R307, R309): at the boundary that publishes the frame; the bank shows the new objects (R396). -/
def execRigActivation (s : State) : Out :=
  if s.dev.inReset || s.dev.allSafe then .next s
  else match s.dev.activating with
    | none => .next s
    | some (r, cmds) =>
      let d := s.dev.activate r cmds
      let d := { d with faults := d.faults.publish d.frame d.dt }
      let d := Dev.setCauses s.bank d.deliver
      .next { s with dev := d, bank := d }

end Sys2Proof.Machine
end

