-- ==== Sys2Proof/Machine/Startup.lean ====
section
/-! DEFINITION. Start-up (14): the phases of Table STU-2 (R260 to R266), the joins and the entry into service (R268, R269),
with the meanings of their commands. -/
namespace Sys2Proof.Machine

/-- All halves are in the phase, in the state it belongs to. -/
def Dev.inPhase (ph : BootPhase) (st : SysState) (d : Dev) : Bool :=
  d.halves.all fun h => decide ((d.node h).phase = ph) && decide ((d.node h).sys = st)

def Dev.toPhase (ph : BootPhase) (st : SysState) (d : Dev) : Dev :=
  d.halves.foldl (fun (d : Dev) h => d.onNode h fun n => { n with phase := ph, sys := st }) d

/-- OTP_LOAD (R262): after it, the stores are read (17, R322) and SELFTEST begins. -/
def execOtpLoad (obs : OtpObs) : State → Out :=
  up fun d =>
    if !d.inPhase .otp .boot then d
    else
      let d := d.onStore fun s => { s with otpCor := min 65535 obs.corrected }
      if obs.uncorrectable || obs.checksumBad then d.safeAll 0x27 0
      else (d.bootStores obs.badCopies obs.tornEntry).toPhase .memory .selftest

/-- R117: core A's bank holds 0x0000_0000 and core B's 0xFFFF_FFFF throughout. -/
def Dev.clearBanks (d : Dev) : Dev := { d with coreA := {}, coreB := { complemented := true, acc := 0 } }

/-- MEMORY_TEST (R263): the banks are cleared after it. -/
def execMemoryTest (march : List Bool) (romA romB : Bool) : State → Out :=
  up fun d =>
    if !d.inPhase .memory .selftest then d
    else if !march.all id then d.safeAll 0x26 0
    else if !(romA && romB) then d.safeAll 0x24 0
    else d.clearBanks.toPhase .frontEnd .selftest

/-- R62: a readback within 8 LSB of the code expected for DAC code `k`. -/
def readbackOk (k code : Nat) : Bool := code ≤ readbackCode k + 8 && readbackCode k ≤ code + 8

/-- R264: the front-end test finds nothing on the system: DACs under R62, both output levels of each comparator (OPEN
asserts below its trip point, OCC and SHORT above), the hysteresis within ±(5 % + 1 mV) of 40 mV (R59). -/
def FrontEndObs.ok (o : FrontEndObs) : Bool :=
  o.readbacks.all (fun r => (List.zip [0, 512, 1023] r).all fun x => readbackOk x.1 x.2)
    && o.levels == [(true, false), (false, true), (false, true)]
    && 370 ≤ o.hyst && o.hyst ≤ 430

/-- The OTP's expected code of VREFC (Table LOG-4a). -/
def Dev.expectedRef (d : Dev) : Nat := bits (d.otpWord 0x8A) 27 16

/-- The ADC's conversions of VREFC and zero lie within their limits (04, The ADC and its sequence). -/
def Dev.adcOk (vref gnd : Nat) (d : Dev) : Bool := vref ≤ d.expectedRef + 6 && d.expectedRef ≤ vref + 6 && gnd ≤ 4

/-- The systems of S00 to S31 that fail the front-end test. -/
def frontEndFailures (systems : List FrontEndObs) : List Nat :=
  (systems.take 32).zipIdx.filterMap fun x => if x.1.ok then none else some x.2

/-- FRONT_END_TEST (R264); in split mode the lockstep comparator test is skipped (R265). -/
def execFrontEndTest (systems : List FrontEndObs) (vref gnd : Nat) (holdOk : Bool) : State → Out :=
  up fun d =>
    if !d.inPhase .frontEnd .selftest then d
    else if !(systems.drop 32).all FrontEndObs.ok || !d.adcOk vref gnd || !holdOk then d.safeAll 0x3F 0
    else
      let d := (frontEndFailures systems).foldl (fun (d : Dev) i => (d.onSys i fun s => { s with feFailed := true }).raiseSys i 0x3E) d
      d.toPhase (if d.split then .sweep else .lockstep) .selftest

/-- R265: both faults injected into each of the six groups were flagged, and nothing else was. -/
def comparatorTestOk (flagged : List (Bool × Bool)) (spurious : Bool) : Bool :=
  flagged.length == 6 && flagged.all (fun f => f.1 && f.2) && !spurious

/-- LOCKSTEP_COMPARATOR_TEST (R265). -/
def execLockstepComparatorTest (flagged : List (Bool × Bool)) (spurious : Bool) : State → Out :=
  up fun d =>
    if !d.inPhase .lockstep .selftest then d
    else if comparatorTestOk flagged spurious then d.toPhase .sweep .selftest else d.safeAll 0x25 0

/-- Background work starts at the entry into VERIFY (R327). -/
def Bgw.start (frame : Word) (b : Bgw) : Bgw :=
  if b.running then b else { b with running := true, scrubStart := frame, romStart := frame, romRunning := true, calStart := frame }

/-- R266: the sweep has run from the first frame with code position 0 for a whole code period of 63 frames. -/
def Dev.sweepOver (d : Dev) : Bool := match d.sweepFrame with | some f => 63 ≤ d.ago f | none => false

/-- R266: at position `p` the generator gives what the ROM table of R45 holds, every line ON and no off-pulse frame, and
scheduled blanking opens where a chip is applied. -/
def SweepFrame.generated (p : Nat) (f : SweepFrame) : Bool :=
  (List.range 32).all fun l => f.chips.getLsbD l == nominal l p && f.applied.getLsbD l == codeChip l p && f.blanked.getLsbD l == codeChip l p

/-- A node that some frame of the sweep does not show LOW (R47, R266). -/
def sweepNotLow (frames : List SweepFrame) : List Nat :=
  (List.range 32).filter fun l => frames.any fun f => decide (nodeClassOf (f.nodes.getD l 0) f.vfld ≠ .low)

/-- SUPPLY_SWEEP (R266): then VERIFY with the bank of ST_BOOT (R28), or AWAIT_RIG (Table STU-1). -/
def execSupplySweep (frames : List SweepFrame) : State → Out :=
  up fun d =>
    if !d.inPhase .sweep .selftest || !d.sweepOver then d
    else if !(frames.zipIdx.all fun x => x.1.generated x.2) then d.safeAll 0x3F 0
    else
      let d := (sweepNotLow frames).foldl (fun (d : Dev) i => d.raiseHed i 0x31) d
      if d.stackPos ≠ 0 || d.bootSel = 3 then d.toPhase .rigLoad .awaitRig
      else
        (d.toPhase .rigLoad .verify).onRig fun g => { g with bootBank := if d.bootSel = 1 then 1 else 0, bootTried := 0 }

/-- STARTUP_PHASE_TIMEOUT (R261): BOOT after 5 ms, SELFTEST after its 520 ms. -/
def execStartupPhaseTimeout : State → Out :=
  up fun d =>
    let t := d.dt.toNat + 500
    let late := fun h => (decide ((d.node h).sys = .boot) && 5000 ≤ t) || (decide ((d.node h).sys = .selftest) && 520000 ≤ t)
    if d.halves.any late then d.safeAll 0xB2 0 else d

/-! ## Joins and service (R268, R269) -/

/-- Every join of the half is complete. -/
def Dev.joined (h : Half) (d : Dev) : Bool :=
  let n := d.node h
  if d.stackMember then decide (d.hal.selfState = .present)
  else
    (!d.stackMaster || (d.hal.members.take (d.stackN - 1)).all (fun m => decide (m.state = .present)))
      && (!d.hasLine h || n.joinBeacon) && (!d.hasDuplex || 1 ≤ d.ago n.joinFrame)

/-- R344: OPERATIONAL, or DEGRADED while a degraded condition holds. -/
def Dev.serviceState (h : Half) (d : Dev) : SysState := if d.degradedCond h then .degraded else .operational

/-- R269: the entry into service. -/
def Dev.enterService (h : Half) (d : Dev) : Dev :=
  let d := d.onNode h fun n => { n with phase := .done, line := { n.line with quietFrame := d.frame } }
  let d := { d with tpsRun := true }
  let d := if d.hasLine h && !(d.hasDuplex && d.dpx.pclaim) then d.startJoin h 1 else d
  let seen := fun (p : Probe) => if p.half = h then { p with lastPass := d.frame, lastStart := d.frame } else p
  let d := { d with probe := seen d.probe, probeOther := seen d.probeOther }
  let d := if d.bgw.opened then d else { d with bgw := { d.bgw with opened := true }, log := { d.log with chainStart := d.frame } }
  let d := if d.split then d
    else if d.hasDuplex then d.onDpx fun x => { x with role := .offline, offAt := d.dt.toNat * 96 }
    else d.onDpx fun x => { x with role := .solo, claim := true, claimFrame := d.frame }
  let d := d.onNode h fun n => { n with sys := d.serviceState h }
  { d with faultN := d.faultNLevel }.driveGates

/-- At a boundary: the joins of a half that waits for them are complete. -/
def Dev.tryService (d : Dev) (h : Half) : Dev :=
  let n := d.node h
  if decide (n.sys = .verify) && decide (n.phase = .joins) && (d.rigPart h).isSome && d.joined h then d.enterService h else d

/-- JOIN_WINDOW_END (R268): 500 ms after the activation; absent members are recorded with 0x80. -/
def execJoinWindowEnd : State → Out :=
  up fun d => d.halves.foldl (fun (d : Dev) h =>
    let n := d.node h
    if decide (n.sys = .verify) && decide (n.phase = .joins) && 1000 ≤ d.ago n.joinFrame + 1 && !d.stackMember then
      let absent := if d.stackMaster then
          (List.range (d.stackN - 1)).filter fun i => decide ((d.member (i + 1)).state ≠ .present)
        else []
      (absent.foldl (fun (d : Dev) i => d.raiseMember (i + 1) 0x80) d).enterService h
    else d) d

end Sys2Proof.Machine
end

