-- ==== Sys2Proof/Machine/Background.lean ====
section
/-! DEFINITION. Background work (18): the slices of Table BGW-1 in a frame's slack (R327), their passes and limits, page
erasure (R334), telemetry (R336), with the meanings of their commands. -/
namespace Sys2Proof.Machine

def Dev.onBgw (f : Bgw → Bgw) (d : Dev) : Dev := { d with bgw := f d.bgw }

/-! ## Slices (R327, Table BGW-1) -/

/-- SYSCLK cycles of a slice of job 1 to 8. -/
def sliceCycles (job : Nat) : Nat := [1344, 128, 768, 200, 120, 256, 1200, 2400].getD (job - 1) 0

/-- Slices that end when `run` of `need` owed cycles are worked off. -/
def slicesDone (c need run : Nat) : Nat := (need + c - 1) / c - (need - run + c - 1) / c

/-- Job `job` asks for its slice: slices that end, and the slack that is left. -/
def Bgw.work (job budget : Nat) (b : Bgw) : Nat × Nat × Bgw :=
  let c := sliceCycles job
  let need := b.owed.getD (job - 1) 0 + c
  let run := min need budget
  (slicesDone c need run, budget - run, { b with owed := b.owed.set (job - 1) (need - run) })

/-! ## The jobs -/

/-- 0x21 (Table COR-4): the scrub, or another access outside the frame work, finds an uncorrectable word in a bank or in
a shared buffer (R132). -/
def Dev.uncorrectable (o : SlackObs) (d : Dev) : Dev :=
  if o.uncorrShared || (o.uncorrA && o.uncorrB) then d.safeAll 0x21 o.cyc
  else if o.uncorrA then d.safeOf 0x21 .a o.cyc
  else if o.uncorrB then d.safeOf 0x21 .b o.cyc
  else d

/-- A cause that each half's own check finds (R130, R132): one core pair, or one core for each half. -/
def Dev.safeIn (code : Nat) (a b : Bool) (cyc : Nat) (d : Dev) : Dev :=
  if !d.split || (a && b) then d.safeAll code cyc
  else if a then d.safeOf code .a cyc else d.safeOf code .b cyc

/-- Job 1, the scrub (R329): 2 048 slices make a pass, and the next begins. -/
def Dev.scrubJob (o : SlackObs) (k : Nat) (d : Dev) : Dev :=
  if k = 0 then d
  else
    let pos := d.bgw.scrubPos + k
    let d := d.onBgw fun b => { b with
      scrubCor := b.scrubCor + o.corrected, scrubPos := pos % 2048
      scrubPasses := b.scrubPasses + pos / 2048, scrubStart := if 2048 ≤ pos then d.frame else b.scrubStart }
    d

/-- Job 2, the re-comparison (R331): a pass starts every 8 000 frames over an active rig. -/
def Dev.compareStart (d : Dev) : Dev :=
  if d.rig.active.isSome && !d.bgw.cmpRunning && 8000 ≤ d.ago d.bgw.cmpStart then
    d.onBgw fun b => { b with cmpRunning := true, cmpPos := 0, cmpStart := d.frame }
  else d

def Dev.compareJob (o : SlackObs) (k : Nat) (d : Dev) : Dev :=
  if k = 0 then d
  else if o.tablesDiffer || o.tablesDifferB then d.safeIn 0xA6 o.tablesDiffer o.tablesDifferB o.cyc
  else
    let pos := d.bgw.cmpPos + k
    if 4096 ≤ pos then d.onBgw fun b => { b with cmpPos := 0, cmpRunning := false, cmpPasses := b.cmpPasses + 1 }
    else d.onBgw fun b => { b with cmpPos := pos }

/-- Job 3, baseline tracking (R74, R333): a frame's update runs in its slack or is dropped. -/
def Dev.baselineSlice (budget : Nat) (d : Dev) : Nat × Dev :=
  if budget < sliceCycles 3 then
    (budget, ({ d with systems := d.systems.map fun (s : Sys) => { s with frameMean := none } }).onBgw fun b => { b with dropped := b.dropped + 1 })
  else (budget - sliceCycles 3, (List.range 32).foldl (fun (d : Dev) i => d.baselineJob i) d)

/-- The DAC code of comparator `c` of system `i`. -/
def Dev.dacOf (d : Dev) (i c : Nat) : Nat :=
  let s := d.sys i
  if c = 0 then s.dacOpen else if c = 1 then s.dacOcc else s.dacShort

/-- One DAC readback (R62): index 3s + c and the code read. -/
def Dev.readbackOne (d : Dev) (r : Nat × Nat) : Dev :=
  let i := r.1 / 3
  let c := r.1 % 3
  let diff : Int := (r.2 : Int) - (readbackCode (d.dacOf i c) : Int)
  let ok := decide (-8 ≤ diff) && decide (diff ≤ 8)
  let d := d.onBgw fun b => { b with rbIdx := r.1, rbDiff := diff }
  let step := fun (n : Nat) => if ok then n + 1 else 0
  let d := d.onSys i fun s =>
    if c = 0 then { s with rbOpen := step s.rbOpen } else if c = 1 then { s with rbOcc := step s.rbOcc } else { s with rbShort := step s.rbShort }
  if ok || !((d.sys i).defd || i == 32) || 32 < i then d else d.raiseSys i 0x37

/-- A calibration window of 64 frames ends (R332): the limits, then a correction (free values, log 5) for the next
boundary, or 0x3D. -/
def Dev.endCalWindow (d : Dev) : Dev :=
  let b := d.bgw
  let off : Int := (b.calSumRef : Int) - 64 * (d.expectedRef : Int)
  let ok := decide (-384 ≤ off) && decide (off ≤ 384) && b.calSumZero ≤ 256
  let d := d.onBgw fun b => { b with
    refMean := b.calSumRef / 64, zeroMean := b.calSumZero / 64, calSumRef := 0, calSumZero := 0, calN := 0, calStart := d.frame
    calGood := if ok then min 255 (b.calGood + 1) else 0 }
  if ok then
    let x := d.fresh
    let y := x.2.fresh
    y.2.onBgw fun b => { b with corPending := some (signedOf 16 (bits x.1 15 0), signedOf 16 (bits y.1 15 0)) }
  else d.raise 0x3D .device 0

/-- Job 4, self-calibration and the frame's two DAC readbacks, in the cycle over all 99 (R62; log 107). -/
def Dev.calJob (k : Nat) (d : Dev) : Dev :=
  if k = 0 then d
  else
    let turn := [d.bgw.dacNext % 99, (d.bgw.dacNext + 1) % 99]
    let d := (List.zip turn d.obs.readback).foldl Dev.readbackOne d
    let d := d.onBgw fun b => { b with calSumRef := b.calSumRef + d.obs.refCode, calSumZero := b.calSumZero + d.obs.zeroCode, calN := b.calN + 1 }
    if 64 ≤ d.bgw.calN then d.endCalWindow else d

/-- Job 5, wear management (R319, R320, R334): a page of the store that was given up, else an archived page of the
log, is taken up for erasure (log 103). -/
def Dev.wearJob (k : Nat) (d : Dev) : Dev :=
  if k = 0 || d.log.erasing.isSome then d
  else match d.store.toErase with
    | pg :: _ => d.onLog fun l => { l with erasing := some (pg, 0) }
    | [] => match d.log.erasable with
      | some pg => d.onLog fun l => { l with erasing := some (pg, 0) }
      | none => d

/-- Job 6, ROM signatures (R127, R335): 1 024 slices, a pass every 120 000 frames. -/
def Dev.romStart (d : Dev) : Dev :=
  if !d.bgw.romRunning && 120000 ≤ d.ago d.bgw.romStart then d.onBgw fun b => { b with romRunning := true, romPos := 0, romStart := d.frame } else d

def Dev.romJob (o : SlackObs) (k : Nat) (d : Dev) : Dev :=
  if k = 0 then d
  else if o.romBad || o.romBadB then d.safeIn 0x24 o.romBad o.romBadB o.cyc
  else
    let pos := d.bgw.romPos + k
    if 1024 ≤ pos then d.onBgw fun b => { b with romPos := 0, romRunning := false, romPasses := b.romPasses + 1 }
    else d.onBgw fun b => { b with romPos := pos }

/-! ## Telemetry (R336) -/

/-- The counters that a record covers, as totals of a half. -/
def Dev.telTotals (h : Half) (d : Dev) : TelRec :=
  let n := d.node h
  { scrubCor := d.bgw.scrubCor, resync := n.cores.resyncTotal, singleA := n.line.lineA.single, singleB := n.line.lineB.single
    resets := n.resets, redund := n.redundant, zeroReef := n.line.zeroReefs, proofs := d.proofsOf h
    dropped := d.bgw.dropped + d.bgw.telSkipped }

/-- The record of a half at a boundary: the 2 000 frames before it. -/
def Dev.telRecord (h : Half) (trec : Nat) (d : Dev) : TelRec :=
  let t := d.telTotals h
  let l := if h = .a then d.bgw.lastTel else d.bgw.lastTelB
  let n := d.node h
  { trec, dtime := d.dt, frame := d.frame, state := n.sys.code, role := d.dpx.role.code
    install := (match d.rigPart h with | some p => p.node.val.install | none => 0), temp := d.obs.temp, vsup := d.obs.vsup, vfld := d.obs.vfld
    vio := d.obs.vio, warn := d.warnBits, nfault := d.faults.active.length
    scrubCor := t.scrubCor - l.scrubCor, resync := t.resync - l.resync, singleA := t.singleA - l.singleA, singleB := t.singleB - l.singleB
    resets := t.resets - l.resets, redund := t.redund - l.redund, zeroReef := t.zeroReef - l.zeroReef, proofs := t.proofs - l.proofs
    biasA := n.line.lineA.biasMin, biasB := n.line.lineB.biasMin, slackMin := d.bgw.periodSlack
    probeOcc := (d.probeOf h).passOcc, probeClr := (d.probeOf h).passClr, dropped := t.dropped - l.dropped
    half := if d.split then h.num else 0 }

/-- A boundary whose frame number is a multiple of 2 000 makes a record due. -/
def Dev.telemetryDue (d : Dev) : Dev :=
  if !d.bgw.opened || d.frame.toNat % 2000 ≠ 0 then d
  else
    let recs := d.halves.map fun h => d.telRecord h (d.bgw.trec + 1)
    let least := fun (l : LineNode) => { l with lineA := { l.lineA with biasSeen := false }, lineB := { l.lineB with biasSeen := false } }
    let d := d.halves.foldl (fun (d : Dev) h => d.onLine h least) d
    d.onBgw fun b => { b with trec := b.trec + 1, telDue := some (d.frame, recs), lastTel := d.telTotals .a, lastTelB := d.telTotals .b, periodSlack := 456 }

/-- A record enters the ring of 16 of its half. -/
def pushTel (tel : List TelRec) (t : TelRec) : List TelRec :=
  let same := (tel.filter fun x => x.half == t.half).take 15
  t :: same ++ tel.filter fun x => x.half != t.half

/-- Job 7: the record is composed; after 20 frames it is skipped. -/
def Dev.telemetryJob (budget : Nat) (d : Dev) : Nat × Dev :=
  match d.bgw.telDue with
  | none => (budget, d)
  | some (f, recs) =>
    if 20 ≤ d.ago f then (budget, d.onBgw fun b => { b with telDue := none, telSkipped := b.telSkipped + 1, owed := b.owed.set 6 0 })
    else
      let w := d.bgw.work 7 budget
      let d := d.onBgw fun _ => w.2.2
      (w.2.1, if w.1 = 0 then d else d.onBgw fun b => { b with telDue := none, tel := recs.foldl pushTel b.tel, owed := b.owed.set 6 0 })

/-! ## The chain check (R316, R335, 17) -/

/-- The entry's CHAIN agrees with the good entry before it, where one is still present. -/
def ChangeLog.chainOk (l : ChangeLog) (e : LogEntry) : Bool :=
  if !e.good then true
  else match (l.slots.filter fun x => x.good && decide (x.entry.toNat < e.entry.toNat)).getLast? with
    | some p => decide (e.chain = chainAfter (some p))
    | none => e.entry.toNat ≠ 1 || decide (e.chain = chainAfter none)

/-- Job 8: one entry per slice, once after the entry into service; a break raises 0xA9. -/
def Dev.chainJob (o : SlackObs) (k : Nat) (d : Dev) : Dev :=
  if k = 0 then d
  else match d.log.slots.find? fun e => d.log.chainPos < e.entry.toNat with
    | none => d.onLog fun l => { l with chainDone := true }
    | some e =>
      let d := d.onLog fun l => { l with chainPos := e.entry.toNat }
      if (o.chainBroken || !d.log.chainOk e) && d.log.chainBrk = 0 then
        (d.onLog fun l => { l with chainBrk := e.entry.toNat }).raise 0xA9 .device 0
      else d

/-! ## The slack -/

/-- A job whose slices are carried: it works on its slack and answers what is left. -/
def Dev.slice (job budget : Nat) (active : Bool) (f : Nat → Dev → Dev) (d : Dev) : Nat × Dev :=
  if !active then (budget, d)
  else
    let w := d.bgw.work job budget
    (w.2.1, f w.1 (d.onBgw fun _ => w.2.2))

/-- BGW_SLACK (Table REG-13): µs of this frame's slack. -/
def Bgw.noteSlack (us : Nat) (b : Bgw) : Bgw := { b with slackRan := true, slack := us, slackMin := min b.slackMin us, periodSlack := min b.periodSlack us }

/-- BACKGROUND_SLACK (R327): once the frame's work has ended, the jobs in the order of Table BGW-1. -/
def execBackgroundSlack (o : SlackObs) : State → Out :=
  up fun d =>
    let d := d.uncorrectable o
    if !d.bgw.running || d.allSafe || d.bgw.slackRan || !d.live.all d.worked then d
    else
      let d := d.onBgw (Bgw.noteSlack (min 456 (o.cycles / 96)))
      let a := d.slice 1 o.cycles true (Dev.scrubJob o)
      let d := a.2.compareStart
      let b := d.slice 2 a.1 d.bgw.cmpRunning (Dev.compareJob o)
      let c := b.2.baselineSlice b.1
      let e := c.2.slice 4 c.1 true Dev.calJob
      let f := e.2.slice 5 e.1 (e.2.log.erasing.isSome || e.2.log.erasable.isSome || !e.2.store.toErase.isEmpty) Dev.wearJob
      let d := f.2.romStart
      let g := d.slice 6 f.1 d.bgw.romRunning (Dev.romJob o)
      let t := g.2.telemetryJob g.1
      (t.2.slice 8 t.1 (t.2.bgw.opened && !t.2.log.chainDone) (Dev.chainJob o)).2

/-- ERASE_PULSE_END (R334): withheld in a frame that programs; after 160 pulses 0xA8. -/
def execErasePulseEnd (done : Bool) : State → Out :=
  upLive fun d => match d.log.erasing with
    | none => d
    | some (pg, n) =>
      if d.log.programmed || d.log.storeWrite then d
      else if done then (d.onLog fun l => { l with erasing := none }).erasePage pg
      else if 160 ≤ n + 1 then
        let d := d.onLog fun l => { l with erasing := some (pg, n + 1), writeFault := true }
        if d.hasFault 0xA8 .device 0 then d else d.raise 0xA8 .device 0
      else d.onLog fun l => { l with erasing := some (pg, n + 1) }

/-- SCRUB_PASS_OVERDUE (R329). -/
def execScrubPassOverdue : State → Out :=
  upLive fun d => if d.bgw.running && 8000 ≤ d.ago d.bgw.scrubStart then d.safeAll 0xB3 0 else d

/-- RECOMPARISON_OVERDUE (R331). -/
def execRecomparisonOverdue : State → Out :=
  upLive fun d => if d.bgw.cmpRunning && 8000 ≤ d.ago d.bgw.cmpStart then d.safeAll 0xB4 0 else d

/-- R332, R335: the job of Table BGW-1 is overdue: 4 a correction, 6 a ROM pass, 8 the chain check. -/
def Dev.overdueJob (job : Nat) (d : Dev) : Bool :=
  match job with
  | 4 => d.bgw.running && 192 ≤ d.ago d.bgw.calStart
  | 6 => d.bgw.romRunning && 120000 ≤ d.ago d.bgw.romStart
  | 8 => d.bgw.opened && !d.log.chainDone && 20000 ≤ d.ago d.log.chainStart
  | _ => false

/-- Fault `code` names `p` in its active entry and in its newest ring record (Table REG-4, PARTNER). -/
def Faults.name (code p : Nat) (f : Faults) : Faults :=
  let put := fun (k : FaultKey) => if k.code == code then { k with partner := p } else k
  { f with active := f.active.map put
           ring := match f.ring with
             | r :: rest => { r with key := put r.key } :: rest
             | [] => [] }

/-- BACKGROUND_JOB_OVERDUE: 0xB5 names the job by its order in Table BGW-1 (DEDUCED, log 66). -/
def execBackgroundJobOverdue (job : Nat) : State → Out :=
  upLive fun d => if d.overdueJob job then
    let d := d.safeAll 0xB5 0
    { d with faults := d.faults.name 0xB5 job }
  else d

end Sys2Proof.Machine
end

