-- ==== Sys2Proof/Machine/Cores.lean ====
section
/-! DEFINITION. The core pair (07): what each core stores (R115, R117), the state signature (R116), the hardware
comparator (R116, R119, R120), resync (R125, R126) and the deadlines (R124), with the meanings of LOCKSTEP_MISMATCH,
CORE_RESYNC, FRAME_WORK_DEADLINE and COMMIT_DEADLINE. -/
namespace Sys2Proof.Machine

/-! ## What a core stores (R115, R117) -/

/-- A true value in the core's own form: core B complements it. -/
def Core.form (c : Core) (w : Word) : Word := if c.complemented then ~~~ w else w

/-- The word at an address of the core's bank as its cells hold it; one not written since the internal reset holds what
that left. -/
def Core.word (a : Nat) (c : Core) : Word := match c.sram.find? (·.addr == a) with | some x => x.data | none => c.form 0

/-- The words of a bank (R329). -/
def bankWords : Nat := 262144

/-- An architectural write in the core's own form, with the bank's check bits; the accumulator takes the true value
(R116). -/
def Core.write (c : Core) (w : CoreWrite) : Core :=
  let x := c.form w.data
  let a := w.addr % bankWords
  let c := { c with acc := c.form (crc32cFeed (c.form c.acc) (toBytes 4 w.data.toNat)) }
  match w.port with
  | .sram => { c with sram := { addr := a, data := x, check := Config.secded x } :: c.sram.filter (·.addr != a) }
  | .registers => { c with regs := (w.addr, x) :: c.regs.filter (·.1 != w.addr) }
  | .publication => c

/-- A frame boundary: the accumulator starts at 0xFFFF_FFFF, in the core's own form (R116). -/
def Core.startFrame (c : Core) : Core := { c with acc := c.form 0xFFFFFFFF }

/-- The accumulator's true value: at the end of the commit, the frame signature (R116). -/
def Core.signature (c : Core) : Word := c.form c.acc

def Dev.onCores (f : Core → Core) (d : Dev) : Dev := { d with coreA := f d.coreA, coreB := f d.coreB }

/-- The core that evaluates half `h`; without split mode core A, whose true values core B's mirror (R115, R130). -/
def Dev.coreOf (d : Dev) : Half → Core
  | .a => d.coreA
  | .b => d.coreB

/-- The writes of a run of frame work: both cores make the same ones, in split mode the half's core alone. -/
def Dev.coreWrites (h : Half) (d : Dev) : Dev :=
  let ws := Config.frameWrites d.freeCtr
  let d := { d with freeCtr := d.freeCtr + 1 }
  let put := fun (c : Core) => ws.foldl Core.write c
  if !d.split then d.onCores put
  else match h with
    | .a => { d with coreA := put d.coreA }
    | .b => { d with coreB := put d.coreB }

/-- The end of a commit (R17): what the cores wrote, and the frame's work of the half has run. A re-run's commit clears
0x22 (R125). -/
def Dev.commit (h : Half) (d : Dev) : Dev :=
  if (d.node h).safe then d
  else ((d.coreWrites h).setWorked h true).clearF 0x22 d.coreKind (d.coreObj h) h

/-! ## The comparator (R116, R119, R120) -/

/-- Rows of Table COR-1, 1 to 6. -/
def CoreField.group : CoreField → Nat
  | .microAddress | .branchTaken | .stall => 1
  | .regEnable | .regAddress | .regData => 2
  | .sramEnable | .sramStrobe | .sramAddress | .sramData => 3
  | .gateRequests => 4
  | .publicationAddress | .publicationData => 5
  | .signature => 6

/-- Core B's form of the field. -/
def CoreField.complemented : CoreField → Bool
  | .regData | .sramData | .gateRequests | .publicationData | .signature => true
  | _ => false

/-- The bits of a field: single flags, 16 gate requests, words otherwise. -/
def CoreField.mask : CoreField → Word
  | .branchTaken | .stall | .regEnable | .sramEnable | .sramStrobe => 1
  | .gateRequests => 0xFFFF
  | _ => 0xFFFFFFFF

/-- Core B's value in true form. -/
def CoreField.trueOf (f : CoreField) (b : Word) : Word := (if f.complemented then ~~~ b else b) &&& f.mask

/-- R116: the field fails to match. -/
def CoreField.differs (f : CoreField) (a b : Word) : Bool := a &&& f.mask != f.trueOf b

/-- R119, R120, R130: only a device with two cores compares them; the first mismatch since power-on is recorded, core B's
value in true form. -/
def Dev.mismatch (f : CoreField) (a b : Word) (cyc : Nat) (d : Dev) : Dev :=
  if d.inReset || d.split || !f.differs a b then d
  else
    let mm : MmInfo := if d.mm.valid then d.mm
      else { valid := true, frame := d.frame, cycle := cyc, group := f.group, a := a &&& f.mask, b := f.trueOf b }
    ({ d with mm := mm }).safeAll 0x20 cyc

/-- LOCKSTEP_MISMATCH. -/
def execLockstepMismatch (f : CoreField) (coreA coreB : Word) (cyc : Nat) : State → Out := up (Dev.mismatch f coreA coreB cyc)

/-! ## Resync (R125, R126) -/

/-- A half whose cores run frame work. -/
def Dev.evaluates (d : Dev) (h : Half) : Bool :=
  d.halves.contains h && !d.boardTest && !(d.node h).safe && decide ((d.node h).sys ≠ .boot)

/-- Resyncs of the last 20 000 frames (R126). -/
def Dev.recentResyncs (d : Dev) (h : Half) : Nat := ((d.node h).cores.resyncFrames.filter fun f => d.ago f ≤ 20000).length

/-- R126: a second parity error in a frame, one during a restore, a fourth resync within 20 000 frames. -/
def Dev.resyncExceeded (d : Dev) (h : Half) (duringRestore : Bool) : Bool :=
  duringRestore || (d.node h).cores.reran || decide (3 ≤ d.recentResyncs h)

/-- Table REG-6: the resync counts, and the frame's work runs again. -/
def Cores.resynced (frame : Word) (c : Cores) : Cores :=
  { c with resyncTotal := satAdd 16 c.resyncTotal 1, resyncFrames := (frame :: c.resyncFrames).take 4, reran := true }

/-- R125, R288: commands of the abandoned run are executed again; their completions, this frame's and later ones, carry
REPLAYED. -/
def Dev.replayDone (h : Half) (d : Dev) : Dev :=
  let again := fun (j : HostCmd) => decide (d.halfOfPort j.port = h) && decide (j.ran = some d.frame)
  let mark := fun (p : Port) => { p with journal := mapIf again (fun j => { j with replayed := true }) p.journal }
  { d with
    port0 := mark d.port0, port1 := mark d.port1
    done := mapIf (fun c => (d.port c.1).journal.any fun j => j.tag == c.2.tag && again j) (fun c => (c.1, { c.2 with replayed := true })) d.done }

/-- R125: the re-run gives what the abandoned run gave; its commit clears 0x22. -/
def Dev.resync (h : Half) (d : Dev) : Dev :=
  let d := (d.raise 0x22 (d.coreKind) (d.coreObj h) h).onNode h fun n => { n with cores := n.cores.resynced d.frame }
  if d.worked h then (d.replayDone h).clearF 0x22 d.coreKind (d.coreObj h) h else d

/-- CORE_RESYNC: found at offset 4 µs at the earliest (R16). -/
def execCoreResync (half : Half) (duringRestore : Bool) (cyc : Nat) : State → Out :=
  up fun d =>
    if !d.evaluates half then d
    else if d.resyncExceeded half duringRestore then d.safeOf 0x23 half cyc
    else d.resync half

/-! ## Deadlines (R124) -/

/-- At offset 460 µs. -/
def execFrameWorkDeadline (half : Half) : State → Out :=
  up fun d => if d.evaluates half && !d.worked half then d.safeOf 0xB0 half 44160 else d

/-- At offset 496 µs. -/
def execCommitDeadline (half : Half) : State → Out :=
  up fun d => if d.evaluates half && !d.worked half then d.safeOf 0xB1 half 47616 else d

end Sys2Proof.Machine
end

