-- ==== Sys2Proof/Machine/Frame.lean ====
section
/-! DEFINITION. The frame's work in the order of R16 and the boundary that publishes it (01: R11 to R18; 07: R115, R122;
12: R226, R235, R237; 13: R249), with the meanings of FRAME_WORK, FRAME_BOUNDARY, RECORD and RECORD_MISSING. -/
namespace Sys2Proof.Machine

/-! ## What the closed frame brought -/

/-- What the conversions of the closed frame show of system `i` (R47, R48, R70). -/
def Dev.lookAt (d : Dev) (o : SysObs) : Dev :=
  let i := o.sys
  if !((d.sys i).defd || i == 32) || 32 < i || (d.node (d.halfOfSys i)).safe then d
  else
    let r := if i < 32 then d.observeSys i ((d.codePos + 62) % 63) o d.obs.vfld else (d, false)
    r.1.windowFrame i o r.2

/-- Overloads, source and input faults of the closed frame, then its conversions, for the halves `hs`. S32 is looked at
in every frame: without a probe run it shows no samples. -/
def Dev.lookAtFrame (hs : List Half) (d : Dev) : Dev :=
  let mine := fun (i : Nat) => hs.contains (d.halfOfSys i)
  let s32 : SysObs := match d.obs.systems.find? (·.sys == 32) with | some o => o | none => { sys := 32 }
  let d := (d.capClosed.overloads.filter mine).foldl (fun (d : Dev) i => d.raiseSys i 0x30) d
  let d := (d.capClosed.hwFaults.filter fun k => hs.contains k.half).foldl (fun (d : Dev) k => d.raiseHw k) d
  (((d.obs.systems.filter fun o => o.sys < 32) ++ [s32]).filter fun o => mine o.sys).foldl Dev.lookAt d

/-! ## Step 1 -/

/-- R16: ascending device time of the completing edge, then ascending point index. -/
def eventLe (x y : Option Nat × RawEvent) : Bool :=
  newer x.2.dtime y.2.dtime || (decide (x.2.dtime = y.2.dtime) && decide (x.2.point ≤ y.2.point))

def insertEvent (x : Option Nat × RawEvent) : List (Option Nat × RawEvent) → List (Option Nat × RawEvent)
  | [] => [x]
  | y :: ys => if eventLe y x then y :: insertEvent x ys else x :: y :: ys

def sortEvents (l : List (Option Nat × RawEvent)) : List (Option Nat × RawEvent) := l.foldl (fun acc x => insertEvent x acc) []

/-- An event leaves its point machine: on a member it takes an MTAG; its verdict is awaited where it is evaluated. -/
def Dev.noteEvent (h : Half) (waits : Bool) (c : Completed) (d : Dev) : RawEvent × Dev :=
  let n := d.node h
  let tag := if d.stackPos = 0 then 0 else n.nextMtag
  let d := if d.stackPos = 0 then d else d.setNode h { n with nextMtag := (n.nextMtag + 1) % 65536 }
  ({ c.ev with mtag := tag },
   if waits then d.onOwn h c.ev.point fun p => { p with waits := p.waits ++ [{ c.wait with mtag := tag }] } else d)

/-- Step 1 for one own point: 0x72 (R228), else its records; an overflow raises 0x40 all the same (R122). -/
def Dev.runOwn (d : Dev) (p : Point) : PointRun :=
  if d.dpx.pend72.contains p.cfg.index then { pt := p.disturb, fault := if d.runsPoint p.cfg then d.overflowed p else none }
  else if d.runsPoint p.cfg then d.pointFrame d.capClosed.edges p
  else { pt := p }

/-- Step 1: the own point machines; the events they complete. -/
def Dev.stepOne (h : Half) (waits : Bool) (d : Dev) : List RawEvent × Dev :=
  let runs := (d.ownPoints h).map d.runOwn
  let d := d.mapOwn h fun p => match runs.find? (·.pt.cfg.index == p.cfg.index) with | some r => r.pt | none => p
  let d := runs.foldl (fun (d : Dev) r => match r.fault with | some c => d.raisePt h r.pt.cfg.index c | none => d) d
  (runs.flatMap (·.evs)).foldl (fun (x : List RawEvent × Dev) c =>
    let r := x.2.noteEvent h waits c
    (x.1 ++ [r.1], r.2)) ([], d)

/-! ## Steps 2 to 4 -/

/-- The inputs of a node's evaluation: its own, or those of its partner's RECORD (R226). -/
structure FrameIn where
  events : List (Option Nat × RawEvent) := []
  states : List (Nat × PointState) := []
  verdicts : List (Nat × Option Word × Verdict) := []
  telegrams : List TakenTel := []
  commands : List RecCmd := []
  deriving DecidableEq, Repr

/-- R235: after an unmirrored frame ESEQ is advanced by 448 before a new event is numbered. -/
def Dev.skipNumbers (d : Dev) : Dev :=
  if d.dpx.skipSeq then
    ({ d with nodeA := { d.nodeA with journal := { d.nodeA.journal with nextSeq := d.nodeA.journal.nextSeq + 448 } } }).onDpx fun x =>
      { x with skipSeq := false }
  else d

/-- R92: the events of a frame take their numbers. -/
def Dev.numberAll (h : Half) (evs : List (Option Nat × RawEvent)) (d : Dev) : List AxleEvt × Dev :=
  evs.foldl (fun (x : List AxleEvt × Dev) e =>
    let r := x.2.skipNumbers.number h e.2 e.1
    (x.1 ++ [r.1], r.2)) ([], d)

/-- A point state of a RECORD reaches the mirror. -/
def Point.mirrorState (st : PointState) (p : Point) : Point :=
  match st with
  | .counting => p.recovered
  | .disturbed => p.disturb
  | .offline => { p with state := .offline }

/-- The event that a verdict belongs to: its number, or the point's oldest event whose verdict is pending. -/
def Journal.judged (pt : Nat) (q : Option Word) (j : Journal) : Option Word :=
  match q with
  | some q => some q
  | none =>
    let old := (j.entries ++ j.noSlot).filter fun e => e.point == pt && decide (e.verdict = .pending)
    (old.foldl (fun (b : Option Word) e => match b with
      | some q => if newer e.seq q then some e.seq else b
      | none => some e.seq) none)

/-- Steps 2 to 4 for a half, and the safe-input requests of step 5 in ascending input order. -/
def Dev.evaluate (h : Half) (x : FrameIn) (d : Dev) : Dev :=
  let d := x.states.foldl (fun (d : Dev) s => d.onNode h fun n => n.onPoint s.1 (Point.mirrorState s.2)) d
  let ev := d.numberAll h x.events
  let rem := ev.2.remoteFrame h (x.telegrams.map (·.tel))
  let own := x.verdicts.filterMap fun v => (((rem.2.node h).journal.judged v.1 v.2.1).map fun q => ({ eseq := q, verdict := v.2.2 } : VerdictIn))
  let d := own.foldl (fun (d : Dev) v => d.onNode h fun n => n.journalVerdict v.eseq v.verdict) rem.2
  d.sectionsFrame h (ev.1 ++ rem.1.evs) (own ++ rem.1.vs)

/-! ## Step 5 -/

def InputReq.input : InputReq → Nat
  | .reset i _ _ => i
  | .clear i _ => i

def insertReq (x : InputReq) : List InputReq → List InputReq
  | [] => [x]
  | y :: ys => if y.input ≤ x.input then y :: insertReq x ys else x :: y :: ys

/-- A press executes (R107, R150). -/
def Dev.doInput (h : Half) (d : Dev) (r : InputReq) : Dev :=
  match r with
  | .reset i s direct => (d.requestReset h s direct { source := 3, input := i }).2
  | .clear _ mask => ((List.range 8).filter mask.testBit).foldl (fun (d : Dev) n => (d.clearOutput n).2) d

def Dev.inputsFrame (h : Half) (d : Dev) : Dev :=
  let mine := d.capClosed.inputs.filter fun r => decide (d.halfOfInp r.input = h)
  (mine.foldl (fun acc r => insertReq r acc) []).foldl (Dev.doInput h) d

/-- R230: a command of the partner's RECORD executes on the mirror; it completes on the partner's ports. -/
def Dev.mirrorCmd (d : Dev) (c : RecCmd) : Dev :=
  let r := { d with done := [] }
  let hc : HostCmd := { port := c.port, opc := c.opc, tag := c.tag, index := c.index, data := c.data, par := c.par, nonce := c.nonce
                        frame := d.frame - 1 }
  let r := if c.opc = 0x33 then
      match d.rig.passed with
      | some g => if decide (g.serial = c.data) then r.onRig fun x => { x with actDue := some (g, []), actSource := .host } else r
      | none => r
    else if 0x20 ≤ c.opc && c.opc ≤ 0x24 then runCmd hc r else r
  { r with done := d.done }

/-! ## The end of a frame's work -/

/-- Step 6, what the journal, the line and the duplex role do with the frame. -/
def Dev.endWork (hs : List Half) (completed : Half → Bool) (d : Dev) : Dev :=
  let d := hs.foldl (fun (d : Dev) h => d.outputsFrame h) d
  let d := d.journalPressure
  let d := hs.foldl (fun (d : Dev) h => d.lineFrame h (completed h)) d
  d.handoverFrame

/-- Steps 5 and 6 for the inputs `x` of the halves `hs`. -/
def Dev.finish (hs : List Half) (x : Half → FrameIn) (d : Dev) : Dev :=
  let d := hs.foldl (fun (d : Dev) h => d.inputsFrame h) d
  let d := (x .a).commands.foldl Dev.mirrorCmd d
  ((d.cmdsFrame hs).activateFrame).endWork hs fun h => (x h).events.any fun e => match (d.node h).point e.2.point with | some p => p.published | none => false

/-- Point states of local and member points that changed since the last frame's work. -/
def Dev.stateChanges (d : Dev) : List (Nat × PointState) :=
  ((d.ownPoints .a).filter fun p => decide (p.cfg.kind ≠ .remote)).filterMap fun p =>
    let now := (p.cfg.index, p.state)
    if d.dpx.shown.contains now then none else some now

/-- The point results of a frame (Table DPX-3a), kept with those of the frame before (R228). -/
def Dev.noteResults (evs : List RawEvent) (vs : List (Nat × Verdict)) (d : Dev) : Dev :=
  let st := d.stateChanges
  let now := ((d.ownPoints .a).filter fun p => decide (p.cfg.kind ≠ .remote)).map fun p => (p.cfg.index, p.state)
  d.onDpx fun x => { x with
    prevResults := x.results, prevShown := x.shown, shown := now, pend72 := []
    results := evs.map PointResult.event ++ st.map (fun s => .state s.1 s.2) ++ vs.map fun v => .verdict v.1 v.2 }

/-! ## FRAME_WORK -/

/-- The inputs of half `h` of a unit that evaluates on its own, and the device after steps 1 and 2. -/
def Dev.ownInputs (h : Half) (waits : Bool) (d : Dev) : FrameIn × Dev :=
  let one := d.stepOne h waits
  let two := if h = .a then one.2.memberFrame waits else ([], [], one.2)
  let local_ := one.1.map fun e => (none, e)
  let member := two.1.map fun e => (some e.1, e.2)
  let vs := (d.capClosed.verdicts.filter fun v => decide (v.1 = h)).map (·.2)
  ({ events := sortEvents (local_ ++ member), verdicts := vs ++ two.2.1
     telegrams := (d.capClosed.telegrams.filter fun t => decide (t.1 = h)).map (·.2) }, two.2.2)

/-- R249: a member's results go into its next UP. -/
def Dev.memberWork (d : Dev) : Dev :=
  let x := d.ownInputs .a true
  let vs := x.1.verdicts.map fun v => ((v.2.1.getD 0).toNat, v.2.2)
  let d := x.2.onHal fun y => { y with upEvents := y.upEvents ++ x.1.events.map (·.2), upVerdicts := y.upVerdicts ++ vs }
  (d.cmdsFrame [.a]).endWork [.a] fun _ => false

/-- R235: from the first unmirrored frame after a mirrored one. -/
def Dev.armSkip (d : Dev) : Dev :=
  if d.dpx.mirror then d.onDpx fun x => { x with mirror := false, skipSeq := true, skipTx := true } else d

/-- A unit, a device or a half that evaluates its own inputs; an OFFLINE unit of a pair runs its own point machines and
its commands only (Table DPX-1). -/
def Dev.soleWork (hs : List Half) (d : Dev) : Dev :=
  let idle := d.hasDuplex && decide (d.dpx.role = .offline)
  let d := d.armSkip
  let xs := hs.foldl (fun (x : List (Half × FrameIn) × Dev) h =>
    let r := x.2.ownInputs h (!idle)
    (x.1 ++ [(h, r.1)], r.2)) ([], d)
  let of := fun h => match xs.1.find? (fun x => decide (x.1 = h)) with | some x => x.2 | none => {}
  let a := of .a
  let d := xs.2.noteResults (a.events.map (·.2)) (a.verdicts.map fun v => (v.1, v.2.2))
  let d := d.onDpx fun x => { x with recTel := a.telegrams, recCmds := [] }
  if idle then (d.cmdsFrame hs).activateFrame.journalPressure
  else (hs.foldl (fun (d : Dev) h => d.evaluate h (of h)) d).finish hs of

/-- A mirroring unit runs its shadow; its frame goes on with RECORD, or without it (R226, R235). -/
def Dev.shadowWork (d : Dev) : Dev :=
  let x := d.ownInputs .a true
  let d := x.2.noteResults (x.1.events.map (·.2)) (x.1.verdicts.map fun v => (v.1, v.2.2))
  d.onDpx fun y => { y with awaitRecord := true, recTel := x.1.telegrams, recCmds := [] }

/-- R254: a member executes what its master forwards. -/
def State.forwarded (s : State) (f : Fwd) : State :=
  let answer := fun (st : Status) (v : Word) (d : Dev) => d.onHal fun x => { x with upReplies := x.upReplies ++ [(f.rtag, st, v)] }
  match f.op with
  | .read i => s.lift (answer .ok (s.bank.readReg 0 i))
  | .holdoff i set => s.lift fun d => if d.mayCal then answer .ok 0 (d.holdoff i set) else answer .denied 0 d
  | .cal t gain offset clear => s.lift fun d =>
    if !d.mayCal || !(clear || calInBounds t gain offset) then answer .denied 0 d
    else answer .ok 0 (d.applyCal t (if clear then clearCal t d.store.cal else setCal { target := t, gain, offset } d.store.cal))

/-- The half whose core runs the work; without split mode the whole device. -/
def Dev.workHalf (w : WorkObs) (d : Dev) : Half := if d.split then w.half else .a

/-- A half's frame work runs: out of the internal reset, BOOT and the safe state, not yet run in this frame. -/
def Dev.mayWork (h : Half) (d : Dev) : Bool := !d.inReset && d.evaluates h && !d.worked h && !d.dpx.awaitRecord

/-- The frame's work of half `h` (R16, R115, R130). -/
def State.workOf (h : Half) (w : WorkObs) (s : State) : State :=
  let s := s.lift fun d =>
    let d := ({ d with inWork := true, workWaits := none }.onLog fun l => { l with writeFails := w.progFails }).shutFrame.lookAtFrame [h]
    let d := if d.probe.half = h then d.probeFrame else d
    if d.mirrors then d.shadowWork else if d.stackMember then d.memberWork else d.soleWork [h]
  let reqs := s.dev.hal.fwdIn
  let s := reqs.foldl State.forwarded (s.lift (Dev.onHal fun x => { x with fwdIn := [] }))
  (s.storeFrame).lift fun d => { (if d.dpx.awaitRecord then d else d.commit h) with inWork := false }

/-- A run of frame work; an access that meets an uncorrectable word enters the safe state (R128, R132). -/
def State.frameWork (w : WorkObs) (s : State) : State :=
  match w.sramBad with
  | some x => s.lift fun d => if x.2 then d.safeAll 0x21 x.1 else d.safeOf 0x21 (d.workHalf w) x.1
  | none => s.workOf (s.dev.workHalf w) w

/-- FRAME_WORK (R16): on a stack master it waits for the halyard exchange to close. -/
def execFrameWork (w : WorkObs) (s : State) : Out :=
  .next (
    if !s.dev.mayWork (s.dev.workHalf w) then s
    else if s.dev.stackMaster && !s.dev.hal.exClosed then s.lift fun d => { d with workWaits := some w }
    else s.frameWork w)

/-- HALYARD_EXCHANGE_CLOSE (R16, R248): the frame work that waits for it goes on. -/
def execHalyardExchangeClose (s : State) : Out :=
  if s.dev.inReset then .next s
  else
    let t := s.lift Dev.closeExchange
    .next (match t.dev.workWaits with
      | some w => if t.dev.mayWork (t.dev.workHalf w) then t.frameWork w else t
      | none => t)

/-! ## RECORD and RECORD_MISSING -/

/-- The member that a point of the rig belongs to (R93). -/
def Dev.memberOf (d : Dev) (i : Nat) : Option Nat :=
  match d.nodeA.point i with
  | some p => if p.cfg.kind = .member then some p.cfg.stackpos else none
  | none => none

/-- The inputs that a RECORD carries (R408), its events under the shared timebase. -/
def Dev.recordInputs (d : Dev) (m : RecordMsg) : FrameIn :=
  { events := m.results.filterMap fun r => match r with | .event e => some (d.memberOf e.point, d.rebuild e) | _ => none
    states := m.results.filterMap fun r => match r with | .state p s => some (p, s) | _ => none
    verdicts := m.results.filterMap fun r => match r with | .verdict p v => some (p, none, v) | _ => none
    telegrams := m.telegrams, commands := m.commands }

/-- Steps 2 to 6 on the mirror. -/
def Dev.mirrorWork (x : FrameIn) (d : Dev) : Dev :=
  let d := { d.onDpx (fun y => { y with awaitRecord := false }) with inWork := true }
  let d := (d.evaluate .a x).finish [.a] fun h => if h = .a then x else {}
  { d.commit .a with inWork := false }

/-- The frame ends for a unit that has just left sync: its commands, nothing evaluated. -/
def Dev.leftSync (d : Dev) : Dev :=
  if !d.dpx.awaitRecord then d
  else
    let d := { d.onDpx (fun y => { y with awaitRecord := false }) with inWork := true }
    { ((d.cmdsFrame [.a]).activateFrame).commit .a with inWork := false }

/-- R226: the partner's signature of the previous frame differs from the own one. -/
def Dev.signatureFails (d : Dev) : Dev :=
  let d := if d.unitFault 0x74 then d else d.raiseUnit 0x74
  if d.dpx.role = .syncing then d.failSync else d.leaveSync.partnerGone

/-- R237, step 3: one queued RECORD; its signature is that of the frame before it. -/
def Dev.catchUp (d : Dev) (m : RecordMsg) : Dev :=
  if d.dpx.role ≠ .syncing then d
  else if d.dpx.progress ≠ 0 && m.signature ≠ d.nodeA.cores.sig then d.signatureFails
  else
    let d := d.mirrorWork (d.recordInputs m)
    ((d.onNode .a fun n => { n with cores := { n.cores with sig := d.coreA.signature } }).onCores Core.startFrame).onDpx fun x => { x with progress := 1 }

/-- R237, step 3: the current RECORD and up to two queued ones, oldest first; with none left the unit has caught up. -/
def Dev.catchUpFrame (m : RecordMsg) (d : Dev) : Dev :=
  let q := d.dpx.queue ++ [m]
  let d := (q.take 3).foldl Dev.catchUp (d.onDpx fun x => { x with queue := q.drop 3 })
  if decide (d.dpx.role = .syncing) && d.dpx.queue.isEmpty then d.onDpx fun x => { x with step := 3, progress := 0 } else d

/-- RECORD on a unit that mirrors. -/
def Dev.takeRecord (m : RecordMsg) (d : Dev) : Dev :=
  let d := d.onDpx fun x => { x with partnerHandover := m.handover }
  if d.dpx.role = .syncing && d.dpx.step = 1 then
    (d.onDpx fun x => { x with queue := x.queue ++ [m] }).leftSync
  else if d.dpx.role = .syncing && d.dpx.step = 2 then
    let d := d.catchUpFrame m
    d.leftSync
  else if m.signature ≠ d.nodeA.cores.sig then d.signatureFails.leftSync
  else
    -- R237, step 4: 2 000 consecutive frames without a disagreement
    let again := decide (d.dpx.role = .syncing) && d.shadowDiffers m.results
    let d := d.onDpx fun x => { x with mirror := true, unmirrored := 0, skipSeq := false, skipTx := false
                                       progress := if again then 0 else if x.role = .syncing then x.progress + 1 else x.progress }
    d.mirrorWork (d.recordInputs m)

/-- The window of RECORD, 140 µs to 190 µs (Table DPX-3). -/
def inRecordWindow (cyc : Nat) : Bool := decide (140 * 96 ≤ cyc) && decide (cyc ≤ 190 * 96)

/-- R224: a RECORD that freezes the link. -/
def Dev.badRecord (m : LinkMsg) (cyc : Nat) (d : Dev) : Bool :=
  !inRecordWindow cyc || (d.aligned && decide (m.frame ≠ d.frame)) || (!d.dpx.pclaim && !d.dpx.partnerHandover)

/-- RECORD (R223, R224, R226, R237, R246): its bytes, ending at cycle `cyc` of the frame. -/
def execTwinRecord (bytes : List Byte) (cyc : Nat) : State → Out :=
  up fun d =>
    if !d.pair || d.dpx.frozen then d
    else match linkOf bytes with
      | none => d.twinBad
      | some m =>
        if m.epoch ≠ d.dpx.epoch then d
        else if m.type ≠ 0x12 then (if twinTypes.contains m.type then d else d.freezeTwin.leftSync)
        else if d.badRecord m cyc then d.freezeTwin.leftSync
        else match recordOf (d.lineRec .a).key m with
          -- a payload that Table DPX-3a does not allow is an undefined message (DEDUCED, log 123)
          | none => d.freezeTwin.leftSync
          | some r =>
            let d := d.onDpx fun x => { x with bad := 0 }
            if d.mirrors && d.dpx.awaitRecord then d.takeRecord r else d

/-- R235: the results of the own shadow, the own telegrams. -/
def Dev.shadowInputs (d : Dev) : FrameIn := d.recordInputs { results := d.dpx.results, telegrams := d.dpx.recTel }

/-- RECORD_MISSING (R235, R238): in STANDBY, or in the frame in which a STANDBY has claimed. -/
def execRecordMissing : State → Out :=
  up fun d =>
    if !d.pair || !d.dpx.awaitRecord then d
    else if d.dpx.role = .syncing then (if d.dpx.step = 1 then d.leftSync else d.failSync.leftSync)
    else
      let n := d.dpx.unmirrored + 1
      let d := d.armSkip.onDpx fun x => { x with unmirrored := n, unmirr := x.unmirr + 1 }
      if d.dpx.role = .standby && 2 ≤ n && d.dpx.pclaim then
        ((if d.unitFault 0x71 then d else d.raiseUnit 0x71).leaveSync.partnerGone).leftSync
      else if d.dpx.role = .standby || d.dpx.role = .solo || d.dpx.role = .active then
        d.mirrorWork d.shadowInputs
      else d.leftSync

/-! ## FRAME_BOUNDARY: what the boundary does with one object -/

/-- A system at the boundary: the open frame closes (R15, R46, R65, R90, R122). -/
def Sys.closeFrame (off : Bool) (pos : Nat) (s : Sys) : Sys :=
  { s with
    obsChip := s.chip, obsProof := s.proof, obsBlank := s.blank, obsValid := s.onWhole && !off, obsOff := off
    chip := false, proof := false, blank := false, onWhole := decide (s.mode = .on) || decide (s.mode = .chip)
    overflowClosed := s.overflow, overflow := false, noisyClosed := s.noisy, noisy := false, captured := 0
    occFrame := s.occSeen || s.occ, occSeen := s.occ
    proofWait := s.proofWait || pos == (2 * s.id + 1) % 63 }

/-- The published readings of a system (Table ARR-4). -/
def Sys.convert (vfld : Nat) (o : SysObs) (s : Sys) : Sys :=
  let code := match o.samples.getLast? with | some x => x.code | none => s.lastCode
  { s with node := nodeClassOf o.nodeV vfld, lastCode := code, lastCur := currentOf s.cfg.shunt code
           band := s.cfg.band (currentOf s.cfg.shunt code) }

/-- An output at the boundary: the classes of the complete frame, the requests applied (R18, R150, R151, R234). -/
def Output.closeFrame (apply : Bool) (nodes : List (Nat × Nat)) (o : Output) : Output :=
  { (if apply then o.applyReq o.reqHi o.reqLo else o) with
    hiLast := o.hiCls, loLast := o.loCls
    lowRun := if o.nonLow || !offLevel o.hiCls o.loCls then 0 else satAdd 16 o.lowRun 1
    nonLow := !offLevel o.hiCls o.loCls, hold := o.hold && !apply
    ohsV := ((nodes[o.id]?).map (·.1)).getD o.ohsV, olsV := ((nodes[o.id]?).map (·.2)).getD o.olsV
    pulse := o.pulse.map fun p => { p with framesLeft := p.framesLeft - 1 } }

/-- Sections whose state differs from the bank's changed with this update (SA_CHANGE). -/
def Node.closeFrame (frame : Word) (n before : Node) : Node :=
  let n := { n with sections := n.sections.map fun s => match before.sect s.cfg.index with
    | some b => if b.state = s.state then s else { s with change := frame }
    | none => s }
  before.noteChanges n

/-- Table WIN-3: the idle bias that the frame's line conversions show, and the least since the last telemetry
record (LIN_BIAS, R376; log 76). -/
def LinePhys.noteBias (v : Nat) (p : LinePhys) : LinePhys :=
  { p with biasNow := v, biasMin := if p.biasSeen then min p.biasMin v else v, biasSeen := true }

/-- The bias of both lines of a half that has a line. -/
def Dev.noteBias (obs : FrameObs) (d : Dev) (h : Half) : Dev :=
  if d.hasLine h then d.onLine h fun l => { l with lineA := l.lineA.noteBias obs.biasA, lineB := l.lineB.noteBias obs.biasB } else d

/-- COR_SIG and COR_WORK of the published frame (R116, R374): the cycles that the closing frame's work took. -/
def Dev.closeCores (obs : FrameObs) (d : Dev) (h : Half) : Dev :=
  let cycles := if h = .b then obs.workCyclesB else obs.workCycles
  if !d.worked h then d
  else d.onNode h fun n => { n with cores := { n.cores with
    sig := (d.coreOf h).signature, workLast := cycles, workMax := max n.cores.workMax cycles, reran := false } }

/-! ## FRAME_BOUNDARY: the parts of the update -/

/-- R11, R44, R225: the frame number, device time and the code position advance; a member that a grant has named steps
them to its master's (R252). -/
def Dev.advance (lead : Int) (d : Dev) : Dev :=
  let adj : Int := if d.mirrors then (if 0 < lead then -1 else if lead < 0 then 1 else 0) else 0
  let at_ : Word × DTime × Nat := match d.hal.stepTo with
    | some g => (g.frame, g.dt, g.codePos)
    | none => (d.frame, d.dt, d.codePos)
  { d with frame := at_.1 + 1, dt := at_.2.1 + BitVec.ofInt 48 (500 + adj), shortFrame := adj, codePos := (at_.2.2 + 1) % 63
           hal := { d.hal with stepTo := none }
           systems := d.systems.map fun (s : Sys) => { s with dischLeft := s.dischLeft - 1 } }

/-- The samples of a frame that began at `start` µs lie at hold instants, device times that are multiples of 16 µs
(R68); S32 is converted while the probe runs (Table WIN-3). -/
def FrameObs.held (start : Nat) (probing : Bool) (o : FrameObs) : FrameObs :=
  { o with systems := (o.systems.filter fun x => x.sys ≠ 32 || probing).map fun x =>
      { x with samples := x.samples.filter fun y => (start + y.off) % 16 == 0 } }

/-- The capture sets, the systems and the outputs (R15, R18, R82). -/
def Dev.closeField (obs : FrameObs) (d : Dev) : Dev :=
  let e := d.splitEdges (d.stamp 0) d.frame
  let apply := fun (o : Output) => d.worked (d.halfOfOut o.id) && !d.dpx.handover && !d.dpx.hold
  let off := d.offPulse
  let obs := obs.held d.closedStart d.probe.run.isSome
  let next := { d with
    dpx := { d.dpx with handover := (d.dpx.handover && d.dpx.hold) || d.dpx.handNext, handNext := false }
    outputs := d.outputs.map fun (o : Output) => { o with slotOn := o.pulsable } }
  let d := { next with
    obs := obs, vfldLow := if obs.vfld ≤ 880 then d.frame else d.vfldLow
    capClosed := { d.capOpen with edges := e.1 }, capOpen := { edges := e.2 }
    systems := d.systems.map fun (s : Sys) => (match obs.systems.find? (fun (o : SysObs) => o.sys == s.id) with
      | some o => s.convert obs.vfld o
      | none => s).closeFrame off d.codePos
    offPulse := next.offPulseFrame d.frame
    outputs := next.outputs.map fun (o : Output) => o.closeFrame (apply o) obs.outNodes }
  { d with codeA := d.mayCode .a, codeB := d.mayCode .b }

/-- The twin link's and the halyard's part: what the frame's work left for the exchanges of the frame that opens. -/
def Dev.closeLinks (d : Dev) : Dev :=
  let floating := match d.rigPart .a with | some p => (match p.duplex with | some x => x.val.floating | none => true) | none => true
  let d := d.onDpx fun x => { x with awaitRecord := false
                                     pinnedAway := !floating && d.position == 1 && decide (x.role = .active) }
  d.onHal fun x => { x with
    outEvents := x.outEvents ++ x.upEvents, outVerdicts := x.outVerdicts ++ x.upVerdicts, upEvents := [], upVerdicts := [], exClosed := false
    outProbe := d.probe.run.map fun r => { k := d.probe.k, t0 := r.t0, offset := r.offset, news := d.probe.news } }

/-- R90: a frame that published a point as DISTURBED has passed. -/
def Point.closeFrame (p : Point) : Point := { p with entered := p.entered - 1, fresh := false }

def Dev.closePoints (d : Dev) : Dev :=
  let d := d.live.foldl (fun (d : Dev) h => d.onNode h fun n => { n with points := n.points.map Point.closeFrame }) d
  d.onDpx fun x => { x with shadow := x.shadow.map Point.closeFrame }

/-- R266: the supply sweep begins at the first boundary with code position 0. -/
def Dev.startSweep (d : Dev) : Dev :=
  if d.sweepFrame = none ∧ d.codePos = 0 ∧ d.inPhase .sweep .selftest then { d with sweepFrame := some d.frame } else d

/-- R268, R269, R344 and Table BAL-3: joins, the system states, FAULT_N and HBEAT. -/
def Dev.closeStates (d : Dev) : Dev :=
  let d := d.live.foldl Dev.tryService d
  let d := d.live.foldl (fun (d : Dev) h =>
    if (d.node h).sys.inService then d.onNode h fun n => { n with sys := d.serviceState h } else d) d
  let up := d.faultNLevel
  let d := if d.live.any (fun h => decide ((d.node h).sys = .verify) || (d.node h).sys.inService) then d.onBgw (Bgw.start d.frame) else d
  { d with faultN := up, hbeat := up && !d.hbeat }

/-- R332: a correction waits for the boundary that applies it. -/
def Bgw.applyCorrection (b : Bgw) : Bgw :=
  match b.corPending with
  | some c => { b with corOffset := c.1, corGain := c.2, corPending := none, calAge := 0 }
  | none => { b with calAge := satAdd 16 b.calAge 1 }

/-- Background work at the boundary: calibration, telemetry, the store's copy B (R321). -/
def Dev.closeJobs (d : Dev) : Dev :=
  let d := d.onBgw fun b => { b.applyCorrection with slackRan := false, dacNext := (b.dacNext + 2) % 99 }
  let d := (d.onStore Store.copyB).onLog fun l => { l with programmed := false, storeWrite := false, writeFails := 0 }
  d.rigDistribution.telemetryDue

/-- The device side of the boundary up to the host ports; `before` is the bank that closes. -/
def Dev.close (obs : FrameObs) (lead : Int) (before d : Dev) : Dev :=
  let d := (d.advance lead).closeField obs
  let d := (d.live.foldl (Dev.closeCores obs) d).onCores Core.startFrame
  let d := d.live.foldl (Dev.noteBias obs) d
  let d := d.closeLinks.closePoints.startSweep.closeStates.settleSources
  let d := d.live.foldl (fun (d : Dev) h => d.onNode h fun n => (n.disturbSections d.frame).closeFrame d.frame (before.node h)) d
  let d := d.closeJobs
  { d with workDone := false, workDoneB := false, workWaits := none, faults := d.faults.publish d.frame d.dt }.driveGates

/-- R282: WRITEs take effect, READs complete, completions are delivered, interrupts follow. -/
def State.closePorts (s : State) : State :=
  let s := s.lift Dev.updateWrites
  let reads := s.dev.pendingOf 0x01
  let s := (reads.foldl State.updateRead s).lift Dev.deliver
  let s := reads.foldl State.fillRead s
  s.lift (Dev.setCauses s.bank)

/-- R346: the bank in force when a half's safe state began stays in force for it. -/
def State.freezeBanks (s : State) : State :=
  { s with
    frozenA := if s.dev.nodeA.safe && s.frozenA.isNone then some s.bank else s.frozenA
    frozenB := if s.dev.nodeB.safe && s.frozenB.isNone then some s.bank else s.frozenB }

/-- The bank swap at offset 2 µs (R18, R156, R164): a probe that fails there no longer stops it. -/
def State.swap (s : State) : State :=
  let d := s.dev.probeSwap
  let s' := { s with dev := d, prev := s.bank, bank := if d.live = s.dev.live then d else s.dev }
  s'.freezeBanks

/-- R12, in ns. -/
def tickOk (ns : Nat) : Bool := 900 ≤ ns && ns ≤ 1100

/-- FRAME_BOUNDARY: in the safe state only the timebase goes on (R346). -/
def State.boundary (obs : FrameObs) (lead : Int) (s : State) : State :=
  if s.dev.inReset then s
  else
    let s := s.freezeBanks
    let still := fun (s : State) => { s with dev := s.dev.advance lead, prev := s.bank }
    if s.dev.allSafe then still s
    else if !tickOk obs.tickNs then { (still s).lift (Dev.safeAll 0x14 0) with prev := s.bank } |>.freezeBanks
    else ((s.lift (Dev.close obs lead s.bank)).closePorts).swap

def execFrameBoundary (obs : FrameObs) (lead : Int) (s : State) : Out := .next (s.boundary obs lead)

end Sys2Proof.Machine
end

