-- ==== Sys2Proof/Machine/Dispatch.lean ====
section
/-! DEFINITION. What each command does: one arm per constructor of Instr, one call of its meaning. -/
namespace Sys2Proof.Machine

def exec (i : Instr) (s : State) : Host.Outcome State Fault Refusal :=
  match i with
  -- supplies, reset, straps, test access (02, 14)
  | .vsupPowerOnReset => Sys2Proof.Machine.execVsupPowerOnReset s
  | .internalResetRelease rails => Sys2Proof.Machine.execInternalResetRelease rails s
  | .resetNAssert => Sys2Proof.Machine.execResetNAssert s
  | .resetNRelease => Sys2Proof.Machine.execResetNRelease s
  | .vsupBrownOut cyc => Sys2Proof.Machine.execVsupBrownOut cyc s
  | .vioBrownOut cyc => Sys2Proof.Machine.execVioBrownOut cyc s
  | .vfldUndervoltage => Sys2Proof.Machine.execVfldUndervoltage s
  | .vfldUndervoltageRecovery => Sys2Proof.Machine.execVfldUndervoltageRecovery s
  | .vfldOvervoltage cyc => Sys2Proof.Machine.execVfldOvervoltage cyc s
  | .pllLockLost cyc => Sys2Proof.Machine.execPllLockLost cyc s
  | .strapLatch attempts => Sys2Proof.Machine.execStrapLatch attempts s
  | .strapReread raw => Sys2Proof.Machine.execStrapReread raw s
  | .tmodeHighAfterLatch cyc => Sys2Proof.Machine.execTmodeHighAfterLatch cyc s
  | .testAccessInstruction ir drive => Sys2Proof.Machine.execTestAccessInstruction ir drive s
  -- frame and cores (01, 07)
  | .frameBoundary obs lead => Sys2Proof.Machine.execFrameBoundary obs lead s
  | .frameWork w => Sys2Proof.Machine.execFrameWork w s
  | .frameWorkDeadline half => Sys2Proof.Machine.execFrameWorkDeadline half s
  | .commitDeadline half => Sys2Proof.Machine.execCommitDeadline half s
  | .lockstepMismatch field coreA coreB cyc => Sys2Proof.Machine.execLockstepMismatch field coreA coreB cyc s
  | .coreResync half duringRestore cyc => Sys2Proof.Machine.execCoreResync half duringRestore cyc s
  | .backgroundSlack obs => Sys2Proof.Machine.execBackgroundSlack obs s
  -- head supply (03)
  | .scheduledBlankingStart => Sys2Proof.Machine.execScheduledBlankingStart s
  | .supplyTestPulse => Sys2Proof.Machine.execSupplyTestPulse s
  | .supplyTestPulseEnd => Sys2Proof.Machine.execSupplyTestPulseEnd s
  | .scheduledBlankingEnd sys cyc => Sys2Proof.Machine.execScheduledBlankingEnd sys cyc s
  | .codePeriodEnd => Sys2Proof.Machine.execCodePeriodEnd s
  | .hsupOverload sys => Sys2Proof.Machine.execHsupOverload sys s
  | .hsupOverloadRetry sys => Sys2Proof.Machine.execHsupOverloadRetry sys s
  | .hsupDischargeEnd sys => Sys2Proof.Machine.execHsupDischargeEnd sys s
  -- window monitors and classifier (04)
  | .comparatorEdge sys cmp level cyc => Sys2Proof.Machine.execComparatorEdge sys cmp level cyc s
  | .edgeBlankingEnd sys cmp cyc => Sys2Proof.Machine.execEdgeBlankingEnd sys cmp cyc s
  | .rewriteMaskEnd sys cyc => Sys2Proof.Machine.execRewriteMaskEnd sys cyc s
  | .bandTimeout sys short cyc => Sys2Proof.Machine.execBandTimeout sys short cyc s
  | .windowFaultRecovery sys code => Sys2Proof.Machine.execWindowFaultRecovery sys code s
  | .classifierVerdict half point a b cyc => Sys2Proof.Machine.execClassifierVerdict half point a b cyc s
  | .baselineFaultRecovery sys => Sys2Proof.Machine.execBaselineFaultRecovery sys s
  | .bandExcursionEnd sys cyc => Sys2Proof.Machine.execBandExcursionEnd sys cyc s
  -- points and sections (05, 06)
  | .pointRecovery half point => Sys2Proof.Machine.execPointRecovery half point s
  | .remotePointOfflineTimeout half point => Sys2Proof.Machine.execRemotePointOfflineTimeout half point s
  | .verdictOverdue half sect => Sys2Proof.Machine.execVerdictOverdue half sect s
  | .resetInputStuck input => Sys2Proof.Machine.execResetInputStuck input s
  | .resetInputReleased input => Sys2Proof.Machine.execResetInputReleased input s
  | .resetArmExpiry half sect => Sys2Proof.Machine.execResetArmExpiry half sect s
  -- outputs and inputs (08)
  | .outputNodeClassChange out high cls cyc => Sys2Proof.Machine.execOutputNodeClassChange out high cls cyc s
  | .outputLevelTimeout out => Sys2Proof.Machine.execOutputLevelTimeout out s
  | .outputLevelLost out cyc => Sys2Proof.Machine.execOutputLevelLost out cyc s
  | .outputOffNodeTimeout out cyc => Sys2Proof.Machine.execOutputOffNodeTimeout out cyc s
  | .edmTimeout out => Sys2Proof.Machine.execEdmTimeout out s
  | .offPulseStart out low before after otherStayed => Sys2Proof.Machine.execOffPulseStart out low before after otherStayed s
  | .offPulseEnd out low otherStayed hi lo => Sys2Proof.Machine.execOffPulseEnd out low otherStayed hi lo s
  | .proofDueWarning out => Sys2Proof.Machine.execProofDueWarning out s
  | .proofIntervalExpiry out => Sys2Proof.Machine.execProofIntervalExpiry out s
  | .safeInputEdge input on cyc => Sys2Proof.Machine.execSafeInputEdge input on cyc s
  | .inputFilteredEdge input => Sys2Proof.Machine.execInputFilteredEdge input s
  | .tpsPulseStart src => Sys2Proof.Machine.execTpsPulseStart src s
  | .tpsPulseEnd src high low raw => Sys2Proof.Machine.execTpsPulseEnd src high low raw s
  | .inputFaultRecovery source idx => Sys2Proof.Machine.execInputFaultRecovery source idx s
  -- probe (09)
  | .probeRunStart => Sys2Proof.Machine.execProbeRunStart s
  | .probeRampStart rising cyc => Sys2Proof.Machine.execProbeRampStart rising cyc s
  | .probeStarved => Sys2Proof.Machine.execProbeStarved s
  -- line signalling and telegrams (10, 11)
  | .slotStart half slot echo cyc => Sys2Proof.Machine.execSlotStart half slot echo cyc s
  | .slotGateClose half cyc => Sys2Proof.Machine.execSlotGateClose half cyc s
  | .biasCheck half line high => Sys2Proof.Machine.execBiasCheck half line high s
  | .commonModeFault half line => Sys2Proof.Machine.execCommonModeFault half line s
  | .lineSuspensionEnd half line => Sys2Proof.Machine.execLineSuspensionEnd half line s
  | .lineFaultRecovery half code line => Sys2Proof.Machine.execLineFaultRecovery half code line s
  | .wakeDetected half a b cyc => Sys2Proof.Machine.execWakeDetected half a b cyc s
  | .wakeRetry half cyc => Sys2Proof.Machine.execWakeRetry half cyc s
  | .beacon half copies => Sys2Proof.Machine.execBeacon half copies s
  | .dataTelegram half copies => Sys2Proof.Machine.execDataTelegram half copies s
  | .joinTelegram half copies => Sys2Proof.Machine.execJoinTelegram half copies s
  | .beaconSend half echo => Sys2Proof.Machine.execBeaconSend half echo s
  | .missedBeaconTimeout half cyc => Sys2Proof.Machine.execMissedBeaconTimeout half cyc s
  | .reefQuietTimeout half => Sys2Proof.Machine.execReefQuietTimeout half s
  | .telegramFaultRecovery half code line => Sys2Proof.Machine.execTelegramFaultRecovery half code line s
  | .invalidCopy half line copy => Sys2Proof.Machine.execInvalidCopy half line copy s
  -- duplex (12)
  | .shroudValidPair cyc => Sys2Proof.Machine.execShroudValidPair cyc s
  | .claimAbsent cyc => Sys2Proof.Machine.execClaimAbsent cyc s
  | .claimReadbackFail => Sys2Proof.Machine.execClaimReadbackFail s
  | .arbitrationWaitEnd => Sys2Proof.Machine.execArbitrationWaitEnd s
  | .contentionTimeout => Sys2Proof.Machine.execContentionTimeout s
  | .hello m => Sys2Proof.Machine.execHello m s
  | .twinRecord bytes cyc => Sys2Proof.Machine.execTwinRecord bytes cyc s
  | .shadow m => Sys2Proof.Machine.execShadow m s
  | .transfer m => Sys2Proof.Machine.execTransfer m s
  | .recordMissing => Sys2Proof.Machine.execRecordMissing s
  | .holdStart => Sys2Proof.Machine.execHoldStart s
  | .holdEnd => Sys2Proof.Machine.execHoldEnd s
  | .resyncComplete => Sys2Proof.Machine.execResyncComplete s
  | .resyncRetry => Sys2Proof.Machine.execResyncRetry s
  | .duplexFaultRecovery code out => Sys2Proof.Machine.execDuplexFaultRecovery code out s
  | .twinLinkLost => Sys2Proof.Machine.execTwinLinkLost s
  | .invalidTwinMessage bytes => Sys2Proof.Machine.execInvalidTwinMessage bytes s
  | .twinLinkExchange => Sys2Proof.Machine.execTwinLinkExchange s
  -- halyard (13)
  | .down fwd rev => Sys2Proof.Machine.execDown fwd rev s
  | .up member fwd rev => Sys2Proof.Machine.execUp member fwd rev s
  | .joinReq m => Sys2Proof.Machine.execJoinReq m s
  | .bulk block face data last => Sys2Proof.Machine.execBulk block face data last s
  | .halyardExchange => Sys2Proof.Machine.execHalyardExchange s
  | .memberSubSlot => Sys2Proof.Machine.execMemberSubSlot s
  | .halyardExchangeClose => Sys2Proof.Machine.execHalyardExchangeClose s
  | .joinGrantTimeout member => Sys2Proof.Machine.execJoinGrantTimeout member s
  | .ringDirectionRecovery => Sys2Proof.Machine.execRingDirectionRecovery s
  -- start-up and shutdown (14)
  | .otpLoad obs => Sys2Proof.Machine.execOtpLoad obs s
  | .memoryTest march romA romB => Sys2Proof.Machine.execMemoryTest march romA romB s
  | .frontEndTest systems vref gnd holdOk => Sys2Proof.Machine.execFrontEndTest systems vref gnd holdOk s
  | .lockstepComparatorTest flagged spurious => Sys2Proof.Machine.execLockstepComparatorTest flagged spurious s
  | .supplySweep frames => Sys2Proof.Machine.execSupplySweep frames s
  | .startupPhaseTimeout => Sys2Proof.Machine.execStartupPhaseTimeout s
  | .joinWindowEnd => Sys2Proof.Machine.execJoinWindowEnd s
  | .shutdown q => Sys2Proof.Machine.execShutdown q s
  | .shutdownOutputsOff => Sys2Proof.Machine.execShutdownOutputsOff s
  | .shutdownEventsDrained => Sys2Proof.Machine.execShutdownEventsDrained s
  -- host ports (15, 21)
  | .read q tagged snaprd => Sys2Proof.Machine.execRead q tagged snaprd s
  | .registerWrite q => Sys2Proof.Machine.execRegisterWrite q s
  | .hostTransactionCut port => Sys2Proof.Machine.execHostTransactionCut port s
  | .requestRejected port bytes => Sys2Proof.Machine.execRequestRejected port bytes s
  | .irqstatClear q => Sys2Proof.Machine.execIrqstatClear q s
  | .snap q => Sys2Proof.Machine.execSnap q s
  | .snapRelease q => Sys2Proof.Machine.execSnapRelease q s
  | .cqPop q => Sys2Proof.Machine.execCqPop q s
  | .result q => Sys2Proof.Machine.execResult q s
  | .recallResult q => Sys2Proof.Machine.execRecall q s
  | .nop q => Sys2Proof.Machine.execNop q s
  | .sessionOpen q => Sys2Proof.Machine.execSessionOpen q s
  | .passwordCheckComplete port => Sys2Proof.Machine.execPasswordCheckComplete port s
  | .sessionClose q => Sys2Proof.Machine.execSessionClose q s
  | .sessionIdleTimeout port => Sys2Proof.Machine.execSessionIdleTimeout port s
  | .lockoutEnd port => Sys2Proof.Machine.execLockoutEnd port s
  | .resetArm q => Sys2Proof.Machine.execResetArm q s
  | .resetConfirm q => Sys2Proof.Machine.execResetConfirm q s
  | .outClear q => Sys2Proof.Machine.execOutClear q s
  | .reefPropose q => Sys2Proof.Machine.execReefPropose q s
  | .wake q => Sys2Proof.Machine.execWake q s
  | .switchover q => Sys2Proof.Machine.execSwitchover q s
  | .resync q => Sys2Proof.Machine.execResync q s
  | .unfreeze q => Sys2Proof.Machine.execUnfreeze q s
  | .splitForbid q => Sys2Proof.Machine.execSplitForbid q s
  -- rig (16)
  | .rigVerificationEnd => Sys2Proof.Machine.execRigVerificationEnd s
  | .rigActivation => Sys2Proof.Machine.execRigActivation s
  | .bankVerificationTimeout => Sys2Proof.Machine.execBankVerificationTimeout s
  | .rigBegin q => Sys2Proof.Machine.execRigBegin q s
  | .rigWrite q => Sys2Proof.Machine.execRigWrite q s
  | .rigCheck q => Sys2Proof.Machine.execRigCheck q s
  | .rigActivate q => Sys2Proof.Machine.execRigActivate q s
  | .splitActivateTimeout => Sys2Proof.Machine.execSplitActivateTimeout s
  | .rigStore q => Sys2Proof.Machine.execRigStore q s
  | .rigStoreComplete => Sys2Proof.Machine.execRigStoreComplete s
  | .rigLoad q => Sys2Proof.Machine.execRigLoad q s
  | .rigDiscard q => Sys2Proof.Machine.execRigDiscard q s
  -- password, log, calibration, background (17, 18, 21, 22)
  | .pwSet q => Sys2Proof.Machine.execPwSet q s
  | .pwRecover q => Sys2Proof.Machine.execPwRecover q s
  | .pwRecoverTimeout => Sys2Proof.Machine.execPwRecoverTimeout s
  | .logFetch q => Sys2Proof.Machine.execLogFetch q s
  | .logAck q => Sys2Proof.Machine.execLogAck q s
  | .calWrite q => Sys2Proof.Machine.execCalWrite q s
  | .calClear q => Sys2Proof.Machine.execCalClear q s
  | .otpRead q => Sys2Proof.Machine.execOtpRead q s
  | .clearOccurrenceCounters q => Sys2Proof.Machine.execClearOccurrenceCounters q s
  | .clearLinCounters q => Sys2Proof.Machine.execClearLinCounters q s
  | .clearHalCounters q => Sys2Proof.Machine.execClearHalCounters q s
  | .clearDpxCounters q => Sys2Proof.Machine.execClearDpxCounters q s
  | .clearBgwCounters q => Sys2Proof.Machine.execClearBgwCounters q s
  | .clearResyncCounter q => Sys2Proof.Machine.execClearResyncCounter q s
  | .holdoffSet q => Sys2Proof.Machine.execHoldoffSet q s
  | .holdoffClear q => Sys2Proof.Machine.execHoldoffClear q s
  | .erasePulseEnd done => Sys2Proof.Machine.execErasePulseEnd done s
  | .scrubPassOverdue => Sys2Proof.Machine.execScrubPassOverdue s
  | .recomparisonOverdue => Sys2Proof.Machine.execRecomparisonOverdue s
  | .backgroundJobOverdue job => Sys2Proof.Machine.execBackgroundJobOverdue job s

end Sys2Proof.Machine
end

