-- ==== Sys2Proof/Safety.lean ====
section
/-! DEFINITION. What counts as safe: the content of the safe state for a half (Table FLT-4, R346), the canonical form of
the addressed memories, and a run in which no half has left its safe state except through an internal reset (R349). -/
namespace Sys2Proof.Machine

/-- Table FLT-4 for half `h`, as far as it is state: SAFE, gate drives and sources off, lines DISCHARGE or OFF. -/
def Dev.Held (h : Half) (d : Dev) : Prop :=
  (d.node h).safe = true ∧ (d.node h).sys = .safe
  ∧ (∀ o ∈ d.outputs, d.halfOfOut o.id = h → o.gateHi = false ∧ o.gateLo = false)
  ∧ (∀ t ∈ d.tps, d.halfOfSrc t.id = h → t.on = false)
  ∧ (∀ x ∈ d.systems, d.halfOfSys x.id = h → x.mode = .off ∨ x.mode = .discharge)

/-- No running half is in its safe state. -/
abbrev Dev.AllLive (d : Dev) : Prop := ∀ h ∈ d.halves, (d.node h).safe = false

/-- The device is in the safe state of fault `code`, entered at cycle `cyc` of the frame in which `before` stood. -/
def Dev.EnteredSafe (d : Dev) (code cyc : Nat) (before : Dev) : Prop :=
  (∀ h ∈ d.halves, d.Held h) ∧ d.codeActive code = true ∧ d.faultN = false ∧ d.hbeat = false
  ∧ d.lastCause.code = code ∧ d.lastCause.frame = before.frame ∧ d.lastCause.dt = dtOf (before.stamp cyc)

/-- R271: `t` is held in the internal reset and keeps of `s` what an internal reset keeps. -/
def State.ClearedFrom (s t : State) : Prop :=
  t.dev.inReset = true ∧ t.dev.dt = 0 ∧ t.dev.frame = 0 ∧ t.dev.codePos = 0 ∧ t.dev.faults = {} ∧ t.dev.straps = {}
  ∧ t.dev.nodeA = {} ∧ t.dev.nodeB = {} ∧ t.dev.port0 = {} ∧ t.dev.port1 = {} ∧ t.dev.rig = {} ∧ t.dev.dpx = {}
  ∧ t.dev.coreA = {} ∧ t.dev.coreB = { complemented := true, acc := 0 } ∧ t.frozenA = none ∧ t.frozenB = none
  ∧ t.dev.systems = Dev.blank.systems ∧ t.dev.outputs = Dev.blank.outputs ∧ t.dev.tps = Dev.blank.tps
  ∧ t.snap0 = none ∧ t.snap1 = none ∧ t.staging = [] ∧ t.flash = s.flash ∧ t.pending = s.pending
  ∧ t.dev.log.slots = s.dev.log.slots ∧ t.dev.log.wmark = s.dev.log.wmark
  ∧ t.dev.store = { s.dev.store with recover := none }

/-- Both addressed memories are in their canonical form. -/
abbrev State.StoresCanonical (s : State) : Prop := Memory.wf flashZ s.flash = true ∧ Memory.wf stagingZ s.staging = true

/-- Out of the internal reset with every running half in its safe state. -/
abbrev State.SafeHeld (s : State) : Prop := s.dev.inReset = false ∧ s.dev.allSafe = true

/-- Half `h` runs: out of the internal reset and not in its safe state. -/
abbrev State.Runs (s : State) (h : Half) : Prop := s.dev.inReset = false ∧ (s.dev.node h).safe = false

/-- Only the `i`-th object of a list differs. -/
def OnlyAt {α : Type} (i : Nat) (before after : List α) : Prop := ∀ j, j ≠ i → after[j]? = before[j]?

/-- Every field of an entry lies in its bits (Table TEL-3). -/
def Entry.fits : Entry → Prop
  | .beacon _ round _ => round < 256
  | .pointEvent _ _ _ _ point _ => point < 1024
  | .pointStatus group codes => group < 256 ∧ codes.length = 16 ∧ ∀ c ∈ codes, c < 4
  | .sectionState group codes => group < 256 ∧ codes.length = 8 ∧ ∀ c ∈ codes, c < 8
  | .ack owner _ => owner < 1024
  | .reefVote _ _ => True
  | .join reason _ => reason < 256

/-- A telegram as Tables TEL-1 and TEL-2 let it be sent: its fields in their bits, its entries those of its TYPE. -/
def Telegram.fits (t : Telegram) : Prop :=
  t.allowed = true ∧ 0 < t.src ∧ t.src < 1024 ∧ t.dst < 1024 ∧ ∀ e ∈ t.entries, e.fits

/-- What a boundary, a frame's work and a slack leave alone: time, frame, code position and straps. -/
def Dev.SameTime (d e : Dev) : Prop := e.dt = d.dt ∧ e.frame = d.frame ∧ e.codePos = d.codePos ∧ e.straps = d.straps

/-- Half `h` is held in its safe state and the other half's node is as before (R132). -/
def Dev.HeldAlone (h : Half) (before d : Dev) : Prop := d.Held h ∧ ∀ g, g ≠ h → d.node g = before.node g

/-- Port `p` takes operations: its half is past BOOT and not in its safe state, the port is not frozen (R267, R291, R347). -/
abbrev State.PortOpen (s : State) (p : Fin 2) : Prop :=
  s.Runs (s.dev.halfOfPort p) ∧ s.dev.boardTest = false ∧ (s.dev.node (s.dev.halfOfPort p)).sys ≠ .boot ∧ (s.dev.port p).frozen = false

/-- The port's tag is free, and its half evaluates or waits for a rig. -/
abbrev State.Accepts (s : State) (q : Req) : Prop :=
  s.PortOpen q.port ∧ (s.dev.port q.port).tags.any (fun t => t.1 == q.tag % 64) = false ∧ s.dev.stackMember = false

/-- Of the device only port `p` differs, and the free values drawn (log 5). -/
def State.OnlyPort (s : State) (p : Fin 2) (t : State) : Prop :=
  t = { s with dev := { s.dev with port0 := t.dev.port0, port1 := t.dev.port1, freeCtr := t.dev.freeCtr } }
  ∧ ∀ o, o ≠ p → t.dev.port o = s.dev.port o

/-- Violation `v` has frozen port `p` (R290, R291). -/
def State.FrozenBy (s : State) (p : Fin 2) (v : Nat) (t : State) : Prop :=
  (t.dev.port p).frozen = true ∧ (t.dev.port p).lastViol = v ∧ (t.dev.port p).nviol = min ((s.dev.port p).nviol + 1) 65535
  ∧ (t.dev.port p).session = none ∧ (t.dev.port p).snapHeld = false ∧ t.snapOf p = none ∧ (t.dev.port p).irq = true
  ∧ t.dev.hasFault 0x90 .port p.val (s.dev.halfOfPort p) = true

/-- The next update delivers a completion of the port's operation `tag`. -/
def Dev.Completes (d : Dev) (p : Fin 2) (opc tag : Nat) (st : Status) (data : Word) : Prop :=
  ∃ c ∈ d.done, c.1 = p ∧ c.2.opc = opc ∧ c.2.tag = tag ∧ c.2.status = st ∧ c.2.data = data

/-- Every running half is in one start-up phase. -/
abbrev Dev.InPhase (d : Dev) (ph : BootPhase) (st : SysState) : Prop := ∀ h ∈ d.halves, (d.node h).phase = ph ∧ (d.node h).sys = st

end Sys2Proof.Machine
end

