-- ==== Sys2Proof/Certificates/Slice0/Obligations.lean ====
section
/-! DEFINITION. The statements of this model, for its provers: one `def Obligations.<Name> : Prop` each. A statement
names, for every command it covers, the conditions under which the command has its own effect and what the next state
then is; what it does not name is unchanged by an equation of states. -/
open Sys2Proof Sys2Proof.Machine

/-- The queue is the model's (log 1): one step runs the command at its front. -/
def Obligations.StepRunsFrontCommand : Prop :=
  (∀ (c : Instr) (rest : List Instr) (s : State),
    step { s with pending := c :: rest } = exec c { s with pending := rest })
  ∧ (∀ s : State, s.pending = [] → step s = .next s)

/-- No command stops the block (R346: also the safe state is a state it goes on from); the queue is the model's (log 1). -/
def Obligations.EveryCommandAnswersNextAndLeavesTheQueue : Prop :=
  ∀ (c : Instr) (s : State), ∃ t, exec c s = .next t ∧ t.pending = s.pending

/-- The canonical form is the model's (log 6): equal memories are equal data. -/
def Obligations.StepKeepsStoresCanonical : Prop :=
  ∀ s t : State, s.StoresCanonical → step s = .next t → t.StoresCanonical

/-- The base of StepKeepsStoresCanonical (log 6). -/
def Obligations.StoresCanonicalAtReset : Prop := State.reset.StoresCanonical

/-- R349, over every command. -/
def Obligations.SafeStateEndsOnlyByInternalReset : Prop :=
  ∀ s t : State, s.SafeHeld → step s = .next t → t.dev.inReset = true ∨ t.SafeHeld

/-- R25, R26, R271, R365 at power-on. -/
def Obligations.StateAfterPowerOn : Prop :=
  let d := State.reset.dev
  d.inReset = true ∧ d.dt = 0 ∧ d.frame = 0 ∧ d.codePos = 0 ∧ d.faultN = false ∧ d.hbeat = false
  ∧ (d.outputs.all fun o => !o.gateHi && !o.gateLo) = true ∧ (d.systems.all fun x => decide (x.mode = .off)) = true
  ∧ (d.tps.all fun t => !t.on) = true ∧ d.dpx.claim = false ∧ d.faults.active = [] ∧ d.port0.session = none
  ∧ d.port1.session = none ∧ d.rig.active = none ∧ State.reset.pending = []

/-- POWER_ON_RESET and RESET_N hold the device in the internal reset and keep only what R271 names -/
def Obligations.InternalResetClearsAllButTheStores : Prop :=
  (∀ s : State, ∃ t, exec .vsupPowerOnReset s = .next t ∧ s.ClearedFrom t ∧ t.dev.resetCause = 1 ∧ t.dev.nreset = 0
    ∧ t.dev.lastCause = {} ∧ t.dev.mm = {} ∧ t.dev.resetN = s.dev.resetN)
  ∧ (∀ s : State, s.dev.inReset = false → ∃ t, exec .resetNAssert s = .next t ∧ s.ClearedFrom t ∧ t.dev.resetCause = 2
    ∧ t.dev.nreset = min (s.dev.nreset + 1) 65535 ∧ t.dev.lastCause = s.dev.lastCause ∧ t.dev.mm = s.dev.mm ∧ t.dev.resetN = false)
  ∧ (∀ s : State, s.dev.inReset = true → exec .resetNAssert s = .next { s with dev := { s.dev with resetN := false } })

/-- RESET_N_RELEASE raises the ball; INTERNAL_RESET_RELEASE starts time, frame and code position at 0 in BOOT. That VFLD
stands at or below 36 V after an overvoltage is read from Table FLT-1 (log 104). -/
def Obligations.ReleaseStartsTimeAtZero : Prop :=
  (∀ s : State, exec .resetNRelease s = .next { s with dev := { s.dev with resetN := true } })
  ∧ (∀ (s : State) (r : RailObs), s.dev.inReset = true → s.dev.resetN = true → 10 ≤ r.resetUs → 1000 ≤ r.vsupUs → 1660 < r.vioMv → r.pllLocked = true →
      (s.dev.vfldOver = true → r.vfld ≤ 3600) → ∃ t, exec (.internalResetRelease r) s = .next t
      ∧ t.dev.inReset = false ∧ t.dev.dt = 0 ∧ t.dev.frame = 0 ∧ t.dev.codePos = 0 ∧ t.dev.pll = true
      ∧ (∀ h, (t.dev.node h).sys = .boot ∧ (t.dev.node h).safe = false) ∧ t.bank = t.dev
      ∧ t = { s with dev := t.dev, bank := t.dev, prev := t.dev }
      ∧ t.dev = { s.dev with inReset := false, vfldOver := false, pll := true, dt := 0, frame := 0, codePos := 0, nodeA := t.dev.nodeA, nodeB := t.dev.nodeB })
  ∧ (∀ (s : State) (r : RailObs), s.dev.inReset = true →
      (s.dev.resetN = false ∨ r.resetUs < 10 ∨ r.vsupUs < 1000 ∨ r.vioMv ≤ 1660 ∨ r.pllLocked = false ∨ (s.dev.vfldOver = true ∧ 3600 < r.vfld)) →
      exec (.internalResetRelease r) s = .next { s with dev := { s.dev with pll := r.pllLocked } })
  ∧ (∀ (s : State) (r : RailObs), s.dev.inReset = false → exec (.internalResetRelease r) s = .next s)

/-- Supply, clock, TMODE and lockstep causes put every running half into its safe state and record the cause -/
def Obligations.SupervisorsLatchTheSafeState : Prop :=
  ∀ (s : State) (cyc : Nat), s.dev.inReset = false → s.dev.AllLive →
    (∀ c code, (c, code) ∈ [(Instr.vsupBrownOut cyc, 0x10), (.vioBrownOut cyc, 0x11), (.vfldOvervoltage cyc, 0x13), (.pllLockLost cyc, 0x15)] →
      ∃ t, exec c s = .next t ∧ t.dev.EnteredSafe code cyc s.dev ∧ t = { s with dev := t.dev })
    ∧ (s.dev.straps.done = true → s.dev.boardTest = false →
      ∃ t, exec (.tmodeHighAfterLatch cyc) s = .next t ∧ t.dev.EnteredSafe 0x18 cyc s.dev ∧ t = { s with dev := t.dev })
    ∧ (s.dev.split = false → ∀ (f : CoreField) (a b : Word), f.differs a b = true →
      ∃ t, exec (.lockstepMismatch f a b cyc) s = .next t ∧ t.dev.EnteredSafe 0x20 cyc s.dev ∧ t = { s with dev := t.dev }
        ∧ t.dev.mm = if s.dev.mm.valid then s.dev.mm else { valid := true, frame := s.dev.frame, cycle := cyc, group := f.group, a := a &&& f.mask, b := f.trueOf b })
    ∧ (∀ (f : CoreField) (a b : Word), s.dev.split = true ∨ f.differs a b = false → exec (.lockstepMismatch f a b cyc) s = .next s)

/-- VFLD undervoltage raises 0x12 and disturbs every local point; its recovery clears the fault -/
def Obligations.FieldUndervoltageDisturbsAndRecovers : Prop :=
  ∀ s : State, s.dev.inReset = false → s.dev.allSafe = false →
    (∃ t, exec .vfldUndervoltage s = .next t ∧ t.dev.vfldUnder = true ∧ t.dev.vfldLow = s.dev.frame ∧ t.dev.hasFault 0x12 .device 0 = true
      ∧ (∀ h ∈ s.dev.halves, ∀ p ∈ t.dev.ownPoints h, t.dev.runsPoint p.cfg = true → p.state = .disturbed)
      ∧ t = { s with dev := { s.dev with vfldUnder := true, vfldLow := s.dev.frame, faults := t.dev.faults, nodeA := { s.dev.nodeA with points := t.dev.nodeA.points }, nodeB := { s.dev.nodeB with points := t.dev.nodeB.points }, dpx := { s.dev.dpx with shadow := t.dev.dpx.shadow } } })
    ∧ (if s.dev.vfldUnder = true ∧ 200 ≤ since s.dev.frame s.dev.vfldLow then
        ∃ t, exec .vfldUndervoltageRecovery s = .next t ∧ t.dev.vfldUnder = false ∧ t.dev.hasFault 0x12 .device 0 = false
          ∧ t = { s with dev := { s.dev with vfldUnder := false, faults := t.dev.faults } }
       else exec .vfldUndervoltageRecovery s = .next s)

/-- STRAP_LATCH: disagreement and conflict end in the safe state, TMODE in board test, else OTP follows -/
def Obligations.StrapsLatchOnceAndByTheirValue : Prop :=
  ∀ s : State, s.dev.inReset = false → s.dev.straps.done = false → s.dev.nodeA.sys = .boot → s.dev.nodeA.safe = false →
    (∀ l : List (List Byte), (∀ a ∈ l, ∀ v : Byte, a ≠ List.replicate 8 v) →
        (l.length < 3 → exec (.strapLatch l) s = .next s)
        ∧ (l.length = 3 → s.dev.AllLive → ∃ t, exec (.strapLatch l) s = .next t ∧ t.dev.EnteredSafe 0x16 0 s.dev ∧ t = { s with dev := t.dev }))
    ∧ (∀ (v : Byte) (rest : List (List Byte)), s.dev.nodeB.safe = false →
        ∃ t, exec (.strapLatch (List.replicate 8 v :: rest)) s = .next t ∧ t = { s with dev := t.dev }
        ∧ t.dev.straps.done = true ∧ t.dev.straps.latched = v ∧ t.dev.straps.attempts = 1
        ∧ (if strapConflict v s.dev.store.otpForbid then t.dev.EnteredSafe 0x17 0 s.dev
           else if v.getLsbD 7 then t.dev.boardTest = true ∧ ∀ h ∈ t.dev.halves, (t.dev.node h).sys = .boardTest
           else t.dev.boardTest = s.dev.boardTest ∧ ∀ h ∈ t.dev.halves, (t.dev.node h).phase = .otp ∧ (t.dev.node h).sys = (s.dev.node h).sys))

/-- R32, R36; that an instruction which is not offered selects BYPASS is the model's (log 8). -/
def Obligations.StrapRereadAndTestAccessOnlyReport : Prop :=
  (∀ (s : State) (raw : Byte), s.dev.inReset = false → s.dev.straps.done = true → ∃ t, exec (.strapReread raw) s = .next t
    ∧ t.dev.straps.raw = raw ∧ t.dev.straps.latched = s.dev.straps.latched
    ∧ (raw.toNat % 128 ≠ s.dev.straps.latched.toNat % 128 → t.dev.straps.drift = true ∧ t.dev.straps.matches_ = 0)
    ∧ (raw.toNat % 128 = s.dev.straps.latched.toNat % 128 →
        t.dev.straps.drift = (s.dev.straps.drift && decide (s.dev.straps.matches_ < 9)) ∧ t.dev.straps.matches_ = min 10 (s.dev.straps.matches_ + 1))
    ∧ t = { s with dev := { s.dev with straps := { s.dev.straps with raw := raw, drift := t.dev.straps.drift, matches_ := t.dev.straps.matches_ } } })
  ∧ (∀ (s : State) (ir : TapInstr) (drive : Nat), s.dev.inReset = false → s.dev.boardTest = false →
      ∃ t, exec (.testAccessInstruction ir drive) s = .next t
      ∧ t.dev.tap = (match ir with | .extest => .bypass | .other => .bypass | i => i)
      ∧ t = { s with dev := { s.dev with tap := t.dev.tap, tapDrive := t.dev.tapDrive } })
  ∧ (∀ (s : State) (drive : Nat), s.dev.inReset = false → s.dev.boardTest = true →
      exec (.testAccessInstruction .extest drive) s = .next { s with dev := { s.dev with tap := .extest, tapDrive := drive } })

/-- The supply code: its recurrence, its counts per line, its odd lines that yield to their neighbour -/
def Obligations.SupplyCodePattern : Prop :=
  ((List.range 57).all fun k => chipAt (k + 6) == (chipAt k != chipAt (k + 1))) = true
  ∧ (List.range 6).map chipAt = [true, false, false, false, false, false]
  ∧ ((List.range 63).filter chipAt).length = 32
  ∧ ((List.range 32).all fun l => ((List.range 63).filter (codeChip l)).length == (if l % 2 = 0 then 32 else 16)) = true
  ∧ (List.range 63).filter (codeChip 1) = [4, 9, 10, 14, 19, 20, 28, 29, 33, 36, 39, 42, 46, 49, 50, 57]
  ∧ (∀ n p : Nat, (codeChip (2 * n) p && codeChip (2 * n + 1) p) = false)
  ∧ (∀ (d : Dev) (x : Sys), d.offPulse = true ∨ (x.mode ≠ .on ∧ x.mode ≠ .chip) → d.applied x = false)

/-- SCHEDULED_BLANKING_START, SUPPLY_TEST_PULSE and its end act on the lines with an applied chip alone -/
def Obligations.ChipFrameBlanksAndPulsesTheAppliedLines : Prop :=
  ∀ s : State, s.dev.inReset = false →
    (∃ f : Sys → Sys, exec .scheduledBlankingStart s = .next { s with dev := { s.dev with systems := s.dev.systems.map f } }
      ∧ ∀ x, if x.id < 32 ∧ (s.dev.applied x = true ∨ s.dev.partnerChip x = true)
        then f x = { x with sched := true, schedUntil := s.dev.stamp x.blankLast, blank := true, cOpen := x.cOpen.pause (s.dev.stamp blankOpen), cShort := x.cShort.pause (s.dev.stamp blankOpen) } else f x = x)
    ∧ (∃ f : Sys → Sys, exec .supplyTestPulse s = .next { s with dev := { s.dev with systems := s.dev.systems.map f } }
      ∧ ∀ x, if x.id < 32 ∧ s.dev.applied x = true then f x = { x with mode := .chip, chip := true }
        else if x.id < 32 ∧ s.dev.proves x = true then f x = { x with mode := .proof, proofWait := false, proof := true } else f x = x)
    ∧ (∃ f : Sys → Sys, exec .supplyTestPulseEnd s = .next { s with dev := { s.dev with systems := s.dev.systems.map f } }
      ∧ ∀ x, f x = { x with mode := match x.mode with | .chip => .on | .proof => .off | m => m })

/-- HSUP_OVERLOAD opens the line at once; HSUP_DISCHARGE_END and HSUP_OVERLOAD_RETRY bring it back -/
def Obligations.LineOverloadDischargeAndRetry : Prop :=
  ∀ (s : State) (i : Fin 32), s.dev.inReset = false →
    let x := s.dev.sys i
    (x.mode ≠ .off → x.mode ≠ .discharge → ∃ t, exec (.hsupOverload i) s = .next t
      ∧ t.dev.sys i = { x with mode := .discharge, dischLeft := 100, pendOn := false, onWhole := false, chip := false, retrying := true, retryFrame := s.dev.frame }
      ∧ OnlyAt i s.dev.systems t.dev.systems
      ∧ t = { s with dev := { s.dev with systems := t.dev.systems, capOpen := { s.dev.capOpen with overloads := s.dev.capOpen.overloads ++ [i.val] } } })
    ∧ (x.mode = .discharge → ∃ t, exec (.hsupDischargeEnd i) s = .next t
      ∧ t.dev.sys i = (if x.dischLeft ≠ 0 then x
          else if x.pendOn = true ∧ s.dev.supplies (s.dev.halfOfSys i) = true then
            { x with mode := .on, pendOn := false, onWhole := false, usable := false, run4 := 0, missHist := [], exceptions := 0 }
          else { x with mode := .off, pendOn := false })
      ∧ OnlyAt i s.dev.systems t.dev.systems ∧ t = { s with dev := { s.dev with systems := t.dev.systems } })
    ∧ (x.retrying = true → since s.dev.frame x.retryFrame < 20000 → exec (.hsupOverloadRetry i) s = .next s)
    ∧ (x.retrying = true → 20000 ≤ since s.dev.frame x.retryFrame → x.mode = .on → ∃ t, exec (.hsupOverloadRetry i) s = .next t
      ∧ t.dev.sys i = { x with retrying := false } ∧ t.dev.sysFault i 0x30 = false ∧ OnlyAt i s.dev.systems t.dev.systems
      ∧ t = { s with dev := { s.dev with systems := t.dev.systems, faults := t.dev.faults } })
    ∧ (x.retrying = true → 20000 ≤ since s.dev.frame x.retryFrame → x.mode = .off → x.defd = true → x.holdoff = false →
        s.dev.supplies (s.dev.halfOfSys i) = true → ∃ t, exec (.hsupOverloadRetry i) s = .next t
      ∧ t.dev.sys i = { x with mode := .on, retryFrame := s.dev.frame, pendOn := false, onWhole := false, usable := false, run4 := 0, missHist := [], exceptions := 0 }
      ∧ OnlyAt i s.dev.systems t.dev.systems ∧ t = { s with dev := { s.dev with systems := t.dev.systems } })

/-- COMPARATOR_EDGE: a record at once when unmasked, a masked transition otherwise, no 17th record; an OCC record within
20 µs after an OPEN or SHORT record is BAND_ADJ. An undefined system has its live level alone (log 106). -/
def Obligations.ComparatorEdgeReportsOrIsMasked : Prop :=
  ∀ (s : State) (i : Fin 33) (k : Comparator) (level : Bool) (cyc : Nat), s.dev.inReset = false → i.val < s.dev.systems.length →
    let x := s.dev.sys i
    let c := x.cmp k
    let t0 := s.dev.dt.toNat * 96 + cyc
    let counted := x.defd = true ∨ i.val = 32
    let made : EdgeRec := { sys := i.val, cmp := k, level, lo := t0, hi := t0, fr := s.dev.frame, bandAdj := match x.lastBand with | some b => decide (k = .occ) && decide (t0 ≤ b + 1920) | none => false }
    (c.live = level → exec (.comparatorEdge i k level cyc) s = .next s)
    ∧ (c.live ≠ level → ∃ t, exec (.comparatorEdge i k level cyc) s = .next t
      ∧ OnlyAt i s.dev.systems t.dev.systems
      ∧ t = { s with dev := { s.dev with systems := t.dev.systems, capOpen := { s.dev.capOpen with edges := t.dev.capOpen.edges }, capClosed := { s.dev.capClosed with edges := t.dev.capClosed.edges } } }
      ∧ (counted → x.masked k t0 = true →
          t.dev.capOpen = s.dev.capOpen ∧ t.dev.capClosed = s.dev.capClosed
          ∧ t.dev.sys i = { x.setCmp k { c with live := level, masked := c.masked + 1, earliest := if c.masked = 0 then t0 else c.earliest } with noisy := x.noisy || x.noisyAt k t0 })
      ∧ (¬ counted ∨ (x.masked k t0 = false ∧ (c.reported = none ∨ x.awaits k t0 = true)) →
          t.dev.capOpen = s.dev.capOpen ∧ t.dev.capClosed = s.dev.capClosed ∧ t.dev.sys i = x.setCmp k { c with live := level })
      ∧ (counted → x.masked k t0 = false → c.reported ≠ none → x.awaits k t0 = false →
          ((t.dev.sys i).cmp k).live = level ∧ ((t.dev.sys i).cmp k).reported = some level ∧ ((t.dev.sys i).cmp k).masked = 0
          ∧ ((t.dev.sys i).cmp k).ebUntil = (if x.cfg.eblank = 0 then 0 else t0 + 96 * x.cfg.eblank)
          ∧ (if x.captured < 16 then (t.dev.sys i).captured = x.captured + 1 ∧ t.dev.capOpen.edges.getLast? = some made
             else (t.dev.sys i).overflow = true)
          ∧ (k = .occ → t.dev.capClosed = s.dev.capClosed
              ∧ t.dev.capOpen.edges = (if x.captured < 16 then s.dev.capOpen.edges ++ [made] else s.dev.capOpen.edges))))

/-- A mask's end resamples: a changed level gives one record, an unchanged one none -/
def Obligations.MaskEndResamplesTheLiveLevel : Prop :=
  ∀ (s : State) (i : Fin 33) (cyc : Nat), s.dev.inReset = false → i.val < s.dev.systems.length → (s.dev.sys i).captured < 16 →
    let x := s.dev.sys i
    let now := s.dev.dt.toNat * 96 + cyc
    let made := fun (k : Comparator) => ({ sys := i.val, cmp := k, level := (x.cmp k).live, hi := now, fr := s.dev.frame, lo := if (x.cmp k).masked = 0 then now else (x.cmp k).earliest, resampled := decide ((x.cmp k).masked ≠ 0), bandAdj := match x.lastBand with | some b => decide (k = .occ) && decide (now ≤ b + 1920) | none => false } : EdgeRec)
    let only := fun (t : State) => OnlyAt i s.dev.systems t.dev.systems
      ∧ t = { s with dev := { s.dev with systems := t.dev.systems, capOpen := { s.dev.capOpen with edges := t.dev.capOpen.edges }, capClosed := { s.dev.capClosed with edges := t.dev.capClosed.edges } } }
    (∀ k, (x.cmp k).reported ≠ none → (x.cmp k).ebUntil ≠ 0 → (x.cmp k).ebUntil < now →
      ∃ t, exec (.edgeBlankingEnd i k cyc) s = .next t ∧ only t
        ∧ (x.maskedSched now = true ∨ x.maskedRw now = true →
            t.dev.capOpen = s.dev.capOpen ∧ t.dev.capClosed = s.dev.capClosed ∧ t.dev.sys i = x.setCmp k { x.cmp k with ebUntil := 0 })
        ∧ (x.maskedSched now = false → x.maskedRw now = false →
          if (x.cmp k).reported = some (x.cmp k).live then
            t.dev.capOpen = s.dev.capOpen ∧ t.dev.capClosed = s.dev.capClosed
            ∧ t.dev.sys i = { x.setCmp k { x.cmp k with ebUntil := 0, masked := 0 } with hidden := if (x.cmp k).masked = 0 then x.hidden else min (x.hidden + 1) 65535 }
          else t.dev.capOpen.edges.getLast? = some (made k) ∧ (k = .occ → t.dev.capOpen.edges = s.dev.capOpen.edges ++ [made k] ∧ t.dev.capClosed = s.dev.capClosed)
            ∧ ((t.dev.sys i).cmp k).reported = some (x.cmp k).live ∧ ((t.dev.sys i).cmp k).masked = 0
            ∧ ((t.dev.sys i).cmp k).ebUntil = (if x.cfg.eblank = 0 then 0 else now + 96 * x.cfg.eblank)))
    ∧ (x.cOpen.reported = some x.cOpen.live → x.cShort.reported = some x.cShort.live → x.cOcc.reported ≠ none →
        x.cOcc.reported ≠ some x.cOcc.live → (x.cOcc.ebUntil = 0 ∨ x.cOcc.ebUntil < now) →
        (x.rwUntil ≠ 0 → x.rwUntil < now → (x.sched = false ∨ x.schedUntil < now) → ∃ t, exec (.rewriteMaskEnd i cyc) s = .next t ∧ only t
          ∧ (t.dev.sys i).rwUntil = 0 ∧ t.dev.capOpen.edges = s.dev.capOpen.edges ++ [made .occ] ∧ t.dev.capClosed = s.dev.capClosed)
        ∧ (∀ h : i.val < 32, (x.rwUntil = 0 ∨ x.rwUntil < now) → x.sched = true → x.schedUntil < now →
          ∃ t, exec (.scheduledBlankingEnd ⟨i.val, h⟩ cyc) s = .next t ∧ only t
          ∧ (t.dev.sys i).sched = false ∧ t.dev.capOpen.edges = s.dev.capOpen.edges ++ [made .occ] ∧ t.dev.capClosed = s.dev.capClosed))

/-- BAND_TIMEOUT raises 0x3B or 0x3C after 1 000 µs; window and baseline faults clear only when recovered. S32 has no
HSUP node (log 106); an assertion raises its fault once (log 105). -/
def Obligations.BandTimeoutsAndFieldRecoveries : Prop :=
  ∀ (s : State) (i : Fin 33), s.Runs (s.dev.halfOfSys i) →
    let x := s.dev.sys i
    (∀ cyc, (x.defd = true ∨ i.val = 32) → i.val < s.dev.systems.length →
      let now := s.dev.dt.toNat * 96 + cyc
      (if x.cOpen.onDone = false ∧ 96000 ≤ x.cOpen.runAt now ∧ (x.node = .high ∨ x.id = 32) then
        ∃ t, exec (.bandTimeout i false cyc) s = .next t ∧ t.dev.sysFault i 0x3B = true
          ∧ t.dev.sys i = { x with cOpen := { x.cOpen with onDone := true }, noOpenFrames := 0 }
          ∧ OnlyAt i s.dev.systems t.dev.systems ∧ t = { s with dev := { s.dev with systems := t.dev.systems, faults := t.dev.faults } }
        else exec (.bandTimeout i false cyc) s = .next s)
      ∧ (if x.cShort.onDone = false ∧ 96000 ≤ x.cShort.runAt now then
        ∃ t, exec (.bandTimeout i true cyc) s = .next t ∧ t.dev.sysFault i 0x3C = true
          ∧ t.dev.sys i = { x with cShort := { x.cShort with onDone := true }, noShortFrames := 0 }
          ∧ OnlyAt i s.dev.systems t.dev.systems ∧ t = { s with dev := { s.dev with systems := t.dev.systems, faults := t.dev.faults } }
        else exec (.bandTimeout i true cyc) s = .next s))
    ∧ (x.defd = false → i.val ≠ 32 → ∀ short cyc, exec (.bandTimeout i short cyc) s = .next s)
    ∧ (∀ c ok, (c, ok) ∈ [(0x37, decide (4 ≤ x.rbOpen ∧ 4 ≤ x.rbOcc ∧ 4 ≤ x.rbShort)), (0x38, decide (200 ≤ x.quietFrames)),
          (0x39, decide (128 ≤ x.disClean)), (0x3B, decide (200 ≤ x.noOpenFrames)), (0x3C, decide (200 ≤ x.noShortFrames))] →
        if ok then ∃ t, exec (.windowFaultRecovery i c) s = .next t ∧ t.dev.sysFault i c = false ∧ t = { s with dev := { s.dev with faults := t.dev.faults } }
        else exec (.windowFaultRecovery i c) s = .next s)
    ∧ (if 10 ≤ s.dev.bgw.calGood then ∃ t, exec (.windowFaultRecovery i 0x3D) s = .next t ∧ t.dev.hasFault 0x3D .device 0 = false ∧ t = { s with dev := { s.dev with faults := t.dev.faults } }
       else exec (.windowFaultRecovery i 0x3D) s = .next s)
    ∧ (∀ j : Fin 32, j.val = i.val →
       if 20000 ≤ x.baseGood then ∃ t, exec (.baselineFaultRecovery j) s = .next t ∧ t.dev.sysFault i 0x3A = false ∧ t = { s with dev := { s.dev with faults := t.dev.faults } }
       else exec (.baselineFaultRecovery j) s = .next s)

/-- BAND_EXCURSION_END: one merged record when the level changed, a hidden excursion otherwise -/
def Obligations.BandExcursionEndMergesOrCountsIt : Prop :=
  ∀ (s : State) (i : Fin 33) (cyc : Nat) (x : Excursion), s.Runs (s.dev.halfOfSys i) → (s.dev.sys i).exc = some x →
    match x.release with
    | none => exec (.bandExcursionEnd i cyc) s = .next s
    | some r =>
      let stop := r + 1920
      let kept := s.dev.capOpen.edges.filter fun e => !(e.sys == i.val && decide (e.cmp = .occ) && decide (x.start ≤ e.hi) && decide (e.hi ≤ stop))
      if s.dev.dt.toNat * 96 + cyc < stop then exec (.bandExcursionEnd i cyc) s = .next s
      else ∃ t, exec (.bandExcursionEnd i cyc) s = .next t
        ∧ t.dev.sys i = { s.dev.sys i with exc := none } ∧ OnlyAt i s.dev.systems t.dev.systems
        ∧ (if (s.dev.sys i).occ = x.before then
            t.dev.capOpen = { s.dev.capOpen with edges := kept }
            ∧ t.dev.ownPoints (s.dev.halfOfSys i) = ((s.dev.ownPoints (s.dev.halfOfSys i)).map fun p =>
                { p with hidden := if s.dev.runsPoint p.cfg = true ∧ p.cfg.owner = i.val / 2 then min (p.hidden + 1) 255 else p.hidden })
            ∧ (∀ g, g ≠ s.dev.halfOfSys i → t.dev.node g = s.dev.node g)
            ∧ t = { s with dev := { s.dev with systems := t.dev.systems, capOpen := t.dev.capOpen, nodeA := { s.dev.nodeA with points := t.dev.nodeA.points }, nodeB := { s.dev.nodeB with points := t.dev.nodeB.points }, dpx := { s.dev.dpx with shadow := t.dev.dpx.shadow } } }
          else
            t.dev.capOpen = { s.dev.capOpen with edges := kept ++ [{ sys := i.val, cmp := .occ, level := (s.dev.sys i).cOcc.level, lo := x.start, hi := stop, resampled := true, merged := true, fr := s.dev.frame }] }
            ∧ t = { s with dev := { s.dev with systems := t.dev.systems, capOpen := t.dev.capOpen } })

/-- CODE_PERIOD_END: the period's observed sets become the compared ones, counts restart, only fault state follows -/
def Obligations.CodePeriodEndClosesTheObservedSets : Prop :=
  ∀ s : State, s.dev.inReset = false →
    (s.dev.codePos ≠ 0 ∨ s.dev.allSafe = true ∨ (∃ h ∈ s.dev.halves, (s.dev.node h).safe = false ∧ s.dev.worked h = false) → exec .codePeriodEnd s = .next s)
    ∧ (s.dev.codePos = 0 → s.dev.allSafe = false → (∀ h ∈ s.dev.halves, (s.dev.node h).safe = false → s.dev.worked h = true) → ∃ t, exec .codePeriodEnd s = .next t
      ∧ t = { s with dev := { s.dev with systems := t.dev.systems, faults := t.dev.faults } }
      ∧ t.dev.systems.map (fun x => (x.id, x.dSet, x.iSet, x.vSet, x.aSet)) = s.dev.systems.map (fun x =>
          if x.id < 32 then (x.id, x.dRun, x.iRun, x.vRun, x.aRun) else (x.id, x.dSet, x.iSet, x.vSet, x.aSet))
      ∧ t.dev.systems.map (fun x => (x.dRun, x.iRun, x.vRun, x.aRun, x.exceptions, x.applied)) = s.dev.systems.map (fun x =>
          if x.id < 32 then (0, 0, 0, 0, 0, 0) else (x.dRun, x.iRun, x.vRun, x.aRun, x.exceptions, x.applied)))

/-- The verdict of an occupancy and of an event, from the features -/
def Obligations.VerdictsFollowTheFeatures : Prop :=
  (∀ fs : List Feature,
    (Feature.outside ∈ fs → verdictOf fs = .nonWheel)
    ∧ ((∀ f ∈ fs, f = .inside) → verdictOf fs = .wheel)
    ∧ (Feature.outside ∉ fs → (∃ f ∈ fs, f ≠ .inside) → verdictOf fs = .uncertain))
  ∧ (∀ a b : Verdict,
    (a = .nonWheel ∨ b = .nonWheel → verdictBoth a b = .nonWheel)
    ∧ (a = .wheel → b = .wheel → verdictBoth a b = .wheel)
    ∧ (a ≠ .nonWheel → b ≠ .nonWheel → ¬ (a = .wheel ∧ b = .wheel) → verdictBoth a b = .uncertain))

/-- CLASSIFIER_VERDICT gives the waiting event whose t_v has come its verdict as an input of the next frame's work -/
def Obligations.ClassifierVerdictEntersTheCaptureSet : Prop :=
  ∀ (s : State) (h : Half) (i : Nat) (a b : List CurSample) (cyc : Nat), s.Runs h →
    (∀ p w, s.dev.ownPoint h i = some p → s.dev.runsPoint p.cfg = true → p.waits.find? (s.dev.verdictDue cyc) = some w → ∃ t, exec (.classifierVerdict h i a b cyc) s = .next t
      ∧ t.dev.capOpen = { s.dev.capOpen with verdicts := s.dev.capOpen.verdicts ++ [(h, i, (if s.dev.stackPos ≠ 0 then some (BitVec.ofNat 32 w.mtag) else if w.numbered then some w.eseq else none), s.dev.classify h p.cfg w a b)] }
      ∧ t.dev.ownPoint h i = some { p with waits := p.waits.erase w } ∧ (∀ g, g ≠ h → t.dev.node g = s.dev.node g)
      ∧ t = { s with dev := { s.dev with capOpen := t.dev.capOpen, nodeA := { s.dev.nodeA with points := t.dev.nodeA.points }, nodeB := { s.dev.nodeB with points := t.dev.nodeB.points }, dpx := { s.dev.dpx with shadow := t.dev.dpx.shadow } } })
    ∧ ((∀ p, s.dev.ownPoint h i = some p → s.dev.runsPoint p.cfg = false ∨ ∀ w ∈ p.waits, ¬ (s.dev.stamp 0 ≤ max w.offA w.offB + 192000 ∧ max w.offA w.offB + 192000 ≤ s.dev.stamp cyc)) →
        exec (.classifierVerdict h i a b cyc) s = .next s)

/-- POINT_RECOVERY makes a point COUNTING at VACANT after 200 quiet frames; an unheard remote point raises 0x44 -/
def Obligations.PointsRecoverAndReportOffline : Prop :=
  ∀ (s : State) (h : Half) (i : Nat) (p : Point), s.Runs h →
    (s.dev.ownPoint h i = some p →
      if s.dev.runsPoint p.cfg = true ∧ p.state = .disturbed ∧ p.entered = 0 ∧ 200 ≤ p.recover ∧ s.dev.pointCause p.cfg = false ∧ p.jfull = false then
        ∃ t, exec (.pointRecovery h i) s = .next t
          ∧ t.dev.ownPoint h i = some { p with state := .counting, pas := {}, recover := 0, startup := false }
          ∧ (∀ c ∈ [0x40, 0x41, 0x42, 0x72], t.dev.hasFault c .point i h = false)
          ∧ (∀ g, g ≠ h → t.dev.node g = s.dev.node g)
          ∧ t = { s with dev := { s.dev with faults := t.dev.faults, nodeA := { s.dev.nodeA with points := t.dev.nodeA.points }, nodeB := { s.dev.nodeB with points := t.dev.nodeB.points }, dpx := { s.dev.dpx with shadow := t.dev.dpx.shadow } } }
      else exec (.pointRecovery h i) s = .next s)
    ∧ ((s.dev.node h).point i = some p → p.cfg.kind = .remote → p.state = .offline → p.heardOnce = false →
      if 1000 ≤ since s.dev.frame s.dev.rig.actFrame then
        ∃ t, exec (.remotePointOfflineTimeout h i) s = .next t ∧ t.dev.hasFault 0x44 .point i h = true
          ∧ t = { s with dev := { s.dev with faults := t.dev.faults } }
      else exec (.remotePointOfflineTimeout h i) s = .next s)

/-- A whole crossing gives one event of its direction, a reversal none; an unresolved order is never guessed -/
def Obligations.CompletedCrossingsAloneGiveEvents : Prop :=
  (∀ (p : Point) (near far : Side) (t1 t2 t3 t4 : Nat), p.pas = {} → near ≠ far → t1 < t2 → t2 < t3 → t3 < t4 →
    let r := fun (x : Side) (on : Bool) (t : Nat) => ({ side := x, level := on, lo := t, hi := t } : OccRec)
    let run := fun (l : List OccRec) => l.foldl (fun x r => Point.runRec r x) ({ pt := p } : PointRun)
    let cross := run [r near true t1, r far true t2, r near false t3, r far false t4]
    let turn := run [r near true t1, r far true t2, r far false t3, r near false t4]
    (tooFast p.cfg (t2 - t1) = false → tooFast p.cfg (t4 - t3) = false →
      cross.evs.map (fun e => (e.ev.point, e.ev.ba, e.ev.dtime)) = [(p.cfg.index, decide (near = .B), dtOf t4)]
      ∧ cross.fault = none ∧ cross.pt.state = p.state ∧ cross.pt.pas.pos = .vacant)
    ∧ (tooFast p.cfg (t4 - t3) = true → cross.evs = [] ∧ cross.fault = some 0x42 ∧ cross.pt.state = .disturbed)
    ∧ (turn.evs = [] ∧ turn.fault = none ∧ turn.pt.pas.pos = .vacant ∧ turn.pt.reversals = p.reversals + 1)
    ∧ (let lone := run [r near true t1, r near false t2]
       lone.evs = [] ∧ lone.fault = none ∧ lone.pt.pas.pos = .vacant ∧ lone.pt.reversals = p.reversals))
  ∧ (∀ (p : Point) (l r : OccRec), p.pas.last = some l → l.side ≠ r.side → r.lo ≤ l.hi →
    let x := Point.runRec r { pt := p }
    x.evs = [] ∧ x.fault = some 0x40 ∧ x.pt.state = .disturbed ∧ x.pt.pas = {} ∧ x.pt.entered = 2 ∧ x.pt.cfg = p.cfg)

/-- An event moves the count by one in its direction, saturating, and joins the contributing set -/
def Obligations.EventsMoveTheCountOfTheirSections : Prop :=
  ∀ (x : Sect) (e : AxleEvt) (frame : Word),
    ((∀ b ∈ x.bounds, b.1 ≠ e.point) → x.applyEvent frame e = x)
    ∧ (∀ outward rest, x.bounds = (e.point, outward) :: rest → -32768 ≤ x.count → x.count ≤ 32767 →
        let y := x.applyEvent frame e
        y.count = (if outward = e.ba then (if x.count = 32767 then 32767 else x.count + 1) else if x.count = -32768 then -32768 else x.count - 1)
        ∧ y.contrib = x.contrib ++ [{ owner := e.owner, eseq := e.eseq, verdict := e.verdict, frame }]
        ∧ y = { x with count := y.count, contrib := y.contrib, rose := y.rose } ∧ (1 ≤ y.count → y.rose = true))

/-- A section's step without a reset makes it CLEAR only at count 0 with every contributing verdict wheel -/
def Obligations.ASectionClearsOnlyOnZeroAndWheel : Prop :=
  ∀ (x : Sect) (cause moved rejoined : Bool),
    let y := x.transit cause moved rejoined
    y.count = x.count ∧ (y.contrib = x.contrib ∨ y.contrib = [])
    ∧ (cause = true → y.state = .disturbed)
    ∧ (x.state = .disturbed → y.state = .disturbed)
    ∧ (y.state = .clear → x.state ≠ .clear → cause = false ∧ x.count = 0 ∧ (∀ c ∈ x.contrib, c.verdict = .wheel) ∧ (x.state = .prep → x.rose = true))
    ∧ (x.state = .clear → cause = false → moved = true → ¬ (x.count = 0 ∧ ∀ c ∈ x.contrib, c.verdict = .wheel) → y.state = .occupied)

/-- VERDICT_OVERDUE raises 0x47 and disturbs the section; RESET_ARM_EXPIRY voids an arm after 10 s -/
def Obligations.OverdueVerdictDisturbsAndArmsExpire : Prop :=
  ∀ (s : State) (h : Half) (i : Nat) (x : Sect), s.Runs h → (s.dev.node h).sect i = some x →
    (let late := ∃ c ∈ x.contrib, c.verdict = .pending ∧ 2 * x.cfg.vlimit ≤ since s.dev.frame c.frame
     (late → s.dev.sectFault h i 0x47 = false → ∃ t, exec (.verdictOverdue h i) s = .next t ∧ t.dev.sectFault h i 0x47 = true
        ∧ (t.dev.node h).sect i = some { x with state := .disturbed, rose := false, rejoin := none, caused := some s.dev.frame }
        ∧ (∀ g, g ≠ h → t.dev.node g = s.dev.node g)
        ∧ t = { s with dev := { s.dev with faults := t.dev.faults, nodeA := { s.dev.nodeA with sections := t.dev.nodeA.sections }, nodeB := { s.dev.nodeB with sections := t.dev.nodeB.sections } } })
     ∧ (¬ late ∨ s.dev.sectFault h i 0x47 = true → exec (.verdictOverdue h i) s = .next s))
    ∧ (∀ a, x.arm = some a → 20001 < since s.dev.frame a.frame → ∃ t, exec (.resetArmExpiry h i) s = .next t
        ∧ (t.dev.node h).sect i = some { x with arm := none } ∧ (∀ g, g ≠ h → t.dev.node g = s.dev.node g)
        ∧ t = { s with dev := { s.dev with nodeA := { s.dev.nodeA with sections := t.dev.nodeA.sections }, nodeB := { s.dev.nodeB with sections := t.dev.nodeB.sections } } })
    ∧ ((∀ a, x.arm = some a → since s.dev.frame a.frame ≤ 20001) → exec (.resetArmExpiry h i) s = .next s)

/-- A reset request executes whole, is redundant in PREP, or is DENIED and leaves the section -/
def Obligations.ResetNeedsEveryConditionOfItsTable : Prop :=
  ∀ (d : Dev) (h : Half) (i : Nat) (direct : Bool) (src : ResetSource) (x : Sect), (d.node h).sect i = some x →
    let r := d.requestReset h i direct src
    let may := (x.state = .disturbed ∨ (x.state = .occupied ∧ x.cfg.fromOcc = true)) ∧ (direct = true → x.cfg.direct = true)
      ∧ (∀ b ∈ x.bounds, ∃ p, (d.node h).point b.1 = some p ∧ p.state = .counting ∧ (direct = true → d.vacant h b.1 = true ∧ p.cfg.kind ≠ .remote))
      ∧ (direct = true → ∀ c ∈ x.contrib, c.verdict ≠ .pending) ∧ x.caused ≠ some d.frame
    (x.state = .prep ∨ x.resetDone = true → r.1 = .ok ∧ (r.2.node h).sect i = some { x with resResult := 2, nRedund := min (x.nRedund + 1) 65535 })
    ∧ (x.state ≠ .prep → x.resetDone = false → may → r.1 = .ok
        ∧ (r.2.node h).sect i = some { x with state := (if direct then .clear else .prep), count := 0, contrib := [], rose := false, rejoin := none, resetDone := true, resFrame := d.frame, resDirect := direct, resSource := src.source, resInput := src.input, resResult := 1 }
        ∧ ∀ c ∈ [0x45, 0x46, 0x47, 0x48], r.2.sectFault h i c = false)
    ∧ (x.state ≠ .prep → x.resetDone = false → ¬ may → r.1 = .denied ∧ (r.2.node h).sect i = some { x with resResult := 3 } ∧ r.2.faults = d.faults)
    ∧ r.2 = { d with faults := r.2.faults, nodeA := { d.nodeA with sections := r.2.nodeA.sections, resets := r.2.nodeA.resets, redundant := r.2.nodeA.redundant }, nodeB := { d.nodeB with sections := r.2.nodeB.sections, resets := r.2.nodeB.resets, redundant := r.2.nodeB.redundant } }

/-- A gate is driven only while requested, permitted, outside its own off-pulse and out of the safe state -/
def Obligations.GatesNeedRequestPermissionAndNoPulse : Prop :=
  ∀ d : Dev,
    (∀ n, n < d.outputs.length → let o := d.out n
      let free := d.gatePermit (d.halfOfOut o.id) = true ∧ (d.node (d.halfOfOut o.id)).safe = false ∧ d.inReset = false
      ((d.driveGates.out n).gateHi = true ↔ o.appHi = true ∧ o.nHi = false ∧ free ∧ ¬ ∃ p, o.pulse = some p ∧ p.low = false)
      ∧ ((d.driveGates.out n).gateLo = true ↔ o.appLo = true ∧ o.nLo = false ∧ free ∧ ¬ ∃ p, o.pulse = some p ∧ p.low = true)
      ∧ d.driveGates.out n = { o with gateHi := (d.driveGates.out n).gateHi, gateLo := (d.driveGates.out n).gateLo })
    ∧ (∀ o ∈ d.driveGates.outputs, (d.node (d.halfOfOut o.id)).safe = true → o.gateHi = false ∧ o.gateLo = false)
    ∧ d.driveGates = { d with outputs := d.driveGates.outputs } ∧ d.driveGates.outputs.length = d.outputs.length

/-- Step 6 decides an output energised only when every section it names is CLEAR and its half is in service -/
def Obligations.DecidedOnlyWithEverySectionClear : Prop :=
  ∀ (d : Dev) (n : Nat), (d.out n).defd = true → (d.out n).id = n →
    let e := d.outFrame n
    let o := e.out n
    (o.decided = true → o.cfg.sections ≠ [] ∧ (∀ i ∈ o.cfg.sections, ∃ x, (d.node (d.halfOfOut n)).sect i = some x ∧ x.state = .clear)
      ∧ d.inService (d.halfOfOut n) = true ∧ d.shuttingOff (d.halfOfOut n) = false ∧ o.state ≠ .fault)
    ∧ (o.state = .fault → o.reqHi = false ∧ o.reqLo = false ∧ o.decided = false)
    ∧ (o.state = .onWait → (d.out n).state ≠ .onWait → o.decided = true ∧ o.reqHi = true ∧ o.reqLo = true)
    ∧ (o.state = .offWait → (d.out n).state ≠ .offWait → o.decided = false ∧ o.reqHi = false ∧ o.reqLo = false)
    ∧ e = { d with outputs := e.outputs, faults := e.faults }

/-- Output timeouts and a lost level put the output into FAULT with its code; before their time nothing changes -/
def Obligations.OutputFaultsLatch : Prop :=
  ∀ (s : State) (n : Fin 8), s.Runs (s.dev.halfOfOut n) → s.dev.observes = false →
    let o := s.dev.out n
    let age := if since s.dev.frame o.gateFrame < 2 ^ 31 then since s.dev.frame o.gateFrame else 0
    let latches := fun (c : Instr) (code : Nat) => ∃ t, exec c s = .next t ∧ t.dev.hasFault code .output n (s.dev.halfOfOut n) = true
      ∧ (t.dev.out n).state = .fault ∧ (o.state ≠ .fault → (t.dev.out n).first = code ∧ (t.dev.out n).reqHi = false ∧ (t.dev.out n).reqLo = false ∧ (t.dev.out n).decided = false)
      ∧ t = { s with dev := { s.dev with outputs := t.dev.outputs, faults := t.dev.faults } }
    let lost := fun (was : Option Nat) (us cyc : Nat) => ∃ f, was = some f ∧ f + us * 96 < s.dev.dt.toNat * 96 + cyc
    let holds := o.state = .on ∨ ((o.state = .onWait ∨ o.state = .adopt) ∧ o.levelOk = true)
    let pulsing := ∃ x ∈ s.dev.outputs, x.id ≠ n.val ∧ s.dev.halfOfOut x.id = s.dev.halfOfOut n ∧ x.pulse.isSome = true
    (o.state = .onWait ∨ o.state = .adopt ∨ o.state = .offWait →
      if o.levelOk = false ∧ 4 ≤ age then latches (.outputLevelTimeout n) (if o.state = .offWait then 0x53 else 0x52)
      else exec (.outputLevelTimeout n) s = .next s)
    ∧ (∀ cyc, (holds → o.pulse = none → lost o.leftAt 100 cyc → ¬ pulsing → latches (.outputLevelLost n cyc) 0x52)
      ∧ (holds → o.pulse = none → lost o.leftAt 100 cyc → pulsing → latches (.outputLevelLost n cyc) 0x55)
      ∧ (¬ holds ∨ o.pulse ≠ none ∨ ¬ lost o.leftAt 100 cyc → exec (.outputLevelLost n cyc) s = .next s))
    ∧ (∀ cyc, o.defd = true → (o.state = .off ∨ o.state = .fault) →
      (lost o.highAt 2000 (cyc + 1) → 4 ≤ age → latches (.outputOffNodeTimeout n cyc) 0x54)
      ∧ (¬ lost o.highAt 2000 (cyc + 1) ∨ age < 4 → exec (.outputOffNodeTimeout n cyc) s = .next s))
    ∧ (o.defd = true → if s.dev.edmLate o = true then latches (.edmTimeout n) 0x56 else exec (.edmTimeout n) s = .next s)

/-- OUTPUT_NODE_CLASS_CHANGE takes the new class; a wait whose level is seen is done with it -/
def Obligations.NodeClassesAreTakenAsSeen : Prop :=
  ∀ (s : State) (n : Fin 8) (high : Bool) (cls : NodeClass) (cyc : Nat), s.dev.inReset = false → (s.dev.out n).defd = true →
    let o := s.dev.out n
    let hi := if high then cls else o.hiCls
    let lo := if high then o.loCls else cls
    let t0 := s.dev.dt.toNat * 96 + cyc
    let seen := ((o.state = .onWait ∨ o.state = .adopt) ∧ hi = .high ∧ lo = .low) ∨ (o.state = .offWait ∧ hi = .low ∧ lo = .low)
    ∃ t, exec (.outputNodeClassChange n high cls cyc) s = .next t
      ∧ t.dev.out n = { o with hiCls := hi, loCls := lo, levelOk := (t.dev.out n).levelOk, levelFrame := (t.dev.out n).levelFrame, nonLow := o.nonLow || !decide (hi = .low ∧ lo = .low), leftAt := if (hi = .high ∧ lo = .low) ∨ o.pulse.isSome = true then none else some (o.leftAt.getD t0), highAt := if hi = .low ∧ lo = .low then none else some (o.highAt.getD t0) }
      ∧ ((t.dev.out n).levelOk = true ↔ o.levelOk = true ∨ seen)
      ∧ (t.dev.out n).levelFrame = (if o.levelOk = false ∧ seen then s.dev.frame else o.levelFrame)
      ∧ OnlyAt n s.dev.outputs t.dev.outputs ∧ t = { s with dev := { s.dev with outputs := t.dev.outputs } }

/-- OFF_PULSE_START and OFF_PULSE_END: the slot, the gate, the checks and the pulse counts -/
def Obligations.OffPulsesRunInTheirSlotsAndAreChecked : Prop :=
  ∀ (s : State) (n : Fin 8) (low : Bool), s.Runs (s.dev.halfOfOut n) →
    let o := s.dev.out n
    let slot := s.dev.dpx.handover = false ∧ s.dev.dpx.hold = false ∧ o.slotOn = true
      ∧ s.dev.frame.toNat % 2000 = 250 * n.val + (if low then 125 else 0)
    let code := if low then 0x51 else 0x50
    (∀ before after stayed,
      (¬ slot → exec (.offPulseStart n low before after stayed) s = .next s)
      ∧ (slot → (∀ k, k ≠ n.val → before[k]? = after[k]?) →
          let follows := stayed = true ∧ if low then (after.getD n (.mid, .mid)).2 = .high else (after.getD n (.mid, .mid)).1 = .low
          ∃ t, exec (.offPulseStart n low before after stayed) s = .next t
          ∧ (t.dev.out n).pulse = some { low, framesLeft := (515 + o.cfg.pulse) / 500 - 1, failed := !decide follows }
          ∧ (if low then (t.dev.out n).gateLo = false else (t.dev.out n).gateHi = false)
          ∧ t.dev.capOpen.outFaults = (if follows ∨ s.dev.observes = true then s.dev.capOpen.outFaults else s.dev.capOpen.outFaults ++ [(n.val, code, 0xFFFF)])
          ∧ t = { s with dev := { s.dev with outputs := t.dev.outputs, capOpen := { s.dev.capOpen with outFaults := t.dev.capOpen.outFaults } } })
      ∧ (slot → s.dev.observes = false → ∀ y ∈ s.dev.outputs, y.id ≠ n.val → s.dev.halfOfOut y.id = s.dev.halfOfOut n → y.defd = true → (y.state = .on ∨ y.state = .off ∨ y.state = .fault) →
          4 ≤ s.dev.gateAge y → before[y.id]? ≠ after[y.id]? → ∃ t, exec (.offPulseStart n low before after stayed) s = .next t
          ∧ (n.val, 0x55, y.id) ∈ t.dev.capOpen.outFaults ∧ (y.id, 0x55, n.val) ∈ t.dev.capOpen.outFaults))
    ∧ (∀ p stayed hi lo, o.pulse = some p → p.low = low →
        let good := stayed = true ∧ hi = .high ∧ lo = .low
        ∃ t, exec (.offPulseEnd n low stayed hi lo) s = .next t
        ∧ (t.dev.out n).pulse = none
        ∧ (t.dev.out n).pulsesHi = (if good ∧ p.failed = false ∧ low = false then min (o.pulsesHi + 1) 65535 else o.pulsesHi)
        ∧ (t.dev.out n).pulsesLo = (if good ∧ p.failed = false ∧ low = true then min (o.pulsesLo + 1) 65535 else o.pulsesLo)
        ∧ t.dev.capOpen.outFaults = (if good ∨ o.state ≠ .on ∨ s.dev.observes = true then s.dev.capOpen.outFaults else s.dev.capOpen.outFaults ++ [(n.val, code, 0xFFFF)])
        ∧ t = { s with dev := { s.dev with outputs := t.dev.outputs, capOpen := { s.dev.capOpen with outFaults := t.dev.capOpen.outFaults }, dpx := { s.dev.dpx with obs := t.dev.dpx.obs } } })
    ∧ (o.pulse = none → ∀ stayed hi lo, exec (.offPulseEnd n low stayed hi lo) s = .next s)

/-- PROOF_DUE_WARNING at 90 % of the interval; PROOF_INTERVAL_EXPIRY forces a cycle or raises 0x57 -/
def Obligations.ProofIntervalWarnsAndActs : Prop :=
  ∀ (s : State) (n : Fin 8), s.Runs (s.dev.halfOfOut n) → (s.dev.out n).defd = true → (s.dev.out n).cfg.mode ≠ .offpulse → 0 < (s.dev.out n).cfg.proof →
    let o := s.dev.out n
    let ran := since s.dev.frame o.proofStart
    let full := o.cfg.proof * 7200000
    (if 9 * full ≤ 10 * ran then ∃ t, exec (.proofDueWarning n) s = .next t ∧ t.dev.out n = { o with proofDue := true }
        ∧ OnlyAt n s.dev.outputs t.dev.outputs ∧ t = { s with dev := { s.dev with outputs := t.dev.outputs } }
      else exec (.proofDueWarning n) s = .next s)
    ∧ (ran < full → exec (.proofIntervalExpiry n) s = .next s)
    ∧ (full ≤ ran → o.cfg.force = false → ∃ t, exec (.proofIntervalExpiry n) s = .next t
        ∧ t.dev.hasFault 0x57 .output n (s.dev.halfOfOut n) = true ∧ t = { s with dev := { s.dev with faults := t.dev.faults } })
    ∧ (full ≤ ran → o.cfg.force = true → o.state = .on → ∃ t, exec (.proofIntervalExpiry n) s = .next t
        ∧ t.dev.out n = { o with state := .offWait, reqHi := false, reqLo := false, gateFrame := s.dev.frame + 1, levelOk := false, pendingMark := false }
        ∧ OnlyAt n s.dev.outputs t.dev.outputs
        ∧ t = { s with dev := { s.dev with outputs := t.dev.outputs
                                           proofCycles := if s.dev.halfOfOut n = .a then min (s.dev.proofCycles + 1) 65535 else s.dev.proofCycles
                                           proofCyclesB := if s.dev.halfOfOut n = .b then min (s.dev.proofCyclesB + 1) 65535 else s.dev.proofCyclesB } })
    ∧ (full ≤ ran → o.cfg.force = true → o.state ≠ .on → exec (.proofIntervalExpiry n) s = .next s)

/-- SAFE_INPUT_EDGE takes the raw level; INPUT_FILTERED_EDGE the filtered one after 5 000 µs, and what a press makes of it -/
def Obligations.InputsFilterAndPressesCount : Prop :=
  ∀ (s : State) (i : Fin 20), s.Runs (s.dev.halfOfInp i) → (s.dev.inp i).defd = true → (s.dev.inp i).raw = (s.dev.inp i).lvl →
    let x := s.dev.inp i
    let late := s.dev.dt.toNat * 96 + 48000
    (∀ on cyc, let ignored := s.dev.frame.toNat % 8 = 2 * x.cfg.src ∧ 28800 ≤ cyc ∧ cyc ≤ 46080
      ∃ t, exec (.safeInputEdge i on cyc) s = .next t
        ∧ t.dev.inp i = (if ignored then { x with raw := on, spanEnd := s.dev.dt.toNat * 96 + 46080 }
            else if x.lvl = on then x else { x with raw := on, lvl := on, rawSince := s.dev.dt.toNat * 96 + cyc })
        ∧ OnlyAt i s.dev.inputs t.dev.inputs ∧ t = { s with dev := { s.dev with inputs := t.dev.inputs } })
    ∧ (x.lvl = x.filt ∨ late < x.rawSince + 480000 → exec (.inputFilteredEdge i) s = .next s)
    ∧ (x.lvl = true → x.filt = false → x.rawSince + 480000 ≤ late →
        let y := { x with filt := true, filtAt := x.rawSince, onFrame := s.dev.frame }
        ∃ t, exec (.inputFilteredEdge i) s = .next t ∧ OnlyAt i s.dev.inputs t.dev.inputs ∧ t = { s with dev := { s.dev with inputs := t.dev.inputs } }
          ∧ (x.cfg.use = .status → t.dev.inp i = y)
          ∧ (x.cfg.use = .reset → i.val < 12 → x.cfg.enable = none → x.ignored = false → s.dev.inpFaulty i = false → (∀ f, x.faultEnd = some f → f < x.rawSince) →
              t.dev.inp i = { y with pressing := true, pressAt := x.rawSince, pressBad := none }))
    ∧ (x.lvl = false → x.filt = true → x.rawSince + 480000 ≤ late → i.val < 12 → x.cfg.use = .reset → x.pressing = true → x.pressBad = none →
        let ms := (x.rawSince - x.pressAt) / 96000
        let ok := 50 ≤ ms ∧ ms ≤ 3000
        ∃ t, exec (.inputFilteredEdge i) s = .next t
          ∧ t.dev.inp i = { x with filt := false, filtAt := x.rawSince, offFrame := s.dev.frame, pressing := false, lastPress := min 65535 ms, result := (if ms < 50 then 2 else if 3000 < ms then 3 else 1), tooShort := (if ms < 50 then min 255 (x.tooShort + 1) else x.tooShort), tooLong := (if 3000 < ms then min 255 (x.tooLong + 1) else x.tooLong), accepted := (if ok then min 65535 (x.accepted + 1) else x.accepted) }
          ∧ t.dev.capOpen.inputs = (if ok then s.dev.capOpen.inputs ++ [.reset x.id x.cfg.sect x.cfg.direct] else s.dev.capOpen.inputs)
          ∧ OnlyAt i s.dev.inputs t.dev.inputs
          ∧ t = { s with dev := { s.dev with inputs := t.dev.inputs, capOpen := { s.dev.capOpen with inputs := t.dev.capOpen.inputs } } })

/-- RESET_INPUT_STUCK after 5 000 ms raises 0x49 and drops the press; RESET_INPUT_RELEASED after 1 000 ms off ends it -/
def Obligations.StuckInputsAreIgnoredUntilReleased : Prop :=
  ∀ (s : State) (i : Fin 12), s.Runs (s.dev.halfOfInp i) →
    let x := s.dev.inp i
    let late := s.dev.dt.toNat * 96 + 48000
    (x.defd = true → x.cfg.use = .reset ∨ x.cfg.use = .outClear → x.filt = true → x.ignored = false →
      if x.filtAt + 480000000 < late then ∃ t, exec (.resetInputStuck i) s = .next t
        ∧ t.dev.hasFault 0x49 .input i (s.dev.halfOfInp i) = true
        ∧ t.dev.inp i = { x with pressing := false, ignored := true, result := if x.pressing then 3 else x.result, tooLong := if x.pressing then min (x.tooLong + 1) 255 else x.tooLong }
        ∧ OnlyAt i s.dev.inputs t.dev.inputs ∧ t = { s with dev := { s.dev with inputs := t.dev.inputs, faults := t.dev.faults } }
      else exec (.resetInputStuck i) s = .next s)
    ∧ (x.ignored = true → x.filt = false →
      if x.filtAt + 96000000 ≤ late then ∃ t, exec (.resetInputReleased i) s = .next t
        ∧ t.dev.hasFault 0x49 .input i (s.dev.halfOfInp i) = false ∧ t.dev.inp i = { x with ignored := false }
        ∧ OnlyAt i s.dev.inputs t.dev.inputs ∧ t = { s with dev := { s.dev with inputs := t.dev.inputs, faults := t.dev.faults } }
      else exec (.resetInputReleased i) s = .next s)

/-- TPS_PULSE_START and TPS_PULSE_END in the source's pulse frames; INPUT_FAULT_RECOVERY after 16 clean ones -/
def Obligations.TestPulsesCheckSourcesAndInputs : Prop :=
  (∀ (s : State) (k : Fin 4), s.dev.inReset = false →
    let now := s.dev.tpsOn k = true ∧ s.dev.frame.toNat % 8 = 2 * k.val
    (now → exec (.tpsPulseStart k) s = .next { s with dev := { s.dev with tps := s.dev.tps.modify k fun x => { x with on := false } } })
    ∧ (¬ now → exec (.tpsPulseStart k) s = .next s ∧ ∀ high low raw, exec (.tpsPulseEnd k high low raw) s = .next s)
    ∧ (now → ∀ high low raw, ∃ t, exec (.tpsPulseEnd k high low raw) s = .next t
        ∧ t.dev.tps = s.dev.tps.modify k (fun x => { x with on := true, failHist := ((!(high && low)) :: (s.dev.src k).failHist).take 16, cleanRun := if high && low then x.cleanRun + 1 else 0 })
        ∧ (high = true → low = true → (∀ c ∈ t.dev.capOpen.hwFaults, c.code = 0x5A → c ∈ s.dev.capOpen.hwFaults))
        ∧ ((high && low) = false → 2 ≤ ((s.dev.src k).failHist.take 15).count true →
            { code := 0x5A, kind := .tps, obj := k.val, half := s.dev.halfOfSrc k } ∈ t.dev.capOpen.hwFaults)
        ∧ (∀ i < 20, let x := s.dev.inp i
            x.defd = true → x.filt = true →
            (x.cfg.src = k.val → raw.getLsbD i = true → 2 ≤ (x.missHist.take 15).count true → { code := 0x58, kind := .input, obj := i, half := s.dev.halfOfInp i } ∈ t.dev.capOpen.hwFaults)
            ∧ (x.cfg.src ≠ k.val → raw.getLsbD i = false → (∃ n, x.excRun.find? (·.1 == k.val) = some (k.val, n + 1)) →
                { code := 0x59, kind := .input, obj := i, half := s.dev.halfOfInp i, partner := k.val } ∈ t.dev.capOpen.hwFaults))
        ∧ t = { s with dev := { s.dev with tps := t.dev.tps, inputs := t.dev.inputs, capOpen := { s.dev.capOpen with hwFaults := t.dev.capOpen.hwFaults } } }))
  ∧ (∀ (s : State) (i : Fin 20),
      (s.Runs (s.dev.halfOfSrc i) → if 16 ≤ (s.dev.src i).cleanRun then ∃ t, exec (.inputFaultRecovery true i) s = .next t
          ∧ t.dev.hasFault 0x5A .tps i (s.dev.halfOfSrc i) = false
          ∧ t = { s with dev := { s.dev with faults := t.dev.faults, inputs := s.dev.inputs.map fun x => if x.cfg.src = i.val then { x with faultEnd := some (s.dev.dt.toNat * 96) } else x } }
        else exec (.inputFaultRecovery true i) s = .next s)
      ∧ (s.Runs (s.dev.halfOfInp i) → if 16 ≤ (s.dev.inp i).cleanRun then ∃ t, exec (.inputFaultRecovery false i) s = .next t
          ∧ t.dev.hasFault 0x58 .input i (s.dev.halfOfInp i) = false ∧ t.dev.hasFault 0x59 .input i (s.dev.halfOfInp i) = false
          ∧ t = { s with dev := { s.dev with faults := t.dev.faults, inputs := s.dev.inputs.modify i fun x => { x with faultEnd := some (s.dev.dt.toNat * 96) } } }
        else exec (.inputFaultRecovery false i) s = .next s))

/-- PROBE_RUN_START at its interval, PROBE_RAMP_START in turn, PROBE_STARVED into the safe state -/
def Obligations.ProbeRunsStartOnTimeAndStarvationIsSafe : Prop :=
  ∀ s : State, s.dev.inReset = false → s.dev.split = false →
    let p := s.dev.probe
    (p.run.isSome = true ∨ s.dev.probeFaulty = true → exec .probeRunStart s = .next s)
    ∧ (p.run = none → s.dev.probeFaulty = false → s.dev.inService p.half = true → s.dev.probeInterval p.half ≤ since s.dev.frame p.lastStart →
        let off := 97 * (p.k + 1) % 500
        exec .probeRunStart s = .next { s with dev := { s.dev with probe := { p with
          k := p.k + 1, lastStart := s.dev.frame, run := some { t0 := s.dev.dt.toNat * 96 + (500 + off) * 96, offset := off }
          clear := true, count := 0, decision := true, shown := true, ramps := 0, rampStart := none, delayed := [], news := [] } } })
    ∧ (p.run = none → since s.dev.frame p.lastStart < s.dev.probeInterval p.half → p.failRun = 0 → p.k ≠ 0 → exec .probeRunStart s = .next s)
    ∧ (∀ rising cyc, (s.dev.node p.half).safe = false →
        let now := s.dev.dt.toNat * 96 + cyc
        let due := fun (r : ProbeRun) => p.ramps < 4 ∧ (rising = true ↔ p.ramps % 2 = 0)
          ∧ now = r.t0 + 96 * [0, 3000, 10000, 13000].getD p.ramps 0 - (if p.ramps % 2 = 0 then 1311 else 1926)
        (∀ r, p.run = some r → due r →
          exec (.probeRampStart rising cyc) s = .next { s with dev := { s.dev with probe := { p with ramps := p.ramps + 1, rampStart := some now } } })
        ∧ ((∀ r, p.run = some r → ¬ due r) → exec (.probeRampStart rising cyc) s = .next s))
    ∧ (s.dev.AllLive → s.dev.inService p.half = true → 3 * s.dev.probeInterval p.half ≤ since s.dev.frame p.lastPass →
        ∃ t, exec .probeStarved s = .next t ∧ t.dev.EnteredSafe 0xB8 0 s.dev ∧ t = { s with dev := t.dev })
    ∧ (s.dev.inService p.half = false ∨ since s.dev.frame p.lastPass < 3 * s.dev.probeInterval p.half → exec .probeStarved s = .next s)

/-- FRAME_BOUNDARY: frame, device time and code position advance; in the safe state nothing else does, and the bank in
force stays in force -/
def Obligations.BoundaryAdvancesTheTimebase : Prop :=
  ∀ (s : State) (obs : FrameObs) (lead : Int),
    (s.dev.inReset = true → exec (.frameBoundary obs lead) s = .next s)
    ∧ (s.dev.inReset = false → ∃ t, exec (.frameBoundary obs lead) s = .next t
      ∧ (s.dev.hal.stepTo = none → t.dev.frame = s.dev.frame + 1 ∧ t.dev.codePos = (s.dev.codePos + 1) % 63
          ∧ (s.dev.mirrors = false → t.dev.dt = s.dev.dt + 500)
          ∧ (t.dev.dt = s.dev.dt + 500 ∨ t.dev.dt = s.dev.dt + 499 ∨ t.dev.dt = s.dev.dt + 501))
      ∧ (∀ g, s.dev.hal.stepTo = some g → t.dev.frame = g.frame + 1 ∧ t.dev.codePos = (g.codePos + 1) % 63)
      ∧ t.prev = s.bank ∧ t.flash = s.flash ∧ t.snap0 = s.snap0 ∧ t.snap1 = s.snap1 ∧ t.pending = s.pending
      ∧ (s.dev.nodeA.safe = true → t.frozenA = some (s.frozenA.getD s.bank))
      ∧ (s.dev.nodeB.safe = true → t.frozenB = some (s.frozenB.getD s.bank))
      ∧ (s.dev.allSafe = true → t.bank = s.bank
          ∧ t.dev = { s.dev with frame := t.dev.frame, dt := t.dev.dt, codePos := t.dev.codePos, shortFrame := t.dev.shortFrame, hal := { s.dev.hal with stepTo := none }, systems := s.dev.systems.map fun x => { x with dischLeft := x.dischLeft - 1 } })
      ∧ (s.dev.AllLive → (obs.tickNs < 900 ∨ 1100 < obs.tickNs) → t.dev.EnteredSafe 0x14 0 (s.dev.advance lead))
      ∧ (s.dev.allSafe = false → 900 ≤ obs.tickNs → obs.tickNs ≤ 1100 →
          t.bank.frame = t.dev.frame ∧ t.bank.dt = t.dev.dt ∧ t.dev.workDone = false ∧ t.dev.workDoneB = false))

/-- FRAME_WORK runs once per frame and half and publishes nothing: bank, time and snapshots stay until the boundary. On a
stack master it waits for the halyard exchange to close; an access that meets an uncorrectable word is 0x21 -/
def Obligations.FrameWorkRunsOnceAndPublishesNothing : Prop :=
  ∀ (s : State) (w : WorkObs),
    let h := if s.dev.split then w.half else .a
    let may := s.dev.inReset = false ∧ h ∈ s.dev.halves ∧ s.dev.boardTest = false ∧ (s.dev.node h).safe = false ∧ (s.dev.node h).sys ≠ .boot
      ∧ s.dev.worked h = false ∧ s.dev.dpx.awaitRecord = false
    (¬ may → exec (.frameWork w) s = .next s)
    ∧ (may → s.dev.stackMaster = true → s.dev.hal.exClosed = false →
        exec (.frameWork w) s = .next { s with dev := { s.dev with workWaits := some w } })
    ∧ (may → s.dev.stackMaster = false ∨ s.dev.hal.exClosed = true → ∃ t, exec (.frameWork w) s = .next t
      ∧ (w.sramBad = none → t.dev.inWork = false ∧ (t.dev.worked h = true ∨ t.dev.dpx.awaitRecord = true ∨ (t.dev.node h).safe = true))
      ∧ (∀ b, w.sramBad = some b → t.dev.Held h ∧ t.dev.codeActive 0x21 = true)
      ∧ s.dev.SameTime t.dev ∧ t.bank = s.bank ∧ t.prev = s.prev ∧ t.snap0 = s.snap0 ∧ t.snap1 = s.snap1 ∧ t.pending = s.pending)

/-- FRAME_WORK_DEADLINE, COMMIT_DEADLINE and CORE_RESYNC: late work and too many resyncs are safe, one resync re-runs -/
def Obligations.DeadlinesAndResyncsOfTheCores : Prop :=
  ∀ (s : State) (h : Half), s.dev.inReset = false → s.dev.evaluates h = true →
    let stops := fun (c : Instr) (code cyc : Nat) => ∃ t, exec c s = .next t ∧ t = { s with dev := t.dev } ∧ t.dev.codeActive code = true
      ∧ (s.dev.split = false → t.dev.EnteredSafe code cyc s.dev) ∧ (s.dev.split = true → s.dev.HeldAlone h t.dev)
    let past := ((s.dev.node h).cores.resyncFrames.filter fun f => since s.dev.frame f ≤ 20000).length
    (s.dev.worked h = false → stops (.frameWorkDeadline h) 0xB0 44160 ∧ stops (.commitDeadline h) 0xB1 47616)
    ∧ (s.dev.worked h = true → exec (.frameWorkDeadline h) s = .next s ∧ exec (.commitDeadline h) s = .next s)
    ∧ (∀ restoring cyc,
      if restoring = true ∨ (s.dev.node h).cores.reran = true ∨ 3 ≤ past then stops (.coreResync h restoring cyc) 0x23 cyc
      else ∃ t, exec (.coreResync h restoring cyc) s = .next t
        ∧ (t.dev.node h).cores.resyncTotal = min ((s.dev.node h).cores.resyncTotal + 1) 65535
        ∧ (t.dev.node h).cores.reran = true ∧ (t.dev.node h).cores.resyncFrames = (s.dev.frame :: (s.dev.node h).cores.resyncFrames).take 4
        ∧ (s.dev.worked h = false → t.dev.hasFault 0x22 s.dev.coreKind (s.dev.coreObj h) h = true)
        ∧ (s.dev.worked h = true → t.dev.hasFault 0x22 s.dev.coreKind (s.dev.coreObj h) h = false)
        ∧ t.dev.done.map (fun c => (c.1, c.2.opc, c.2.tag, c.2.status, c.2.data)) = s.dev.done.map (fun c => (c.1, c.2.opc, c.2.tag, c.2.status, c.2.data))
        ∧ t = { s with dev := { s.dev with faults := t.dev.faults, done := t.dev.done, port0 := { s.dev.port0 with journal := t.dev.port0.journal }, port1 := { s.dev.port1 with journal := t.dev.port1.journal }, nodeA := { s.dev.nodeA with cores := t.dev.nodeA.cores }, nodeB := { s.dev.nodeB with cores := t.dev.nodeB.cores } } })

/-- Overdue scrub, re-comparison, background jobs and start-up phases put a live device into the safe state -/
def Obligations.OverdueJobsAndPhasesAreSafe : Prop :=
  ∀ s : State, s.dev.inReset = false → s.dev.AllLive →
    let b := s.dev.bgw
    let late := fun (h : Half) => ((s.dev.node h).sys = .boot ∧ 5000 ≤ s.dev.dt.toNat + 500) ∨ ((s.dev.node h).sys = .selftest ∧ 520000 ≤ s.dev.dt.toNat + 500)
    let trips := fun (c : Instr) (code : Nat) => ∃ t, exec c s = .next t ∧ t.dev.EnteredSafe code 0 s.dev ∧ t = { s with dev := t.dev }
    (if b.running = true ∧ 8000 ≤ since s.dev.frame b.scrubStart then trips .scrubPassOverdue 0xB3 else exec .scrubPassOverdue s = .next s)
    ∧ (if b.cmpRunning = true ∧ 8000 ≤ since s.dev.frame b.cmpStart then trips .recomparisonOverdue 0xB4 else exec .recomparisonOverdue s = .next s)
    ∧ (if b.running = true ∧ 192 ≤ since s.dev.frame b.calStart then trips (.backgroundJobOverdue 4) 0xB5 else exec (.backgroundJobOverdue 4) s = .next s)
    ∧ (if b.romRunning = true ∧ 120000 ≤ since s.dev.frame b.romStart then trips (.backgroundJobOverdue 6) 0xB5 else exec (.backgroundJobOverdue 6) s = .next s)
    ∧ (if b.opened = true ∧ s.dev.log.chainDone = false ∧ 20000 ≤ since s.dev.frame s.dev.log.chainStart then trips (.backgroundJobOverdue 8) 0xB5 else exec (.backgroundJobOverdue 8) s = .next s)
    ∧ (∀ j, j ∉ [4, 6, 8] → exec (.backgroundJobOverdue j) s = .next s)
    ∧ ((∃ h ∈ s.dev.halves, late h) → trips .startupPhaseTimeout 0xB2) ∧ (¬ (∃ h ∈ s.dev.halves, late h) → exec .startupPhaseTimeout s = .next s)

/-- BACKGROUND_SLACK runs once in a frame, after the work of every half that runs, and notes the slack; without a finding
no half leaves its state, and an uncorrectable word is 0x21 -/
def Obligations.SlackJobsReportAndStopOnlyOnFindings : Prop :=
  ∀ (s : State) (o : SlackObs), s.dev.inReset = false →
    let sound := o.uncorrA = false ∧ o.uncorrB = false ∧ o.uncorrShared = false
    let may := s.dev.bgw.running = true ∧ s.dev.allSafe = false ∧ s.dev.bgw.slackRan = false
      ∧ ∀ h ∈ s.dev.halves, (s.dev.node h).safe = false → s.dev.worked h = true
    (sound → ¬ may → exec (.backgroundSlack o) s = .next s)
    ∧ (sound → may → ∃ t, exec (.backgroundSlack o) s = .next t ∧ t.dev.bgw.slackRan = true
      ∧ t.dev.bgw.slack = min 456 (o.cycles / 96) ∧ t.dev.bgw.slackMin = min s.dev.bgw.slackMin (min 456 (o.cycles / 96))
      ∧ s.dev.SameTime t.dev ∧ t = { s with dev := t.dev }
      ∧ (o.tablesDiffer = false → o.tablesDifferB = false → o.romBad = false → o.romBadB = false →
          ∀ h, (t.dev.node h).safe = (s.dev.node h).safe))
    ∧ (s.dev.AllLive → (o.uncorrShared = true ∨ (o.uncorrA = true ∧ o.uncorrB = true) ∨ (s.dev.split = false ∧ (o.uncorrA = true ∨ o.uncorrB = true))) →
        ∃ t, exec (.backgroundSlack o) s = .next t ∧ t.dev.EnteredSafe 0x21 o.cyc s.dev ∧ t = { s with dev := t.dev })

/-- Encoding and reading a safe telegram agree, and only a telegram's own bytes are read as it -/
def Obligations.TelegramsDecodeToWhatWasSent : Prop :=
  (∀ (key : Word) (t : Telegram), t.fits → telegramOf key (t.bytes key) = some t)
  ∧ (∀ (key : Word) (bs : List Byte) (t : Telegram), telegramOf key bs = some t →
      bs = t.bytes key ∧ 24 ≤ bs.length ∧ bs.length ≤ 64 ∧ bs.length = 24 + 8 * t.entries.length ∧ t.allowed = true ∧ 0 < t.src ∧ t.src < 1024 ∧ t.dst < 1024)

/-- SLOT_GATE_CLOSE, BIAS_CHECK, COMMON_MODE_FAULT, LINE_SUSPENSION_END and INVALID_COPY on one line -/
def Obligations.LineChecksCountAndSuspend : Prop :=
  ∀ (s : State) (h : Half) (x : Line), s.Runs h → s.dev.hasLine h = true →
    let l := s.dev.line h
    let p := l.phys x
    let other := l.phys (match x with | .a => .b | .b => .a)
    let tb := bitCycles (s.dev.lineRec h).rate
    let only := fun (t : State) => t = { s with dev := { s.dev with faults := t.dev.faults, freeCtr := t.dev.freeCtr, nodeA := { s.dev.nodeA with line := t.dev.nodeA.line }, nodeB := { s.dev.nodeB with line := t.dev.nodeB.line } } } ∧ ∀ g, g ≠ h → t.dev.node g = s.dev.node g
    (∀ cyc, let now := s.dev.dt.toNat * 96 + cyc
        ∃ t, exec (.slotGateClose h cyc) s = .next t ∧ only t ∧ t.dev.faults = s.dev.faults
        ∧ (t.dev.line h).phys x = { p with drive := p.drive.map fun y => if y.wake then y else { y with stop := min y.stop now } }
        ∧ (∀ later, now ≤ later → (∀ y, p.drive = some y → y.wake = false) → ((t.dev.line h).phys x).de later = false))
    ∧ (∀ high, ∃ t, exec (.biasCheck h x high) s = .next t
        ∧ (t.dev.line h).phys x = { p with biasFails := (if high then 0 else p.biasFails + 1), biasGood := (if high then p.biasGood + 1 else 0) }
        ∧ (high = false → 3 ≤ p.biasFails → t.dev.lineFault h x 0x60 = true)
        ∧ (high = true ∨ p.biasFails < 3 → t.dev.faults = s.dev.faults) ∧ only t)
    ∧ (p.susp62 = false → ∃ t, exec (.commonModeFault h x) s = .next t ∧ (t.dev.line h).phys x = { p with susp62 := true, suspFrame := s.dev.frame }
        ∧ t.dev.lineFault h x 0x62 = true ∧ (other.suspended = true → t.dev.hasFault 0x66 .lineNode 0 h = true) ∧ only t)
    ∧ (p.susp62 = true → exec (.commonModeFault h x) s = .next s)
    ∧ (if p.suspCycles = 1 then ∃ t, exec (.lineSuspensionEnd h x) s = .next t ∧ (t.dev.line h).phys x = { p with suspCycles := 0 }
        ∧ (p.susp62 = false → t.dev.hasFault 0x66 .lineNode 0 h = false) ∧ only t
      else exec (.lineSuspensionEnd h x) s = .next s)
    ∧ (∀ c : Copy, p.suspended = true ∨ c.begun tb = false → exec (.invalidCopy h x c) s = .next s)
    ∧ (∀ (c : Copy) r m, c.reception tb = some r → telegramIn (s.dev.lineRec h).key l.cycle r.1 = some m → exec (.invalidCopy h x c) s = .next s)
    ∧ (∀ c : Copy, p.suspended = false → c.begun tb = true → (∀ r, c.reception tb = some r → telegramIn (s.dev.lineRec h).key l.cycle r.1 = none) →
        let differ := !c.agree tb
        ∃ t, exec (.invalidCopy h x c) s = .next t
        ∧ (t.dev.line h).phys x = { p with decHist := (differ :: p.decHist).take 64, decGood := (if differ then 0 else p.decGood + 1), decDis := (if differ then min (p.decDis + 1) 65535 else p.decDis), invalid := min (p.invalid + 1) 65535 }
        ∧ (differ = false → t.dev.faults = s.dev.faults) ∧ only t)

/-- Line, telegram, ring and duplex recoveries clear their fault when its condition holds and change nothing otherwise -/
def Obligations.LinkFaultsClearOnlyWhenRecovered : Prop :=
  ∀ (s : State) (h : Half) (x : Line), s.Runs h →
    let l := s.dev.line h
    let p := l.phys x
    let clears := fun (c : Instr) (code : Nat) (k : Kind) (o : Nat) (ok : Bool) =>
      if ok then ∃ t, exec c s = .next t ∧ t.dev.hasFault code k o h = false ∧ t = { s with dev := { s.dev with faults := t.dev.faults } }
      else exec c s = .next s
    clears (.lineFaultRecovery h 0x60 x) 0x60 .line x.num (decide (64 ≤ p.biasGood))
    ∧ clears (.lineFaultRecovery h 0x61 x) 0x61 .line x.num (decide (8 ≤ p.cleanTx ∧ p.suspCycles = 0))
    ∧ clears (.lineFaultRecovery h 0x63 x) 0x63 .line x.num (decide (64 ≤ p.decGood))
    ∧ clears (.lineFaultRecovery h 0x64 x) 0x64 .lineNode 0 (decide (2000 ≤ l.s64Cycles))
    ∧ clears (.lineFaultRecovery h 0x65 x) 0x65 .linePair 0 l.clean65
    ∧ clears (.telegramFaultRecovery h 0x67 x) 0x67 .line x.num (decide (64 ≤ l.bothRun))
    ∧ clears (.telegramFaultRecovery h 0x68 x) 0x68 .linePair 0 (decide (64 ≤ l.diffCycles))
    ∧ clears (.telegramFaultRecovery h 0x69 x) 0x69 .linePair 0 (decide (64 ≤ l.dupCycles))
    ∧ clears (.telegramFaultRecovery h 0x6A x) 0x6A .lineNode 0 (!l.silent6A)
    ∧ clears (.telegramFaultRecovery h 0x6B x) 0x6B .lineNode 0 (decide (l.mode = .normal))
    ∧ clears (.telegramFaultRecovery h 0x6C x) 0x6C s.dev.coreKind (s.dev.coreObj h) (decide ((s.dev.node h).journal.inFlight < 448))
    ∧ (p.susp62 = true → 2000 ≤ since s.dev.frame p.suspFrame → ∃ t, exec (.lineFaultRecovery h 0x62 x) s = .next t
        ∧ t.dev.lineFault h x 0x62 = false ∧ (t.dev.line h).phys x = { p with susp62 := false } ∧ (∀ g, g ≠ h → t.dev.node g = s.dev.node g)
        ∧ t = { s with dev := { s.dev with faults := t.dev.faults, freeCtr := t.dev.freeCtr, nodeA := { s.dev.nodeA with line := t.dev.nodeA.line }, nodeB := { s.dev.nodeB with line := t.dev.nodeB.line } } })
    ∧ (p.susp62 = false ∨ since s.dev.frame p.suspFrame < 2000 → exec (.lineFaultRecovery h 0x62 x) s = .next s)

/-- WAKE_DETECTED, WAKE_RETRY, REEF_QUIET_TIMEOUT and MISSED_BEACON_TIMEOUT. That the bursts of a course count anew after
eight, and that cycles go on without a number, is read from the spec (logs 121, 122). -/
def Obligations.WakeQuietAndMissedBeacons : Prop :=
  ∀ (s : State) (h : Half) (cyc : Nat), s.dev.inReset = false → s.dev.hasLine h = true →
    let l := s.dev.line h
    let r := s.dev.lineRec h
    let now := s.dev.dt.toNat * 96 + cyc
    let lines := fun (t : State) => t = { s with dev := { s.dev with nodeA := { s.dev.nodeA with line := t.dev.nodeA.line }, nodeB := { s.dev.nodeB with line := t.dev.nodeB.line } } } ∧ ∀ g, g ≠ h → t.dev.node g = s.dev.node g
    (∀ a b, wakeSeen now a = false → wakeSeen now b = false → exec (.wakeDetected h a b cyc) s = .next s)
    ∧ (∀ a b, wakeSeen now a = true ∨ wakeSeen now b = true →
        (l.inReef = false → ∃ t, exec (.wakeDetected h a b cyc) s = .next t ∧ t.dev.line h = { l with wakesIgnored := min (l.wakesIgnored + 1) 65535 } ∧ lines t)
        ∧ (l.inReef = true → s.dev.isMaster h = false → exec (.wakeDetected h a b cyc) s = .next s)
        ∧ (l.inReef = true → l.mode = .reef → l.wakePending = false → s.dev.isMaster h = true → ∃ t, exec (.wakeDetected h a b cyc) s = .next t
          ∧ t.dev.line h = { l with wakeReq := false, wakePending := true, e0 := s.dev.dt + 1500, e0Next := 0 } ∧ t.dev.nextMode h = (.normal, 0) ∧ lines t))
    ∧ (let due := l.inReef = true ∧ 1 ≤ l.wakeBursts ∧ l.wakeEnd + (30000 + 220 * s.dev.lineAddress h) * 96 ≤ now
       (due → l.wakeBursts < 8 → ∃ t, exec (.wakeRetry h cyc) s = .next t ∧ lines t
          ∧ t.dev.line h = { (l.driven { start := now, stop := now + 19584, wave := wakeWave now, wake := true }) with wakeReq := false, wakeBursts := l.wakeBursts + 1, wakeEnd := now + 19584, wakesSent := min (l.wakesSent + 1) 65535 })
       ∧ (due → 8 ≤ l.wakeBursts → ∃ t, exec (.wakeRetry h cyc) s = .next t ∧ t.dev.hasFault 0x6B .lineNode 0 h = true
          ∧ t.dev.line h = { l with wakeBursts := 0 } ∧ (∀ g, g ≠ h → t.dev.node g = s.dev.node g)
          ∧ t = { s with dev := { s.dev with faults := t.dev.faults, nodeA := { s.dev.nodeA with line := t.dev.nodeA.line }, nodeB := { s.dev.nodeB with line := t.dev.nodeB.line } } })
       ∧ (¬ due → exec (.wakeRetry h cyc) s = .next s))
    ∧ (s.dev.isMaster h = true → r.reef = true → l.inReef = false →
        if 2000 * r.quiet ≤ since s.dev.frame l.quietFrame then ∃ t, exec (.reefQuietTimeout h) s = .next t ∧ t.dev.line h = { l with proposeReq := true } ∧ lines t
        else exec (.reefQuietTimeout h) s = .next s)
    ∧ (∀ ref, l.slotRef = some ref →
        if ref + l.period r + 192 * s.dev.tPath h + 9600 ≤ now then
          ∃ t, exec (.missedBeaconTimeout h cyc) s = .next t ∧ (t.dev.line h).sinceBeacon = l.sinceBeacon + 1 ∧ (t.dev.line h).slotRef = some (ref + l.period r)
          ∧ (t.dev.line h).cycle = (if l.sinceBeacon < 16 then l.cycle.map (· + 1) else none)
          ∧ (∀ g, g ≠ h → t.dev.node g = s.dev.node g)
          ∧ t = { s with dev := { s.dev with faults := t.dev.faults, port0 := { s.dev.port0 with journal := t.dev.port0.journal }, port1 := { s.dev.port1 with journal := t.dev.port1.journal }
                                             nodeA := { s.dev.nodeA with line := t.dev.nodeA.line, points := t.dev.nodeA.points }, nodeB := { s.dev.nodeB with line := t.dev.nodeB.line, points := t.dev.nodeB.points } } }
        else exec (.missedBeaconTimeout h cyc) s = .next s)
    ∧ (l.slotRef = none → exec (.missedBeaconTimeout h cyc) s = .next s)

/-- BEACON, DATA and JOIN received on both lines: the cycle, the entries, the session; a duplicate is discarded -/
def Obligations.ReceivedTelegramsAreTakenOnce : Prop :=
  ∀ (s : State) (h : Half) (m : Telegram) (sd : Nat) (ca cb : Copy), s.dev.inReset = false → s.dev.hasLine h = true → m.fits →
    ((s.dev.line h).phys .a).suspended = false → ((s.dev.line h).phys .b).suspended = false → m.src ≠ s.dev.lineAddress h →
    let l := s.dev.line h
    let brings := fun (c : Copy) => c.reception (bitCycles (s.dev.lineRec h).rate) = some (m.bytes (s.dev.lineRec h).key, sd)
    let cp : CopyPair := { a := some ca, b := some cb }
    brings ca → brings cb →
    (∀ p, m.type = 2 → l.cycle = some m.cycle → s.dev.inSlot h m.src sd = true → s.dev.mutedSource h m.src = false → l.peer m.src = some p → p.dropped = false →
      ∃ t, exec (.dataTelegram h cp) s = .next t ∧ (∀ g, g ≠ h → t.dev.node g = s.dev.node g)
        ∧ t = { s with dev := { s.dev with capOpen := t.dev.capOpen, faults := t.dev.faults, nodeA := { s.dev.nodeA with line := t.dev.nodeA.line }, nodeB := { s.dev.nodeB with line := t.dev.nodeB.line } } }
        ∧ (p.heard = false ∨ newer p.s m.tseq = true →
            t.dev.capOpen = { s.dev.capOpen with telegrams := s.dev.capOpen.telegrams ++ [(h, { tel := m, onA := true, onB := true })] }
            ∧ (t.dev.line h).peer m.src = some { p with heard := true, got := true, missed := 0, s := m.tseq, last := m.entries })
        ∧ (p.heard = true → newer p.s m.tseq = false →
            t.dev.capOpen = s.dev.capOpen ∧ (t.dev.line h).peer m.src = some { p with heard := true, got := true, missed := 0 }
            ∧ (m.tseq = p.s → p.last ≠ m.entries → t.dev.hasFault 0x69 .linePair 0 h = true)))
    ∧ (∀ p reason session, m.type = 3 → m.entries = [.join reason session] → l.cycle = some m.cycle → s.dev.inSlot h m.src sd = true →
        s.dev.mutedSource h m.src = false → l.peer m.src = some p → p.session ≠ some session →
      ∃ t, exec (.joinTelegram h cp) s = .next t
        ∧ (t.dev.line h).peer m.src = some { p with heard := true, got := true, missed := 0, s := m.tseq, last := m.entries, dropped := false, session := some session, hi := none, applied := [], verdicted := [] }
        ∧ (∀ e ∈ (t.dev.node h).journal.entries, m.src ∉ e.consumers) ∧ t.dev.capOpen = s.dev.capOpen
        ∧ (∀ q ∈ (t.dev.node h).points, q.cfg.kind = .remote → q.cfg.owner = m.src → q.state = .disturbed))
    ∧ (∀ mode round sid, m.type = 1 → m.entries = [.beacon mode round sid] → m.src = (s.dev.lineRec h).master → s.dev.beaconInSlot h mode sd = true →
        (∀ c, l.cycle = some c → newer c m.cycle = true) → (∀ p, l.peer m.src = some p → p.heard = false ∨ newer p.s m.tseq = true) →
      ∃ t, exec (.beacon h cp) s = .next t ∧ (t.dev.line h).cycle = some m.cycle ∧ (t.dev.line h).slotRef = some sd ∧ (t.dev.line h).sinceBeacon = 0
        ∧ (t.dev.line h).mode = mode ∧ (t.dev.line h).round = round ∧ (t.dev.line h).muted = [] ∧ (t.dev.line h).silent6A = decide (sid ≠ s.dev.schedId h)
        ∧ t.dev.hasFault 0x6A .lineNode 0 h = decide (sid ≠ s.dev.schedId h) ∧ (∀ g, g ≠ h → t.dev.node g = s.dev.node g))

/-- SLOT_START sends one DATA of its slot's class, drops a request outside its windows with 0x64; BEACON_SEND opens the
cycle it sends, on the slot clock of its echo -/
def Obligations.SlotsAndBeaconsAreSentInTurn : Prop :=
  ∀ (s : State) (h : Half), s.dev.inReset = false →
    let l := s.dev.line h
    let r := s.dev.lineRec h
    let sends := fun (t : State) (m : Telegram) (start : Nat) => (t.dev.line h).txTel = some m
      ∧ ∀ x, (l.phys x).suspended = false → ((t.dev.line h).phys x).drive = some { start, stop := start + envelope r.rate r.preamble (m.bytes r.key).length, wave := telegramWave r.rate r.preamble start (m.bytes r.key) }
    (∀ n e cyc, s.dev.mayRequest h = false ∨ (s.dev.slots h)[n]? = none → exec (.slotStart h n e cyc) s = .next s)
    ∧ (∀ n x e cyc, s.dev.mayRequest h = true → (s.dev.slots h)[n]? = some x →
        let now := s.dev.dt.toNat * 96 + cyc
        (s.dev.inGate h x now x.lclass = true → x.kind = .own ∨ x.kind = .twin → 24 ≤ x.lclass → l.silent = false → l.mode ≠ .reef → l.joinsLeft = 0 ∨ l.ownSlots ≠ 0 →
          ∃ t m, exec (.slotStart h n e cyc) s = .next t
          ∧ sends t m now ∧ m.type = 2 ∧ m.src = s.dev.lineAddress h ∧ m.dst = 0 ∧ some m.cycle = l.cycle ∧ m.tseq = s.dev.nextTseq h
          ∧ 24 + 8 * m.entries.length ≤ x.lclass ∧ (t.dev.line h).tseq = m.tseq ∧ (t.dev.line h).ownSlots = l.ownSlots + 1
          ∧ ((∀ y, s.dev.echoOk h y m e = true) → t.dev.faults = s.dev.faults) ∧ (∀ g, g ≠ h → t.dev.node g = s.dev.node g))
        ∧ (s.dev.inGate h x now 24 = false → s.dev.hasFault 0x64 .lineNode 0 h = false → ∃ t, exec (.slotStart h n e cyc) s = .next t
          ∧ t.dev.hasFault 0x64 .lineNode 0 h = true ∧ t.dev.line h = { l with silent64 := true, s64Cycles := 0 }
          ∧ (∀ g, g ≠ h → t.dev.node g = s.dev.node g) ∧ t = { s with dev := { s.dev with faults := t.dev.faults, nodeA := { s.dev.nodeA with line := t.dev.nodeA.line }, nodeB := { s.dev.nodeB with line := t.dev.nodeB.line } } })
        ∧ (s.dev.inGate h x now 24 = false → s.dev.hasFault 0x64 .lineNode 0 h = true → h ∈ s.dev.halves → ∃ t, exec (.slotStart h n e cyc) s = .next t
          ∧ t.dev.Held h ∧ t.dev.codeActive 0x6D = true))
    ∧ (∀ e, s.dev.sendsBeacon h = false ∨ s.dev.dt.toNat + 500 ≤ l.e0.toNat + l.e0Next → exec (.beaconSend h e) s = .next s)
    ∧ (∀ e, s.dev.sendsBeacon h = true → l.e0.toNat + l.e0Next < s.dev.dt.toNat + 500 →
        let cyc := match l.beaconCycle with | some c => c + 1 | none => 0
        let due := (l.e0.toNat + l.e0Next) * 96
        ∃ t m, exec (.beaconSend h e) s = .next t ∧ sends t m due ∧ m.type = 1 ∧ m.src = s.dev.lineAddress h ∧ m.cycle = cyc
          ∧ m.entries = [.beacon (s.dev.nextMode h).1 (s.dev.nextMode h).2 (s.dev.schedId h)]
          ∧ (t.dev.line h).beaconCycle = some cyc ∧ (t.dev.line h).cycle = some cyc ∧ (t.dev.line h).mode = (s.dev.nextMode h).1
          ∧ (∀ sd, s.dev.beaconEcho h m e = some sd → (t.dev.line h).slotRef = some sd ∧ (t.dev.line h).sinceBeacon = 0 ∧ (t.dev.node h).joinBeacon = true)
          ∧ (s.dev.beaconEcho h m e = none → (t.dev.line h).slotRef = some (due + r.bitTimes (10 + r.preamble)) ∧ (t.dev.line h).sinceBeacon = 1)
          ∧ (∀ g, g ≠ h → t.dev.node g = s.dev.node g))

/-- The partner's claim is present after four spaced pairs; both claims raise 0x70; a failed readback and 2 000 frames end
the own claim -/
def Obligations.ClaimsAreSeenAndYielded : Prop :=
  ∀ (s : State) (cyc : Nat), s.dev.inReset = false → s.dev.split = false →
    let x := s.dev.dpx
    let t0 := s.dev.dt.toNat * 96 + cyc
    let spaced := 1 ≤ x.pairRun ∧ x.pairRef + 40 * 96 ≤ t0 ∧ t0 ≤ x.pairRef + 60 * 96
    let seen : Dpx := { x with pairRun := 4, pairRef := t0, lastPair := t0, pclaim := true, presAt := t0 }
    let dark := fun (t : State) => ∀ y ∈ t.dev.systems, y.id < 32 → y.mode = .off ∨ y.mode = .discharge
    let undriven := fun (t : State) => ∀ o ∈ t.dev.outputs, o.gateHi = false ∧ o.gateLo = false
    (¬ spaced → exec (.shroudValidPair cyc) s = .next { s with dev := { s.dev with dpx := { x with pairRun := 1, pairRef := t0 } } })
    ∧ (spaced → x.pairRun < 3 ∨ x.pclaim = true →
        exec (.shroudValidPair cyc) s = .next { s with dev := { s.dev with dpx := { x with pairRun := min 4 (x.pairRun + 1), pairRef := t0, lastPair := t0 } } })
    ∧ (spaced → 3 ≤ x.pairRun → x.pclaim = false →
        (x.claim = false → x.hold = false → ∃ t, exec (.shroudValidPair cyc) s = .next t ∧ t = { s with dev := { s.dev with dpx := seen, systems := t.dev.systems } } ∧ dark t)
        ∧ (x.claim = true → x.hold = false → s.dev.pair = true → s.dev.position = 0 → ∃ t, exec (.shroudValidPair cyc) s = .next t
          ∧ t.dev.dpx = { seen with contSince := some (x.contSince.getD s.dev.frame) } ∧ t.dev.unitFault 0x70 = true ∧ undriven t
          ∧ t = { s with dev := { s.dev with dpx := t.dev.dpx, faults := t.dev.faults, outputs := t.dev.outputs } })
        ∧ (x.claim = true → s.dev.pair = true → s.dev.position ≠ 0 → (∀ f ∈ x.giveUps, 120000 < since s.dev.frame f) →
          ∃ t, exec (.shroudValidPair cyc) s = .next t
          ∧ t.dev.dpx.claim = false ∧ t.dev.dpx.role = .offline ∧ t.dev.dpx.contEnd = s.dev.frame ∧ t.dev.dpx.pclaim = true ∧ t.dev.unitFault 0x70 = true
          ∧ undriven t ∧ dark t))
    ∧ (x.claim = false → exec .claimReadbackFail s = .next s)
    ∧ (x.claim = true → ∃ t, exec .claimReadbackFail s = .next t ∧ t.dev.dpx.claim = false ∧ t.dev.dpx.hold = false ∧ t.dev.dpx.role = .offline
        ∧ t.dev.unitFault 0x77 = true ∧ undriven t)
    ∧ (∀ f, x.contSince = some f →
        if s.dev.pair = true ∧ s.dev.position = 0 ∧ 2000 ≤ since s.dev.frame f then
          ∃ t, exec .contentionTimeout s = .next t ∧ t.dev.dpx.claim = false ∧ t.dev.dpx.role = .offline ∧ t.dev.dpx.lock7A = true
            ∧ t.dev.dpx.contSince = none ∧ t.dev.unitFault 0x7A = true
        else exec .contentionTimeout s = .next s)
    ∧ (x.contSince = none → exec .contentionTimeout s = .next s)

/-- A lost partner claim is taken over by the standby with its lines on; arbitration waits; hold starts and ends at its
times -/
def Obligations.ClaimsAreGainedAndHandedOver : Prop :=
  ∀ (s : State) (cyc : Nat), s.dev.inReset = false → s.dev.split = false →
    let x := s.dev.dpx
    let t0 := s.dev.dt.toNat * 96 + cyc
    let now := s.dev.dt.toNat * 96 + 48000
    let gone : Dpx := { x with pclaim := false, pairRun := 0, absentSince := t0 }
    (x.pclaim = false ∨ t0 < x.lastPair + 250 * 96 → exec (.claimAbsent cyc) s = .next s)
    ∧ (x.pclaim = true → x.lastPair + 250 * 96 ≤ t0 → s.dev.pair = true → x.role = .offline →
        ∃ t, exec (.claimAbsent cyc) s = .next t ∧ (∀ c, x.resyncCmd = some c → t.dev.Completes c.1 0x26 c.2 .twinLost 0)
          ∧ t = { s with dev := { s.dev with dpx := { gone with resyncCmd := none }, done := t.dev.done, systems := t.dev.systems } })
    ∧ (x.pclaim = true → x.lastPair + 250 * 96 ≤ t0 → s.dev.pair = true → x.role = .standby → ∃ t, exec (.claimAbsent cyc) s = .next t
        ∧ t.dev.dpx.claim = true ∧ t.dev.dpx.pclaim = false ∧ t.dev.dpx.role = .solo ∧ t.dev.dpx.claimFrame = s.dev.frame ∧ t.dev.dpx.switchCmd = none
        ∧ (∀ (i : Nat) (y : Sys), s.dev.systems[i]? = some y → y.mayOn = true → y.mode = .off ∨ y.mode = .proof →
            ∃ z, t.dev.systems[i]? = some z ∧ z.mode = .on ∧ z.usable = y.usable ∧ z.run4 = y.run4)
        ∧ (∀ (i : Nat) (p q : Point), s.dev.nodeA.points[i]? = some p → x.shadow.find? (fun z => z.cfg.index == p.cfg.index) = some q →
            ∃ r, t.dev.nodeA.points[i]? = some r ∧ r.cfg = p.cfg ∧ r.state = (if p.state = .disturbed ∨ q.state = .disturbed then .disturbed else p.state)
              ∧ (p.state ≠ .disturbed → q.state ≠ .disturbed → r.pas = q.pas)))
    ∧ (let free := s.dev.pair = true ∧ x.role = .offline ∧ x.hold = false ∧ x.pclaim = false ∧ s.dev.inService .a = true ∧ s.dev.mayArbitrate = true
       let wait := max (x.absentSince + 300 * 96) x.offAt + (if s.dev.position = 0 then 0 else 200000 * 96)
       (¬ free ∨ now < wait → exec .arbitrationWaitEnd s = .next s)
       ∧ (free → wait ≤ now → (∀ (i : Nat) (o : Output), s.dev.outputs[i]? = some o → o.id = i) → ∃ t, exec .arbitrationWaitEnd s = .next t
          ∧ t.dev.dpx.claim = true ∧ t.dev.dpx.role = .solo ∧ t.dev.dpx.claimFrame = s.dev.frame
          ∧ (∀ o ∈ t.dev.outputs, o.defd = true → o.state = .off ∧ o.reqHi = false ∧ o.reqLo = false ∧ o.gateHi = false ∧ o.gateLo = false)
          ∧ (∀ y ∈ t.dev.nodeA.sections, y.state = .disturbed) ∧ t.dev.nodeA.points = s.dev.nodeA.points))
    ∧ (let held := s.dev.pair = true ∧ x.handover = true ∧ x.claim = true
       (¬ held → exec .holdStart s = .next s)
       ∧ (held → ∃ t, exec .holdStart s = .next t ∧ t.dev.dpx = { x with hold := true, holdAt := s.dev.dt.toNat * 96 + 24000, claim := false }
          ∧ t = { s with dev := { s.dev with dpx := t.dev.dpx, systems := t.dev.systems, outputs := t.dev.outputs } }
          ∧ (∀ (i : Nat) (o : Output), s.dev.outputs[i]? = some o → o.pulse = none → s.dev.nodeA.safe = false →
              ∃ p, t.dev.outputs[i]? = some p ∧ p.gateHi = (o.appHi && !o.nHi) ∧ p.gateLo = (o.appLo && !o.nLo))))
    ∧ (let ended := x.hold = true ∧ ((x.pclaim = true ∧ x.presAt + 400 * 96 ≤ now) ∨ x.holdAt + 3000 * 96 ≤ now)
       (¬ ended → exec .holdEnd s = .next s)
       ∧ (ended → ∃ t, exec .holdEnd s = .next t ∧ t.dev.dpx.hold = false ∧ t.dev.dpx.handover = false ∧ t.dev.dpx.role = .offline ∧ t.dev.dpx.switchCmd = none
          ∧ (x.pclaim = false → t.dev.unitFault 0x78 = true) ∧ t.dev.systems = s.dev.systems
          ∧ (x.claim = false → ∀ o ∈ t.dev.outputs, o.gateHi = false ∧ o.gateLo = false)))

/-- HELLO, SHADOW, invalid messages, silence and the own sending: entry into SYNCING, SOLO and ACTIVE, 0x71 to 0x75 and
0x7A, a frozen link -/
def Obligations.TwinMessagesMoveTheRoles : Prop :=
  ∀ s : State, s.dev.inReset = false →
    let x := s.dev.dpx
    let d := s.dev
    let frozen := fun (t : State) => t.dev.dpx.frozen = true ∧ t.dev.dpx.frozenFrame = d.frame ∧ t.dev.dpx.bad = 0 ∧ t.dev.unitFault 0x75 = true
      ∧ t.dev.dpx.role = (match x.role with | .active => .solo | .solo => .solo | _ => .offline) ∧ t.dev.dpx.claim = x.claim ∧ t.dev.dpx.switchCmd = none
    (d.pair = false → (∀ m, exec (.hello m) s = .next s) ∧ (∀ m, exec (.shadow m) s = .next s) ∧ exec .twinLinkLost s = .next s
      ∧ (∀ bs, exec (.invalidTwinMessage bs) s = .next s) ∧ exec .twinLinkExchange s = .next { s with dev := { d with dpx := x.quiet } })
    ∧ (d.pair = true → x.frozen = true → (∀ m, newer x.epoch m.epoch = false ∨ since d.frame x.frozenFrame < 2000 → exec (.hello m) s = .next s)
      ∧ (∀ m, exec (.shadow m) s = .next s) ∧ (∀ bs, exec (.invalidTwinMessage bs) s = .next s))
    ∧ (d.pair = true → x.frozen = false →
      (∀ m, newer x.epoch m.epoch = false → m.epoch ≠ x.epoch → exec (.hello m) s = .next s)
      ∧ (∀ m, newer x.epoch m.epoch = true ∨ m.epoch = x.epoch →
        (m.position = d.position → d.unitFault 0x7A = false →
          ∃ t, exec (.hello m) s = .next t ∧ t.dev.dpx.role = .offline ∧ t.dev.dpx.claim = false ∧ t.dev.dpx.lock7A = true ∧ t.dev.unitFault 0x7A = true)
        ∧ (m.position ≠ d.position → m.inWindow = false ∨ (d.alignedWith m.role = true ∧ m.frame ≠ d.frame) → ∃ t, exec (.hello m) s = .next t ∧ frozen t)
        ∧ (m.position ≠ d.position → m.inWindow = true → d.alignedWith m.role = false ∨ m.frame = d.frame →
          (x.role = .syncing → exec (.hello m) s = .next { s with dev := { d with dpx := { x with prole := some m.role, bad := 0 } } })
          ∧ (x.role ≠ .offline ∨ x.pclaim = false → ∃ t, exec (.hello m) s = .next t ∧ t.dev.dpx.prole = some m.role ∧ t.dev.dpx.claim = x.claim
            ∧ t.dev.dpx.role = (if x.role = .active then .solo else x.role))
          ∧ (x.role = .offline → x.pclaim = true → d.inService .a = true → d.mayArbitrate = true → x.hold = false → x.lock76 = false → x.retryWait = false →
            (d.compatible m = true → ∃ t, exec (.hello m) s = .next t ∧ t.dev.dpx.role = .syncing ∧ t.dev.dpx.epoch = m.epoch + 1 ∧ t.dev.frame = m.frame
              ∧ t.dev.dt = m.dt ∧ t.dev.codePos = m.codePos % 63 ∧ t.dev.dpx.step = 1 ∧ t.dev.dpx.progress = 0 ∧ t.dev.unitFault 0x73 = false
              ∧ (∀ c, x.resyncCmd = some c → t.dev.Completes c.1 0x26 c.2 .ok 0)
              ∧ t.dev.nodeA = d.nodeA ∧ t.dev.outputs = d.outputs ∧ t.dev.systems = d.systems)
            ∧ (d.compatible m = false → d.unitFault 0x73 = false → ∃ t, exec (.hello m) s = .next t ∧ t.dev.dpx.role = .offline ∧ t.dev.unitFault 0x73 = true
              ∧ t = { s with dev := { d with dpx := t.dev.dpx, faults := t.dev.faults, done := t.dev.done } }))))
      ∧ (∀ m, m.epoch ≠ x.epoch → exec (.shadow m) s = .next s)
      ∧ (∀ m, m.epoch = x.epoch →
        (m.inWindow = false ∨ m.frame ≠ d.frame → ∃ t, exec (.shadow m) s = .next t ∧ frozen t)
        ∧ (m.inWindow = true → m.frame = d.frame →
          (x.claim = false → exec (.shadow m) s = .next { s with dev := { d with dpx := { x with bad := 0 } } })
          ∧ (x.claim = true → x.role = .active ∨ x.role = .solo → m.role = .standby →
            (m.signature ≠ d.nodeA.cores.sig → ∃ t, exec (.shadow m) s = .next t ∧ t.dev.dpx.role = .solo ∧ t.dev.dpx.prole = none
              ∧ t.dev.dpx.switchCmd = none ∧ t.dev.unitFault 0x74 = true)
            ∧ (m.signature = d.nodeA.cores.sig → ∃ t, exec (.shadow m) s = .next t ∧ t.dev.dpx.role = .active ∧ t.dev.dpx.prole = some .standby
              ∧ t.dev.dpx.partnerHo = m.handoverFaults ∧ t.dev.dpx.partnerStaged = m.stagedHash ∧ (x.role = .solo → t.dev.unitFault 0x74 = false)
              ∧ ∀ p, p ∉ m.incomparable → (viewOf p x.prevResults).differs (viewOf p m.results) = true → t.dev.hasFault 0x72 .point p = true ∧ p ∈ t.dev.dpx.pend72))))
      ∧ (∀ bs,
        (linkOf bs = none → x.bad < 2 → exec (.invalidTwinMessage bs) s = .next { s with dev := { d with dpx := { x with bad := x.bad + 1 } } })
        ∧ (linkOf bs = none → 2 ≤ x.bad → ∃ t, exec (.invalidTwinMessage bs) s = .next t ∧ frozen t)
        ∧ (∀ m, linkOf bs = some m → (m.epoch ≠ x.epoch ∨ m.type ∈ twinTypes → exec (.invalidTwinMessage bs) s = .next s)
          ∧ (m.epoch = x.epoch → m.type ∉ twinTypes → ∃ t, exec (.invalidTwinMessage bs) s = .next t ∧ frozen t))))
    ∧ (d.pair = true →
      (x.role = .active → ∃ t, exec .twinLinkLost s = .next t ∧ t.dev.dpx.role = .solo ∧ t.dev.dpx.prole = none ∧ t.dev.dpx.switchCmd = none
          ∧ t.dev.dpx.claim = x.claim ∧ t.dev.unitFault 0x71 = true
          ∧ t = { s with dev := { d with dpx := t.dev.dpx, faults := t.dev.faults, done := t.dev.done
                                         port0 := { d.port0 with journal := t.dev.port0.journal }, port1 := { d.port1 with journal := t.dev.port1.journal } } })
      ∧ (x.role ≠ .active → exec .twinLinkLost s = .next s)
      ∧ (∃ t, exec .twinLinkExchange s = .next t ∧ t = { s with dev := { d with dpx := t.dev.dpx } } ∧ t.dev.dpx.role = x.role
          ∧ t.dev.dpx.sentHello = (if x.role = .active ∨ x.role = .standby then none else some d.hello)
          ∧ t.dev.dpx.sentRecord = (if x.role = .active ∨ (x.role = .solo ∧ x.prole = some .syncing ∧ x.frozen = false) then some d.recordBytes else none)
          ∧ t.dev.dpx.sentShadow = (if x.role = .standby ∨ x.role = .syncing then some d.shadowMsg else none)
          ∧ (x.role = .solo → x.prole = some .syncing → x.frozen = false → x.sentBlocks < d.imageBlocks → ∃ b, t.dev.dpx.sentTransfer = some b
              ∧ b.block = x.sentBlocks ∧ b.epoch = x.epoch ∧ b.frame = d.frame ∧ (b.image.isSome = true ↔ x.sentBlocks + 1 = d.imageBlocks))))

/-- TRANSFER, RESYNC_COMPLETE and retry, duplex recovery, RECORD and RECORD_MISSING: what each needs and leaves -/
def Obligations.ResyncRunsItsStepsAndRecordsMirror : Prop :=
  ∀ s : State, s.dev.inReset = false →
    let x := s.dev.dpx
    let d := s.dev
    (∀ m, d.pair = false ∨ x.frozen = true ∨ m.epoch ≠ x.epoch → exec (.transfer m) s = .next s)
    ∧ (d.pair = true → x.frozen = false → ∀ m, m.epoch = x.epoch →
        (m.inWindow = false ∨ (d.aligned = true ∧ m.frame ≠ d.frame) → ∃ t, exec (.transfer m) s = .next t
          ∧ t.dev.dpx.frozen = true ∧ t.dev.dpx.frozenFrame = d.frame ∧ t.dev.unitFault 0x75 = true)
        ∧ (m.inWindow = true → d.aligned = false ∨ m.frame = d.frame →
          (x.role ≠ .syncing ∨ x.step ≠ 1 → exec (.transfer m) s = .next { s with dev := { d with dpx := { x with bad := 0 } } })
          ∧ (x.role = .syncing → x.step = 1 →
            (m.block = x.progress → x.progress < 128 → m.image = none →
              exec (.transfer m) s = .next { s with dev := { d with dpx := { x with progress := x.progress + 1, bad := 0 } } })
            ∧ (∀ i, m.block = x.progress → x.progress < 128 → m.image = some i → ∃ t, exec (.transfer m) s = .next t
              ∧ t.dev.dpx = { x with step := 2, progress := 0, bad := 0, queue := x.queue.filter fun r => newer i.frame r.frame }
              ∧ t.dev.nodeA.points = i.node.points.map (fun p => { p with waits := [] }) ∧ t.dev.nodeA.sections = i.node.sections
              ∧ t.dev.nodeA.journal = i.node.journal ∧ t.dev.nodeA.sys = d.nodeA.sys ∧ t.dev.nodeA.line.mode = i.reef
              ∧ t = { s with dev := { d with dpx := t.dev.dpx, nodeA := t.dev.nodeA, outputs := t.dev.outputs } })
            ∧ (m.block ≠ x.progress ∨ 128 ≤ m.block → ∃ t, exec (.transfer m) s = .next t ∧ t.dev.dpx.role = .offline ∧ t.dev.dpx.retryWait = true
              ∧ t.dev.dpx.failFrame = d.frame))))
    ∧ (if d.pair = true ∧ x.role = .syncing ∧ x.step = 3 ∧ 2000 ≤ x.progress then
        ∃ t, exec .resyncComplete s = .next t ∧ t.dev.dpx.role = .standby ∧ t.dev.dpx.step = 0 ∧ t.dev.dpx.fails = [] ∧ t.dev.unitFault 0x74 = false
          ∧ t = { s with dev := { d with dpx := t.dev.dpx, faults := t.dev.faults } }
      else exec .resyncComplete s = .next s)
    ∧ (d.allSafe = false →
        (if x.retryWait = true ∧ x.lock76 = false ∧ 2000 ≤ since d.frame x.failFrame then
          exec .resyncRetry s = .next { s with dev := { d with dpx := { x with retryWait := false } } }
        else exec .resyncRetry s = .next s)
        ∧ ∀ o : Fin 8,
          (if x.contSince = none ∧ 2000 ≤ since d.frame x.contEnd then ∃ t, exec (.duplexFaultRecovery 0x70 o) s = .next t
            ∧ t.dev.unitFault 0x70 = false ∧ t = { s with dev := { d with faults := t.dev.faults } }
          else exec (.duplexFaultRecovery 0x70 o) s = .next s)
          ∧ (if 16 ≤ (d.out o).obsAgree then ∃ t, exec (.duplexFaultRecovery 0x79 o) s = .next t
            ∧ t.dev.hasFault 0x79 .output o = false ∧ t = { s with dev := { d with faults := t.dev.faults } }
          else exec (.duplexFaultRecovery 0x79 o) s = .next s))
    ∧ (∀ bs cyc, d.pair = false ∨ x.frozen = true → exec (.twinRecord bs cyc) s = .next s)
    ∧ (d.pair = true → x.frozen = false → ∀ bs cyc,
        (linkOf bs = none → x.bad < 2 → exec (.twinRecord bs cyc) s = .next { s with dev := { d with dpx := { x with bad := x.bad + 1 } } })
        ∧ ∀ m, linkOf bs = some m →
          let opened := 13440 ≤ cyc ∧ cyc ≤ 18240 ∧ (d.aligned = false ∨ m.frame = d.frame) ∧ (x.pclaim = true ∨ x.partnerHandover = true)
          (m.epoch ≠ x.epoch → exec (.twinRecord bs cyc) s = .next s)
          ∧ (m.epoch = x.epoch → m.type = 0x12 → (¬ opened ∨ recordOf (d.lineRec .a).key m = none) →
              (x.awaitRecord = false → ∃ t, exec (.twinRecord bs cyc) s = .next t ∧ t.dev.dpx.frozen = true ∧ t.dev.unitFault 0x75 = true)
              ∧ (x.awaitRecord = true → x.role = .standby → d.port0.journal = [] → d.port1.journal = [] → ∃ t, exec (.twinRecord bs cyc) s = .next t
                ∧ t.dev.dpx.role = .offline ∧ t.dev.dpx.frozen = true ∧ t.dev.unitFault 0x75 = true
                ∧ t.dev.workDone = true ∧ t.dev.dpx.awaitRecord = false ∧ d.SameTime t.dev))
          ∧ (∀ r, m.epoch = x.epoch → m.type = 0x12 → opened → recordOf (d.lineRec .a).key m = some r →
              (d.mirrors = false ∨ x.awaitRecord = false → exec (.twinRecord bs cyc) s = .next { s with dev := { d with dpx := { x with bad := 0 } } })
              ∧ (x.awaitRecord = true → x.role = .standby → d.port0.journal = [] → d.port1.journal = [] →
                (r.signature ≠ d.nodeA.cores.sig → ∃ t, exec (.twinRecord bs cyc) s = .next t ∧ t.dev.dpx.role = .offline ∧ t.dev.unitFault 0x74 = true
                  ∧ t.dev.workDone = true ∧ t.dev.dpx.awaitRecord = false ∧ d.SameTime t.dev)
                ∧ (r.signature = d.nodeA.cores.sig → ∃ t, exec (.twinRecord bs cyc) s = .next t ∧ (t.dev.workDone = true ∨ t.dev.nodeA.safe = true) ∧ t.dev.inWork = false))))
    ∧ (d.pair = true → x.awaitRecord = true → x.role = .standby → d.port0.journal = [] → d.port1.journal = [] →
        (1 ≤ x.unmirrored → x.pclaim = true → ∃ t, exec .recordMissing s = .next t ∧ t.dev.dpx.role = .offline ∧ t.dev.unitFault 0x71 = true
            ∧ t.dev.workDone = true ∧ t.dev.dpx.awaitRecord = false ∧ d.SameTime t.dev)
        ∧ (x.unmirrored = 0 ∨ x.pclaim = false → ∃ t, exec .recordMissing s = .next t ∧ (t.dev.workDone = true ∨ t.dev.nodeA.safe = true) ∧ t.dev.inWork = false))
    ∧ (d.pair = false ∨ x.awaitRecord = false → exec .recordMissing s = .next s)

/-- UP, JOIN_REQ, grant timeout, DOWN and the close of an exchange move a member position as Table HAL-5 has it -/
def Obligations.MasterAdmitsServesAndFreezesMembers : Prop :=
  ∀ (s : State) (m : Fin 8), s.dev.inReset = false →
    let d := s.dev
    (d.stackMaster = false → (∀ f r, exec (.up m f r) s = .next s) ∧ (∀ q, exec (.joinReq q) s = .next s) ∧ exec .halyardExchange s = .next s
      ∧ exec (.joinGrantTimeout m) s = .next s)
    ∧ (d.stackMaster = true → m.val ≠ 0 → m.val ≤ d.hal.members.length →
      let x := d.member m
      let both : Hal := { d.hal with exBoth := true }
      let discarded := fun (t : State) => t = { s with dev := { d with hal := { both with discard := d.hal.discard + 1 } } }
      let lost := fun (t : State) => (∀ r ∈ t.dev.hal.requests, r.fwd.member ≠ m.val) ∧ (t.dev.member m).probe = {}
        ∧ (∀ r ∈ d.hal.requests, r.fwd.member = m.val → t.dev.Completes r.port r.opc r.tag .memberAbsent 0)
        ∧ (∀ p ∈ t.dev.ownPoints .a, p.cfg.kind = .member → p.cfg.stackpos = m.val → p.state = .disturbed ∧ p.waits = [])
      let frozen := fun (t : State) => (t.dev.member m).state = .frozen ∧ (t.dev.member m).freezeFrame = d.frame ∧ t.dev.hasFault 0x82 .member m = true
        ∧ lost t ∧ OnlyAt (m.val - 1) d.hal.members t.dev.hal.members
      (∀ u : UpMsg,
        let named := u.epoch = x.epoch ∧ u.serial = d.activeSerial
        let sound := u.inSlot = true ∧ u.typeOk = true ∧ u.frame = d.frame
        (¬ named → ∃ t, exec (.up m (some u) (some u)) s = .next t ∧ discarded t)
        ∧ (named → x.state = .absent ∨ x.state = .frozen ∨ (x.state = .joining ∧ u.ready = false) → ∃ t, exec (.up m (some u) (some u)) s = .next t ∧ discarded t)
        ∧ (named → x.state = .present → sound → ∃ t, exec (.up m (some u) (some u)) s = .next t
          ∧ t.dev.member m = { x with gotUp := true, inval := 0, ready := u.ready, hash := u.hash, sysState := u.state, rigFail := u.rigFail }
          ∧ t.dev.hal = { both with members := t.dev.hal.members, inbox := d.hal.inbox ++ [(m.val, u)] } ∧ OnlyAt (m.val - 1) d.hal.members t.dev.hal.members
          ∧ t = { s with dev := { d with hal := t.dev.hal } })
        ∧ (named → x.state = .joining → u.ready = true → sound → u.hash = d.activeHash → ∃ t, exec (.up m (some u) (some u)) s = .next t
          ∧ t.dev.member m = { x with state := .present, ready := true, hash := u.hash, miss := 0, inval := 0, gotUp := true }
          ∧ t.dev.hasFault 0x80 .member m = false ∧ t.dev.hasFault 0x82 .member m = false ∧ t.dev.hasFault 0x83 .member m = false
          ∧ (∀ p ∈ t.dev.ownPoints .a, p.cfg.kind = .member → p.cfg.stackpos = m.val → p.state = .disturbed))
        ∧ (named → (x.state = .present ∧ ¬ sound) ∨ (x.state = .joining ∧ u.ready = true ∧ (¬ sound ∨ u.hash ≠ d.activeHash)) →
          ∃ t, exec (.up m (some u) (some u)) s = .next t ∧ frozen t))
      ∧ (x.state = .present ∨ x.state = .joining →
        (∀ u v : UpMsg, u ≠ v → ∃ t, exec (.up m (some u) (some v)) s = .next t ∧ frozen t ∧ t.dev.hasFault 0x83 .member m = true)
        ∧ (2 ≤ x.inval → ∃ t, exec (.up m none none) s = .next t ∧ frozen t))
      ∧ (x.inval < 2 → ∃ t, exec (.up m none none) s = .next t ∧ t.dev.member m = { x with inval := x.inval + 1 } ∧ OnlyAt (m.val - 1) d.hal.members t.dev.hal.members
          ∧ t = { s with dev := { d with hal := { d.hal with members := t.dev.hal.members } } })
      ∧ (∀ q : JoinReqMsg, q.pos = m →
        let asks := x.state = .absent ∨ (x.state = .frozen ∧ q.session ≠ x.session ∧ 2000 ≤ since d.frame x.freezeFrame)
        let fits := m.val < d.stackN ∧ q.duplex = (d.position == 1) ∧ q.romver = Config.romVersion
        (¬ asks → exec (.joinReq q) s = .next s)
        ∧ (asks → ¬ fits → ∃ t, exec (.joinReq q) s = .next t ∧ (t.dev.member m).state = x.state ∧ (t.dev.member m).refuse ≠ 0
            ∧ t.dev.hasFault 0x85 .member m = true ∧ t.dev.hal.grants = d.hal.grants)
        ∧ (asks → fits → ∃ t, exec (.joinReq q) s = .next t ∧ (t.dev.member m).state = .joining ∧ (t.dev.member m).epoch = x.epoch + 1
            ∧ (t.dev.member m).session = q.session ∧ (t.dev.member m).refuse = 0 ∧ t.dev.hasFault 0x85 .member m = false
            ∧ (t.dev.member m).served = decide (q.hash = d.activeHash)
            ∧ t.dev.hal.grants = d.hal.grants ++ [{ member := m, epoch := x.epoch + 1, serial := d.activeSerial, hash := d.activeHash }]))
      ∧ (if x.state = .joining ∧ 400 ≤ since d.frame x.grantFrame then
          ∃ t, exec (.joinGrantTimeout m) s = .next t ∧ t.dev.member m = { x with state := .absent } ∧ OnlyAt (m.val - 1) d.hal.members t.dev.hal.members
            ∧ t = { s with dev := { d with hal := { d.hal with members := t.dev.hal.members } } }
        else exec (.joinGrantTimeout m) s = .next s)
      ∧ (∃ t, exec .halyardExchange s = .next t ∧ t.dev.hal.grants = [] ∧ (∀ r ∈ t.dev.hal.requests, r.sent = true)
          ∧ t.dev.member m = (if ∃ g ∈ d.hal.grants, g.member = m.val then { x with grantFrame := d.frame } else x)
          ∧ t.dev.hal.members.map (·.state) = d.hal.members.map (·.state) ∧ t = { s with dev := { d with hal := t.dev.hal } }
          ∧ t.dev.hal.downSent = some { frame := d.frame, dt := d.dt, codePos := d.codePos, role := d.dpx.role, serial := d.activeSerial
                                        members := d.hal.members.map (·.state), refusals := d.hal.members.map (·.refuse)
                                        grants := d.hal.grants.map fun g => { g with frame := d.frame, dt := d.dt, codePos := d.codePos }
                                        requests := d.hal.requests.map (·.fwd) })
      ∧ (d.workWaits = none → ∃ t, exec .halyardExchangeClose s = .next t ∧ (t.dev.member m).gotUp = false ∧ t.dev.hal.exClosed = true
          ∧ (x.state ≠ .present → (t.dev.member m).state = x.state)
          ∧ (x.state = .present → x.gotUp = true → (t.dev.member m).state = .present ∧ (t.dev.member m).miss = 0)
          ∧ (x.state = .present → x.gotUp = false → x.miss = 0 → (t.dev.member m).state = .present ∧ (t.dev.member m).miss = 1)
          ∧ (x.state = .present → x.gotUp = false → 1 ≤ x.miss → (t.dev.member m).state = .absent ∧ t.dev.hasFault 0x80 .member m = true ∧ lost t)))

/-- DOWN, the sub-slot, BULK and the close of an exchange on a member; a ring direction recovers -/
def Obligations.MembersFollowTheirMaster : Prop :=
  ∀ s : State, s.dev.inReset = false →
    let d := s.dev
    let x := d.hal
    let pos := d.stackPos
    let local_ := fun (t : State) => ∀ h ∈ d.halves, ∀ p ∈ t.dev.ownPoints h, t.dev.runsPoint p.cfg = true → p.state = .disturbed
    let left := fun (t : State) (st : Membership) => t.dev.hal.selfState = st ∧ t.dev.hal.needSession = true ∧ t.dev.hal.lostFrame = d.frame
      ∧ t.dev.hal.masterRole = .offline ∧ t.dev.hal.outEvents = [] ∧ t.dev.hal.outVerdicts = [] ∧ t.dev.hal.upEvents = [] ∧ t.dev.hal.upVerdicts = []
      ∧ t.dev.hal.fwdIn = [] ∧ t.dev.hal.upReplies = [] ∧ t.dev.hal.stepTo = none ∧ t.dev.hasFault 0x84 .member pos = true ∧ local_ t
    let timed := fun (u : DownMsg) (t : State) => if (x.selfState = .present ∨ x.selfState = .joining) ∧ x.stepTo = none then
        t.dev.codePos = u.codePos % 63 ∧ t.dev.dt = u.dt else t.dev.codePos = d.codePos ∧ t.dev.dt = d.dt
    (d.stackMember = false → (∀ f r, exec (.down f r) s = .next s) ∧ exec .memberSubSlot s = .next s ∧ ∀ b f l w, exec (.bulk b f l w) s = .next s)
    ∧ (d.stackMember = true →
      (exec (.down none none) s = .next s)
      ∧ (∀ u v : DownMsg, u ≠ v → ∃ t, exec (.down (some u) (some v)) s = .next t ∧ t.dev.hasFault 0x83 .member pos = true
          ∧ t = { s with dev := { d with faults := t.dev.faults } })
      ∧ (∀ u : DownMsg, (∀ g ∈ u.grants, g.member ≠ pos) →
        (u.members[pos - 1]? = some .present → ∃ t, exec (.down (some u) (some u)) s = .next t
          ∧ t.dev.hal = { x with exBoth := true, gotDown := true, masterRole := u.role, selfState := .present, lost := false, fwdIn := x.fwdIn ++ u.requests.filter fun r => r.member == pos }
          ∧ t.dev.frame = d.frame ∧ timed u t
          ∧ (x.selfState ≠ .joining → t = { s with dev := { d with hal := t.dev.hal, codePos := t.dev.codePos, dt := t.dev.dt } })
          ∧ (x.selfState = .joining → t.dev.hasFault 0x84 .member pos = false ∧ t.dev.hasFault 0x83 .member pos = false ∧ local_ t
              ∧ t.dev.systems = d.systems.map fun y => { y with usable := false, run4 := 0 }))
        ∧ (u.members[pos - 1]? = some .absent → x.selfState = .present → ∃ t, exec (.down (some u) (some u)) s = .next t ∧ left t .absent)
        ∧ (u.members[pos - 1]? = some .absent → x.selfState = .joining → ∃ t, exec (.down (some u) (some u)) s = .next t
            ∧ t.dev.hal.selfState = .absent ∧ t.dev.hal.needSession = true ∧ t.dev.faults = d.faults)
        ∧ (u.members[pos - 1]? = some .frozen → x.selfState ≠ .frozen → ∃ t, exec (.down (some u) (some u)) s = .next t ∧ left t .frozen ∧ t.dev.hal.frozenSelf = true))
      ∧ (∀ (u : DownMsg) (g : Grant), u.grants = [g] → g.member = pos → u.members[pos - 1]? = some .joining → ∃ t, exec (.down (some u) (some u)) s = .next t
          ∧ t.dev.frame = d.frame ∧ timed u t ∧ t.dev.hal.stepTo = some g ∧ t.dev.hal.selfState = .joining ∧ t.dev.hal.selfEpoch = g.epoch
          ∧ t.dev.hal.frozenSelf = false
          ∧ t.dev.hal.want = some (g.serial, g.hash) ∧ t.dev.nodeA.sys = (if d.nodeA.sys = .awaitRig then .verify else d.nodeA.sys))
      ∧ (d.straps.done = true →
        (x.selfState = .present ∨ x.selfState = .joining → exec .memberSubSlot s = .next { s with dev := { d with hal := { x with
            upSent := some d.upMsg, joinSent := none, outEvents := x.outEvents.drop 16, outVerdicts := x.outVerdicts.drop 16, upReplies := [] } } })
        ∧ (x.selfState = .absent ∨ x.selfState = .frozen →
          (x.frozenSelf = true → since d.frame x.lostFrame < 2000 → exec .memberSubSlot s = .next { s with dev := { d with hal := { x with upSent := none, joinSent := none } } })
          ∧ (x.frozenSelf = false ∨ 2000 ≤ since d.frame x.lostFrame → ∃ t q, exec .memberSubSlot s = .next t ∧ t.dev.hal.upSent = none ∧ t.dev.hal.joinSent = some q
              ∧ q.pos = pos ∧ q.duplex = (d.position == 1) ∧ q.romver = Config.romVersion ∧ q.session = t.dev.hal.selfSession ∧ t.dev.hal.needSession = false
              ∧ (x.needSession = false → q.session = x.selfSession))))
      ∧ (∀ block face data last,
          if (x.selfState = .joining ∨ x.selfState = .present) ∧ block < 86 then
            exec (.bulk block face data last) s = .next { s with
              staging := memWriteMany stagingZ (if face && block = 0 then [] else s.staging) ((if face then 0 else 0x40000) + 3072 * block) (data.take 3072)
              dev := { d with rig := { d.rig with passed := none, staged := last, bulkFail := 0 } } }
          else exec (.bulk block face data last) s = .next s)
      ∧ (d.workWaits = none → ∃ t, exec .halyardExchangeClose s = .next t ∧ t.dev.hal.exClosed = true
          ∧ (x.gotDown = true → t.dev.hal.gotDown = false ∧ t.dev.hal.missDown = 0 ∧ t.dev.hal.selfState = x.selfState)
          ∧ (x.gotDown = false → x.missDown = 0 → t.dev.hal.missDown = 1 ∧ t.dev.hal.selfState = x.selfState)
          ∧ (x.gotDown = false → 1 ≤ x.missDown → x.selfState = .present ∨ x.selfState = .joining → left t .absent)))
    ∧ (d.allSafe = false →
        if 2000 ≤ x.bothOk then ∃ t, exec .ringDirectionRecovery s = .next t ∧ t.dev.unitFault 0x81 = false ∧ t = { s with dev := { d with faults := t.dev.faults } }
        else exec .ringDirectionRecovery s = .next s)

/-- Each start-up phase hands on to the next or ends in its safe state; the join window, and the steps of SHUTDOWN -/
def Obligations.StartUpAndShutdownRunTheirSteps : Prop :=
  ∀ s : State, s.dev.inReset = false → s.dev.AllLive →
    let d := s.dev
    let fails := fun (c : Instr) (code : Nat) => ∃ t, exec c s = .next t ∧ t.dev.EnteredSafe code 0 d ∧ t = { s with dev := t.dev }
    let goes := fun (t : State) (ph : BootPhase) (st : SysState) => t.dev.InPhase ph st ∧ t = { s with dev := t.dev } ∧ d.SameTime t.dev
      ∧ t.dev.outputs = d.outputs ∧ t.dev.rig.active = d.rig.active
    (∀ o, ¬ d.InPhase .otp .boot → exec (.otpLoad o) s = .next s)
    ∧ (∀ m a b, ¬ d.InPhase .memory .selftest → exec (.memoryTest m a b) s = .next s)
    ∧ (∀ l v g h, ¬ d.InPhase .frontEnd .selftest → exec (.frontEndTest l v g h) s = .next s)
    ∧ (∀ f p, ¬ d.InPhase .lockstep .selftest → exec (.lockstepComparatorTest f p) s = .next s)
    ∧ (∀ l, ¬ d.InPhase .sweep .selftest ∨ (∀ f, d.sweepFrame = some f → since d.frame f < 63) → exec (.supplySweep l) s = .next s)
    ∧ (d.InPhase .otp .boot → ∀ o, if o.uncorrectable = true ∨ o.checksumBad = true then fails (.otpLoad o) 0x27
        else ∃ t, exec (.otpLoad o) s = .next t ∧ goes t .memory .selftest ∧ t.dev.store.otpCor = min 65535 o.corrected
          ∧ (2 ∈ o.badCopies → 3 ∈ o.badCopies → t.dev.store.pw.state = 2 ∧ t.dev.hasFault 0xAB .device 0 = true))
    ∧ (d.InPhase .memory .selftest → ∀ march romA romB,
        if ∃ b ∈ march, b = false then fails (.memoryTest march romA romB) 0x26 else if romA = false ∨ romB = false then fails (.memoryTest march romA romB) 0x24
        else ∃ t, exec (.memoryTest march romA romB) s = .next t ∧ goes t .frontEnd .selftest ∧ t.dev.faults = d.faults
          ∧ t.dev.coreA = {} ∧ t.dev.coreB = { complemented := true, acc := 0 })
    ∧ (d.InPhase .frontEnd .selftest → ∀ l vref gnd holdOk,
        if (∃ o ∈ l.drop 32, o.ok = false) ∨ d.expectedRef + 6 < vref ∨ vref + 6 < d.expectedRef ∨ 4 < gnd ∨ holdOk = false then fails (.frontEndTest l vref gnd holdOk) 0x3F
        else ∃ t, exec (.frontEndTest l vref gnd holdOk) s = .next t ∧ goes t (if d.split then .sweep else .lockstep) .selftest
          ∧ ∀ i o, l[i]? = some o → o.ok = false → i < 32 → i < d.systems.length → (t.dev.sys i).feFailed = true ∧ t.dev.sysFault i 0x3E = true)
    ∧ (d.InPhase .lockstep .selftest → ∀ flagged spurious,
        if flagged.length = 6 ∧ (∀ f ∈ flagged, f.1 = true ∧ f.2 = true) ∧ spurious = false then
          ∃ t, exec (.lockstepComparatorTest flagged spurious) s = .next t ∧ goes t .sweep .selftest ∧ t.dev.faults = d.faults
        else fails (.lockstepComparatorTest flagged spurious) 0x25)
    ∧ (d.InPhase .sweep .selftest → ∀ f, d.sweepFrame = some f → 63 ≤ since d.frame f → ∀ frames,
        ((∃ p x, frames[p]? = some x ∧ SweepFrame.generated p x = false) → fails (.supplySweep frames) 0x3F)
        ∧ ((∀ p x, frames[p]? = some x → SweepFrame.generated p x = true) → ∃ t, exec (.supplySweep frames) s = .next t
          ∧ (∀ i x, i < 32 → x ∈ frames → nodeClassOf (x.nodes.getD i 0) x.vfld ≠ .low → t.dev.sysFault i 0x31 = true)
          ∧ (if d.stackPos ≠ 0 ∨ d.bootSel = 3 then goes t .rigLoad .awaitRig
             else goes t .rigLoad .verify ∧ t.dev.rig.bootBank = (if d.bootSel = 1 then 1 else 0) ∧ t.dev.rig.bootTried = 0)))
    ∧ (d.split = false → d.stackMember = false → d.nodeA.sys = .verify → d.nodeA.phase = .joins →
        (since d.frame d.nodeA.joinFrame < 999 → exec .joinWindowEnd s = .next s)
        ∧ (999 ≤ since d.frame d.nodeA.joinFrame → ∃ t, exec .joinWindowEnd s = .next t ∧ t.dev.nodeA.phase = .done ∧ t.dev.nodeA.sys.inService = true
          ∧ t.dev.faultN = true ∧ t.dev.tpsRun = true ∧ (d.hasDuplex = false → t.dev.dpx.role = .solo ∧ t.dev.dpx.claim = true)
          ∧ (d.hasDuplex = true → t.dev.dpx.role = .offline)
          ∧ (d.stackMaster = true → ∀ i, i + 1 < d.stackN → (d.member (i + 1)).state ≠ .present → t.dev.hasFault 0x80 .member (i + 1) = true)))
    ∧ (d.split = false → d.nodeA.sys ≠ .verify ∨ d.nodeA.phase ≠ .joins ∨ d.stackMember = true → exec .joinWindowEnd s = .next s)
    ∧ (d.shut = none → exec .shutdownOutputsOff s = .next s ∧ exec .shutdownEventsDrained s = .next s)
    ∧ (∀ r, d.shut = some r →
        let h := d.halfOfPort r.port
        (if r.step = 2 ∧ ((∀ o ∈ d.outputs, o.defd = true → d.halfOfOut o.id = h → o.state = .off ∨ o.state = .fault) ∨ 1004 ≤ since d.frame r.frame) then
          exec .shutdownOutputsOff s = .next { s with dev := { d with shut := some { r with step := 3, frame := d.frame } } }
        else exec .shutdownOutputsOff s = .next s)
        ∧ (r.step ≠ 3 ∨ d.drained r = false → exec .shutdownEventsDrained s = .next s)
        ∧ (r.step = 3 → d.drained r = true → ∃ t, exec .shutdownEventsDrained s = .next t ∧ t.dev.Held h ∧ t.dev.faultN = false ∧ t.dev.shut = none
          ∧ t.dev.lastCause.code = 1 ∧ t.dev.faults = d.faults
          ∧ ∃ c ∈ (t.dev.port r.port).cq, c.opc = 0x27 ∧ c.tag = r.tag ∧ c.status = .ok))

/-- NOP, direct READ, SNAP, SNAP_RELEASE, CQ_POP, RESULT, RECALL, SESSION_CLOSE and rejected requests: answer, effect,
freezing -/
def Obligations.DirectOperationsAnswerAtOnce : Prop :=
  (∀ (s : State) (q : Req), s.PortOpen q.port →
    let p := q.port
    let x := s.dev.port p
    let bank := if q.cyc < 384 then s.prev else s.bank
    let resp := fun (t : State) => (t.dev.port p).resp
    let code := fun (t : State) (st : Status) => (resp t).code = st.code ∧ (resp t).kind = 0 ∧ (t.dev.port p).miso = List.replicate 14 0 ++ (resp t).bytes
    let asWas := fun (t : State) => t.dev.port p = { x with crcRun := 0, resp := resp t, irq := (t.dev.port p).irq, mosi := (t.dev.port p).mosi, miso := (t.dev.port p).miso }
      ∧ s.OnlyPort p t
    let gives := fun (t : State) (c : Completion) => code t c.status ∧ (resp t).opc = c.opc ∧ (resp t).data = c.data ∧ (resp t).frame = c.frame
    let consumed := fun (t : State) (c : Completion) => gives t c ∧ (resp t).replayed = c.replayed ∧ s.OnlyPort p t
      ∧ (t.dev.port p).cq = x.cq.filter (fun y => y.tag ≠ c.tag) ∧ (t.dev.port p).tags = x.tags.filter (fun y => y.1 ≠ c.tag) ∧ (t.dev.port p).recalled = (c :: x.recalled).take 16
    (∃ t, exec (.nop q) s = .next t ∧ code t .ok ∧ asWas t)
    ∧ (isRS q.index = false → ∃ t, exec (.read q false false) s = .next t ∧ code t .ok ∧ (resp t).frame = bank.frame ∧ (resp t).data = bank.readReg p q.index ∧ asWas t)
    ∧ (∀ y, s.snapOf p = some y → ∃ t, exec (.read q false true) s = .next t ∧ code t .ok ∧ (resp t).frame = y.frame ∧ (resp t).data = y.readReg p q.index ∧ asWas t)
    ∧ (s.snapOf p = none → ∃ t, exec (.read q false true) s = .next t ∧ code t .notReady ∧ asWas t)
    ∧ (∃ t, exec (.snap q) s = .next t ∧ code t .ok ∧ t.snapOf p = some bank ∧ (t.dev.port p).snapHeld = true ∧ (∀ o, o ≠ p → t.snapOf o = s.snapOf o ∧ t.dev.port o = s.dev.port o)
        ∧ t = { s with dev := t.dev, snap0 := t.snap0, snap1 := t.snap1 })
    ∧ (∃ t, exec (.snapRelease q) s = .next t ∧ code t .ok ∧ t.snapOf p = none ∧ (t.dev.port p).snapHeld = false ∧ (∀ o, o ≠ p → t.snapOf o = s.snapOf o ∧ t.dev.port o = s.dev.port o)
        ∧ t = { s with dev := t.dev, snap0 := t.snap0, snap1 := t.snap1 })
    ∧ (x.cq = [] → ∃ t, exec (.cqPop q) s = .next t ∧ code t .cqEmpty ∧ asWas t)
    ∧ (∀ c rest, x.cq = c :: rest → ∃ t, exec (.cqPop q) s = .next t ∧ consumed t c)
    ∧ (∀ c, x.cq.find? (fun y => y.tag == q.tag % 64) = some c → ∃ t, exec (.result q) s = .next t ∧ consumed t c)
    ∧ (x.cq.find? (fun y => y.tag == q.tag % 64) = none → ∃ t, exec (.result q) s = .next t
        ∧ code t (if x.tags.any (fun y => y.1 == q.tag % 64) then .notReady else .cqEmpty) ∧ asWas t)
    ∧ (∀ c, x.recalled.find? (fun y => y.tag == q.tag % 64) = some c → ∃ t, exec (.recallResult q) s = .next t ∧ gives t c ∧ (resp t).replayed = true ∧ asWas t)
    ∧ (x.recalled.find? (fun y => y.tag == q.tag % 64) = none → ∃ t, exec (.recallResult q) s = .next t ∧ code t .cqEmpty ∧ asWas t)
    ∧ (let st := (s.dev.node (s.dev.halfOfPort p)).sys
       if s.dev.stackMember = false ∧ (st.inService = true ∨ st = .awaitRig) then
         ∃ t, exec (.sessionClose q) s = .next t ∧ code t .ok ∧ (t.dev.port p).session = none ∧ (t.dev.port p).journal = x.journal ∧ (t.dev.port p).tags = x.tags ∧ s.OnlyPort p t
       else ∃ t, exec (.sessionClose q) s = .next t ∧ code t .denied ∧ asWas t))
  ∧ (∀ (s : State) (p : Fin 2), s.PortOpen p →
    let x := s.dev.port p
    (if x.crcRun < 2 then exec (.hostTransactionCut p) s = .next { s with dev := s.dev.onPort p fun y => { y with crcRun := y.crcRun + 1 } }
     else ∃ t, exec (.hostTransactionCut p) s = .next t ∧ s.FrozenBy p 1 t)
    ∧ ∀ bytes : List Byte,
      let good := (crc16 (bytes.take 8)).toNat = fieldAt bytes 8 2
      let bad := malformed (fieldAt bytes 0 1) (fieldAt bytes 1 1)
      (bytes.length ≠ 10 ∨ (good ∧ bad = false) → exec (.requestRejected p bytes) s =
          .next { s with dev := s.dev.onPort p fun y => { y with mosi := bytes.take 10, miso := List.replicate 28 0 } })
      ∧ (bytes.length = 10 → ¬ good → x.crcRun < 2 → ∃ t, exec (.requestRejected p bytes) s = .next t ∧ (t.dev.port p).resp.kind = 2 ∧ (t.dev.port p).resp.code = 1
          ∧ (t.dev.port p).crcRun = x.crcRun + 1 ∧ (t.dev.port p).frozen = false ∧ s.OnlyPort p t)
      ∧ (bytes.length = 10 → ¬ good → 2 ≤ x.crcRun → ∃ t, exec (.requestRejected p bytes) s = .next t ∧ s.FrozenBy p 1 t ∧ (t.dev.port p).resp.code = Status.frozen.code)
      ∧ (bytes.length = 10 → good → bad = true → ∃ t, exec (.requestRejected p bytes) s = .next t ∧ s.FrozenBy p 3 t ∧ (t.dev.port p).resp.code = Status.frozen.code))
  ∧ (∀ (s : State) (q : Req), s.dev.inReset = false → s.dev.boardTest = false → (s.dev.node (s.dev.halfOfPort q.port)).sys ≠ .boot →
    let answers := fun (c : Instr) (st : Status) => ∃ t, exec c s = .next t ∧ (t.dev.port q.port).resp.code = st.code ∧ (t.dev.port q.port).journal = (s.dev.port q.port).journal
      ∧ (t.dev.port q.port).frozen = (s.dev.port q.port).frozen ∧ s.OnlyPort q.port t
    ((s.dev.port q.port).frozen = true → answers (.nop q) .frozen ∧ answers (.registerWrite q) .frozen ∧ exec (.hostTransactionCut q.port) s = .next s)
    ∧ ((s.dev.port q.port).frozen = false → (s.dev.node (s.dev.halfOfPort q.port)).safe = true → answers (.nop q) .ok ∧ answers (.registerWrite q) .denied))

/-- READ, WRITE and every command in its queued form: the journal entry, the verdict of acceptance, violations 2 and 5,
BUSY -/
def Obligations.TaggedOperationsQueueWithTheirVerdict : Prop :=
  (∀ (s : State) (q : Req), s.PortOpen q.port →
    let p := q.port
    let x := s.dev.port p
    let base : HostCmd := { port := p, tag := q.tag % 64, index := q.index, data := q.data, par := x.par, utcHi := x.utcHi, utcLo := x.utcLo, operator := x.session.map (·.operator), frame := s.dev.frame, cyc := q.cyc }
    let queued := fun (t : State) (e : HostCmd) => (t.dev.port p).journal = x.journal ++ [e] ∧ (t.dev.port p).tags = x.tags ++ [(e.tag, e.opc)]
      ∧ (t.dev.port p).resp.kind = 1 ∧ (t.dev.port p).resp.frame = s.dev.frame ∧ (t.dev.port p).cq = x.cq ∧ (t.dev.port p).frozen = false
      ∧ (∀ o, o ≠ p → t.dev.port o = s.dev.port o)
      ∧ t = { s with dev := { s.dev with port0 := t.dev.port0, port1 := t.dev.port1, log := t.dev.log, faults := t.dev.faults } }
    let commands : List ((Req → Instr) × Nat) := [(.resetArm, 0x20), (.resetConfirm, 0x21), (.outClear, 0x22), (.reefPropose, 0x23), (.wake, 0x24), (.switchover, 0x25),
      (.resync, 0x26), (.shutdown, 0x27), (.unfreeze, 0x28), (.splitForbid, 0x29), (.pwRecover, 0x39), (.logAck, 0x3B), (.calWrite, 0x3C), (.calClear, 0x3D), (.otpRead, 0x3E)]
    let st := (s.dev.node (s.dev.halfOfPort p)).sys
    let busy := fun (c : Instr) => ∃ t, exec c s = .next t ∧ (t.dev.port p).resp.kind = 2 ∧ (t.dev.port p).resp.code = 2 ∧ (t.dev.port p).journal = x.journal
      ∧ (t.dev.port p).tags = x.tags ∧ s.OnlyPort p t
    (x.tags.any (fun y => y.1 == q.tag % 64) = true → busy (.registerWrite q) ∧ (∀ b, busy (.read q true b)) ∧ (∀ c ∈ commands, busy (c.1 q)) ∧ busy (.sessionOpen q) ∧ busy (.rigBegin q))
    ∧ (x.tags.any (fun y => y.1 == q.tag % 64) = false →
      (∀ c ∈ commands, ∃ t e, exec (c.1 q) s = .next t ∧ queued t e ∧ e = { base with opc := c.2, verdict := e.verdict, reserved := e.reserved }
          ∧ (s.dev.refuses { base with opc := c.2 } = true → e.verdict = some .denied ∧ t.dev.log = s.dev.log)
          ∧ (s.dev.refuses { base with opc := c.2 } = false → loggedOps.contains c.2 = false → e.verdict = none ∧ e.reserved = false ∧ t.dev.log = s.dev.log)
          ∧ (s.dev.refuses { base with opc := c.2 } = false → loggedOps.contains c.2 = true → s.dev.mayReserve = true → e.verdict = none ∧ e.reserved = true
              ∧ t.dev.log = { s.dev.log with reserved := s.dev.log.reserved + 1 })
          ∧ (s.dev.refuses { base with opc := c.2 } = false → loggedOps.contains c.2 = true → s.dev.mayReserve = false → e.verdict = some .denied ∧ t.dev.log = s.dev.log)
          ∧ (sessionOps.contains c.2 = true → x.session = none → e.verdict = some .denied)
          ∧ (evalOps.contains c.2 = true → s.dev.mirrors = true → e.verdict = some .denied))
      ∧ (∀ b, ∃ t, exec (.read q true b) s = .next t ∧ queued t { base with opc := 1, snaprd := b } ∧ (t.dev.port p).session = x.session)
      ∧ (s.dev.stackMember = false → st.inService = true →
        let writes := fun (c : Instr) (i : Nat) (w : Word) (v : Option Status) => ∃ t, exec c s = .next t ∧ queued t { base with opc := 2, index := i, data := w, verdict := v }
        (accessOf q.index = .ro → ¬ (0x80 ≤ q.index ∧ q.index ≤ 0xBF) → writes (.registerWrite q) q.index q.data (some .denied))
        ∧ (∀ o, o < 0x20 → hstAccess o = .rw → q.index = 0x80 + 32 * p.val + o → writes (.registerWrite q) q.index q.data none)
        ∧ (∀ o, o < 0x20 → hstAccess o ≠ .undefd → q.index = 0x80 + 32 * (1 - p.val) + o → ∃ t, exec (.registerWrite q) s = .next t ∧ s.FrozenBy p 5 t ∧ (t.dev.port p).resp.code = Status.frozen.code)
        ∧ writes (.irqstatClear q) (0x86 + 32 * p.val) q.data none
        ∧ (∀ c ∈ ([(.clearOccurrenceCounters, 1), (.clearLinCounters, 2), (.clearHalCounters, 4), (.clearDpxCounters, 8), (.clearBgwCounters, 16), (.clearResyncCounter, 32)] : List ((Req → Instr) × Word)),
            (x.session.isSome = true → writes (c.1 q) 0x56 c.2 none)
            ∧ (x.session = none → ∃ t, exec (c.1 q) s = .next t ∧ s.FrozenBy p 2 t ∧ (t.dev.port p).resp.code = Status.frozen.code))
        ∧ (x.session.isSome = true → s.dev.stackMaster = false → s.dev.mayCal = true → s.dev.showsSys p (q.index % 32) = true →
            writes (.holdoffSet q) (0x407 + 16 * (q.index % 32)) 0x00010000 none ∧ writes (.holdoffClear q) (0x407 + 16 * (q.index % 32)) 0 none))))
  ∧ (∀ (d : Dev) (c : HostCmd), c.opc = 2 → c.verdict = none → d.rig.actDue = none → d.stackMaster = false →
      let u := d.updateWrite c
      let h := d.halfOfPort c.port
      u.Completes c.port 2 c.tag .ok 0
      ∧ (c.index = 0x56 →
          (bit c.data 0 = true → u.faults.occ = []) ∧ (bit c.data 1 = true → (u.line h).mutes = 0 ∧ (u.line h).lineA.invalid = 0 ∧ (u.line h).lineB.invalid = 0)
          ∧ (bit c.data 2 = true → u.hal.discard = 0 ∧ u.hal.failF = 0 ∧ u.hal.failR = 0) ∧ (bit c.data 3 = true → u.dpx.uncert = 0 ∧ u.dpx.disagree = 0 ∧ u.dpx.unmirr = 0)
          ∧ (bit c.data 4 = true → u.bgw.scrubPasses = 0 ∧ u.bgw.cmpPasses = 0 ∧ u.bgw.romPasses = 0 ∧ u.bgw.dropped = 0) ∧ (bit c.data 5 = true → (u.node h).cores.resyncTotal = 0))
      ∧ (c.index = 0x86 + 32 * c.port.val → (u.port c.port).irqStat = (d.port c.port).irqStat &&& (8191 - c.data.toNat % 8192))
      ∧ (∀ i, i < 32 → c.index = 0x407 + 16 * i → (d.sys i).defd = true → bit c.data 16 = true → (d.sys i).holdoff = false →
          (u.sys i).holdoff = true ∧ (u.sys i).usable = false ∧ ((u.sys i).mode = .off ∨ (u.sys i).mode = .discharge)))

/-- SESSION_OPEN to LOCKOUT_END, PW_SET, LOG_FETCH, PW_RECOVER_TIMEOUT, ERASE_PULSE_END, and commands of a frame's work
that step 5 runs -/
def Obligations.SessionsLogAndStoresActOnTheirCommands : Prop :=
  (∀ (s : State) (q : Req), s.Accepts q → (s.dev.node (s.dev.halfOfPort q.port)).sys.inService = true →
    let p := q.port
    let x := s.dev.port p
    (∃ t j, exec (.sessionOpen q) s = .next t ∧ (t.dev.port p).pwJobs = x.pwJobs ++ [j] ∧ j.password = x.password q.data.toNat ∧ j.frame = s.dev.frame
      ∧ j.cmd.index = q.index ∧ j.cmd.opc = 0x10 ∧ j.cmd.verdict = none ∧ (t.dev.port p).journal = x.journal ++ [j.cmd] ∧ (t.dev.port p).resp.kind = 1 ∧ (t.dev.port p).session.map (·.operator) = x.session.map (·.operator))
    ∧ (∃ t j, exec (.pwSet q) s = .next t ∧ (t.dev.port p).pwJobs = x.pwJobs ++ [j] ∧ j.password = x.password (x.par.getD 0 0).toNat ∧ j.frame = s.dev.frame
      ∧ j.cmd.opc = 0x38 ∧ (t.dev.port p).journal = x.journal ++ [j.cmd] ∧ (t.dev.port p).resp.kind = 1
      ∧ j.cmd.verdict = (if s.dev.mayReserve = true ∧ (s.dev.store.pw.state = 0 ∨ (s.dev.store.pw.state = 1 ∧ x.session.isSome = true)) then none else some .denied))
    ∧ (q.data = s.dev.activeSerial →
        let n := x.par.getD 0 0
        (∀ e, s.dev.log.find n.toNat = some e → ∃ t, exec (.logFetch q) s = .next t ∧ (t.dev.port p).logEntry = e.words ∧ t.dev.Completes p 0x3A (q.tag % 64) .ok n)
        ∧ (s.dev.log.find n.toNat = none → ∃ t, exec (.logFetch q) s = .next t ∧ (t.dev.port p).logEntry = x.logEntry ∧ t.dev.Completes p 0x3A (q.tag % 64) .denied 0)))
  ∧ (∀ (s : State) (p : Fin 2), s.dev.inReset = false →
    let x := s.dev.port p
    (x.pwJobs = [] → exec (.passwordCheckComplete p) s = .next s)
    ∧ (∀ j rest, x.pwJobs = j :: rest →
      (since s.dev.frame j.frame < 200 → exec (.passwordCheckComplete p) s = .next s)
      ∧ (200 ≤ since s.dev.frame j.frame → j.cmd.port = p → j.cmd.opc = 0x10 → j.cmd.verdict = none → s.dev.store.pw.state = 1 → 1 ≤ j.cmd.index → j.cmd.index ≤ 0xFFFE → x.session = none →
        let right := 12 ≤ j.cmd.data.toNat ∧ j.cmd.data.toNat ≤ 64 ∧ pwHash s.dev.store.pw.salt j.password = s.dev.store.pw.hash
        (right → ∃ t, exec (.passwordCheckComplete p) s = .next t ∧ (t.dev.port p).session = some { operator := j.cmd.index, last := s.dev.frame } ∧ (t.dev.port p).pwRun = 0
          ∧ (t.dev.port p).pwbuf = List.replicate 16 0 ∧ (t.dev.port p).pwJobs = rest ∧ t.dev.Completes p 0x10 j.cmd.tag .ok 0)
        ∧ (¬ right → x.pwRun < 2 → ∃ t, exec (.passwordCheckComplete p) s = .next t ∧ (t.dev.port p).session = none ∧ (t.dev.port p).pwRun = x.pwRun + 1
          ∧ (t.dev.port p).frozen = x.frozen ∧ t.dev.Completes p 0x10 j.cmd.tag .denied 0)
        ∧ (¬ right → 2 ≤ x.pwRun → ∃ t, exec (.passwordCheckComplete p) s = .next t ∧ (t.dev.port p).frozen = true ∧ (t.dev.port p).lastViol = 4
          ∧ (t.dev.port p).lockout = some s.dev.frame ∧ t.dev.hasFault 0x91 .port p.val (s.dev.halfOfPort p) = true)))
    ∧ (∀ y, x.session = some y → if 1200000 ≤ since s.dev.frame y.last then
          ∃ t, exec (.sessionIdleTimeout p) s = .next t ∧ t.dev.port p = { x with session := none } ∧ t.dev.irqNew = (s.dev.irqNew ||| (if p = 0 then 2 ^ 9 else 2 ^ 25))
            ∧ (∀ o, o ≠ p → t.dev.port o = s.dev.port o)
        else exec (.sessionIdleTimeout p) s = .next s)
    ∧ (x.session = none → exec (.sessionIdleTimeout p) s = .next s)
    ∧ (∀ f, x.lockout = some f → if 120000 ≤ since s.dev.frame f then
          exec (.lockoutEnd p) s = .next { s with dev := s.dev.onPort p fun y => { y with lockout := none } }
        else exec (.lockoutEnd p) s = .next s)
    ∧ (x.lockout = none → exec (.lockoutEnd p) s = .next s)
    ∧ (∀ f, s.dev.store.recover = some f → if 20000 ≤ since s.dev.frame f.frame then
          ∃ t, exec .pwRecoverTimeout s = .next t ∧ t.dev.store = { s.dev.store with recover := none } ∧ t.dev.Completes f.port f.opc f.tag .aborted 0
        else exec .pwRecoverTimeout s = .next s)
    ∧ (s.dev.store.recover = none → exec .pwRecoverTimeout s = .next s)
    ∧ (∀ done, s.dev.log.erasing = none ∨ s.dev.log.programmed = true ∨ s.dev.log.storeWrite = true → exec (.erasePulseEnd done) s = .next s)
    ∧ (∀ pg n, s.dev.log.erasing = some (pg, n) → s.dev.log.programmed = false → s.dev.log.storeWrite = false →
        (∃ t, exec (.erasePulseEnd true) s = .next t ∧ t.dev.log.erasing = none ∧ t.dev.log.slots = s.dev.log.slots.filter (fun e => logPage e.entry.toNat ≠ pg))
        ∧ (n + 1 < 160 → exec (.erasePulseEnd false) s = .next { s with dev := { s.dev with log := { s.dev.log with erasing := some (pg, n + 1) } } })
        ∧ (160 ≤ n + 1 → ∃ t, exec (.erasePulseEnd false) s = .next t ∧ t.dev.log.writeFault = true ∧ t.dev.hasFault 0xA8 .device 0 = true ∧ t.dev.log.slots = s.dev.log.slots)))
  ∧ (∀ (d : Dev) (c : HostCmd), c.verdict = none → c.data = d.activeSerial →
    let h := d.halfOfPort c.port
    let ends := fun (u : Dev) (st : Status) (w : Word) => u.Completes c.port c.opc c.tag st w
    (c.opc = 0x23 → let u := runCmd c d
        if d.hasLine h = true ∧ d.isMaster h = true ∧ (d.lineRec h).reef = true then ends u .ok 0 ∧ u.line h = { d.line h with proposeReq := true } else ends u .denied 0 ∧ u.line h = d.line h)
    ∧ (c.opc = 0x24 → let u := runCmd c d
        if d.hasLine h = true ∧ (d.line h).inReef = true ∧ (d.isMaster h = true ∨ (d.lineRec h).wake = true) then ends u .ok 0 ∧ u.line h = { d.line h with wakeReq := true } else ends u .denied 0 ∧ u.line h = d.line h)
    ∧ (c.opc = 0x26 → let u := runCmd c d
        let opened : Dpx := { d.dpx with lock76 := false, retryWait := false, fails := [] }
        if d.hasDuplex = true ∧ d.dpx.role = .offline ∧ d.dpx.resyncCmd = none then u.unitFault 0x76 = false
          ∧ (if d.dpx.pclaim = true ∧ d.dpx.frozen = false then u.dpx = { opened with resyncCmd := some (c.port, c.tag) } ∧ u.done = d.done else ends u .twinLost 0 ∧ u.dpx = opened)
        else ends u .denied 0 ∧ u.dpx = d.dpx)
    ∧ (c.opc = 0x28 → ∀ o : Fin 2, o ≠ c.port → c.index = o.val → let u := runCmd c d
        if (d.port o).frozen = true ∧ (d.port o).locked d.frame = false then
          ends u .ok 0 ∧ (u.port o).frozen = false ∧ (u.port o).crcRun = 0 ∧ (u.port o).pwRun = 0 ∧ u.hasFault 0x90 .port o.val (d.halfOfPort o) = false ∧ u.hasFault 0x91 .port o.val (d.halfOfPort o) = false
        else ends u .denied 0 ∧ u.port o = d.port o)
    ∧ (c.opc = 0x3B → let u := runCmd c d
        let w := c.par.getD 0 0
        if newer w (BitVec.ofNat 32 d.log.wmark) = false ∧ newer (BitVec.ofNat 32 d.log.newest) w = false then ends u .ok 0 ∧ u.log.wmark = w.toNat ∧ u.log.slots = d.log.slots else ends u .denied 0 ∧ u.log = d.log)
    ∧ (c.opc = 0x29 → d.log.slots.length < 3584 → d.log.writeFails = 0 → let u := runCmd c d
        ends u .ok 0 ∧ u.store = { d.store with otpForbid := true } ∧ u.log.newest = d.log.newest + 1 ∧ u.log.slots.length = d.log.slots.length + 1))

/-- RIG_BEGIN to RIG_DISCARD, verification, storing and activation: what each needs, writes and completes with -/
def Obligations.RigsAreStagedVerifiedStoredAndActivated : Prop :=
  (∀ (s : State) (q : Req), s.Accepts q → (s.dev.node (s.dev.halfOfPort q.port)).sys.inService = true → (s.dev.port q.port).session.isSome = true →
      s.dev.mirrors = false → s.dev.mayReserve = true →
    let p := q.port
    let g := s.dev.rig
    let owns := g.staged = true ∧ g.owner = some p
    let free := g.owner = none ∨ g.owner = some p
    let ends := fun (t : State) (opc : Nat) (st : Status) => t.dev.Completes p opc (q.tag % 64) st 0
    let denied := fun (c : Instr) (opc : Nat) => ∃ t, exec c s = .next t ∧ ends t opc .denied ∧ t.dev.rig = g ∧ t.staging = s.staging ∧ t.flash = s.flash
    let word := (s.dev.port p).par.getD 0 0
    (free → ∃ t, exec (.rigBegin q) s = .next t ∧ ends t 0x30 .ok ∧ t.staging = []
      ∧ t.dev.rig = { g with staged := true, owner := some p, stagedSerial := q.data, passed := none, memberHash := none })
    ∧ (¬ free → denied (.rigBegin q) 0x30)
    ∧ (owns → word.toNat < 2 → ∃ t, exec (.rigWrite q) s = .next t ∧ ends t 0x31 .ok ∧ t.dev.rig = { g with passed := none, memberHash := none }
      ∧ t.staging = memWriteMany stagingZ s.staging (word.toNat * 0x40000 + 4 * (q.index % 65536)) (toBytes 4 q.data.toNat))
    ∧ (¬ owns ∨ 2 ≤ word.toNat → denied (.rigWrite q) 0x31)
    ∧ (owns → q.data = g.stagedSerial → g.job = none → ∃ t j, exec (.rigCheck q) s = .next t ∧ t.dev.rig = { g with job := some j } ∧ j.cmd.opc = 0x32 ∧ j.cmd.port = p
      ∧ j.cmd.tag = q.tag % 64 ∧ j.frame = s.dev.frame ∧ j.verified = false ∧ t.staging = s.staging)
    ∧ (¬ owns ∨ q.data ≠ g.stagedSerial ∨ g.job ≠ none → denied (.rigCheck q) 0x32)
    ∧ (free → q.index < 2 → g.job = none → ∃ t j, exec (.rigLoad q) s = .next t ∧ t.staging = s.bankImage q.index ∧ j.cmd.opc = 0x35 ∧ j.cmd.index = q.index ∧ j.cmd.port = p
      ∧ t.dev.rig = { g with staged := true, owner := some p, stagedSerial := t.dev.rig.stagedSerial, passed := none, memberHash := none, job := some j })
    ∧ (¬ free ∨ 2 ≤ q.index ∨ g.job ≠ none → denied (.rigLoad q) 0x35)
    ∧ (∃ t, exec (.rigDiscard q) s = .next t ∧ ends t 0x36 .ok ∧ t.staging = [] ∧ t.dev.rig = g.unstage)
    ∧ (owns → q.index < 2 → g.passed ≠ none → q.data = g.stagedSerial → g.store = none → ∃ t j, exec (.rigStore q) s = .next t ∧ t.flash = s.flash
      ∧ t.dev.rig = { g with store := some j, storeLogged := false } ∧ j.cmd.opc = 0x34 ∧ j.cmd.index = q.index ∧ j.cmd.reserved = true)
    ∧ (¬ owns ∨ 2 ≤ q.index ∨ g.passed = none ∨ q.data ≠ g.stagedSerial ∨ g.store ≠ none → denied (.rigStore q) 0x34)
    ∧ (owns → q.data = g.stagedSerial → g.pendAct = none → ∃ t e, exec (.rigActivate q) s = .next t ∧ (t.dev.port p).journal = (s.dev.port p).journal ++ [e] ∧ e.opc = 0x33
      ∧ e.verdict = none ∧ e.reserved = true ∧ t.dev.rig = (if s.dev.split then { g with pendAct := some e } else g))
    ∧ (¬ owns → g.pendAct = none → denied (.rigActivate q) 0x33))
  ∧ (∀ s : State, s.dev.inReset = false → s.dev.allSafe = false →
    let g := s.dev.rig
    (∀ j, g.job = some j → j.verified = false → match s.verifyStaging with
      | .fail code off => ∃ t, exec .rigVerificationEnd s = .next t ∧ t.dev.Completes j.cmd.port j.cmd.opc j.cmd.tag .denied (failData code off) ∧ t.dev.rig.job = none
          ∧ t.dev.rig.passed = g.passed ∧ t.dev.rig.active = g.active ∧ t.flash = s.flash ∧ t.staging = s.staging
      | .pass r => s.dev.stackMaster = false → ∃ t, exec .rigVerificationEnd s = .next t ∧ t.dev.Completes j.cmd.port j.cmd.opc j.cmd.tag .ok (passData r.hash) ∧ t.dev.rig.job = none
          ∧ t.dev.rig.passed = (if j.cmd.opc = 0x35 then g.passed else some r) ∧ t.dev.rig.active = g.active ∧ t.flash = s.flash ∧ t.staging = s.staging)
    ∧ (g.job = none → s.dev.bootVerifies = true → match s.verifyBank g.bootBank with
      | .pass r => ∃ t, exec .rigVerificationEnd s = .next t ∧ t.dev.rig.actDue = some (r, []) ∧ t.dev.rig.actSource = (if g.bootBank = 0 then .bank0 else .bank1)
      | .fail code _ => ∃ t, exec .rigVerificationEnd s = .next t ∧ t.dev.hasFault code .device 0 = true ∧ t.dev.rig.actDue = none
          ∧ (if s.dev.bootSel < 2 ∧ g.bootTried = 0 then t.dev.rig.bootBank = 1 - g.bootBank ∧ t.dev.rig.bootTried = 1 ∧ t.dev.nodeA.sys = s.dev.nodeA.sys
             else ∀ h ∈ s.dev.halves, (s.dev.node h).safe = false → (t.dev.node h).sys = .awaitRig))
    ∧ (∀ j, g.job = some j → j.cmd.opc = 0x35 → ∃ t, exec .bankVerificationTimeout s = .next t ∧ t.dev.Completes j.cmd.port 0x35 j.cmd.tag .denied (failData 0xA5 0) ∧ t.dev.rig.job = none)
    ∧ (g.job = none → g.store = none → s.dev.bootVerifies = true → ∃ t, exec .bankVerificationTimeout s = .next t ∧ t.dev.hasFault 0xA5 .device 0 = true ∧ t.dev.rig.actDue = none)
    ∧ (g.job = none → g.store = none → s.dev.bootVerifies = false → exec .bankVerificationTimeout s = .next s)
    ∧ (s.dev.activating = none → exec .rigActivation s = .next s)
    ∧ (∀ r cmds, s.dev.activating = some (r, cmds) → ∃ t, exec .rigActivation s = .next t ∧ t.dev.rig.active = some r ∧ t.dev.rig.actFrame = s.dev.frame ∧ t.dev.rig.source = g.actSource
      ∧ t.dev.rig.actDue = none ∧ t.dev.rig.staged = false ∧ t.dev.rig.owner = none ∧ t.dev.bgw.cmpRunning = true ∧ t.dev.bgw.cmpPos = 0 ∧ t.bank = t.dev
      ∧ t = { s with dev := t.dev, bank := t.bank } ∧ s.dev.SameTime t.dev)
    ∧ (∀ c, g.pendAct = some c → if 20000 < since s.dev.frame c.frame then
        ∃ t, exec .splitActivateTimeout s = .next t ∧ t.dev.rig = { g with pendAct := none } ∧ t.dev.Completes c.port c.opc c.tag .aborted 0
      else exec .splitActivateTimeout s = .next s)
    ∧ (g.pendAct = none → exec .splitActivateTimeout s = .next s)
    ∧ (g.storeLogged = false ∨ g.store = none → exec .rigStoreComplete s = .next s)
    ∧ (∀ j, g.storeLogged = true → g.store = some j →
      let w := s.programBank j.cmd.index (fieldAt (s.readStaging 0 64) 20 4)
      ∃ t, exec .rigStoreComplete s = .next t ∧ t.flash = w.flash ∧ t.staging = s.staging ∧ t.dev.rig.store = none ∧ t.dev.rig.storeLogged = false ∧ t.dev.rig.passed = g.passed
        ∧ (match w.verifyBank j.cmd.index with
          | .pass r => t.dev.Completes j.cmd.port j.cmd.opc j.cmd.tag .ok (passData r.hash)
          | .fail code off => t.dev.Completes j.cmd.port j.cmd.opc j.cmd.tag .denied (failData code off))))
end

