-- ==== Sys2Proof/Laws/Memory.lean ====
section
/-! SUPPORT. The addressed memories (flash, staging buffer): every operation keeps the canonical form, and a read
after a write. -/
namespace Sys2Proof.Machine

theorem memWfFrom_mono {z : Byte} {lo hi : Nat} (m : List Host.Cell) (h : lo ≤ hi) (w : memWfFrom z hi m = true) :
    memWfFrom z lo m = true := by
  cases m with
  | nil => rfl
  | cons c rest =>
    simp only [memWfFrom, Bool.and_eq_true, decide_eq_true_eq] at w ⊢
    exact ⟨⟨Nat.le_trans h w.1.1, w.1.2⟩, w.2⟩

theorem memWrite_wfFrom (z : Byte) (m : List Host.Cell) (a : Nat) (v : Byte) (lo : Nat) (hl : lo ≤ a)
    (w : memWfFrom z lo m = true) : memWfFrom z lo (memWrite z m a v) = true := by
  induction m generalizing lo with
  | nil => simp only [memWrite]; split <;> simp_all [memWfFrom]
  | cons c rest ih =>
    obtain ⟨k, x⟩ := c
    simp only [memWfFrom, Bool.and_eq_true, decide_eq_true_eq] at w
    obtain ⟨⟨hk, hx⟩, hr⟩ := w
    simp only [memWrite]
    split
    · split <;> simp_all [memWfFrom] <;> omega
    · split
      · have : k = a := by simp_all
        split
        · exact memWfFrom_mono rest (by omega) hr
        · simp_all [memWfFrom]
      · have hne : a ≠ k := by simp_all
        simp only [memWfFrom, Bool.and_eq_true, decide_eq_true_eq]
        exact ⟨⟨hk, hx⟩, ih (k + 1) (by omega) hr⟩

/-- A write keeps the canonical form. -/
theorem memWrite_wf (z : Byte) (m : List Host.Cell) (a : Nat) (v : Byte) (w : Memory.wf z m = true) :
    Memory.wf z (memWrite z m a v) = true := memWrite_wfFrom z m a v 0 (Nat.zero_le a) w

theorem memWriteMany_wf (z : Byte) (bs : List Byte) (m : List Host.Cell) (a : Nat) (w : Memory.wf z m = true) :
    Memory.wf z (memWriteMany z m a bs) = true := by
  induction bs generalizing m a with
  | nil => exact w
  | cons b bs ih => exact ih _ _ (memWrite_wf z m a b w)

theorem filter_wfFrom (z : Byte) (p : Host.Cell → Bool) (m : List Host.Cell) (lo : Nat)
    (w : memWfFrom z lo m = true) : memWfFrom z lo (m.filter p) = true := by
  induction m generalizing lo with
  | nil => rfl
  | cons c rest ih =>
    obtain ⟨k, x⟩ := c
    simp only [memWfFrom, Bool.and_eq_true, decide_eq_true_eq] at w
    obtain ⟨⟨hk, hx⟩, hr⟩ := w
    simp only [List.filter_cons]
    split
    · simp only [memWfFrom, Bool.and_eq_true, decide_eq_true_eq]
      exact ⟨⟨hk, hx⟩, ih (k + 1) hr⟩
    · exact memWfFrom_mono _ (by omega) (ih (k + 1) hr)

/-- An erasure keeps the canonical form. -/
theorem memErase_wf (z : Byte) (m : List Host.Cell) (a len : Nat) (w : Memory.wf z m = true) :
    Memory.wf z (memErase m a len) = true := filter_wfFrom z _ m 0 w

theorem memRead_below {z : Byte} {lo a : Nat} (m : List Host.Cell) (h : a < lo) (w : memWfFrom z lo m = true) :
    memRead z m a = z := by
  induction m generalizing lo with
  | nil => rfl
  | cons c rest ih =>
    obtain ⟨k, x⟩ := c
    simp only [memWfFrom, Bool.and_eq_true, decide_eq_true_eq] at w
    have hne : (k == a) = false := by simp; omega
    simp only [memRead, hne]
    exact ih (lo := k + 1) (by omega) w.2

theorem memRead_memWrite_from (z : Byte) (m : List Host.Cell) (a : Nat) (v : Byte) (b lo : Nat)
    (w : memWfFrom z lo m = true) :
    memRead z (memWrite z m a v) b = if b = a then v else memRead z m b := by
  induction m generalizing lo with
  | nil =>
    simp only [memWrite]
    by_cases hb : b = a
    · split <;> simp_all [memRead]
    · have : (a == b) = false := by simp; omega
      rw [if_neg hb]
      split <;> simp only [memRead, this] <;> rfl
  | cons c rest ih =>
    obtain ⟨k, x⟩ := c
    simp only [memWfFrom, Bool.and_eq_true, decide_eq_true_eq] at w
    obtain ⟨⟨hk, hx⟩, hr⟩ := w
    simp only [memWrite]
    split
    · rename_i hak
      have hz : memRead z ((k, x) :: rest) a = z :=
        memRead_below (lo := k) _ hak (by simp [memWfFrom, hx, hr])
      split
      · by_cases hb : b = a <;> simp_all
      · by_cases hb : b = a
        · simp [memRead, hb]
        · have : (a == b) = false := by simp; omega
          simp [memRead, hb, this]
    · split
      · rename_i hka
        have hk' : a = k := by simpa using hka
        subst hk'
        have hz := memRead_below (a := a) rest (Nat.lt_succ_self a) hr
        by_cases hb : b = a
        · subst hb
          split <;> simp_all [memRead]
        · have hne : (a == b) = false := by simp; omega
          split <;> simp_all [memRead]
      · rename_i hka
        have hne : a ≠ k := by simpa using hka
        simp only [memRead, ih (k + 1) hr]
        by_cases hb : b = a
        · simp [hb, Ne.symm hne]
        · simp [hb]

/-- A byte written is read back, every other byte reads as before. -/
theorem memRead_memWrite (z : Byte) (m : List Host.Cell) (a : Nat) (v : Byte) (b : Nat) (w : Memory.wf z m = true) :
    memRead z (memWrite z m a v) b = if b = a then v else memRead z m b := memRead_memWrite_from z m a v b 0 w

end Sys2Proof.Machine
end

