-- ==== Sys2Proof/Laws/State.lean ====
section
/-! SUPPORT. What the updates of State and Dev leave alone: one lemma per field and update, so that no proof
unfolds a record update. -/
namespace Sys2Proof.Machine

/-! ## A change of the device alone -/

@[simp] theorem State.lift_dev (f : Dev → Dev) (s : State) : (s.lift f).dev = f s.dev := rfl
@[simp] theorem State.lift_bank (f : Dev → Dev) (s : State) : (s.lift f).bank = s.bank := rfl
@[simp] theorem State.lift_prev (f : Dev → Dev) (s : State) : (s.lift f).prev = s.prev := rfl
@[simp] theorem State.lift_frozenA (f : Dev → Dev) (s : State) : (s.lift f).frozenA = s.frozenA := rfl
@[simp] theorem State.lift_frozenB (f : Dev → Dev) (s : State) : (s.lift f).frozenB = s.frozenB := rfl
@[simp] theorem State.lift_snap0 (f : Dev → Dev) (s : State) : (s.lift f).snap0 = s.snap0 := rfl
@[simp] theorem State.lift_snap1 (f : Dev → Dev) (s : State) : (s.lift f).snap1 = s.snap1 := rfl
@[simp] theorem State.lift_flash (f : Dev → Dev) (s : State) : (s.lift f).flash = s.flash := rfl
@[simp] theorem State.lift_staging (f : Dev → Dev) (s : State) : (s.lift f).staging = s.staging := rfl
@[simp] theorem State.lift_pending (f : Dev → Dev) (s : State) : (s.lift f).pending = s.pending := rfl

/-! ## Dev.raise -/

@[simp] theorem Dev.raise_inReset (code : Nat) (k : Kind) (obj : Nat) (d : Dev) (h : Half) (p : Nat) : (d.raise code k obj h p).inReset = d.inReset := rfl
@[simp] theorem Dev.raise_resetN (code : Nat) (k : Kind) (obj : Nat) (d : Dev) (h : Half) (p : Nat) : (d.raise code k obj h p).resetN = d.resetN := rfl
@[simp] theorem Dev.raise_vfldUnder (code : Nat) (k : Kind) (obj : Nat) (d : Dev) (h : Half) (p : Nat) : (d.raise code k obj h p).vfldUnder = d.vfldUnder := rfl
@[simp] theorem Dev.raise_pll (code : Nat) (k : Kind) (obj : Nat) (d : Dev) (h : Half) (p : Nat) : (d.raise code k obj h p).pll = d.pll := rfl
@[simp] theorem Dev.raise_dt (code : Nat) (k : Kind) (obj : Nat) (d : Dev) (h : Half) (p : Nat) : (d.raise code k obj h p).dt = d.dt := rfl
@[simp] theorem Dev.raise_frame (code : Nat) (k : Kind) (obj : Nat) (d : Dev) (h : Half) (p : Nat) : (d.raise code k obj h p).frame = d.frame := rfl
@[simp] theorem Dev.raise_codePos (code : Nat) (k : Kind) (obj : Nat) (d : Dev) (h : Half) (p : Nat) : (d.raise code k obj h p).codePos = d.codePos := rfl
@[simp] theorem Dev.raise_shortFrame (code : Nat) (k : Kind) (obj : Nat) (d : Dev) (h : Half) (p : Nat) : (d.raise code k obj h p).shortFrame = d.shortFrame := rfl
@[simp] theorem Dev.raise_faultN (code : Nat) (k : Kind) (obj : Nat) (d : Dev) (h : Half) (p : Nat) : (d.raise code k obj h p).faultN = d.faultN := rfl
@[simp] theorem Dev.raise_hbeat (code : Nat) (k : Kind) (obj : Nat) (d : Dev) (h : Half) (p : Nat) : (d.raise code k obj h p).hbeat = d.hbeat := rfl
@[simp] theorem Dev.raise_straps (code : Nat) (k : Kind) (obj : Nat) (d : Dev) (h : Half) (p : Nat) : (d.raise code k obj h p).straps = d.straps := rfl
@[simp] theorem Dev.raise_boardTest (code : Nat) (k : Kind) (obj : Nat) (d : Dev) (h : Half) (p : Nat) : (d.raise code k obj h p).boardTest = d.boardTest := rfl
@[simp] theorem Dev.raise_tap (code : Nat) (k : Kind) (obj : Nat) (d : Dev) (h : Half) (p : Nat) : (d.raise code k obj h p).tap = d.tap := rfl
@[simp] theorem Dev.raise_tapDrive (code : Nat) (k : Kind) (obj : Nat) (d : Dev) (h : Half) (p : Nat) : (d.raise code k obj h p).tapDrive = d.tapDrive := rfl
@[simp] theorem Dev.raise_resetCause (code : Nat) (k : Kind) (obj : Nat) (d : Dev) (h : Half) (p : Nat) : (d.raise code k obj h p).resetCause = d.resetCause := rfl
@[simp] theorem Dev.raise_nreset (code : Nat) (k : Kind) (obj : Nat) (d : Dev) (h : Half) (p : Nat) : (d.raise code k obj h p).nreset = d.nreset := rfl
@[simp] theorem Dev.raise_lastCause (code : Nat) (k : Kind) (obj : Nat) (d : Dev) (h : Half) (p : Nat) : (d.raise code k obj h p).lastCause = d.lastCause := rfl
@[simp] theorem Dev.raise_mm (code : Nat) (k : Kind) (obj : Nat) (d : Dev) (h : Half) (p : Nat) : (d.raise code k obj h p).mm = d.mm := rfl
@[simp] theorem Dev.raise_irqNew (code : Nat) (k : Kind) (obj : Nat) (d : Dev) (h : Half) (p : Nat) : (d.raise code k obj h p).irqNew = d.irqNew := rfl
@[simp] theorem Dev.raise_freeCtr (code : Nat) (k : Kind) (obj : Nat) (d : Dev) (h : Half) (p : Nat) : (d.raise code k obj h p).freeCtr = d.freeCtr := rfl
@[simp] theorem Dev.raise_workDone (code : Nat) (k : Kind) (obj : Nat) (d : Dev) (h : Half) (p : Nat) : (d.raise code k obj h p).workDone = d.workDone := rfl
@[simp] theorem Dev.raise_inWork (code : Nat) (k : Kind) (obj : Nat) (d : Dev) (h : Half) (p : Nat) : (d.raise code k obj h p).inWork = d.inWork := rfl
@[simp] theorem Dev.raise_obs (code : Nat) (k : Kind) (obj : Nat) (d : Dev) (h : Half) (p : Nat) : (d.raise code k obj h p).obs = d.obs := rfl
@[simp] theorem Dev.raise_capOpen (code : Nat) (k : Kind) (obj : Nat) (d : Dev) (h : Half) (p : Nat) : (d.raise code k obj h p).capOpen = d.capOpen := rfl
@[simp] theorem Dev.raise_capClosed (code : Nat) (k : Kind) (obj : Nat) (d : Dev) (h : Half) (p : Nat) : (d.raise code k obj h p).capClosed = d.capClosed := rfl
@[simp] theorem Dev.raise_systems (code : Nat) (k : Kind) (obj : Nat) (d : Dev) (h : Half) (p : Nat) : (d.raise code k obj h p).systems = d.systems := rfl
@[simp] theorem Dev.raise_outputs (code : Nat) (k : Kind) (obj : Nat) (d : Dev) (h : Half) (p : Nat) : (d.raise code k obj h p).outputs = d.outputs := rfl
@[simp] theorem Dev.raise_inputs (code : Nat) (k : Kind) (obj : Nat) (d : Dev) (h : Half) (p : Nat) : (d.raise code k obj h p).inputs = d.inputs := rfl
@[simp] theorem Dev.raise_tps (code : Nat) (k : Kind) (obj : Nat) (d : Dev) (h : Half) (p : Nat) : (d.raise code k obj h p).tps = d.tps := rfl
@[simp] theorem Dev.raise_tpsRun (code : Nat) (k : Kind) (obj : Nat) (d : Dev) (h : Half) (p : Nat) : (d.raise code k obj h p).tpsRun = d.tpsRun := rfl
@[simp] theorem Dev.raise_offPulse (code : Nat) (k : Kind) (obj : Nat) (d : Dev) (h : Half) (p : Nat) : (d.raise code k obj h p).offPulse = d.offPulse := rfl
@[simp] theorem Dev.raise_codeA (code : Nat) (k : Kind) (obj : Nat) (d : Dev) (h : Half) (p : Nat) : (d.raise code k obj h p).codeA = d.codeA := rfl
@[simp] theorem Dev.raise_codeB (code : Nat) (k : Kind) (obj : Nat) (d : Dev) (h : Half) (p : Nat) : (d.raise code k obj h p).codeB = d.codeB := rfl
@[simp] theorem Dev.raise_proofCycles (code : Nat) (k : Kind) (obj : Nat) (d : Dev) (h : Half) (p : Nat) : (d.raise code k obj h p).proofCycles = d.proofCycles := rfl
@[simp] theorem Dev.raise_nodeA (code : Nat) (k : Kind) (obj : Nat) (d : Dev) (h : Half) (p : Nat) : (d.raise code k obj h p).nodeA = d.nodeA := rfl
@[simp] theorem Dev.raise_nodeB (code : Nat) (k : Kind) (obj : Nat) (d : Dev) (h : Half) (p : Nat) : (d.raise code k obj h p).nodeB = d.nodeB := rfl
@[simp] theorem Dev.raise_probe (code : Nat) (k : Kind) (obj : Nat) (d : Dev) (h : Half) (p : Nat) : (d.raise code k obj h p).probe = d.probe := rfl
@[simp] theorem Dev.raise_probeOther (code : Nat) (k : Kind) (obj : Nat) (d : Dev) (h : Half) (p : Nat) : (d.raise code k obj h p).probeOther = d.probeOther := rfl
@[simp] theorem Dev.raise_dpx (code : Nat) (k : Kind) (obj : Nat) (d : Dev) (h : Half) (p : Nat) : (d.raise code k obj h p).dpx = d.dpx := rfl
@[simp] theorem Dev.raise_hal (code : Nat) (k : Kind) (obj : Nat) (d : Dev) (h : Half) (p : Nat) : (d.raise code k obj h p).hal = d.hal := rfl
@[simp] theorem Dev.raise_port0 (code : Nat) (k : Kind) (obj : Nat) (d : Dev) (h : Half) (p : Nat) : (d.raise code k obj h p).port0 = d.port0 := rfl
@[simp] theorem Dev.raise_port1 (code : Nat) (k : Kind) (obj : Nat) (d : Dev) (h : Half) (p : Nat) : (d.raise code k obj h p).port1 = d.port1 := rfl
@[simp] theorem Dev.raise_done (code : Nat) (k : Kind) (obj : Nat) (d : Dev) (h : Half) (p : Nat) : (d.raise code k obj h p).done = d.done := rfl
@[simp] theorem Dev.raise_rig (code : Nat) (k : Kind) (obj : Nat) (d : Dev) (h : Half) (p : Nat) : (d.raise code k obj h p).rig = d.rig := rfl
@[simp] theorem Dev.raise_log (code : Nat) (k : Kind) (obj : Nat) (d : Dev) (h : Half) (p : Nat) : (d.raise code k obj h p).log = d.log := rfl
@[simp] theorem Dev.raise_store (code : Nat) (k : Kind) (obj : Nat) (d : Dev) (h : Half) (p : Nat) : (d.raise code k obj h p).store = d.store := rfl
@[simp] theorem Dev.raise_bgw (code : Nat) (k : Kind) (obj : Nat) (d : Dev) (h : Half) (p : Nat) : (d.raise code k obj h p).bgw = d.bgw := rfl
@[simp] theorem Dev.raise_shut (code : Nat) (k : Kind) (obj : Nat) (d : Dev) (h : Half) (p : Nat) : (d.raise code k obj h p).shut = d.shut := rfl
@[simp] theorem Dev.raise_vfldLow (code : Nat) (k : Kind) (obj : Nat) (d : Dev) (h : Half) (p : Nat) : (d.raise code k obj h p).vfldLow = d.vfldLow := rfl
@[simp] theorem Dev.raise_vfldOver (code : Nat) (k : Kind) (obj : Nat) (d : Dev) (h : Half) (p : Nat) : (d.raise code k obj h p).vfldOver = d.vfldOver := rfl
@[simp] theorem Dev.raise_coreA (code : Nat) (k : Kind) (obj : Nat) (d : Dev) (h : Half) (p : Nat) : (d.raise code k obj h p).coreA = d.coreA := rfl
@[simp] theorem Dev.raise_coreB (code : Nat) (k : Kind) (obj : Nat) (d : Dev) (h : Half) (p : Nat) : (d.raise code k obj h p).coreB = d.coreB := rfl
@[simp] theorem Dev.raise_workDoneB (code : Nat) (k : Kind) (obj : Nat) (d : Dev) (h : Half) (p : Nat) : (d.raise code k obj h p).workDoneB = d.workDoneB := rfl
@[simp] theorem Dev.raise_workWaits (code : Nat) (k : Kind) (obj : Nat) (d : Dev) (h : Half) (p : Nat) : (d.raise code k obj h p).workWaits = d.workWaits := rfl
@[simp] theorem Dev.raise_sweepFrame (code : Nat) (k : Kind) (obj : Nat) (d : Dev) (h : Half) (p : Nat) : (d.raise code k obj h p).sweepFrame = d.sweepFrame := rfl
@[simp] theorem Dev.raise_proofCyclesB (code : Nat) (k : Kind) (obj : Nat) (d : Dev) (h : Half) (p : Nat) : (d.raise code k obj h p).proofCyclesB = d.proofCyclesB := rfl

/-! ## Dev.clearF -/

@[simp] theorem Dev.clearF_inReset (code : Nat) (k : Kind) (obj : Nat) (d : Dev) (h : Half) : (d.clearF code k obj h).inReset = d.inReset := rfl
@[simp] theorem Dev.clearF_resetN (code : Nat) (k : Kind) (obj : Nat) (d : Dev) (h : Half) : (d.clearF code k obj h).resetN = d.resetN := rfl
@[simp] theorem Dev.clearF_vfldUnder (code : Nat) (k : Kind) (obj : Nat) (d : Dev) (h : Half) : (d.clearF code k obj h).vfldUnder = d.vfldUnder := rfl
@[simp] theorem Dev.clearF_pll (code : Nat) (k : Kind) (obj : Nat) (d : Dev) (h : Half) : (d.clearF code k obj h).pll = d.pll := rfl
@[simp] theorem Dev.clearF_dt (code : Nat) (k : Kind) (obj : Nat) (d : Dev) (h : Half) : (d.clearF code k obj h).dt = d.dt := rfl
@[simp] theorem Dev.clearF_frame (code : Nat) (k : Kind) (obj : Nat) (d : Dev) (h : Half) : (d.clearF code k obj h).frame = d.frame := rfl
@[simp] theorem Dev.clearF_codePos (code : Nat) (k : Kind) (obj : Nat) (d : Dev) (h : Half) : (d.clearF code k obj h).codePos = d.codePos := rfl
@[simp] theorem Dev.clearF_shortFrame (code : Nat) (k : Kind) (obj : Nat) (d : Dev) (h : Half) : (d.clearF code k obj h).shortFrame = d.shortFrame := rfl
@[simp] theorem Dev.clearF_faultN (code : Nat) (k : Kind) (obj : Nat) (d : Dev) (h : Half) : (d.clearF code k obj h).faultN = d.faultN := rfl
@[simp] theorem Dev.clearF_hbeat (code : Nat) (k : Kind) (obj : Nat) (d : Dev) (h : Half) : (d.clearF code k obj h).hbeat = d.hbeat := rfl
@[simp] theorem Dev.clearF_straps (code : Nat) (k : Kind) (obj : Nat) (d : Dev) (h : Half) : (d.clearF code k obj h).straps = d.straps := rfl
@[simp] theorem Dev.clearF_boardTest (code : Nat) (k : Kind) (obj : Nat) (d : Dev) (h : Half) : (d.clearF code k obj h).boardTest = d.boardTest := rfl
@[simp] theorem Dev.clearF_tap (code : Nat) (k : Kind) (obj : Nat) (d : Dev) (h : Half) : (d.clearF code k obj h).tap = d.tap := rfl
@[simp] theorem Dev.clearF_tapDrive (code : Nat) (k : Kind) (obj : Nat) (d : Dev) (h : Half) : (d.clearF code k obj h).tapDrive = d.tapDrive := rfl
@[simp] theorem Dev.clearF_resetCause (code : Nat) (k : Kind) (obj : Nat) (d : Dev) (h : Half) : (d.clearF code k obj h).resetCause = d.resetCause := rfl
@[simp] theorem Dev.clearF_nreset (code : Nat) (k : Kind) (obj : Nat) (d : Dev) (h : Half) : (d.clearF code k obj h).nreset = d.nreset := rfl
@[simp] theorem Dev.clearF_lastCause (code : Nat) (k : Kind) (obj : Nat) (d : Dev) (h : Half) : (d.clearF code k obj h).lastCause = d.lastCause := rfl
@[simp] theorem Dev.clearF_mm (code : Nat) (k : Kind) (obj : Nat) (d : Dev) (h : Half) : (d.clearF code k obj h).mm = d.mm := rfl
@[simp] theorem Dev.clearF_irqNew (code : Nat) (k : Kind) (obj : Nat) (d : Dev) (h : Half) : (d.clearF code k obj h).irqNew = d.irqNew := rfl
@[simp] theorem Dev.clearF_freeCtr (code : Nat) (k : Kind) (obj : Nat) (d : Dev) (h : Half) : (d.clearF code k obj h).freeCtr = d.freeCtr := rfl
@[simp] theorem Dev.clearF_workDone (code : Nat) (k : Kind) (obj : Nat) (d : Dev) (h : Half) : (d.clearF code k obj h).workDone = d.workDone := rfl
@[simp] theorem Dev.clearF_inWork (code : Nat) (k : Kind) (obj : Nat) (d : Dev) (h : Half) : (d.clearF code k obj h).inWork = d.inWork := rfl
@[simp] theorem Dev.clearF_obs (code : Nat) (k : Kind) (obj : Nat) (d : Dev) (h : Half) : (d.clearF code k obj h).obs = d.obs := rfl
@[simp] theorem Dev.clearF_capOpen (code : Nat) (k : Kind) (obj : Nat) (d : Dev) (h : Half) : (d.clearF code k obj h).capOpen = d.capOpen := rfl
@[simp] theorem Dev.clearF_capClosed (code : Nat) (k : Kind) (obj : Nat) (d : Dev) (h : Half) : (d.clearF code k obj h).capClosed = d.capClosed := rfl
@[simp] theorem Dev.clearF_systems (code : Nat) (k : Kind) (obj : Nat) (d : Dev) (h : Half) : (d.clearF code k obj h).systems = d.systems := rfl
@[simp] theorem Dev.clearF_outputs (code : Nat) (k : Kind) (obj : Nat) (d : Dev) (h : Half) : (d.clearF code k obj h).outputs = d.outputs := rfl
@[simp] theorem Dev.clearF_inputs (code : Nat) (k : Kind) (obj : Nat) (d : Dev) (h : Half) : (d.clearF code k obj h).inputs = d.inputs := rfl
@[simp] theorem Dev.clearF_tps (code : Nat) (k : Kind) (obj : Nat) (d : Dev) (h : Half) : (d.clearF code k obj h).tps = d.tps := rfl
@[simp] theorem Dev.clearF_tpsRun (code : Nat) (k : Kind) (obj : Nat) (d : Dev) (h : Half) : (d.clearF code k obj h).tpsRun = d.tpsRun := rfl
@[simp] theorem Dev.clearF_offPulse (code : Nat) (k : Kind) (obj : Nat) (d : Dev) (h : Half) : (d.clearF code k obj h).offPulse = d.offPulse := rfl
@[simp] theorem Dev.clearF_codeA (code : Nat) (k : Kind) (obj : Nat) (d : Dev) (h : Half) : (d.clearF code k obj h).codeA = d.codeA := rfl
@[simp] theorem Dev.clearF_codeB (code : Nat) (k : Kind) (obj : Nat) (d : Dev) (h : Half) : (d.clearF code k obj h).codeB = d.codeB := rfl
@[simp] theorem Dev.clearF_proofCycles (code : Nat) (k : Kind) (obj : Nat) (d : Dev) (h : Half) : (d.clearF code k obj h).proofCycles = d.proofCycles := rfl
@[simp] theorem Dev.clearF_nodeA (code : Nat) (k : Kind) (obj : Nat) (d : Dev) (h : Half) : (d.clearF code k obj h).nodeA = d.nodeA := rfl
@[simp] theorem Dev.clearF_nodeB (code : Nat) (k : Kind) (obj : Nat) (d : Dev) (h : Half) : (d.clearF code k obj h).nodeB = d.nodeB := rfl
@[simp] theorem Dev.clearF_probe (code : Nat) (k : Kind) (obj : Nat) (d : Dev) (h : Half) : (d.clearF code k obj h).probe = d.probe := rfl
@[simp] theorem Dev.clearF_probeOther (code : Nat) (k : Kind) (obj : Nat) (d : Dev) (h : Half) : (d.clearF code k obj h).probeOther = d.probeOther := rfl
@[simp] theorem Dev.clearF_dpx (code : Nat) (k : Kind) (obj : Nat) (d : Dev) (h : Half) : (d.clearF code k obj h).dpx = d.dpx := rfl
@[simp] theorem Dev.clearF_hal (code : Nat) (k : Kind) (obj : Nat) (d : Dev) (h : Half) : (d.clearF code k obj h).hal = d.hal := rfl
@[simp] theorem Dev.clearF_port0 (code : Nat) (k : Kind) (obj : Nat) (d : Dev) (h : Half) : (d.clearF code k obj h).port0 = d.port0 := rfl
@[simp] theorem Dev.clearF_port1 (code : Nat) (k : Kind) (obj : Nat) (d : Dev) (h : Half) : (d.clearF code k obj h).port1 = d.port1 := rfl
@[simp] theorem Dev.clearF_done (code : Nat) (k : Kind) (obj : Nat) (d : Dev) (h : Half) : (d.clearF code k obj h).done = d.done := rfl
@[simp] theorem Dev.clearF_rig (code : Nat) (k : Kind) (obj : Nat) (d : Dev) (h : Half) : (d.clearF code k obj h).rig = d.rig := rfl
@[simp] theorem Dev.clearF_log (code : Nat) (k : Kind) (obj : Nat) (d : Dev) (h : Half) : (d.clearF code k obj h).log = d.log := rfl
@[simp] theorem Dev.clearF_store (code : Nat) (k : Kind) (obj : Nat) (d : Dev) (h : Half) : (d.clearF code k obj h).store = d.store := rfl
@[simp] theorem Dev.clearF_bgw (code : Nat) (k : Kind) (obj : Nat) (d : Dev) (h : Half) : (d.clearF code k obj h).bgw = d.bgw := rfl
@[simp] theorem Dev.clearF_shut (code : Nat) (k : Kind) (obj : Nat) (d : Dev) (h : Half) : (d.clearF code k obj h).shut = d.shut := rfl
@[simp] theorem Dev.clearF_vfldLow (code : Nat) (k : Kind) (obj : Nat) (d : Dev) (h : Half) : (d.clearF code k obj h).vfldLow = d.vfldLow := rfl
@[simp] theorem Dev.clearF_vfldOver (code : Nat) (k : Kind) (obj : Nat) (d : Dev) (h : Half) : (d.clearF code k obj h).vfldOver = d.vfldOver := rfl
@[simp] theorem Dev.clearF_coreA (code : Nat) (k : Kind) (obj : Nat) (d : Dev) (h : Half) : (d.clearF code k obj h).coreA = d.coreA := rfl
@[simp] theorem Dev.clearF_coreB (code : Nat) (k : Kind) (obj : Nat) (d : Dev) (h : Half) : (d.clearF code k obj h).coreB = d.coreB := rfl
@[simp] theorem Dev.clearF_workDoneB (code : Nat) (k : Kind) (obj : Nat) (d : Dev) (h : Half) : (d.clearF code k obj h).workDoneB = d.workDoneB := rfl
@[simp] theorem Dev.clearF_workWaits (code : Nat) (k : Kind) (obj : Nat) (d : Dev) (h : Half) : (d.clearF code k obj h).workWaits = d.workWaits := rfl
@[simp] theorem Dev.clearF_sweepFrame (code : Nat) (k : Kind) (obj : Nat) (d : Dev) (h : Half) : (d.clearF code k obj h).sweepFrame = d.sweepFrame := rfl
@[simp] theorem Dev.clearF_proofCyclesB (code : Nat) (k : Kind) (obj : Nat) (d : Dev) (h : Half) : (d.clearF code k obj h).proofCyclesB = d.proofCyclesB := rfl

/-! ## Dev.onSys -/

@[simp] theorem Dev.onSys_inReset (i : Nat) (f : Sys → Sys) (d : Dev) : (d.onSys i f).inReset = d.inReset := rfl
@[simp] theorem Dev.onSys_resetN (i : Nat) (f : Sys → Sys) (d : Dev) : (d.onSys i f).resetN = d.resetN := rfl
@[simp] theorem Dev.onSys_vfldUnder (i : Nat) (f : Sys → Sys) (d : Dev) : (d.onSys i f).vfldUnder = d.vfldUnder := rfl
@[simp] theorem Dev.onSys_pll (i : Nat) (f : Sys → Sys) (d : Dev) : (d.onSys i f).pll = d.pll := rfl
@[simp] theorem Dev.onSys_dt (i : Nat) (f : Sys → Sys) (d : Dev) : (d.onSys i f).dt = d.dt := rfl
@[simp] theorem Dev.onSys_frame (i : Nat) (f : Sys → Sys) (d : Dev) : (d.onSys i f).frame = d.frame := rfl
@[simp] theorem Dev.onSys_codePos (i : Nat) (f : Sys → Sys) (d : Dev) : (d.onSys i f).codePos = d.codePos := rfl
@[simp] theorem Dev.onSys_shortFrame (i : Nat) (f : Sys → Sys) (d : Dev) : (d.onSys i f).shortFrame = d.shortFrame := rfl
@[simp] theorem Dev.onSys_faultN (i : Nat) (f : Sys → Sys) (d : Dev) : (d.onSys i f).faultN = d.faultN := rfl
@[simp] theorem Dev.onSys_hbeat (i : Nat) (f : Sys → Sys) (d : Dev) : (d.onSys i f).hbeat = d.hbeat := rfl
@[simp] theorem Dev.onSys_straps (i : Nat) (f : Sys → Sys) (d : Dev) : (d.onSys i f).straps = d.straps := rfl
@[simp] theorem Dev.onSys_boardTest (i : Nat) (f : Sys → Sys) (d : Dev) : (d.onSys i f).boardTest = d.boardTest := rfl
@[simp] theorem Dev.onSys_tap (i : Nat) (f : Sys → Sys) (d : Dev) : (d.onSys i f).tap = d.tap := rfl
@[simp] theorem Dev.onSys_tapDrive (i : Nat) (f : Sys → Sys) (d : Dev) : (d.onSys i f).tapDrive = d.tapDrive := rfl
@[simp] theorem Dev.onSys_resetCause (i : Nat) (f : Sys → Sys) (d : Dev) : (d.onSys i f).resetCause = d.resetCause := rfl
@[simp] theorem Dev.onSys_nreset (i : Nat) (f : Sys → Sys) (d : Dev) : (d.onSys i f).nreset = d.nreset := rfl
@[simp] theorem Dev.onSys_lastCause (i : Nat) (f : Sys → Sys) (d : Dev) : (d.onSys i f).lastCause = d.lastCause := rfl
@[simp] theorem Dev.onSys_mm (i : Nat) (f : Sys → Sys) (d : Dev) : (d.onSys i f).mm = d.mm := rfl
@[simp] theorem Dev.onSys_faults (i : Nat) (f : Sys → Sys) (d : Dev) : (d.onSys i f).faults = d.faults := rfl
@[simp] theorem Dev.onSys_irqNew (i : Nat) (f : Sys → Sys) (d : Dev) : (d.onSys i f).irqNew = d.irqNew := rfl
@[simp] theorem Dev.onSys_freeCtr (i : Nat) (f : Sys → Sys) (d : Dev) : (d.onSys i f).freeCtr = d.freeCtr := rfl
@[simp] theorem Dev.onSys_workDone (i : Nat) (f : Sys → Sys) (d : Dev) : (d.onSys i f).workDone = d.workDone := rfl
@[simp] theorem Dev.onSys_inWork (i : Nat) (f : Sys → Sys) (d : Dev) : (d.onSys i f).inWork = d.inWork := rfl
@[simp] theorem Dev.onSys_obs (i : Nat) (f : Sys → Sys) (d : Dev) : (d.onSys i f).obs = d.obs := rfl
@[simp] theorem Dev.onSys_capOpen (i : Nat) (f : Sys → Sys) (d : Dev) : (d.onSys i f).capOpen = d.capOpen := rfl
@[simp] theorem Dev.onSys_capClosed (i : Nat) (f : Sys → Sys) (d : Dev) : (d.onSys i f).capClosed = d.capClosed := rfl
@[simp] theorem Dev.onSys_outputs (i : Nat) (f : Sys → Sys) (d : Dev) : (d.onSys i f).outputs = d.outputs := rfl
@[simp] theorem Dev.onSys_inputs (i : Nat) (f : Sys → Sys) (d : Dev) : (d.onSys i f).inputs = d.inputs := rfl
@[simp] theorem Dev.onSys_tps (i : Nat) (f : Sys → Sys) (d : Dev) : (d.onSys i f).tps = d.tps := rfl
@[simp] theorem Dev.onSys_tpsRun (i : Nat) (f : Sys → Sys) (d : Dev) : (d.onSys i f).tpsRun = d.tpsRun := rfl
@[simp] theorem Dev.onSys_offPulse (i : Nat) (f : Sys → Sys) (d : Dev) : (d.onSys i f).offPulse = d.offPulse := rfl
@[simp] theorem Dev.onSys_codeA (i : Nat) (f : Sys → Sys) (d : Dev) : (d.onSys i f).codeA = d.codeA := rfl
@[simp] theorem Dev.onSys_codeB (i : Nat) (f : Sys → Sys) (d : Dev) : (d.onSys i f).codeB = d.codeB := rfl
@[simp] theorem Dev.onSys_proofCycles (i : Nat) (f : Sys → Sys) (d : Dev) : (d.onSys i f).proofCycles = d.proofCycles := rfl
@[simp] theorem Dev.onSys_nodeA (i : Nat) (f : Sys → Sys) (d : Dev) : (d.onSys i f).nodeA = d.nodeA := rfl
@[simp] theorem Dev.onSys_nodeB (i : Nat) (f : Sys → Sys) (d : Dev) : (d.onSys i f).nodeB = d.nodeB := rfl
@[simp] theorem Dev.onSys_probe (i : Nat) (f : Sys → Sys) (d : Dev) : (d.onSys i f).probe = d.probe := rfl
@[simp] theorem Dev.onSys_probeOther (i : Nat) (f : Sys → Sys) (d : Dev) : (d.onSys i f).probeOther = d.probeOther := rfl
@[simp] theorem Dev.onSys_dpx (i : Nat) (f : Sys → Sys) (d : Dev) : (d.onSys i f).dpx = d.dpx := rfl
@[simp] theorem Dev.onSys_hal (i : Nat) (f : Sys → Sys) (d : Dev) : (d.onSys i f).hal = d.hal := rfl
@[simp] theorem Dev.onSys_port0 (i : Nat) (f : Sys → Sys) (d : Dev) : (d.onSys i f).port0 = d.port0 := rfl
@[simp] theorem Dev.onSys_port1 (i : Nat) (f : Sys → Sys) (d : Dev) : (d.onSys i f).port1 = d.port1 := rfl
@[simp] theorem Dev.onSys_done (i : Nat) (f : Sys → Sys) (d : Dev) : (d.onSys i f).done = d.done := rfl
@[simp] theorem Dev.onSys_rig (i : Nat) (f : Sys → Sys) (d : Dev) : (d.onSys i f).rig = d.rig := rfl
@[simp] theorem Dev.onSys_log (i : Nat) (f : Sys → Sys) (d : Dev) : (d.onSys i f).log = d.log := rfl
@[simp] theorem Dev.onSys_store (i : Nat) (f : Sys → Sys) (d : Dev) : (d.onSys i f).store = d.store := rfl
@[simp] theorem Dev.onSys_bgw (i : Nat) (f : Sys → Sys) (d : Dev) : (d.onSys i f).bgw = d.bgw := rfl
@[simp] theorem Dev.onSys_shut (i : Nat) (f : Sys → Sys) (d : Dev) : (d.onSys i f).shut = d.shut := rfl
@[simp] theorem Dev.onSys_vfldLow (i : Nat) (f : Sys → Sys) (d : Dev) : (d.onSys i f).vfldLow = d.vfldLow := rfl
@[simp] theorem Dev.onSys_vfldOver (i : Nat) (f : Sys → Sys) (d : Dev) : (d.onSys i f).vfldOver = d.vfldOver := rfl
@[simp] theorem Dev.onSys_coreA (i : Nat) (f : Sys → Sys) (d : Dev) : (d.onSys i f).coreA = d.coreA := rfl
@[simp] theorem Dev.onSys_coreB (i : Nat) (f : Sys → Sys) (d : Dev) : (d.onSys i f).coreB = d.coreB := rfl
@[simp] theorem Dev.onSys_workDoneB (i : Nat) (f : Sys → Sys) (d : Dev) : (d.onSys i f).workDoneB = d.workDoneB := rfl
@[simp] theorem Dev.onSys_workWaits (i : Nat) (f : Sys → Sys) (d : Dev) : (d.onSys i f).workWaits = d.workWaits := rfl
@[simp] theorem Dev.onSys_sweepFrame (i : Nat) (f : Sys → Sys) (d : Dev) : (d.onSys i f).sweepFrame = d.sweepFrame := rfl
@[simp] theorem Dev.onSys_proofCyclesB (i : Nat) (f : Sys → Sys) (d : Dev) : (d.onSys i f).proofCyclesB = d.proofCyclesB := rfl

/-! ## Dev.onOut -/

@[simp] theorem Dev.onOut_inReset (i : Nat) (f : Output → Output) (d : Dev) : (d.onOut i f).inReset = d.inReset := rfl
@[simp] theorem Dev.onOut_resetN (i : Nat) (f : Output → Output) (d : Dev) : (d.onOut i f).resetN = d.resetN := rfl
@[simp] theorem Dev.onOut_vfldUnder (i : Nat) (f : Output → Output) (d : Dev) : (d.onOut i f).vfldUnder = d.vfldUnder := rfl
@[simp] theorem Dev.onOut_pll (i : Nat) (f : Output → Output) (d : Dev) : (d.onOut i f).pll = d.pll := rfl
@[simp] theorem Dev.onOut_dt (i : Nat) (f : Output → Output) (d : Dev) : (d.onOut i f).dt = d.dt := rfl
@[simp] theorem Dev.onOut_frame (i : Nat) (f : Output → Output) (d : Dev) : (d.onOut i f).frame = d.frame := rfl
@[simp] theorem Dev.onOut_codePos (i : Nat) (f : Output → Output) (d : Dev) : (d.onOut i f).codePos = d.codePos := rfl
@[simp] theorem Dev.onOut_shortFrame (i : Nat) (f : Output → Output) (d : Dev) : (d.onOut i f).shortFrame = d.shortFrame := rfl
@[simp] theorem Dev.onOut_faultN (i : Nat) (f : Output → Output) (d : Dev) : (d.onOut i f).faultN = d.faultN := rfl
@[simp] theorem Dev.onOut_hbeat (i : Nat) (f : Output → Output) (d : Dev) : (d.onOut i f).hbeat = d.hbeat := rfl
@[simp] theorem Dev.onOut_straps (i : Nat) (f : Output → Output) (d : Dev) : (d.onOut i f).straps = d.straps := rfl
@[simp] theorem Dev.onOut_boardTest (i : Nat) (f : Output → Output) (d : Dev) : (d.onOut i f).boardTest = d.boardTest := rfl
@[simp] theorem Dev.onOut_tap (i : Nat) (f : Output → Output) (d : Dev) : (d.onOut i f).tap = d.tap := rfl
@[simp] theorem Dev.onOut_tapDrive (i : Nat) (f : Output → Output) (d : Dev) : (d.onOut i f).tapDrive = d.tapDrive := rfl
@[simp] theorem Dev.onOut_resetCause (i : Nat) (f : Output → Output) (d : Dev) : (d.onOut i f).resetCause = d.resetCause := rfl
@[simp] theorem Dev.onOut_nreset (i : Nat) (f : Output → Output) (d : Dev) : (d.onOut i f).nreset = d.nreset := rfl
@[simp] theorem Dev.onOut_lastCause (i : Nat) (f : Output → Output) (d : Dev) : (d.onOut i f).lastCause = d.lastCause := rfl
@[simp] theorem Dev.onOut_mm (i : Nat) (f : Output → Output) (d : Dev) : (d.onOut i f).mm = d.mm := rfl
@[simp] theorem Dev.onOut_faults (i : Nat) (f : Output → Output) (d : Dev) : (d.onOut i f).faults = d.faults := rfl
@[simp] theorem Dev.onOut_irqNew (i : Nat) (f : Output → Output) (d : Dev) : (d.onOut i f).irqNew = d.irqNew := rfl
@[simp] theorem Dev.onOut_freeCtr (i : Nat) (f : Output → Output) (d : Dev) : (d.onOut i f).freeCtr = d.freeCtr := rfl
@[simp] theorem Dev.onOut_workDone (i : Nat) (f : Output → Output) (d : Dev) : (d.onOut i f).workDone = d.workDone := rfl
@[simp] theorem Dev.onOut_inWork (i : Nat) (f : Output → Output) (d : Dev) : (d.onOut i f).inWork = d.inWork := rfl
@[simp] theorem Dev.onOut_obs (i : Nat) (f : Output → Output) (d : Dev) : (d.onOut i f).obs = d.obs := rfl
@[simp] theorem Dev.onOut_capOpen (i : Nat) (f : Output → Output) (d : Dev) : (d.onOut i f).capOpen = d.capOpen := rfl
@[simp] theorem Dev.onOut_capClosed (i : Nat) (f : Output → Output) (d : Dev) : (d.onOut i f).capClosed = d.capClosed := rfl
@[simp] theorem Dev.onOut_systems (i : Nat) (f : Output → Output) (d : Dev) : (d.onOut i f).systems = d.systems := rfl
@[simp] theorem Dev.onOut_inputs (i : Nat) (f : Output → Output) (d : Dev) : (d.onOut i f).inputs = d.inputs := rfl
@[simp] theorem Dev.onOut_tps (i : Nat) (f : Output → Output) (d : Dev) : (d.onOut i f).tps = d.tps := rfl
@[simp] theorem Dev.onOut_tpsRun (i : Nat) (f : Output → Output) (d : Dev) : (d.onOut i f).tpsRun = d.tpsRun := rfl
@[simp] theorem Dev.onOut_offPulse (i : Nat) (f : Output → Output) (d : Dev) : (d.onOut i f).offPulse = d.offPulse := rfl
@[simp] theorem Dev.onOut_codeA (i : Nat) (f : Output → Output) (d : Dev) : (d.onOut i f).codeA = d.codeA := rfl
@[simp] theorem Dev.onOut_codeB (i : Nat) (f : Output → Output) (d : Dev) : (d.onOut i f).codeB = d.codeB := rfl
@[simp] theorem Dev.onOut_proofCycles (i : Nat) (f : Output → Output) (d : Dev) : (d.onOut i f).proofCycles = d.proofCycles := rfl
@[simp] theorem Dev.onOut_nodeA (i : Nat) (f : Output → Output) (d : Dev) : (d.onOut i f).nodeA = d.nodeA := rfl
@[simp] theorem Dev.onOut_nodeB (i : Nat) (f : Output → Output) (d : Dev) : (d.onOut i f).nodeB = d.nodeB := rfl
@[simp] theorem Dev.onOut_probe (i : Nat) (f : Output → Output) (d : Dev) : (d.onOut i f).probe = d.probe := rfl
@[simp] theorem Dev.onOut_probeOther (i : Nat) (f : Output → Output) (d : Dev) : (d.onOut i f).probeOther = d.probeOther := rfl
@[simp] theorem Dev.onOut_dpx (i : Nat) (f : Output → Output) (d : Dev) : (d.onOut i f).dpx = d.dpx := rfl
@[simp] theorem Dev.onOut_hal (i : Nat) (f : Output → Output) (d : Dev) : (d.onOut i f).hal = d.hal := rfl
@[simp] theorem Dev.onOut_port0 (i : Nat) (f : Output → Output) (d : Dev) : (d.onOut i f).port0 = d.port0 := rfl
@[simp] theorem Dev.onOut_port1 (i : Nat) (f : Output → Output) (d : Dev) : (d.onOut i f).port1 = d.port1 := rfl
@[simp] theorem Dev.onOut_done (i : Nat) (f : Output → Output) (d : Dev) : (d.onOut i f).done = d.done := rfl
@[simp] theorem Dev.onOut_rig (i : Nat) (f : Output → Output) (d : Dev) : (d.onOut i f).rig = d.rig := rfl
@[simp] theorem Dev.onOut_log (i : Nat) (f : Output → Output) (d : Dev) : (d.onOut i f).log = d.log := rfl
@[simp] theorem Dev.onOut_store (i : Nat) (f : Output → Output) (d : Dev) : (d.onOut i f).store = d.store := rfl
@[simp] theorem Dev.onOut_bgw (i : Nat) (f : Output → Output) (d : Dev) : (d.onOut i f).bgw = d.bgw := rfl
@[simp] theorem Dev.onOut_shut (i : Nat) (f : Output → Output) (d : Dev) : (d.onOut i f).shut = d.shut := rfl
@[simp] theorem Dev.onOut_vfldLow (i : Nat) (f : Output → Output) (d : Dev) : (d.onOut i f).vfldLow = d.vfldLow := rfl
@[simp] theorem Dev.onOut_vfldOver (i : Nat) (f : Output → Output) (d : Dev) : (d.onOut i f).vfldOver = d.vfldOver := rfl
@[simp] theorem Dev.onOut_coreA (i : Nat) (f : Output → Output) (d : Dev) : (d.onOut i f).coreA = d.coreA := rfl
@[simp] theorem Dev.onOut_coreB (i : Nat) (f : Output → Output) (d : Dev) : (d.onOut i f).coreB = d.coreB := rfl
@[simp] theorem Dev.onOut_workDoneB (i : Nat) (f : Output → Output) (d : Dev) : (d.onOut i f).workDoneB = d.workDoneB := rfl
@[simp] theorem Dev.onOut_workWaits (i : Nat) (f : Output → Output) (d : Dev) : (d.onOut i f).workWaits = d.workWaits := rfl
@[simp] theorem Dev.onOut_sweepFrame (i : Nat) (f : Output → Output) (d : Dev) : (d.onOut i f).sweepFrame = d.sweepFrame := rfl
@[simp] theorem Dev.onOut_proofCyclesB (i : Nat) (f : Output → Output) (d : Dev) : (d.onOut i f).proofCyclesB = d.proofCyclesB := rfl

/-! ## Dev.onInp -/

@[simp] theorem Dev.onInp_inReset (i : Nat) (f : Input → Input) (d : Dev) : (d.onInp i f).inReset = d.inReset := rfl
@[simp] theorem Dev.onInp_resetN (i : Nat) (f : Input → Input) (d : Dev) : (d.onInp i f).resetN = d.resetN := rfl
@[simp] theorem Dev.onInp_vfldUnder (i : Nat) (f : Input → Input) (d : Dev) : (d.onInp i f).vfldUnder = d.vfldUnder := rfl
@[simp] theorem Dev.onInp_pll (i : Nat) (f : Input → Input) (d : Dev) : (d.onInp i f).pll = d.pll := rfl
@[simp] theorem Dev.onInp_dt (i : Nat) (f : Input → Input) (d : Dev) : (d.onInp i f).dt = d.dt := rfl
@[simp] theorem Dev.onInp_frame (i : Nat) (f : Input → Input) (d : Dev) : (d.onInp i f).frame = d.frame := rfl
@[simp] theorem Dev.onInp_codePos (i : Nat) (f : Input → Input) (d : Dev) : (d.onInp i f).codePos = d.codePos := rfl
@[simp] theorem Dev.onInp_shortFrame (i : Nat) (f : Input → Input) (d : Dev) : (d.onInp i f).shortFrame = d.shortFrame := rfl
@[simp] theorem Dev.onInp_faultN (i : Nat) (f : Input → Input) (d : Dev) : (d.onInp i f).faultN = d.faultN := rfl
@[simp] theorem Dev.onInp_hbeat (i : Nat) (f : Input → Input) (d : Dev) : (d.onInp i f).hbeat = d.hbeat := rfl
@[simp] theorem Dev.onInp_straps (i : Nat) (f : Input → Input) (d : Dev) : (d.onInp i f).straps = d.straps := rfl
@[simp] theorem Dev.onInp_boardTest (i : Nat) (f : Input → Input) (d : Dev) : (d.onInp i f).boardTest = d.boardTest := rfl
@[simp] theorem Dev.onInp_tap (i : Nat) (f : Input → Input) (d : Dev) : (d.onInp i f).tap = d.tap := rfl
@[simp] theorem Dev.onInp_tapDrive (i : Nat) (f : Input → Input) (d : Dev) : (d.onInp i f).tapDrive = d.tapDrive := rfl
@[simp] theorem Dev.onInp_resetCause (i : Nat) (f : Input → Input) (d : Dev) : (d.onInp i f).resetCause = d.resetCause := rfl
@[simp] theorem Dev.onInp_nreset (i : Nat) (f : Input → Input) (d : Dev) : (d.onInp i f).nreset = d.nreset := rfl
@[simp] theorem Dev.onInp_lastCause (i : Nat) (f : Input → Input) (d : Dev) : (d.onInp i f).lastCause = d.lastCause := rfl
@[simp] theorem Dev.onInp_mm (i : Nat) (f : Input → Input) (d : Dev) : (d.onInp i f).mm = d.mm := rfl
@[simp] theorem Dev.onInp_faults (i : Nat) (f : Input → Input) (d : Dev) : (d.onInp i f).faults = d.faults := rfl
@[simp] theorem Dev.onInp_irqNew (i : Nat) (f : Input → Input) (d : Dev) : (d.onInp i f).irqNew = d.irqNew := rfl
@[simp] theorem Dev.onInp_freeCtr (i : Nat) (f : Input → Input) (d : Dev) : (d.onInp i f).freeCtr = d.freeCtr := rfl
@[simp] theorem Dev.onInp_workDone (i : Nat) (f : Input → Input) (d : Dev) : (d.onInp i f).workDone = d.workDone := rfl
@[simp] theorem Dev.onInp_inWork (i : Nat) (f : Input → Input) (d : Dev) : (d.onInp i f).inWork = d.inWork := rfl
@[simp] theorem Dev.onInp_obs (i : Nat) (f : Input → Input) (d : Dev) : (d.onInp i f).obs = d.obs := rfl
@[simp] theorem Dev.onInp_capOpen (i : Nat) (f : Input → Input) (d : Dev) : (d.onInp i f).capOpen = d.capOpen := rfl
@[simp] theorem Dev.onInp_capClosed (i : Nat) (f : Input → Input) (d : Dev) : (d.onInp i f).capClosed = d.capClosed := rfl
@[simp] theorem Dev.onInp_systems (i : Nat) (f : Input → Input) (d : Dev) : (d.onInp i f).systems = d.systems := rfl
@[simp] theorem Dev.onInp_outputs (i : Nat) (f : Input → Input) (d : Dev) : (d.onInp i f).outputs = d.outputs := rfl
@[simp] theorem Dev.onInp_tps (i : Nat) (f : Input → Input) (d : Dev) : (d.onInp i f).tps = d.tps := rfl
@[simp] theorem Dev.onInp_tpsRun (i : Nat) (f : Input → Input) (d : Dev) : (d.onInp i f).tpsRun = d.tpsRun := rfl
@[simp] theorem Dev.onInp_offPulse (i : Nat) (f : Input → Input) (d : Dev) : (d.onInp i f).offPulse = d.offPulse := rfl
@[simp] theorem Dev.onInp_codeA (i : Nat) (f : Input → Input) (d : Dev) : (d.onInp i f).codeA = d.codeA := rfl
@[simp] theorem Dev.onInp_codeB (i : Nat) (f : Input → Input) (d : Dev) : (d.onInp i f).codeB = d.codeB := rfl
@[simp] theorem Dev.onInp_proofCycles (i : Nat) (f : Input → Input) (d : Dev) : (d.onInp i f).proofCycles = d.proofCycles := rfl
@[simp] theorem Dev.onInp_nodeA (i : Nat) (f : Input → Input) (d : Dev) : (d.onInp i f).nodeA = d.nodeA := rfl
@[simp] theorem Dev.onInp_nodeB (i : Nat) (f : Input → Input) (d : Dev) : (d.onInp i f).nodeB = d.nodeB := rfl
@[simp] theorem Dev.onInp_probe (i : Nat) (f : Input → Input) (d : Dev) : (d.onInp i f).probe = d.probe := rfl
@[simp] theorem Dev.onInp_probeOther (i : Nat) (f : Input → Input) (d : Dev) : (d.onInp i f).probeOther = d.probeOther := rfl
@[simp] theorem Dev.onInp_dpx (i : Nat) (f : Input → Input) (d : Dev) : (d.onInp i f).dpx = d.dpx := rfl
@[simp] theorem Dev.onInp_hal (i : Nat) (f : Input → Input) (d : Dev) : (d.onInp i f).hal = d.hal := rfl
@[simp] theorem Dev.onInp_port0 (i : Nat) (f : Input → Input) (d : Dev) : (d.onInp i f).port0 = d.port0 := rfl
@[simp] theorem Dev.onInp_port1 (i : Nat) (f : Input → Input) (d : Dev) : (d.onInp i f).port1 = d.port1 := rfl
@[simp] theorem Dev.onInp_done (i : Nat) (f : Input → Input) (d : Dev) : (d.onInp i f).done = d.done := rfl
@[simp] theorem Dev.onInp_rig (i : Nat) (f : Input → Input) (d : Dev) : (d.onInp i f).rig = d.rig := rfl
@[simp] theorem Dev.onInp_log (i : Nat) (f : Input → Input) (d : Dev) : (d.onInp i f).log = d.log := rfl
@[simp] theorem Dev.onInp_store (i : Nat) (f : Input → Input) (d : Dev) : (d.onInp i f).store = d.store := rfl
@[simp] theorem Dev.onInp_bgw (i : Nat) (f : Input → Input) (d : Dev) : (d.onInp i f).bgw = d.bgw := rfl
@[simp] theorem Dev.onInp_shut (i : Nat) (f : Input → Input) (d : Dev) : (d.onInp i f).shut = d.shut := rfl
@[simp] theorem Dev.onInp_vfldLow (i : Nat) (f : Input → Input) (d : Dev) : (d.onInp i f).vfldLow = d.vfldLow := rfl
@[simp] theorem Dev.onInp_vfldOver (i : Nat) (f : Input → Input) (d : Dev) : (d.onInp i f).vfldOver = d.vfldOver := rfl
@[simp] theorem Dev.onInp_coreA (i : Nat) (f : Input → Input) (d : Dev) : (d.onInp i f).coreA = d.coreA := rfl
@[simp] theorem Dev.onInp_coreB (i : Nat) (f : Input → Input) (d : Dev) : (d.onInp i f).coreB = d.coreB := rfl
@[simp] theorem Dev.onInp_workDoneB (i : Nat) (f : Input → Input) (d : Dev) : (d.onInp i f).workDoneB = d.workDoneB := rfl
@[simp] theorem Dev.onInp_workWaits (i : Nat) (f : Input → Input) (d : Dev) : (d.onInp i f).workWaits = d.workWaits := rfl
@[simp] theorem Dev.onInp_sweepFrame (i : Nat) (f : Input → Input) (d : Dev) : (d.onInp i f).sweepFrame = d.sweepFrame := rfl
@[simp] theorem Dev.onInp_proofCyclesB (i : Nat) (f : Input → Input) (d : Dev) : (d.onInp i f).proofCyclesB = d.proofCyclesB := rfl

/-! ## Dev.onSrc -/

@[simp] theorem Dev.onSrc_inReset (i : Nat) (f : Tps → Tps) (d : Dev) : (d.onSrc i f).inReset = d.inReset := rfl
@[simp] theorem Dev.onSrc_resetN (i : Nat) (f : Tps → Tps) (d : Dev) : (d.onSrc i f).resetN = d.resetN := rfl
@[simp] theorem Dev.onSrc_vfldUnder (i : Nat) (f : Tps → Tps) (d : Dev) : (d.onSrc i f).vfldUnder = d.vfldUnder := rfl
@[simp] theorem Dev.onSrc_pll (i : Nat) (f : Tps → Tps) (d : Dev) : (d.onSrc i f).pll = d.pll := rfl
@[simp] theorem Dev.onSrc_dt (i : Nat) (f : Tps → Tps) (d : Dev) : (d.onSrc i f).dt = d.dt := rfl
@[simp] theorem Dev.onSrc_frame (i : Nat) (f : Tps → Tps) (d : Dev) : (d.onSrc i f).frame = d.frame := rfl
@[simp] theorem Dev.onSrc_codePos (i : Nat) (f : Tps → Tps) (d : Dev) : (d.onSrc i f).codePos = d.codePos := rfl
@[simp] theorem Dev.onSrc_shortFrame (i : Nat) (f : Tps → Tps) (d : Dev) : (d.onSrc i f).shortFrame = d.shortFrame := rfl
@[simp] theorem Dev.onSrc_faultN (i : Nat) (f : Tps → Tps) (d : Dev) : (d.onSrc i f).faultN = d.faultN := rfl
@[simp] theorem Dev.onSrc_hbeat (i : Nat) (f : Tps → Tps) (d : Dev) : (d.onSrc i f).hbeat = d.hbeat := rfl
@[simp] theorem Dev.onSrc_straps (i : Nat) (f : Tps → Tps) (d : Dev) : (d.onSrc i f).straps = d.straps := rfl
@[simp] theorem Dev.onSrc_boardTest (i : Nat) (f : Tps → Tps) (d : Dev) : (d.onSrc i f).boardTest = d.boardTest := rfl
@[simp] theorem Dev.onSrc_tap (i : Nat) (f : Tps → Tps) (d : Dev) : (d.onSrc i f).tap = d.tap := rfl
@[simp] theorem Dev.onSrc_tapDrive (i : Nat) (f : Tps → Tps) (d : Dev) : (d.onSrc i f).tapDrive = d.tapDrive := rfl
@[simp] theorem Dev.onSrc_resetCause (i : Nat) (f : Tps → Tps) (d : Dev) : (d.onSrc i f).resetCause = d.resetCause := rfl
@[simp] theorem Dev.onSrc_nreset (i : Nat) (f : Tps → Tps) (d : Dev) : (d.onSrc i f).nreset = d.nreset := rfl
@[simp] theorem Dev.onSrc_lastCause (i : Nat) (f : Tps → Tps) (d : Dev) : (d.onSrc i f).lastCause = d.lastCause := rfl
@[simp] theorem Dev.onSrc_mm (i : Nat) (f : Tps → Tps) (d : Dev) : (d.onSrc i f).mm = d.mm := rfl
@[simp] theorem Dev.onSrc_faults (i : Nat) (f : Tps → Tps) (d : Dev) : (d.onSrc i f).faults = d.faults := rfl
@[simp] theorem Dev.onSrc_irqNew (i : Nat) (f : Tps → Tps) (d : Dev) : (d.onSrc i f).irqNew = d.irqNew := rfl
@[simp] theorem Dev.onSrc_freeCtr (i : Nat) (f : Tps → Tps) (d : Dev) : (d.onSrc i f).freeCtr = d.freeCtr := rfl
@[simp] theorem Dev.onSrc_workDone (i : Nat) (f : Tps → Tps) (d : Dev) : (d.onSrc i f).workDone = d.workDone := rfl
@[simp] theorem Dev.onSrc_inWork (i : Nat) (f : Tps → Tps) (d : Dev) : (d.onSrc i f).inWork = d.inWork := rfl
@[simp] theorem Dev.onSrc_obs (i : Nat) (f : Tps → Tps) (d : Dev) : (d.onSrc i f).obs = d.obs := rfl
@[simp] theorem Dev.onSrc_capOpen (i : Nat) (f : Tps → Tps) (d : Dev) : (d.onSrc i f).capOpen = d.capOpen := rfl
@[simp] theorem Dev.onSrc_capClosed (i : Nat) (f : Tps → Tps) (d : Dev) : (d.onSrc i f).capClosed = d.capClosed := rfl
@[simp] theorem Dev.onSrc_systems (i : Nat) (f : Tps → Tps) (d : Dev) : (d.onSrc i f).systems = d.systems := rfl
@[simp] theorem Dev.onSrc_outputs (i : Nat) (f : Tps → Tps) (d : Dev) : (d.onSrc i f).outputs = d.outputs := rfl
@[simp] theorem Dev.onSrc_inputs (i : Nat) (f : Tps → Tps) (d : Dev) : (d.onSrc i f).inputs = d.inputs := rfl
@[simp] theorem Dev.onSrc_tpsRun (i : Nat) (f : Tps → Tps) (d : Dev) : (d.onSrc i f).tpsRun = d.tpsRun := rfl
@[simp] theorem Dev.onSrc_offPulse (i : Nat) (f : Tps → Tps) (d : Dev) : (d.onSrc i f).offPulse = d.offPulse := rfl
@[simp] theorem Dev.onSrc_codeA (i : Nat) (f : Tps → Tps) (d : Dev) : (d.onSrc i f).codeA = d.codeA := rfl
@[simp] theorem Dev.onSrc_codeB (i : Nat) (f : Tps → Tps) (d : Dev) : (d.onSrc i f).codeB = d.codeB := rfl
@[simp] theorem Dev.onSrc_proofCycles (i : Nat) (f : Tps → Tps) (d : Dev) : (d.onSrc i f).proofCycles = d.proofCycles := rfl
@[simp] theorem Dev.onSrc_nodeA (i : Nat) (f : Tps → Tps) (d : Dev) : (d.onSrc i f).nodeA = d.nodeA := rfl
@[simp] theorem Dev.onSrc_nodeB (i : Nat) (f : Tps → Tps) (d : Dev) : (d.onSrc i f).nodeB = d.nodeB := rfl
@[simp] theorem Dev.onSrc_probe (i : Nat) (f : Tps → Tps) (d : Dev) : (d.onSrc i f).probe = d.probe := rfl
@[simp] theorem Dev.onSrc_probeOther (i : Nat) (f : Tps → Tps) (d : Dev) : (d.onSrc i f).probeOther = d.probeOther := rfl
@[simp] theorem Dev.onSrc_dpx (i : Nat) (f : Tps → Tps) (d : Dev) : (d.onSrc i f).dpx = d.dpx := rfl
@[simp] theorem Dev.onSrc_hal (i : Nat) (f : Tps → Tps) (d : Dev) : (d.onSrc i f).hal = d.hal := rfl
@[simp] theorem Dev.onSrc_port0 (i : Nat) (f : Tps → Tps) (d : Dev) : (d.onSrc i f).port0 = d.port0 := rfl
@[simp] theorem Dev.onSrc_port1 (i : Nat) (f : Tps → Tps) (d : Dev) : (d.onSrc i f).port1 = d.port1 := rfl
@[simp] theorem Dev.onSrc_done (i : Nat) (f : Tps → Tps) (d : Dev) : (d.onSrc i f).done = d.done := rfl
@[simp] theorem Dev.onSrc_rig (i : Nat) (f : Tps → Tps) (d : Dev) : (d.onSrc i f).rig = d.rig := rfl
@[simp] theorem Dev.onSrc_log (i : Nat) (f : Tps → Tps) (d : Dev) : (d.onSrc i f).log = d.log := rfl
@[simp] theorem Dev.onSrc_store (i : Nat) (f : Tps → Tps) (d : Dev) : (d.onSrc i f).store = d.store := rfl
@[simp] theorem Dev.onSrc_bgw (i : Nat) (f : Tps → Tps) (d : Dev) : (d.onSrc i f).bgw = d.bgw := rfl
@[simp] theorem Dev.onSrc_shut (i : Nat) (f : Tps → Tps) (d : Dev) : (d.onSrc i f).shut = d.shut := rfl
@[simp] theorem Dev.onSrc_vfldLow (i : Nat) (f : Tps → Tps) (d : Dev) : (d.onSrc i f).vfldLow = d.vfldLow := rfl
@[simp] theorem Dev.onSrc_vfldOver (i : Nat) (f : Tps → Tps) (d : Dev) : (d.onSrc i f).vfldOver = d.vfldOver := rfl
@[simp] theorem Dev.onSrc_coreA (i : Nat) (f : Tps → Tps) (d : Dev) : (d.onSrc i f).coreA = d.coreA := rfl
@[simp] theorem Dev.onSrc_coreB (i : Nat) (f : Tps → Tps) (d : Dev) : (d.onSrc i f).coreB = d.coreB := rfl
@[simp] theorem Dev.onSrc_workDoneB (i : Nat) (f : Tps → Tps) (d : Dev) : (d.onSrc i f).workDoneB = d.workDoneB := rfl
@[simp] theorem Dev.onSrc_workWaits (i : Nat) (f : Tps → Tps) (d : Dev) : (d.onSrc i f).workWaits = d.workWaits := rfl
@[simp] theorem Dev.onSrc_sweepFrame (i : Nat) (f : Tps → Tps) (d : Dev) : (d.onSrc i f).sweepFrame = d.sweepFrame := rfl
@[simp] theorem Dev.onSrc_proofCyclesB (i : Nat) (f : Tps → Tps) (d : Dev) : (d.onSrc i f).proofCyclesB = d.proofCyclesB := rfl

/-! ## Dev.setNode -/

@[simp] theorem Dev.setNode_inReset (h : Half) (n : Node) (d : Dev) : (d.setNode h n).inReset = d.inReset := by cases h <;> rfl
@[simp] theorem Dev.setNode_resetN (h : Half) (n : Node) (d : Dev) : (d.setNode h n).resetN = d.resetN := by cases h <;> rfl
@[simp] theorem Dev.setNode_vfldUnder (h : Half) (n : Node) (d : Dev) : (d.setNode h n).vfldUnder = d.vfldUnder := by cases h <;> rfl
@[simp] theorem Dev.setNode_pll (h : Half) (n : Node) (d : Dev) : (d.setNode h n).pll = d.pll := by cases h <;> rfl
@[simp] theorem Dev.setNode_dt (h : Half) (n : Node) (d : Dev) : (d.setNode h n).dt = d.dt := by cases h <;> rfl
@[simp] theorem Dev.setNode_frame (h : Half) (n : Node) (d : Dev) : (d.setNode h n).frame = d.frame := by cases h <;> rfl
@[simp] theorem Dev.setNode_codePos (h : Half) (n : Node) (d : Dev) : (d.setNode h n).codePos = d.codePos := by cases h <;> rfl
@[simp] theorem Dev.setNode_shortFrame (h : Half) (n : Node) (d : Dev) : (d.setNode h n).shortFrame = d.shortFrame := by cases h <;> rfl
@[simp] theorem Dev.setNode_faultN (h : Half) (n : Node) (d : Dev) : (d.setNode h n).faultN = d.faultN := by cases h <;> rfl
@[simp] theorem Dev.setNode_hbeat (h : Half) (n : Node) (d : Dev) : (d.setNode h n).hbeat = d.hbeat := by cases h <;> rfl
@[simp] theorem Dev.setNode_straps (h : Half) (n : Node) (d : Dev) : (d.setNode h n).straps = d.straps := by cases h <;> rfl
@[simp] theorem Dev.setNode_boardTest (h : Half) (n : Node) (d : Dev) : (d.setNode h n).boardTest = d.boardTest := by cases h <;> rfl
@[simp] theorem Dev.setNode_tap (h : Half) (n : Node) (d : Dev) : (d.setNode h n).tap = d.tap := by cases h <;> rfl
@[simp] theorem Dev.setNode_tapDrive (h : Half) (n : Node) (d : Dev) : (d.setNode h n).tapDrive = d.tapDrive := by cases h <;> rfl
@[simp] theorem Dev.setNode_resetCause (h : Half) (n : Node) (d : Dev) : (d.setNode h n).resetCause = d.resetCause := by cases h <;> rfl
@[simp] theorem Dev.setNode_nreset (h : Half) (n : Node) (d : Dev) : (d.setNode h n).nreset = d.nreset := by cases h <;> rfl
@[simp] theorem Dev.setNode_lastCause (h : Half) (n : Node) (d : Dev) : (d.setNode h n).lastCause = d.lastCause := by cases h <;> rfl
@[simp] theorem Dev.setNode_mm (h : Half) (n : Node) (d : Dev) : (d.setNode h n).mm = d.mm := by cases h <;> rfl
@[simp] theorem Dev.setNode_faults (h : Half) (n : Node) (d : Dev) : (d.setNode h n).faults = d.faults := by cases h <;> rfl
@[simp] theorem Dev.setNode_irqNew (h : Half) (n : Node) (d : Dev) : (d.setNode h n).irqNew = d.irqNew := by cases h <;> rfl
@[simp] theorem Dev.setNode_freeCtr (h : Half) (n : Node) (d : Dev) : (d.setNode h n).freeCtr = d.freeCtr := by cases h <;> rfl
@[simp] theorem Dev.setNode_workDone (h : Half) (n : Node) (d : Dev) : (d.setNode h n).workDone = d.workDone := by cases h <;> rfl
@[simp] theorem Dev.setNode_inWork (h : Half) (n : Node) (d : Dev) : (d.setNode h n).inWork = d.inWork := by cases h <;> rfl
@[simp] theorem Dev.setNode_obs (h : Half) (n : Node) (d : Dev) : (d.setNode h n).obs = d.obs := by cases h <;> rfl
@[simp] theorem Dev.setNode_capOpen (h : Half) (n : Node) (d : Dev) : (d.setNode h n).capOpen = d.capOpen := by cases h <;> rfl
@[simp] theorem Dev.setNode_capClosed (h : Half) (n : Node) (d : Dev) : (d.setNode h n).capClosed = d.capClosed := by cases h <;> rfl
@[simp] theorem Dev.setNode_systems (h : Half) (n : Node) (d : Dev) : (d.setNode h n).systems = d.systems := by cases h <;> rfl
@[simp] theorem Dev.setNode_outputs (h : Half) (n : Node) (d : Dev) : (d.setNode h n).outputs = d.outputs := by cases h <;> rfl
@[simp] theorem Dev.setNode_inputs (h : Half) (n : Node) (d : Dev) : (d.setNode h n).inputs = d.inputs := by cases h <;> rfl
@[simp] theorem Dev.setNode_tps (h : Half) (n : Node) (d : Dev) : (d.setNode h n).tps = d.tps := by cases h <;> rfl
@[simp] theorem Dev.setNode_tpsRun (h : Half) (n : Node) (d : Dev) : (d.setNode h n).tpsRun = d.tpsRun := by cases h <;> rfl
@[simp] theorem Dev.setNode_offPulse (h : Half) (n : Node) (d : Dev) : (d.setNode h n).offPulse = d.offPulse := by cases h <;> rfl
@[simp] theorem Dev.setNode_codeA (h : Half) (n : Node) (d : Dev) : (d.setNode h n).codeA = d.codeA := by cases h <;> rfl
@[simp] theorem Dev.setNode_codeB (h : Half) (n : Node) (d : Dev) : (d.setNode h n).codeB = d.codeB := by cases h <;> rfl
@[simp] theorem Dev.setNode_proofCycles (h : Half) (n : Node) (d : Dev) : (d.setNode h n).proofCycles = d.proofCycles := by cases h <;> rfl
@[simp] theorem Dev.setNode_probe (h : Half) (n : Node) (d : Dev) : (d.setNode h n).probe = d.probe := by cases h <;> rfl
@[simp] theorem Dev.setNode_probeOther (h : Half) (n : Node) (d : Dev) : (d.setNode h n).probeOther = d.probeOther := by cases h <;> rfl
@[simp] theorem Dev.setNode_dpx (h : Half) (n : Node) (d : Dev) : (d.setNode h n).dpx = d.dpx := by cases h <;> rfl
@[simp] theorem Dev.setNode_hal (h : Half) (n : Node) (d : Dev) : (d.setNode h n).hal = d.hal := by cases h <;> rfl
@[simp] theorem Dev.setNode_port0 (h : Half) (n : Node) (d : Dev) : (d.setNode h n).port0 = d.port0 := by cases h <;> rfl
@[simp] theorem Dev.setNode_port1 (h : Half) (n : Node) (d : Dev) : (d.setNode h n).port1 = d.port1 := by cases h <;> rfl
@[simp] theorem Dev.setNode_done (h : Half) (n : Node) (d : Dev) : (d.setNode h n).done = d.done := by cases h <;> rfl
@[simp] theorem Dev.setNode_rig (h : Half) (n : Node) (d : Dev) : (d.setNode h n).rig = d.rig := by cases h <;> rfl
@[simp] theorem Dev.setNode_log (h : Half) (n : Node) (d : Dev) : (d.setNode h n).log = d.log := by cases h <;> rfl
@[simp] theorem Dev.setNode_store (h : Half) (n : Node) (d : Dev) : (d.setNode h n).store = d.store := by cases h <;> rfl
@[simp] theorem Dev.setNode_bgw (h : Half) (n : Node) (d : Dev) : (d.setNode h n).bgw = d.bgw := by cases h <;> rfl
@[simp] theorem Dev.setNode_shut (h : Half) (n : Node) (d : Dev) : (d.setNode h n).shut = d.shut := by cases h <;> rfl
@[simp] theorem Dev.setNode_vfldLow (h : Half) (n : Node) (d : Dev) : (d.setNode h n).vfldLow = d.vfldLow := by cases h <;> rfl
@[simp] theorem Dev.setNode_vfldOver (h : Half) (n : Node) (d : Dev) : (d.setNode h n).vfldOver = d.vfldOver := by cases h <;> rfl
@[simp] theorem Dev.setNode_coreA (h : Half) (n : Node) (d : Dev) : (d.setNode h n).coreA = d.coreA := by cases h <;> rfl
@[simp] theorem Dev.setNode_coreB (h : Half) (n : Node) (d : Dev) : (d.setNode h n).coreB = d.coreB := by cases h <;> rfl
@[simp] theorem Dev.setNode_workDoneB (h : Half) (n : Node) (d : Dev) : (d.setNode h n).workDoneB = d.workDoneB := by cases h <;> rfl
@[simp] theorem Dev.setNode_workWaits (h : Half) (n : Node) (d : Dev) : (d.setNode h n).workWaits = d.workWaits := by cases h <;> rfl
@[simp] theorem Dev.setNode_sweepFrame (h : Half) (n : Node) (d : Dev) : (d.setNode h n).sweepFrame = d.sweepFrame := by cases h <;> rfl
@[simp] theorem Dev.setNode_proofCyclesB (h : Half) (n : Node) (d : Dev) : (d.setNode h n).proofCyclesB = d.proofCyclesB := by cases h <;> rfl

/-! ## Dev.onNode -/

@[simp] theorem Dev.onNode_inReset (h : Half) (f : Node → Node) (d : Dev) : (d.onNode h f).inReset = d.inReset := by cases h <;> rfl
@[simp] theorem Dev.onNode_resetN (h : Half) (f : Node → Node) (d : Dev) : (d.onNode h f).resetN = d.resetN := by cases h <;> rfl
@[simp] theorem Dev.onNode_vfldUnder (h : Half) (f : Node → Node) (d : Dev) : (d.onNode h f).vfldUnder = d.vfldUnder := by cases h <;> rfl
@[simp] theorem Dev.onNode_pll (h : Half) (f : Node → Node) (d : Dev) : (d.onNode h f).pll = d.pll := by cases h <;> rfl
@[simp] theorem Dev.onNode_dt (h : Half) (f : Node → Node) (d : Dev) : (d.onNode h f).dt = d.dt := by cases h <;> rfl
@[simp] theorem Dev.onNode_frame (h : Half) (f : Node → Node) (d : Dev) : (d.onNode h f).frame = d.frame := by cases h <;> rfl
@[simp] theorem Dev.onNode_codePos (h : Half) (f : Node → Node) (d : Dev) : (d.onNode h f).codePos = d.codePos := by cases h <;> rfl
@[simp] theorem Dev.onNode_shortFrame (h : Half) (f : Node → Node) (d : Dev) : (d.onNode h f).shortFrame = d.shortFrame := by cases h <;> rfl
@[simp] theorem Dev.onNode_faultN (h : Half) (f : Node → Node) (d : Dev) : (d.onNode h f).faultN = d.faultN := by cases h <;> rfl
@[simp] theorem Dev.onNode_hbeat (h : Half) (f : Node → Node) (d : Dev) : (d.onNode h f).hbeat = d.hbeat := by cases h <;> rfl
@[simp] theorem Dev.onNode_straps (h : Half) (f : Node → Node) (d : Dev) : (d.onNode h f).straps = d.straps := by cases h <;> rfl
@[simp] theorem Dev.onNode_boardTest (h : Half) (f : Node → Node) (d : Dev) : (d.onNode h f).boardTest = d.boardTest := by cases h <;> rfl
@[simp] theorem Dev.onNode_tap (h : Half) (f : Node → Node) (d : Dev) : (d.onNode h f).tap = d.tap := by cases h <;> rfl
@[simp] theorem Dev.onNode_tapDrive (h : Half) (f : Node → Node) (d : Dev) : (d.onNode h f).tapDrive = d.tapDrive := by cases h <;> rfl
@[simp] theorem Dev.onNode_resetCause (h : Half) (f : Node → Node) (d : Dev) : (d.onNode h f).resetCause = d.resetCause := by cases h <;> rfl
@[simp] theorem Dev.onNode_nreset (h : Half) (f : Node → Node) (d : Dev) : (d.onNode h f).nreset = d.nreset := by cases h <;> rfl
@[simp] theorem Dev.onNode_lastCause (h : Half) (f : Node → Node) (d : Dev) : (d.onNode h f).lastCause = d.lastCause := by cases h <;> rfl
@[simp] theorem Dev.onNode_mm (h : Half) (f : Node → Node) (d : Dev) : (d.onNode h f).mm = d.mm := by cases h <;> rfl
@[simp] theorem Dev.onNode_faults (h : Half) (f : Node → Node) (d : Dev) : (d.onNode h f).faults = d.faults := by cases h <;> rfl
@[simp] theorem Dev.onNode_irqNew (h : Half) (f : Node → Node) (d : Dev) : (d.onNode h f).irqNew = d.irqNew := by cases h <;> rfl
@[simp] theorem Dev.onNode_freeCtr (h : Half) (f : Node → Node) (d : Dev) : (d.onNode h f).freeCtr = d.freeCtr := by cases h <;> rfl
@[simp] theorem Dev.onNode_workDone (h : Half) (f : Node → Node) (d : Dev) : (d.onNode h f).workDone = d.workDone := by cases h <;> rfl
@[simp] theorem Dev.onNode_inWork (h : Half) (f : Node → Node) (d : Dev) : (d.onNode h f).inWork = d.inWork := by cases h <;> rfl
@[simp] theorem Dev.onNode_obs (h : Half) (f : Node → Node) (d : Dev) : (d.onNode h f).obs = d.obs := by cases h <;> rfl
@[simp] theorem Dev.onNode_capOpen (h : Half) (f : Node → Node) (d : Dev) : (d.onNode h f).capOpen = d.capOpen := by cases h <;> rfl
@[simp] theorem Dev.onNode_capClosed (h : Half) (f : Node → Node) (d : Dev) : (d.onNode h f).capClosed = d.capClosed := by cases h <;> rfl
@[simp] theorem Dev.onNode_systems (h : Half) (f : Node → Node) (d : Dev) : (d.onNode h f).systems = d.systems := by cases h <;> rfl
@[simp] theorem Dev.onNode_outputs (h : Half) (f : Node → Node) (d : Dev) : (d.onNode h f).outputs = d.outputs := by cases h <;> rfl
@[simp] theorem Dev.onNode_inputs (h : Half) (f : Node → Node) (d : Dev) : (d.onNode h f).inputs = d.inputs := by cases h <;> rfl
@[simp] theorem Dev.onNode_tps (h : Half) (f : Node → Node) (d : Dev) : (d.onNode h f).tps = d.tps := by cases h <;> rfl
@[simp] theorem Dev.onNode_tpsRun (h : Half) (f : Node → Node) (d : Dev) : (d.onNode h f).tpsRun = d.tpsRun := by cases h <;> rfl
@[simp] theorem Dev.onNode_offPulse (h : Half) (f : Node → Node) (d : Dev) : (d.onNode h f).offPulse = d.offPulse := by cases h <;> rfl
@[simp] theorem Dev.onNode_codeA (h : Half) (f : Node → Node) (d : Dev) : (d.onNode h f).codeA = d.codeA := by cases h <;> rfl
@[simp] theorem Dev.onNode_codeB (h : Half) (f : Node → Node) (d : Dev) : (d.onNode h f).codeB = d.codeB := by cases h <;> rfl
@[simp] theorem Dev.onNode_proofCycles (h : Half) (f : Node → Node) (d : Dev) : (d.onNode h f).proofCycles = d.proofCycles := by cases h <;> rfl
@[simp] theorem Dev.onNode_probe (h : Half) (f : Node → Node) (d : Dev) : (d.onNode h f).probe = d.probe := by cases h <;> rfl
@[simp] theorem Dev.onNode_probeOther (h : Half) (f : Node → Node) (d : Dev) : (d.onNode h f).probeOther = d.probeOther := by cases h <;> rfl
@[simp] theorem Dev.onNode_dpx (h : Half) (f : Node → Node) (d : Dev) : (d.onNode h f).dpx = d.dpx := by cases h <;> rfl
@[simp] theorem Dev.onNode_hal (h : Half) (f : Node → Node) (d : Dev) : (d.onNode h f).hal = d.hal := by cases h <;> rfl
@[simp] theorem Dev.onNode_port0 (h : Half) (f : Node → Node) (d : Dev) : (d.onNode h f).port0 = d.port0 := by cases h <;> rfl
@[simp] theorem Dev.onNode_port1 (h : Half) (f : Node → Node) (d : Dev) : (d.onNode h f).port1 = d.port1 := by cases h <;> rfl
@[simp] theorem Dev.onNode_done (h : Half) (f : Node → Node) (d : Dev) : (d.onNode h f).done = d.done := by cases h <;> rfl
@[simp] theorem Dev.onNode_rig (h : Half) (f : Node → Node) (d : Dev) : (d.onNode h f).rig = d.rig := by cases h <;> rfl
@[simp] theorem Dev.onNode_log (h : Half) (f : Node → Node) (d : Dev) : (d.onNode h f).log = d.log := by cases h <;> rfl
@[simp] theorem Dev.onNode_store (h : Half) (f : Node → Node) (d : Dev) : (d.onNode h f).store = d.store := by cases h <;> rfl
@[simp] theorem Dev.onNode_bgw (h : Half) (f : Node → Node) (d : Dev) : (d.onNode h f).bgw = d.bgw := by cases h <;> rfl
@[simp] theorem Dev.onNode_shut (h : Half) (f : Node → Node) (d : Dev) : (d.onNode h f).shut = d.shut := by cases h <;> rfl
@[simp] theorem Dev.onNode_vfldLow (h : Half) (f : Node → Node) (d : Dev) : (d.onNode h f).vfldLow = d.vfldLow := by cases h <;> rfl
@[simp] theorem Dev.onNode_vfldOver (h : Half) (f : Node → Node) (d : Dev) : (d.onNode h f).vfldOver = d.vfldOver := by cases h <;> rfl
@[simp] theorem Dev.onNode_coreA (h : Half) (f : Node → Node) (d : Dev) : (d.onNode h f).coreA = d.coreA := by cases h <;> rfl
@[simp] theorem Dev.onNode_coreB (h : Half) (f : Node → Node) (d : Dev) : (d.onNode h f).coreB = d.coreB := by cases h <;> rfl
@[simp] theorem Dev.onNode_workDoneB (h : Half) (f : Node → Node) (d : Dev) : (d.onNode h f).workDoneB = d.workDoneB := by cases h <;> rfl
@[simp] theorem Dev.onNode_workWaits (h : Half) (f : Node → Node) (d : Dev) : (d.onNode h f).workWaits = d.workWaits := by cases h <;> rfl
@[simp] theorem Dev.onNode_sweepFrame (h : Half) (f : Node → Node) (d : Dev) : (d.onNode h f).sweepFrame = d.sweepFrame := by cases h <;> rfl
@[simp] theorem Dev.onNode_proofCyclesB (h : Half) (f : Node → Node) (d : Dev) : (d.onNode h f).proofCyclesB = d.proofCyclesB := by cases h <;> rfl

/-! ## Dev.setPort -/

@[simp] theorem Dev.setPort_inReset (p : Fin 2) (x : Port) (d : Dev) : (d.setPort p x).inReset = d.inReset := by unfold Dev.setPort; split <;> rfl
@[simp] theorem Dev.setPort_resetN (p : Fin 2) (x : Port) (d : Dev) : (d.setPort p x).resetN = d.resetN := by unfold Dev.setPort; split <;> rfl
@[simp] theorem Dev.setPort_vfldUnder (p : Fin 2) (x : Port) (d : Dev) : (d.setPort p x).vfldUnder = d.vfldUnder := by unfold Dev.setPort; split <;> rfl
@[simp] theorem Dev.setPort_pll (p : Fin 2) (x : Port) (d : Dev) : (d.setPort p x).pll = d.pll := by unfold Dev.setPort; split <;> rfl
@[simp] theorem Dev.setPort_dt (p : Fin 2) (x : Port) (d : Dev) : (d.setPort p x).dt = d.dt := by unfold Dev.setPort; split <;> rfl
@[simp] theorem Dev.setPort_frame (p : Fin 2) (x : Port) (d : Dev) : (d.setPort p x).frame = d.frame := by unfold Dev.setPort; split <;> rfl
@[simp] theorem Dev.setPort_codePos (p : Fin 2) (x : Port) (d : Dev) : (d.setPort p x).codePos = d.codePos := by unfold Dev.setPort; split <;> rfl
@[simp] theorem Dev.setPort_shortFrame (p : Fin 2) (x : Port) (d : Dev) : (d.setPort p x).shortFrame = d.shortFrame := by unfold Dev.setPort; split <;> rfl
@[simp] theorem Dev.setPort_faultN (p : Fin 2) (x : Port) (d : Dev) : (d.setPort p x).faultN = d.faultN := by unfold Dev.setPort; split <;> rfl
@[simp] theorem Dev.setPort_hbeat (p : Fin 2) (x : Port) (d : Dev) : (d.setPort p x).hbeat = d.hbeat := by unfold Dev.setPort; split <;> rfl
@[simp] theorem Dev.setPort_straps (p : Fin 2) (x : Port) (d : Dev) : (d.setPort p x).straps = d.straps := by unfold Dev.setPort; split <;> rfl
@[simp] theorem Dev.setPort_boardTest (p : Fin 2) (x : Port) (d : Dev) : (d.setPort p x).boardTest = d.boardTest := by unfold Dev.setPort; split <;> rfl
@[simp] theorem Dev.setPort_tap (p : Fin 2) (x : Port) (d : Dev) : (d.setPort p x).tap = d.tap := by unfold Dev.setPort; split <;> rfl
@[simp] theorem Dev.setPort_tapDrive (p : Fin 2) (x : Port) (d : Dev) : (d.setPort p x).tapDrive = d.tapDrive := by unfold Dev.setPort; split <;> rfl
@[simp] theorem Dev.setPort_resetCause (p : Fin 2) (x : Port) (d : Dev) : (d.setPort p x).resetCause = d.resetCause := by unfold Dev.setPort; split <;> rfl
@[simp] theorem Dev.setPort_nreset (p : Fin 2) (x : Port) (d : Dev) : (d.setPort p x).nreset = d.nreset := by unfold Dev.setPort; split <;> rfl
@[simp] theorem Dev.setPort_lastCause (p : Fin 2) (x : Port) (d : Dev) : (d.setPort p x).lastCause = d.lastCause := by unfold Dev.setPort; split <;> rfl
@[simp] theorem Dev.setPort_mm (p : Fin 2) (x : Port) (d : Dev) : (d.setPort p x).mm = d.mm := by unfold Dev.setPort; split <;> rfl
@[simp] theorem Dev.setPort_faults (p : Fin 2) (x : Port) (d : Dev) : (d.setPort p x).faults = d.faults := by unfold Dev.setPort; split <;> rfl
@[simp] theorem Dev.setPort_irqNew (p : Fin 2) (x : Port) (d : Dev) : (d.setPort p x).irqNew = d.irqNew := by unfold Dev.setPort; split <;> rfl
@[simp] theorem Dev.setPort_freeCtr (p : Fin 2) (x : Port) (d : Dev) : (d.setPort p x).freeCtr = d.freeCtr := by unfold Dev.setPort; split <;> rfl
@[simp] theorem Dev.setPort_workDone (p : Fin 2) (x : Port) (d : Dev) : (d.setPort p x).workDone = d.workDone := by unfold Dev.setPort; split <;> rfl
@[simp] theorem Dev.setPort_inWork (p : Fin 2) (x : Port) (d : Dev) : (d.setPort p x).inWork = d.inWork := by unfold Dev.setPort; split <;> rfl
@[simp] theorem Dev.setPort_obs (p : Fin 2) (x : Port) (d : Dev) : (d.setPort p x).obs = d.obs := by unfold Dev.setPort; split <;> rfl
@[simp] theorem Dev.setPort_capOpen (p : Fin 2) (x : Port) (d : Dev) : (d.setPort p x).capOpen = d.capOpen := by unfold Dev.setPort; split <;> rfl
@[simp] theorem Dev.setPort_capClosed (p : Fin 2) (x : Port) (d : Dev) : (d.setPort p x).capClosed = d.capClosed := by unfold Dev.setPort; split <;> rfl
@[simp] theorem Dev.setPort_systems (p : Fin 2) (x : Port) (d : Dev) : (d.setPort p x).systems = d.systems := by unfold Dev.setPort; split <;> rfl
@[simp] theorem Dev.setPort_outputs (p : Fin 2) (x : Port) (d : Dev) : (d.setPort p x).outputs = d.outputs := by unfold Dev.setPort; split <;> rfl
@[simp] theorem Dev.setPort_inputs (p : Fin 2) (x : Port) (d : Dev) : (d.setPort p x).inputs = d.inputs := by unfold Dev.setPort; split <;> rfl
@[simp] theorem Dev.setPort_tps (p : Fin 2) (x : Port) (d : Dev) : (d.setPort p x).tps = d.tps := by unfold Dev.setPort; split <;> rfl
@[simp] theorem Dev.setPort_tpsRun (p : Fin 2) (x : Port) (d : Dev) : (d.setPort p x).tpsRun = d.tpsRun := by unfold Dev.setPort; split <;> rfl
@[simp] theorem Dev.setPort_offPulse (p : Fin 2) (x : Port) (d : Dev) : (d.setPort p x).offPulse = d.offPulse := by unfold Dev.setPort; split <;> rfl
@[simp] theorem Dev.setPort_codeA (p : Fin 2) (x : Port) (d : Dev) : (d.setPort p x).codeA = d.codeA := by unfold Dev.setPort; split <;> rfl
@[simp] theorem Dev.setPort_codeB (p : Fin 2) (x : Port) (d : Dev) : (d.setPort p x).codeB = d.codeB := by unfold Dev.setPort; split <;> rfl
@[simp] theorem Dev.setPort_proofCycles (p : Fin 2) (x : Port) (d : Dev) : (d.setPort p x).proofCycles = d.proofCycles := by unfold Dev.setPort; split <;> rfl
@[simp] theorem Dev.setPort_nodeA (p : Fin 2) (x : Port) (d : Dev) : (d.setPort p x).nodeA = d.nodeA := by unfold Dev.setPort; split <;> rfl
@[simp] theorem Dev.setPort_nodeB (p : Fin 2) (x : Port) (d : Dev) : (d.setPort p x).nodeB = d.nodeB := by unfold Dev.setPort; split <;> rfl
@[simp] theorem Dev.setPort_probe (p : Fin 2) (x : Port) (d : Dev) : (d.setPort p x).probe = d.probe := by unfold Dev.setPort; split <;> rfl
@[simp] theorem Dev.setPort_probeOther (p : Fin 2) (x : Port) (d : Dev) : (d.setPort p x).probeOther = d.probeOther := by unfold Dev.setPort; split <;> rfl
@[simp] theorem Dev.setPort_dpx (p : Fin 2) (x : Port) (d : Dev) : (d.setPort p x).dpx = d.dpx := by unfold Dev.setPort; split <;> rfl
@[simp] theorem Dev.setPort_hal (p : Fin 2) (x : Port) (d : Dev) : (d.setPort p x).hal = d.hal := by unfold Dev.setPort; split <;> rfl
@[simp] theorem Dev.setPort_done (p : Fin 2) (x : Port) (d : Dev) : (d.setPort p x).done = d.done := by unfold Dev.setPort; split <;> rfl
@[simp] theorem Dev.setPort_rig (p : Fin 2) (x : Port) (d : Dev) : (d.setPort p x).rig = d.rig := by unfold Dev.setPort; split <;> rfl
@[simp] theorem Dev.setPort_log (p : Fin 2) (x : Port) (d : Dev) : (d.setPort p x).log = d.log := by unfold Dev.setPort; split <;> rfl
@[simp] theorem Dev.setPort_store (p : Fin 2) (x : Port) (d : Dev) : (d.setPort p x).store = d.store := by unfold Dev.setPort; split <;> rfl
@[simp] theorem Dev.setPort_bgw (p : Fin 2) (x : Port) (d : Dev) : (d.setPort p x).bgw = d.bgw := by unfold Dev.setPort; split <;> rfl
@[simp] theorem Dev.setPort_shut (p : Fin 2) (x : Port) (d : Dev) : (d.setPort p x).shut = d.shut := by unfold Dev.setPort; split <;> rfl
@[simp] theorem Dev.setPort_vfldLow (p : Fin 2) (x : Port) (d : Dev) : (d.setPort p x).vfldLow = d.vfldLow := by unfold Dev.setPort; split <;> rfl
@[simp] theorem Dev.setPort_vfldOver (p : Fin 2) (x : Port) (d : Dev) : (d.setPort p x).vfldOver = d.vfldOver := by unfold Dev.setPort; split <;> rfl
@[simp] theorem Dev.setPort_coreA (p : Fin 2) (x : Port) (d : Dev) : (d.setPort p x).coreA = d.coreA := by unfold Dev.setPort; split <;> rfl
@[simp] theorem Dev.setPort_coreB (p : Fin 2) (x : Port) (d : Dev) : (d.setPort p x).coreB = d.coreB := by unfold Dev.setPort; split <;> rfl
@[simp] theorem Dev.setPort_workDoneB (p : Fin 2) (x : Port) (d : Dev) : (d.setPort p x).workDoneB = d.workDoneB := by unfold Dev.setPort; split <;> rfl
@[simp] theorem Dev.setPort_workWaits (p : Fin 2) (x : Port) (d : Dev) : (d.setPort p x).workWaits = d.workWaits := by unfold Dev.setPort; split <;> rfl
@[simp] theorem Dev.setPort_sweepFrame (p : Fin 2) (x : Port) (d : Dev) : (d.setPort p x).sweepFrame = d.sweepFrame := by unfold Dev.setPort; split <;> rfl
@[simp] theorem Dev.setPort_proofCyclesB (p : Fin 2) (x : Port) (d : Dev) : (d.setPort p x).proofCyclesB = d.proofCyclesB := by unfold Dev.setPort; split <;> rfl

/-! ## Dev.onPort -/

@[simp] theorem Dev.onPort_inReset (p : Fin 2) (f : Port → Port) (d : Dev) : (d.onPort p f).inReset = d.inReset := by unfold Dev.onPort Dev.setPort; split <;> rfl
@[simp] theorem Dev.onPort_resetN (p : Fin 2) (f : Port → Port) (d : Dev) : (d.onPort p f).resetN = d.resetN := by unfold Dev.onPort Dev.setPort; split <;> rfl
@[simp] theorem Dev.onPort_vfldUnder (p : Fin 2) (f : Port → Port) (d : Dev) : (d.onPort p f).vfldUnder = d.vfldUnder := by unfold Dev.onPort Dev.setPort; split <;> rfl
@[simp] theorem Dev.onPort_pll (p : Fin 2) (f : Port → Port) (d : Dev) : (d.onPort p f).pll = d.pll := by unfold Dev.onPort Dev.setPort; split <;> rfl
@[simp] theorem Dev.onPort_dt (p : Fin 2) (f : Port → Port) (d : Dev) : (d.onPort p f).dt = d.dt := by unfold Dev.onPort Dev.setPort; split <;> rfl
@[simp] theorem Dev.onPort_frame (p : Fin 2) (f : Port → Port) (d : Dev) : (d.onPort p f).frame = d.frame := by unfold Dev.onPort Dev.setPort; split <;> rfl
@[simp] theorem Dev.onPort_codePos (p : Fin 2) (f : Port → Port) (d : Dev) : (d.onPort p f).codePos = d.codePos := by unfold Dev.onPort Dev.setPort; split <;> rfl
@[simp] theorem Dev.onPort_shortFrame (p : Fin 2) (f : Port → Port) (d : Dev) : (d.onPort p f).shortFrame = d.shortFrame := by unfold Dev.onPort Dev.setPort; split <;> rfl
@[simp] theorem Dev.onPort_faultN (p : Fin 2) (f : Port → Port) (d : Dev) : (d.onPort p f).faultN = d.faultN := by unfold Dev.onPort Dev.setPort; split <;> rfl
@[simp] theorem Dev.onPort_hbeat (p : Fin 2) (f : Port → Port) (d : Dev) : (d.onPort p f).hbeat = d.hbeat := by unfold Dev.onPort Dev.setPort; split <;> rfl
@[simp] theorem Dev.onPort_straps (p : Fin 2) (f : Port → Port) (d : Dev) : (d.onPort p f).straps = d.straps := by unfold Dev.onPort Dev.setPort; split <;> rfl
@[simp] theorem Dev.onPort_boardTest (p : Fin 2) (f : Port → Port) (d : Dev) : (d.onPort p f).boardTest = d.boardTest := by unfold Dev.onPort Dev.setPort; split <;> rfl
@[simp] theorem Dev.onPort_tap (p : Fin 2) (f : Port → Port) (d : Dev) : (d.onPort p f).tap = d.tap := by unfold Dev.onPort Dev.setPort; split <;> rfl
@[simp] theorem Dev.onPort_tapDrive (p : Fin 2) (f : Port → Port) (d : Dev) : (d.onPort p f).tapDrive = d.tapDrive := by unfold Dev.onPort Dev.setPort; split <;> rfl
@[simp] theorem Dev.onPort_resetCause (p : Fin 2) (f : Port → Port) (d : Dev) : (d.onPort p f).resetCause = d.resetCause := by unfold Dev.onPort Dev.setPort; split <;> rfl
@[simp] theorem Dev.onPort_nreset (p : Fin 2) (f : Port → Port) (d : Dev) : (d.onPort p f).nreset = d.nreset := by unfold Dev.onPort Dev.setPort; split <;> rfl
@[simp] theorem Dev.onPort_lastCause (p : Fin 2) (f : Port → Port) (d : Dev) : (d.onPort p f).lastCause = d.lastCause := by unfold Dev.onPort Dev.setPort; split <;> rfl
@[simp] theorem Dev.onPort_mm (p : Fin 2) (f : Port → Port) (d : Dev) : (d.onPort p f).mm = d.mm := by unfold Dev.onPort Dev.setPort; split <;> rfl
@[simp] theorem Dev.onPort_faults (p : Fin 2) (f : Port → Port) (d : Dev) : (d.onPort p f).faults = d.faults := by unfold Dev.onPort Dev.setPort; split <;> rfl
@[simp] theorem Dev.onPort_irqNew (p : Fin 2) (f : Port → Port) (d : Dev) : (d.onPort p f).irqNew = d.irqNew := by unfold Dev.onPort Dev.setPort; split <;> rfl
@[simp] theorem Dev.onPort_freeCtr (p : Fin 2) (f : Port → Port) (d : Dev) : (d.onPort p f).freeCtr = d.freeCtr := by unfold Dev.onPort Dev.setPort; split <;> rfl
@[simp] theorem Dev.onPort_workDone (p : Fin 2) (f : Port → Port) (d : Dev) : (d.onPort p f).workDone = d.workDone := by unfold Dev.onPort Dev.setPort; split <;> rfl
@[simp] theorem Dev.onPort_inWork (p : Fin 2) (f : Port → Port) (d : Dev) : (d.onPort p f).inWork = d.inWork := by unfold Dev.onPort Dev.setPort; split <;> rfl
@[simp] theorem Dev.onPort_obs (p : Fin 2) (f : Port → Port) (d : Dev) : (d.onPort p f).obs = d.obs := by unfold Dev.onPort Dev.setPort; split <;> rfl
@[simp] theorem Dev.onPort_capOpen (p : Fin 2) (f : Port → Port) (d : Dev) : (d.onPort p f).capOpen = d.capOpen := by unfold Dev.onPort Dev.setPort; split <;> rfl
@[simp] theorem Dev.onPort_capClosed (p : Fin 2) (f : Port → Port) (d : Dev) : (d.onPort p f).capClosed = d.capClosed := by unfold Dev.onPort Dev.setPort; split <;> rfl
@[simp] theorem Dev.onPort_systems (p : Fin 2) (f : Port → Port) (d : Dev) : (d.onPort p f).systems = d.systems := by unfold Dev.onPort Dev.setPort; split <;> rfl
@[simp] theorem Dev.onPort_outputs (p : Fin 2) (f : Port → Port) (d : Dev) : (d.onPort p f).outputs = d.outputs := by unfold Dev.onPort Dev.setPort; split <;> rfl
@[simp] theorem Dev.onPort_inputs (p : Fin 2) (f : Port → Port) (d : Dev) : (d.onPort p f).inputs = d.inputs := by unfold Dev.onPort Dev.setPort; split <;> rfl
@[simp] theorem Dev.onPort_tps (p : Fin 2) (f : Port → Port) (d : Dev) : (d.onPort p f).tps = d.tps := by unfold Dev.onPort Dev.setPort; split <;> rfl
@[simp] theorem Dev.onPort_tpsRun (p : Fin 2) (f : Port → Port) (d : Dev) : (d.onPort p f).tpsRun = d.tpsRun := by unfold Dev.onPort Dev.setPort; split <;> rfl
@[simp] theorem Dev.onPort_offPulse (p : Fin 2) (f : Port → Port) (d : Dev) : (d.onPort p f).offPulse = d.offPulse := by unfold Dev.onPort Dev.setPort; split <;> rfl
@[simp] theorem Dev.onPort_codeA (p : Fin 2) (f : Port → Port) (d : Dev) : (d.onPort p f).codeA = d.codeA := by unfold Dev.onPort Dev.setPort; split <;> rfl
@[simp] theorem Dev.onPort_codeB (p : Fin 2) (f : Port → Port) (d : Dev) : (d.onPort p f).codeB = d.codeB := by unfold Dev.onPort Dev.setPort; split <;> rfl
@[simp] theorem Dev.onPort_proofCycles (p : Fin 2) (f : Port → Port) (d : Dev) : (d.onPort p f).proofCycles = d.proofCycles := by unfold Dev.onPort Dev.setPort; split <;> rfl
@[simp] theorem Dev.onPort_nodeA (p : Fin 2) (f : Port → Port) (d : Dev) : (d.onPort p f).nodeA = d.nodeA := by unfold Dev.onPort Dev.setPort; split <;> rfl
@[simp] theorem Dev.onPort_nodeB (p : Fin 2) (f : Port → Port) (d : Dev) : (d.onPort p f).nodeB = d.nodeB := by unfold Dev.onPort Dev.setPort; split <;> rfl
@[simp] theorem Dev.onPort_probe (p : Fin 2) (f : Port → Port) (d : Dev) : (d.onPort p f).probe = d.probe := by unfold Dev.onPort Dev.setPort; split <;> rfl
@[simp] theorem Dev.onPort_probeOther (p : Fin 2) (f : Port → Port) (d : Dev) : (d.onPort p f).probeOther = d.probeOther := by unfold Dev.onPort Dev.setPort; split <;> rfl
@[simp] theorem Dev.onPort_dpx (p : Fin 2) (f : Port → Port) (d : Dev) : (d.onPort p f).dpx = d.dpx := by unfold Dev.onPort Dev.setPort; split <;> rfl
@[simp] theorem Dev.onPort_hal (p : Fin 2) (f : Port → Port) (d : Dev) : (d.onPort p f).hal = d.hal := by unfold Dev.onPort Dev.setPort; split <;> rfl
@[simp] theorem Dev.onPort_done (p : Fin 2) (f : Port → Port) (d : Dev) : (d.onPort p f).done = d.done := by unfold Dev.onPort Dev.setPort; split <;> rfl
@[simp] theorem Dev.onPort_rig (p : Fin 2) (f : Port → Port) (d : Dev) : (d.onPort p f).rig = d.rig := by unfold Dev.onPort Dev.setPort; split <;> rfl
@[simp] theorem Dev.onPort_log (p : Fin 2) (f : Port → Port) (d : Dev) : (d.onPort p f).log = d.log := by unfold Dev.onPort Dev.setPort; split <;> rfl
@[simp] theorem Dev.onPort_store (p : Fin 2) (f : Port → Port) (d : Dev) : (d.onPort p f).store = d.store := by unfold Dev.onPort Dev.setPort; split <;> rfl
@[simp] theorem Dev.onPort_bgw (p : Fin 2) (f : Port → Port) (d : Dev) : (d.onPort p f).bgw = d.bgw := by unfold Dev.onPort Dev.setPort; split <;> rfl
@[simp] theorem Dev.onPort_shut (p : Fin 2) (f : Port → Port) (d : Dev) : (d.onPort p f).shut = d.shut := by unfold Dev.onPort Dev.setPort; split <;> rfl
@[simp] theorem Dev.onPort_vfldLow (p : Fin 2) (f : Port → Port) (d : Dev) : (d.onPort p f).vfldLow = d.vfldLow := by unfold Dev.onPort Dev.setPort; split <;> rfl
@[simp] theorem Dev.onPort_vfldOver (p : Fin 2) (f : Port → Port) (d : Dev) : (d.onPort p f).vfldOver = d.vfldOver := by unfold Dev.onPort Dev.setPort; split <;> rfl
@[simp] theorem Dev.onPort_coreA (p : Fin 2) (f : Port → Port) (d : Dev) : (d.onPort p f).coreA = d.coreA := by unfold Dev.onPort Dev.setPort; split <;> rfl
@[simp] theorem Dev.onPort_coreB (p : Fin 2) (f : Port → Port) (d : Dev) : (d.onPort p f).coreB = d.coreB := by unfold Dev.onPort Dev.setPort; split <;> rfl
@[simp] theorem Dev.onPort_workDoneB (p : Fin 2) (f : Port → Port) (d : Dev) : (d.onPort p f).workDoneB = d.workDoneB := by unfold Dev.onPort Dev.setPort; split <;> rfl
@[simp] theorem Dev.onPort_workWaits (p : Fin 2) (f : Port → Port) (d : Dev) : (d.onPort p f).workWaits = d.workWaits := by unfold Dev.onPort Dev.setPort; split <;> rfl
@[simp] theorem Dev.onPort_sweepFrame (p : Fin 2) (f : Port → Port) (d : Dev) : (d.onPort p f).sweepFrame = d.sweepFrame := by unfold Dev.onPort Dev.setPort; split <;> rfl
@[simp] theorem Dev.onPort_proofCyclesB (p : Fin 2) (f : Port → Port) (d : Dev) : (d.onPort p f).proofCyclesB = d.proofCyclesB := by unfold Dev.onPort Dev.setPort; split <;> rfl

/-! ## Reading back what was written -/

@[simp] theorem Dev.node_setNode (h : Half) (n : Node) (d : Dev) : (d.setNode h n).node h = n := by
  cases h <;> rfl
@[simp] theorem Dev.node_onNode (h : Half) (f : Node → Node) (d : Dev) : (d.onNode h f).node h = f (d.node h) := by
  cases h <;> rfl
@[simp] theorem Dev.port_setPort (p : Fin 2) (x : Port) (d : Dev) : (d.setPort p x).port p = x := by
  unfold Dev.setPort Dev.port; split <;> rfl
@[simp] theorem Dev.port_onPort (p : Fin 2) (f : Port → Port) (d : Dev) : (d.onPort p f).port p = f (d.port p) := by
  simp [Dev.onPort]
theorem Dev.port_setPort_other {p r : Fin 2} (x : Port) (d : Dev) (ne : r ≠ p) :
    (d.setPort p x).port r = d.port r := by
  unfold Dev.setPort Dev.port; split <;> split <;> simp_all <;> omega
@[simp] theorem Dev.node_raise (code : Nat) (k : Kind) (obj : Nat) (d : Dev) (h : Half) (p : Nat) (g : Half) :
    (d.raise code k obj h p).node g = d.node g := by cases g <;> rfl

/-! ## The halves' work -/

@[simp] theorem Dev.worked_setWorked (h : Half) (b : Bool) (d : Dev) : (d.setWorked h b).worked h = b := by
  cases h <;> rfl
theorem Dev.worked_setWorked_other {h g : Half} (b : Bool) (d : Dev) (ne : g ≠ h) : (d.setWorked h b).worked g = d.worked g := by
  cases h <;> cases g <;> first | rfl | exact absurd rfl ne
@[simp] theorem Dev.node_setWorked (h g : Half) (b : Bool) (d : Dev) : (d.setWorked h b).node g = d.node g := by
  cases h <;> cases g <;> rfl

end Sys2Proof.Machine
end

