-- ==== Sys2Proof/Laws/Ops.lean ====
section
/-! SUPPORT. What the shared outcomes and operations answer: a command of the device alone, of one half, of the live
device; the fault set after a raise and a clear; the entry into the safe state. -/
namespace Sys2Proof.Machine

/-! ## Outcomes -/

theorem up_next {s : State} (f : Dev → Dev) (h : s.dev.inReset = false) : up f s = .next (s.lift f) := by
  unfold up; rw [if_neg (by rw [h]; decide)]

theorem up_held {s : State} (f : Dev → Dev) (h : s.dev.inReset = true) : up f s = .next s := by
  unfold up; rw [if_pos h]

theorem upIn_next {s : State} (h : Dev → Half) (f : Dev → Dev) (hr : s.dev.inReset = false)
    (hs : (s.dev.node (h s.dev)).safe = false) : upIn h f s = .next (s.lift f) := by
  unfold upIn; rw [up_next _ hr]; simp only [State.lift]; rw [if_neg (by rw [hs]; decide)]

theorem upIn_safe {s : State} (h : Dev → Half) (f : Dev → Dev) (hs : (s.dev.node (h s.dev)).safe = true) :
    upIn h f s = .next s := by
  have e : (fun d : Dev => if (d.node (h d)).safe then d else f d) s.dev = s.dev := if_pos hs
  unfold upIn up State.lift; rw [e]; split <;> rfl

theorem upLive_next {s : State} (f : Dev → Dev) (hr : s.dev.inReset = false) (hs : s.dev.allSafe = false) :
    upLive f s = .next (s.lift f) := by
  unfold upLive; rw [up_next _ hr]; simp only [State.lift]; rw [if_neg (by rw [hs]; decide)]

theorem upLive_safe {s : State} (f : Dev → Dev) (hs : s.dev.allSafe = true) : upLive f s = .next s := by
  have e : (fun d : Dev => if d.allSafe then d else f d) s.dev = s.dev := if_pos hs
  unfold upLive up State.lift; rw [e]; split <;> rfl

/-! ## The fault set -/

@[simp] theorem FaultKey.same_self (k : FaultKey) : FaultKey.same k k = true := by simp [FaultKey.same]

theorem FaultKey.same_iff (a b : FaultKey) :
    FaultKey.same a b = true ↔ a.code = b.code ∧ a.kind = b.kind ∧ a.obj = b.obj ∧ a.half = b.half := by
  simp [FaultKey.same, and_assoc]

/-- A fault is active after it is raised. -/
theorem Faults.raise_any (k : FaultKey) (f : Faults) : (f.raise k).active.any (FaultKey.same k) = true := by
  unfold Faults.raise; split
  · assumption
  · simp

/-- A fault is not active after it is cleared. -/
theorem Faults.clear_any (k : FaultKey) (f : Faults) : (f.clear k).active.any (FaultKey.same k) = false := by
  unfold Faults.clear; split
  · simp [List.any_filter]
  · rename_i h; rw [List.find?_eq_none] at h; simpa using h

theorem Dev.hasFault_raise (code : Nat) (k : Kind) (obj : Nat) (d : Dev) (h : Half) (p : Nat) :
    (d.raise code k obj h p).hasFault code k obj h = true := by
  have := Faults.raise_any { code, kind := k, obj, half := h, partner := p } d.faults
  simpa [Dev.hasFault, Dev.raise, FaultKey.same] using this

theorem Dev.hasFault_clearF (code : Nat) (k : Kind) (obj : Nat) (d : Dev) (h : Half) :
    (d.clearF code k obj h).hasFault code k obj h = false := Faults.clear_any _ _

/-! ## One object of a list -/

theorem getD_modify {α : Type} (l : List α) (i : Nat) (f : α → α) (z : α) (h : i < l.length) :
    (l.modify i f).getD i z = f (l.getD i z) := by
  simp [List.getD_eq_getElem?_getD, List.getElem?_eq_getElem h]

theorem getElem?_modify_ne {α : Type} (l : List α) {i j : Nat} (f : α → α) (h : j ≠ i) : (l.modify i f)[j]? = l[j]? := by
  rw [List.getElem?_modify]; simp [Ne.symm h]

/-- An object that differs from the one of an empty place is listed. -/
theorem lt_of_getD_ne {α : Type} {l : List α} {i : Nat} {z : α} (h : l.getD i z ≠ z) : i < l.length := by
  apply Classical.byContradiction; intro hn
  exact h (by rw [List.getD_eq_getElem?_getD, List.getElem?_eq_none (Nat.le_of_not_lt hn)]; rfl)

theorem Dev.sys_onSys {d : Dev} {i : Nat} {f : Sys → Sys} (h : i < d.systems.length) : (d.onSys i f).sys i = f (d.sys i) :=
  getD_modify _ _ _ _ h
theorem Dev.out_onOut {d : Dev} {i : Nat} {f : Output → Output} (h : i < d.outputs.length) : (d.onOut i f).out i = f (d.out i) :=
  getD_modify _ _ _ _ h
theorem Dev.inp_onInp {d : Dev} {i : Nat} {f : Input → Input} (h : i < d.inputs.length) : (d.onInp i f).inp i = f (d.inp i) :=
  getD_modify _ _ _ _ h
theorem Dev.src_onSrc {d : Dev} {i : Nat} {f : Tps → Tps} (h : i < d.tps.length) : (d.onSrc i f).src i = f (d.src i) :=
  getD_modify _ _ _ _ h

end Sys2Proof.Machine
end

