-- ==== Sys2Proof/WellFormed.lean ====
section
/-! DEFINITION. Well-formed commands: the operands lie in the ranges the spec gives what they stand for. -/
namespace Sys2Proof
open Sys2Proof.Machine

/-- A frame is 500 µs of 96 cycles (R9, R11), plus the longest correction of the active unit's frame (R225). -/
def frameCycles : Nat := 48096

/-- Codes are 12 bits (R68), a sample lies in its frame. -/
def Machine.Sample.ok (x : Sample) : Bool := decide (x.code ≤ 4095 ∧ x.off ≤ 500)
def Machine.SysObs.offs (x : SysObs) : List Nat := x.samples.map (·.off)
/-- R68: the hold bank samples every system at the same instants; Table WIN-3: two DACs read back, eight pairs of nodes. -/
def Machine.FrameObs.ok (o : FrameObs) : Bool :=
  let held := o.systems.filter (·.sys < 32)
  o.systems.all (fun x => decide (x.sys < 33) && x.samples.all Sample.ok)
    && held.all (fun x => held.all fun y => x.offs == y.offs) && o.readback.all (· ≤ 4095)
    && decide (o.refCode ≤ 4095 ∧ o.zeroCode ≤ 4095 ∧ o.readback.length ≤ 2 ∧ o.outNodes.length ≤ 8)
def SlackObs.ok (o : SlackObs) : Bool := decide (o.cycles < frameCycles ∧ o.cyc < frameCycles)
/-- Table HST-1: TAG has 6 bits, INDEX 16; the acceptance lies in the frame. -/
def Machine.Req.ok (q : Req) : Bool := decide (q.tag < 64 ∧ q.index < 65536 ∧ q.cyc < frameCycles)
/-- A wave holds at most 4 096 toggles (a 64-byte transmission has fewer than 1 300). -/
def waveOk (w : List Nat) : Bool := decide (w.length ≤ 4096)
def Machine.Copy.ok (c : Copy) : Bool := waveOk c.main && waveOk c.sense
def Machine.CopyPair.ok (c : CopyPair) : Bool := c.a.all Copy.ok && c.b.all Copy.ok

/-- R30: attempts of eight samples each, sampled until one agrees, `n` at most. -/
def strapAttemptsOk : Nat → List (List Byte) → Bool
  | 0, _ => false
  | _, [] => false
  | n + 1, a :: rest => a.length == 8 && (if a.all (· == a.headD 0) then rest.isEmpty else if n = 0 then rest.isEmpty else strapAttemptsOk n rest)

/-- The codes whose recovery one command carries (R78, Tables LIN-4, TEL-4 and DPX-6). -/
def windowCodes : List Nat := [0x37, 0x38, 0x39, 0x3B, 0x3C, 0x3D]
def lineCodes : List Nat := [0x60, 0x61, 0x62, 0x63, 0x64, 0x65, 0x66]
def telegramCodes : List Nat := [0x67, 0x68, 0x69, 0x6A, 0x6B, 0x6C]
def duplexCodes : List Nat := [0x70, 0x79]

/-- The check on every command's operands. -/
def Instr.wf : Instr → Bool
  | .vsupPowerOnReset => true
  | .internalResetRelease _ => true
  | .resetNAssert => true
  | .resetNRelease => true
  | .vsupBrownOut cyc => decide (cyc < frameCycles)
  | .vioBrownOut cyc => decide (cyc < frameCycles)
  | .vfldUndervoltage => true
  | .vfldUndervoltageRecovery => true
  | .vfldOvervoltage cyc => decide (cyc < frameCycles)
  | .pllLockLost cyc => decide (cyc < frameCycles)
  | .strapLatch attempts => strapAttemptsOk 3 attempts
  | .strapReread _ => true
  | .tmodeHighAfterLatch cyc => decide (cyc < frameCycles)
  | .testAccessInstruction _ _ => true
  | .frameBoundary obs _ => obs.ok
  | .frameWork w => w.sramBad.all fun x => decide (x.1 < frameCycles)
  | .frameWorkDeadline _ => true
  | .commitDeadline _ => true
  | .lockstepMismatch _ _ _ cyc => decide (cyc < frameCycles)
  | .coreResync _ _ cyc => decide (cyc < frameCycles)
  | .backgroundSlack obs => obs.ok
  | .scheduledBlankingStart => true
  | .supplyTestPulse => true
  | .supplyTestPulseEnd => true
  | .scheduledBlankingEnd _ cyc => decide (cyc < frameCycles)
  | .codePeriodEnd => true
  | .hsupOverload _ => true
  | .hsupOverloadRetry _ => true
  | .hsupDischargeEnd _ => true
  | .comparatorEdge _ _ _ cyc => decide (cyc < frameCycles)
  | .edgeBlankingEnd _ _ cyc => decide (cyc < frameCycles)
  | .rewriteMaskEnd _ cyc => decide (cyc < frameCycles)
  | .bandTimeout _ _ cyc => decide (cyc < frameCycles)
  | .windowFaultRecovery _ code => windowCodes.contains code
  | .classifierVerdict _ point _ _ cyc => decide (point < 1024 ∧ cyc < frameCycles)
  | .baselineFaultRecovery _ => true
  | .bandExcursionEnd _ cyc => decide (cyc < frameCycles)
  | .pointRecovery _ point => decide (point < 1024)
  | .remotePointOfflineTimeout _ point => decide (point < 1024)
  | .verdictOverdue _ sect => decide (sect < 512)
  | .resetInputStuck _ => true
  | .resetInputReleased _ => true
  | .resetArmExpiry _ sect => decide (sect < 512)
  | .outputNodeClassChange _ _ _ cyc => decide (cyc < frameCycles)
  | .outputLevelTimeout _ => true
  | .outputLevelLost _ cyc => decide (cyc < frameCycles)
  | .outputOffNodeTimeout _ cyc => decide (cyc < frameCycles)
  | .edmTimeout _ => true
  | .offPulseStart _ _ before after _ => before.length == 8 && after.length == 8
  | .offPulseEnd _ _ _ _ _ => true
  | .proofDueWarning _ => true
  | .proofIntervalExpiry _ => true
  | .safeInputEdge _ _ cyc => decide (cyc < frameCycles)
  | .inputFilteredEdge _ => true
  | .tpsPulseStart _ => true
  | .tpsPulseEnd _ _ _ _ => true
  | .inputFaultRecovery _ _ => true
  | .probeRunStart => true
  | .probeRampStart _ cyc => decide (cyc < frameCycles)
  | .probeStarved => true
  | .slotStart _ slot echo cyc => decide (slot < 4096 ∧ cyc < frameCycles) && echo.ok
  | .slotGateClose _ cyc => decide (cyc < frameCycles)
  | .biasCheck _ _ _ => true
  | .commonModeFault _ _ => true
  | .lineSuspensionEnd _ _ => true
  | .lineFaultRecovery _ code _ => lineCodes.contains code
  | .wakeDetected _ a b cyc => waveOk a && waveOk b && decide (cyc < frameCycles)
  | .wakeRetry _ cyc => decide (cyc < frameCycles)
  | .beacon _ copies => copies.ok
  | .dataTelegram _ copies => copies.ok
  | .joinTelegram _ copies => copies.ok
  | .beaconSend _ echo => echo.ok
  | .missedBeaconTimeout _ cyc => decide (cyc < frameCycles)
  | .reefQuietTimeout _ => true
  | .telegramFaultRecovery _ code _ => telegramCodes.contains code
  | .invalidCopy _ _ c => c.ok
  | .shroudValidPair cyc => decide (cyc < frameCycles)
  | .claimAbsent cyc => decide (cyc < frameCycles)
  | .claimReadbackFail => true
  | .arbitrationWaitEnd => true
  | .contentionTimeout => true
  | .hello m => decide (m.position < 2)
  | .twinRecord bs cyc => decide (bs.length ≤ 1214 ∧ cyc < frameCycles)
  | .shadow _ => true
  | .transfer _ => true
  | .recordMissing => true
  | .holdStart => true
  | .holdEnd => true
  | .resyncComplete => true
  | .resyncRetry => true
  | .duplexFaultRecovery code _ => duplexCodes.contains code
  | .twinLinkLost => true
  | .invalidTwinMessage bs => decide (bs.length ≤ 4096)
  | .twinLinkExchange => true
  | .down _ _ => true
  | .up _ _ _ => true
  | .joinReq m => decide (m.pos < 8)
  | .bulk _ _ data _ => decide (data.length ≤ 3072)
  | .halyardExchange => true
  | .memberSubSlot => true
  | .halyardExchangeClose => true
  | .joinGrantTimeout _ => true
  | .ringDirectionRecovery => true
  | .otpLoad obs => decide (obs.badCopies.all (· < 6) = true)
  | .memoryTest march _ _ => march.length == 10
  | .frontEndTest l vref gnd _ => l.length == 33 && decide (vref < 4096) && decide (gnd < 4096)
    && l.all fun o => o.readbacks.length == 3 && o.levels.length == 3 && o.readbacks.all fun r => r.length == 3 && r.all (· < 4096)
  | .lockstepComparatorTest flagged _ => flagged.length == 6
  | .supplySweep l => l.length == 63 && l.all fun f => f.nodes.length == 32
  | .startupPhaseTimeout => true
  | .joinWindowEnd => true
  | .shutdown q => q.ok
  | .shutdownOutputsOff => true
  | .shutdownEventsDrained => true
  | .read q _ _ => q.ok
  | .registerWrite q => q.ok
  | .hostTransactionCut _ => true
  | .requestRejected _ bytes => bytes.length == 10
  | .irqstatClear q => q.ok
  | .snap q => q.ok
  | .snapRelease q => q.ok
  | .cqPop q => q.ok
  | .result q => q.ok
  | .recallResult q => q.ok
  | .nop q => q.ok
  | .sessionOpen q => q.ok
  | .passwordCheckComplete _ => true
  | .sessionClose q => q.ok
  | .sessionIdleTimeout _ => true
  | .lockoutEnd _ => true
  | .resetArm q => q.ok
  | .resetConfirm q => q.ok
  | .outClear q => q.ok
  | .reefPropose q => q.ok
  | .wake q => q.ok
  | .switchover q => q.ok
  | .resync q => q.ok
  | .unfreeze q => q.ok
  | .splitForbid q => q.ok
  | .rigVerificationEnd => true
  | .rigActivation => true
  | .bankVerificationTimeout => true
  | .rigBegin q => q.ok
  | .rigWrite q => q.ok
  | .rigCheck q => q.ok
  | .rigActivate q => q.ok
  | .splitActivateTimeout => true
  | .rigStore q => q.ok
  | .rigStoreComplete => true
  | .rigLoad q => q.ok
  | .rigDiscard q => q.ok
  | .pwSet q => q.ok
  | .pwRecover q => q.ok
  | .pwRecoverTimeout => true
  | .logFetch q => q.ok
  | .logAck q => q.ok
  | .calWrite q => q.ok
  | .calClear q => q.ok
  | .otpRead q => q.ok
  | .clearOccurrenceCounters q => q.ok
  | .clearLinCounters q => q.ok
  | .clearHalCounters q => q.ok
  | .clearDpxCounters q => q.ok
  | .clearBgwCounters q => q.ok
  | .clearResyncCounter q => q.ok
  | .holdoffSet q => q.ok
  | .holdoffClear q => q.ok
  | .erasePulseEnd _ => true
  | .scrubPassOverdue => true
  | .recomparisonOverdue => true
  | .backgroundJobOverdue _ => true

/-- The cycle of the running frame that a command carries. -/
def Instr.cycle : Instr → Option Nat
  | .vsupPowerOnReset => none
  | .internalResetRelease _ => none
  | .resetNAssert => none
  | .resetNRelease => none
  | .vsupBrownOut cyc => some cyc
  | .vioBrownOut cyc => some cyc
  | .vfldUndervoltage => none
  | .vfldUndervoltageRecovery => none
  | .vfldOvervoltage cyc => some cyc
  | .pllLockLost cyc => some cyc
  | .strapLatch _ => none
  | .strapReread _ => none
  | .tmodeHighAfterLatch cyc => some cyc
  | .testAccessInstruction _ _ => none
  | .frameBoundary _ _ => none
  | .frameWork _ => none
  | .frameWorkDeadline _ => none
  | .commitDeadline _ => none
  | .lockstepMismatch _ _ _ cyc => some cyc
  | .coreResync _ _ cyc => some cyc
  | .backgroundSlack obs => some obs.cyc
  | .scheduledBlankingStart => none
  | .supplyTestPulse => none
  | .supplyTestPulseEnd => none
  | .scheduledBlankingEnd _ cyc => some cyc
  | .codePeriodEnd => none
  | .hsupOverload _ => none
  | .hsupOverloadRetry _ => none
  | .hsupDischargeEnd _ => none
  | .comparatorEdge _ _ _ cyc => some cyc
  | .edgeBlankingEnd _ _ cyc => some cyc
  | .rewriteMaskEnd _ cyc => some cyc
  | .bandTimeout _ _ cyc => some cyc
  | .windowFaultRecovery _ _ => none
  | .classifierVerdict _ _ _ _ cyc => some cyc
  | .baselineFaultRecovery _ => none
  | .bandExcursionEnd _ cyc => some cyc
  | .pointRecovery _ _ => none
  | .remotePointOfflineTimeout _ _ => none
  | .verdictOverdue _ _ => none
  | .resetInputStuck _ => none
  | .resetInputReleased _ => none
  | .resetArmExpiry _ _ => none
  | .outputNodeClassChange _ _ _ cyc => some cyc
  | .outputLevelTimeout _ => none
  | .outputLevelLost _ cyc => some cyc
  | .outputOffNodeTimeout _ cyc => some cyc
  | .edmTimeout _ => none
  | .offPulseStart _ _ _ _ _ => none
  | .offPulseEnd _ _ _ _ _ => none
  | .proofDueWarning _ => none
  | .proofIntervalExpiry _ => none
  | .safeInputEdge _ _ cyc => some cyc
  | .inputFilteredEdge _ => none
  | .tpsPulseStart _ => none
  | .tpsPulseEnd _ _ _ _ => none
  | .inputFaultRecovery _ _ => none
  | .probeRunStart => none
  | .probeRampStart _ cyc => some cyc
  | .probeStarved => none
  | .slotStart _ _ _ cyc => some cyc
  | .slotGateClose _ cyc => some cyc
  | .biasCheck _ _ _ => none
  | .commonModeFault _ _ => none
  | .lineSuspensionEnd _ _ => none
  | .lineFaultRecovery _ _ _ => none
  | .wakeDetected _ _ _ cyc => some cyc
  | .wakeRetry _ cyc => some cyc
  | .beacon _ _ => none
  | .dataTelegram _ _ => none
  | .joinTelegram _ _ => none
  | .beaconSend _ _ => none
  | .missedBeaconTimeout _ cyc => some cyc
  | .reefQuietTimeout _ => none
  | .telegramFaultRecovery _ _ _ => none
  | .invalidCopy _ _ _ => none
  | .shroudValidPair cyc => some cyc
  | .claimAbsent cyc => some cyc
  | .claimReadbackFail => none
  | .arbitrationWaitEnd => none
  | .contentionTimeout => none
  | .hello _ => none
  | .twinRecord _ cyc => some cyc
  | .shadow _ => none
  | .transfer _ => none
  | .recordMissing => none
  | .holdStart => none
  | .holdEnd => none
  | .resyncComplete => none
  | .resyncRetry => none
  | .duplexFaultRecovery _ _ => none
  | .twinLinkLost => none
  | .invalidTwinMessage _ => none
  | .twinLinkExchange => none
  | .down _ _ => none
  | .up _ _ _ => none
  | .joinReq _ => none
  | .bulk _ _ _ _ => none
  | .halyardExchange => none
  | .memberSubSlot => none
  | .halyardExchangeClose => none
  | .joinGrantTimeout _ => none
  | .ringDirectionRecovery => none
  | .otpLoad _ => none
  | .memoryTest _ _ _ => none
  | .frontEndTest _ _ _ _ => none
  | .lockstepComparatorTest _ _ => none
  | .supplySweep _ => none
  | .startupPhaseTimeout => none
  | .joinWindowEnd => none
  | .shutdown q => some q.cyc
  | .shutdownOutputsOff => none
  | .shutdownEventsDrained => none
  | .read q _ _ => some q.cyc
  | .registerWrite q => some q.cyc
  | .hostTransactionCut _ => none
  | .requestRejected _ _ => none
  | .irqstatClear q => some q.cyc
  | .snap q => some q.cyc
  | .snapRelease q => some q.cyc
  | .cqPop q => some q.cyc
  | .result q => some q.cyc
  | .recallResult q => some q.cyc
  | .nop q => some q.cyc
  | .sessionOpen q => some q.cyc
  | .passwordCheckComplete _ => none
  | .sessionClose q => some q.cyc
  | .sessionIdleTimeout _ => none
  | .lockoutEnd _ => none
  | .resetArm q => some q.cyc
  | .resetConfirm q => some q.cyc
  | .outClear q => some q.cyc
  | .reefPropose q => some q.cyc
  | .wake q => some q.cyc
  | .switchover q => some q.cyc
  | .resync q => some q.cyc
  | .unfreeze q => some q.cyc
  | .splitForbid q => some q.cyc
  | .rigVerificationEnd => none
  | .rigActivation => none
  | .bankVerificationTimeout => none
  | .rigBegin q => some q.cyc
  | .rigWrite q => some q.cyc
  | .rigCheck q => some q.cyc
  | .rigActivate q => some q.cyc
  | .splitActivateTimeout => none
  | .rigStore q => some q.cyc
  | .rigStoreComplete => none
  | .rigLoad q => some q.cyc
  | .rigDiscard q => some q.cyc
  | .pwSet q => some q.cyc
  | .pwRecover q => some q.cyc
  | .pwRecoverTimeout => none
  | .logFetch q => some q.cyc
  | .logAck q => some q.cyc
  | .calWrite q => some q.cyc
  | .calClear q => some q.cyc
  | .otpRead q => some q.cyc
  | .clearOccurrenceCounters q => some q.cyc
  | .clearLinCounters q => some q.cyc
  | .clearHalCounters q => some q.cyc
  | .clearDpxCounters q => some q.cyc
  | .clearBgwCounters q => some q.cyc
  | .clearResyncCounter q => some q.cyc
  | .holdoffSet q => some q.cyc
  | .holdoffClear q => some q.cyc
  | .erasePulseEnd _ => none
  | .scrubPassOverdue => none
  | .recomparisonOverdue => none
  | .backgroundJobOverdue _ => none

/-- The host request that a command is (R276). -/
def Instr.request : Instr → Option Req
  | .vsupPowerOnReset => none
  | .internalResetRelease _ => none
  | .resetNAssert => none
  | .resetNRelease => none
  | .vsupBrownOut _ => none
  | .vioBrownOut _ => none
  | .vfldUndervoltage => none
  | .vfldUndervoltageRecovery => none
  | .vfldOvervoltage _ => none
  | .pllLockLost _ => none
  | .strapLatch _ => none
  | .strapReread _ => none
  | .tmodeHighAfterLatch _ => none
  | .testAccessInstruction _ _ => none
  | .frameBoundary _ _ => none
  | .frameWork _ => none
  | .frameWorkDeadline _ => none
  | .commitDeadline _ => none
  | .lockstepMismatch _ _ _ _ => none
  | .coreResync _ _ _ => none
  | .backgroundSlack _ => none
  | .scheduledBlankingStart => none
  | .supplyTestPulse => none
  | .supplyTestPulseEnd => none
  | .scheduledBlankingEnd _ _ => none
  | .codePeriodEnd => none
  | .hsupOverload _ => none
  | .hsupOverloadRetry _ => none
  | .hsupDischargeEnd _ => none
  | .comparatorEdge _ _ _ _ => none
  | .edgeBlankingEnd _ _ _ => none
  | .rewriteMaskEnd _ _ => none
  | .bandTimeout _ _ _ => none
  | .windowFaultRecovery _ _ => none
  | .classifierVerdict _ _ _ _ _ => none
  | .baselineFaultRecovery _ => none
  | .bandExcursionEnd _ _ => none
  | .pointRecovery _ _ => none
  | .remotePointOfflineTimeout _ _ => none
  | .verdictOverdue _ _ => none
  | .resetInputStuck _ => none
  | .resetInputReleased _ => none
  | .resetArmExpiry _ _ => none
  | .outputNodeClassChange _ _ _ _ => none
  | .outputLevelTimeout _ => none
  | .outputLevelLost _ _ => none
  | .outputOffNodeTimeout _ _ => none
  | .edmTimeout _ => none
  | .offPulseStart _ _ _ _ _ => none
  | .offPulseEnd _ _ _ _ _ => none
  | .proofDueWarning _ => none
  | .proofIntervalExpiry _ => none
  | .safeInputEdge _ _ _ => none
  | .inputFilteredEdge _ => none
  | .tpsPulseStart _ => none
  | .tpsPulseEnd _ _ _ _ => none
  | .inputFaultRecovery _ _ => none
  | .probeRunStart => none
  | .probeRampStart _ _ => none
  | .probeStarved => none
  | .slotStart _ _ _ _ => none
  | .slotGateClose _ _ => none
  | .biasCheck _ _ _ => none
  | .commonModeFault _ _ => none
  | .lineSuspensionEnd _ _ => none
  | .lineFaultRecovery _ _ _ => none
  | .wakeDetected _ _ _ _ => none
  | .wakeRetry _ _ => none
  | .beacon _ _ => none
  | .dataTelegram _ _ => none
  | .joinTelegram _ _ => none
  | .beaconSend _ _ => none
  | .missedBeaconTimeout _ _ => none
  | .reefQuietTimeout _ => none
  | .telegramFaultRecovery _ _ _ => none
  | .invalidCopy _ _ _ => none
  | .shroudValidPair _ => none
  | .claimAbsent _ => none
  | .claimReadbackFail => none
  | .arbitrationWaitEnd => none
  | .contentionTimeout => none
  | .hello _ => none
  | .twinRecord _ _ => none
  | .shadow _ => none
  | .transfer _ => none
  | .recordMissing => none
  | .holdStart => none
  | .holdEnd => none
  | .resyncComplete => none
  | .resyncRetry => none
  | .duplexFaultRecovery _ _ => none
  | .twinLinkLost => none
  | .invalidTwinMessage _ => none
  | .twinLinkExchange => none
  | .down _ _ => none
  | .up _ _ _ => none
  | .joinReq _ => none
  | .bulk _ _ _ _ => none
  | .halyardExchange => none
  | .memberSubSlot => none
  | .halyardExchangeClose => none
  | .joinGrantTimeout _ => none
  | .ringDirectionRecovery => none
  | .otpLoad _ => none
  | .memoryTest _ _ _ => none
  | .frontEndTest _ _ _ _ => none
  | .lockstepComparatorTest _ _ => none
  | .supplySweep _ => none
  | .startupPhaseTimeout => none
  | .joinWindowEnd => none
  | .shutdown q => some q
  | .shutdownOutputsOff => none
  | .shutdownEventsDrained => none
  | .read q _ _ => some q
  | .registerWrite q => some q
  | .hostTransactionCut _ => none
  | .requestRejected _ _ => none
  | .irqstatClear q => some q
  | .snap q => some q
  | .snapRelease q => some q
  | .cqPop q => some q
  | .result q => some q
  | .recallResult q => some q
  | .nop q => some q
  | .sessionOpen q => some q
  | .passwordCheckComplete _ => none
  | .sessionClose q => some q
  | .sessionIdleTimeout _ => none
  | .lockoutEnd _ => none
  | .resetArm q => some q
  | .resetConfirm q => some q
  | .outClear q => some q
  | .reefPropose q => some q
  | .wake q => some q
  | .switchover q => some q
  | .resync q => some q
  | .unfreeze q => some q
  | .splitForbid q => some q
  | .rigVerificationEnd => none
  | .rigActivation => none
  | .bankVerificationTimeout => none
  | .rigBegin q => some q
  | .rigWrite q => some q
  | .rigCheck q => some q
  | .rigActivate q => some q
  | .splitActivateTimeout => none
  | .rigStore q => some q
  | .rigStoreComplete => none
  | .rigLoad q => some q
  | .rigDiscard q => some q
  | .pwSet q => some q
  | .pwRecover q => some q
  | .pwRecoverTimeout => none
  | .logFetch q => some q
  | .logAck q => some q
  | .calWrite q => some q
  | .calClear q => some q
  | .otpRead q => some q
  | .clearOccurrenceCounters q => some q
  | .clearLinCounters q => some q
  | .clearHalCounters q => some q
  | .clearDpxCounters q => some q
  | .clearBgwCounters q => some q
  | .clearResyncCounter q => some q
  | .holdoffSet q => some q
  | .holdoffClear q => some q
  | .erasePulseEnd _ => none
  | .scrubPassOverdue => none
  | .recomparisonOverdue => none
  | .backgroundJobOverdue _ => none

end Sys2Proof
end

