-- ==== Sys2Proof/Laws/PerInstr.lean ====
section
/-! SUPPORT. Statements made for every command, per constructor. -/
namespace Sys2Proof.Laws
open Sys2Proof.Machine

/-- A well-formed command acts within the running frame, and a host request in it fits its frame (Table HST-1). -/
def Wf.Statement (i : Instr) : Prop :=
  i.wf = true →
    (∀ c, i.cycle = some c → c < frameCycles) ∧ (∀ q, i.request = some q → q.tag < 64 ∧ q.index < 65536)

theorem Wf.quiet {i : Instr} (hc : i.cycle = none) (hr : i.request = none) : Wf.Statement i := fun _ =>
  ⟨fun _ h => (nomatch hc.symm.trans h), fun _ h => (nomatch hr.symm.trans h)⟩

theorem Wf.timed {i : Instr} {c : Nat} (hc : i.cycle = some c) (hr : i.request = none)
    (hw : i.wf = true → c < frameCycles) : Wf.Statement i := fun h =>
  ⟨fun _ e => Option.some.inj (hc.symm.trans e) ▸ hw h, fun _ e => (nomatch hr.symm.trans e)⟩

theorem Wf.asked {i : Instr} {q : Req} (hc : i.cycle = some q.cyc) (hr : i.request = some q) (hw : i.wf = q.ok) :
    Wf.Statement i := fun h =>
  have hq := of_decide_eq_true (hw ▸ h)
  ⟨fun _ e => Option.some.inj (hc.symm.trans e) ▸ hq.2.2,
   fun _ e => Option.some.inj (hr.symm.trans e) ▸ ⟨hq.1, hq.2.1⟩⟩

theorem Wf.vsupPowerOnReset : Wf.Statement (.vsupPowerOnReset) := Wf.quiet rfl rfl
theorem Wf.internalResetRelease (rails : RailObs) : Wf.Statement (.internalResetRelease rails) := Wf.quiet rfl rfl
theorem Wf.resetNAssert : Wf.Statement (.resetNAssert) := Wf.quiet rfl rfl
theorem Wf.resetNRelease : Wf.Statement (.resetNRelease) := Wf.quiet rfl rfl
theorem Wf.vsupBrownOut (cyc : Nat) : Wf.Statement (.vsupBrownOut cyc) := Wf.timed rfl rfl of_decide_eq_true
theorem Wf.vioBrownOut (cyc : Nat) : Wf.Statement (.vioBrownOut cyc) := Wf.timed rfl rfl of_decide_eq_true
theorem Wf.vfldUndervoltage : Wf.Statement (.vfldUndervoltage) := Wf.quiet rfl rfl
theorem Wf.vfldUndervoltageRecovery : Wf.Statement (.vfldUndervoltageRecovery) := Wf.quiet rfl rfl
theorem Wf.vfldOvervoltage (cyc : Nat) : Wf.Statement (.vfldOvervoltage cyc) := Wf.timed rfl rfl of_decide_eq_true
theorem Wf.pllLockLost (cyc : Nat) : Wf.Statement (.pllLockLost cyc) := Wf.timed rfl rfl of_decide_eq_true
theorem Wf.strapLatch (attempts : List (List Byte)) : Wf.Statement (.strapLatch attempts) := Wf.quiet rfl rfl
theorem Wf.strapReread (raw : Byte) : Wf.Statement (.strapReread raw) := Wf.quiet rfl rfl
theorem Wf.tmodeHighAfterLatch (cyc : Nat) : Wf.Statement (.tmodeHighAfterLatch cyc) := Wf.timed rfl rfl of_decide_eq_true
theorem Wf.testAccessInstruction (ir : TapInstr) (drive : Nat) : Wf.Statement (.testAccessInstruction ir drive) := Wf.quiet rfl rfl
theorem Wf.frameBoundary (obs : FrameObs) (lead : Int) : Wf.Statement (.frameBoundary obs lead) := Wf.quiet rfl rfl
theorem Wf.frameWork (w : WorkObs) : Wf.Statement (.frameWork w) := Wf.quiet rfl rfl
theorem Wf.frameWorkDeadline (half : Half) : Wf.Statement (.frameWorkDeadline half) := Wf.quiet rfl rfl
theorem Wf.commitDeadline (half : Half) : Wf.Statement (.commitDeadline half) := Wf.quiet rfl rfl
theorem Wf.lockstepMismatch (field : CoreField) (coreA coreB : Word) (cyc : Nat) : Wf.Statement (.lockstepMismatch field coreA coreB cyc) := Wf.timed rfl rfl of_decide_eq_true
theorem Wf.coreResync (half : Half) (duringRestore : Bool) (cyc : Nat) : Wf.Statement (.coreResync half duringRestore cyc) := Wf.timed rfl rfl of_decide_eq_true
theorem Wf.backgroundSlack (obs : SlackObs) : Wf.Statement (.backgroundSlack obs) := Wf.timed rfl rfl fun h => (of_decide_eq_true h).2
theorem Wf.scheduledBlankingStart : Wf.Statement (.scheduledBlankingStart) := Wf.quiet rfl rfl
theorem Wf.supplyTestPulse : Wf.Statement (.supplyTestPulse) := Wf.quiet rfl rfl
theorem Wf.supplyTestPulseEnd : Wf.Statement (.supplyTestPulseEnd) := Wf.quiet rfl rfl
theorem Wf.scheduledBlankingEnd (sys : Fin 32) (cyc : Nat) : Wf.Statement (.scheduledBlankingEnd sys cyc) := Wf.timed rfl rfl of_decide_eq_true
theorem Wf.codePeriodEnd : Wf.Statement (.codePeriodEnd) := Wf.quiet rfl rfl
theorem Wf.hsupOverload (sys : Fin 32) : Wf.Statement (.hsupOverload sys) := Wf.quiet rfl rfl
theorem Wf.hsupOverloadRetry (sys : Fin 32) : Wf.Statement (.hsupOverloadRetry sys) := Wf.quiet rfl rfl
theorem Wf.hsupDischargeEnd (sys : Fin 32) : Wf.Statement (.hsupDischargeEnd sys) := Wf.quiet rfl rfl
theorem Wf.comparatorEdge (sys : Fin 33) (cmp : Comparator) (level : Bool) (cyc : Nat) : Wf.Statement (.comparatorEdge sys cmp level cyc) := Wf.timed rfl rfl of_decide_eq_true
theorem Wf.edgeBlankingEnd (sys : Fin 33) (cmp : Comparator) (cyc : Nat) : Wf.Statement (.edgeBlankingEnd sys cmp cyc) := Wf.timed rfl rfl of_decide_eq_true
theorem Wf.rewriteMaskEnd (sys : Fin 33) (cyc : Nat) : Wf.Statement (.rewriteMaskEnd sys cyc) := Wf.timed rfl rfl of_decide_eq_true
theorem Wf.bandTimeout (sys : Fin 33) (short : Bool) (cyc : Nat) : Wf.Statement (.bandTimeout sys short cyc) := Wf.timed rfl rfl of_decide_eq_true
theorem Wf.windowFaultRecovery (sys : Fin 33) (code : Nat) : Wf.Statement (.windowFaultRecovery sys code) := Wf.quiet rfl rfl
theorem Wf.classifierVerdict (half : Half) (point : Nat) (a b : List CurSample) (cyc : Nat) : Wf.Statement (.classifierVerdict half point a b cyc) := Wf.timed rfl rfl fun h => (of_decide_eq_true h).2
theorem Wf.baselineFaultRecovery (sys : Fin 32) : Wf.Statement (.baselineFaultRecovery sys) := Wf.quiet rfl rfl
theorem Wf.bandExcursionEnd (sys : Fin 33) (cyc : Nat) : Wf.Statement (.bandExcursionEnd sys cyc) := Wf.timed rfl rfl of_decide_eq_true
theorem Wf.pointRecovery (half : Half) (point : Nat) : Wf.Statement (.pointRecovery half point) := Wf.quiet rfl rfl
theorem Wf.remotePointOfflineTimeout (half : Half) (point : Nat) : Wf.Statement (.remotePointOfflineTimeout half point) := Wf.quiet rfl rfl
theorem Wf.verdictOverdue (half : Half) (sect : Nat) : Wf.Statement (.verdictOverdue half sect) := Wf.quiet rfl rfl
theorem Wf.resetInputStuck (input : Fin 12) : Wf.Statement (.resetInputStuck input) := Wf.quiet rfl rfl
theorem Wf.resetInputReleased (input : Fin 12) : Wf.Statement (.resetInputReleased input) := Wf.quiet rfl rfl
theorem Wf.resetArmExpiry (half : Half) (sect : Nat) : Wf.Statement (.resetArmExpiry half sect) := Wf.quiet rfl rfl
theorem Wf.outputNodeClassChange (out : Fin 8) (high : Bool) (cls : NodeClass) (cyc : Nat) : Wf.Statement (.outputNodeClassChange out high cls cyc) := Wf.timed rfl rfl of_decide_eq_true
theorem Wf.outputLevelTimeout (out : Fin 8) : Wf.Statement (.outputLevelTimeout out) := Wf.quiet rfl rfl
theorem Wf.outputLevelLost (out : Fin 8) (cyc : Nat) : Wf.Statement (.outputLevelLost out cyc) := Wf.timed rfl rfl of_decide_eq_true
theorem Wf.outputOffNodeTimeout (out : Fin 8) (cyc : Nat) : Wf.Statement (.outputOffNodeTimeout out cyc) := Wf.timed rfl rfl of_decide_eq_true
theorem Wf.edmTimeout (out : Fin 8) : Wf.Statement (.edmTimeout out) := Wf.quiet rfl rfl
theorem Wf.offPulseStart (out : Fin 8) (low : Bool) (before : List (NodeClass × NodeClass)) (after : List (NodeClass × NodeClass)) (otherStayed : Bool) : Wf.Statement (.offPulseStart out low before after otherStayed) := Wf.quiet rfl rfl
theorem Wf.offPulseEnd (out : Fin 8) (low : Bool) (otherStayed : Bool) (hi : NodeClass) (lo : NodeClass) : Wf.Statement (.offPulseEnd out low otherStayed hi lo) := Wf.quiet rfl rfl
theorem Wf.proofDueWarning (out : Fin 8) : Wf.Statement (.proofDueWarning out) := Wf.quiet rfl rfl
theorem Wf.proofIntervalExpiry (out : Fin 8) : Wf.Statement (.proofIntervalExpiry out) := Wf.quiet rfl rfl
theorem Wf.safeInputEdge (input : Fin 20) (on : Bool) (cyc : Nat) : Wf.Statement (.safeInputEdge input on cyc) := Wf.timed rfl rfl of_decide_eq_true
theorem Wf.inputFilteredEdge (input : Fin 20) : Wf.Statement (.inputFilteredEdge input) := Wf.quiet rfl rfl
theorem Wf.tpsPulseStart (src : Fin 4) : Wf.Statement (.tpsPulseStart src) := Wf.quiet rfl rfl
theorem Wf.tpsPulseEnd (src : Fin 4) (high : Bool) (low : Bool) (raw : BitVec 20) : Wf.Statement (.tpsPulseEnd src high low raw) := Wf.quiet rfl rfl
theorem Wf.inputFaultRecovery (source : Bool) (idx : Fin 20) : Wf.Statement (.inputFaultRecovery source idx) := Wf.quiet rfl rfl
theorem Wf.probeRunStart : Wf.Statement (.probeRunStart) := Wf.quiet rfl rfl
theorem Wf.probeRampStart (rising : Bool) (cyc : Nat) : Wf.Statement (.probeRampStart rising cyc) := Wf.timed rfl rfl of_decide_eq_true
theorem Wf.probeStarved : Wf.Statement (.probeStarved) := Wf.quiet rfl rfl
theorem Wf.slotStart (half : Half) (slot : Nat) (echo : CopyPair) (cyc : Nat) : Wf.Statement (.slotStart half slot echo cyc) := Wf.timed rfl rfl fun h => (of_decide_eq_true (Bool.and_eq_true_iff.mp h).1).2
theorem Wf.slotGateClose (half : Half) (cyc : Nat) : Wf.Statement (.slotGateClose half cyc) := Wf.timed rfl rfl of_decide_eq_true
theorem Wf.biasCheck (half : Half) (line : Line) (high : Bool) : Wf.Statement (.biasCheck half line high) := Wf.quiet rfl rfl
theorem Wf.commonModeFault (half : Half) (line : Line) : Wf.Statement (.commonModeFault half line) := Wf.quiet rfl rfl
theorem Wf.lineSuspensionEnd (half : Half) (line : Line) : Wf.Statement (.lineSuspensionEnd half line) := Wf.quiet rfl rfl
theorem Wf.lineFaultRecovery (half : Half) (code : Nat) (line : Line) : Wf.Statement (.lineFaultRecovery half code line) := Wf.quiet rfl rfl
theorem Wf.wakeDetected (half : Half) (a b : List Nat) (cyc : Nat) : Wf.Statement (.wakeDetected half a b cyc) := Wf.timed rfl rfl fun h => of_decide_eq_true (Bool.and_eq_true_iff.mp h).2
theorem Wf.wakeRetry (half : Half) (cyc : Nat) : Wf.Statement (.wakeRetry half cyc) := Wf.timed rfl rfl of_decide_eq_true
theorem Wf.beacon (half : Half) (copies : CopyPair) : Wf.Statement (.beacon half copies) := Wf.quiet rfl rfl
theorem Wf.dataTelegram (half : Half) (copies : CopyPair) : Wf.Statement (.dataTelegram half copies) := Wf.quiet rfl rfl
theorem Wf.joinTelegram (half : Half) (copies : CopyPair) : Wf.Statement (.joinTelegram half copies) := Wf.quiet rfl rfl
theorem Wf.beaconSend (half : Half) (echo : CopyPair) : Wf.Statement (.beaconSend half echo) := Wf.quiet rfl rfl
theorem Wf.missedBeaconTimeout (half : Half) (cyc : Nat) : Wf.Statement (.missedBeaconTimeout half cyc) := Wf.timed rfl rfl of_decide_eq_true
theorem Wf.reefQuietTimeout (half : Half) : Wf.Statement (.reefQuietTimeout half) := Wf.quiet rfl rfl
theorem Wf.telegramFaultRecovery (half : Half) (code : Nat) (line : Line) : Wf.Statement (.telegramFaultRecovery half code line) := Wf.quiet rfl rfl
theorem Wf.invalidCopy (half : Half) (line : Line) (copy : Copy) : Wf.Statement (.invalidCopy half line copy) := Wf.quiet rfl rfl
theorem Wf.shroudValidPair (cyc : Nat) : Wf.Statement (.shroudValidPair cyc) := Wf.timed rfl rfl of_decide_eq_true
theorem Wf.claimAbsent (cyc : Nat) : Wf.Statement (.claimAbsent cyc) := Wf.timed rfl rfl of_decide_eq_true
theorem Wf.claimReadbackFail : Wf.Statement (.claimReadbackFail) := Wf.quiet rfl rfl
theorem Wf.arbitrationWaitEnd : Wf.Statement (.arbitrationWaitEnd) := Wf.quiet rfl rfl
theorem Wf.contentionTimeout : Wf.Statement (.contentionTimeout) := Wf.quiet rfl rfl
theorem Wf.hello (m : HelloMsg) : Wf.Statement (.hello m) := Wf.quiet rfl rfl
theorem Wf.twinRecord (bytes : List Byte) (cyc : Nat) : Wf.Statement (.twinRecord bytes cyc) := Wf.timed rfl rfl fun h => (of_decide_eq_true h).2
theorem Wf.shadow (m : ShadowMsg) : Wf.Statement (.shadow m) := Wf.quiet rfl rfl
theorem Wf.transfer (m : TransferMsg) : Wf.Statement (.transfer m) := Wf.quiet rfl rfl
theorem Wf.recordMissing : Wf.Statement (.recordMissing) := Wf.quiet rfl rfl
theorem Wf.holdStart : Wf.Statement (.holdStart) := Wf.quiet rfl rfl
theorem Wf.holdEnd : Wf.Statement (.holdEnd) := Wf.quiet rfl rfl
theorem Wf.resyncComplete : Wf.Statement (.resyncComplete) := Wf.quiet rfl rfl
theorem Wf.resyncRetry : Wf.Statement (.resyncRetry) := Wf.quiet rfl rfl
theorem Wf.duplexFaultRecovery (code : Nat) (out : Fin 8) : Wf.Statement (.duplexFaultRecovery code out) := Wf.quiet rfl rfl
theorem Wf.twinLinkLost : Wf.Statement (.twinLinkLost) := Wf.quiet rfl rfl
theorem Wf.invalidTwinMessage (bytes : List Byte) : Wf.Statement (.invalidTwinMessage bytes) := Wf.quiet rfl rfl
theorem Wf.twinLinkExchange : Wf.Statement (.twinLinkExchange) := Wf.quiet rfl rfl
theorem Wf.down (fwd : Option DownMsg) (rev : Option DownMsg) : Wf.Statement (.down fwd rev) := Wf.quiet rfl rfl
theorem Wf.up (member : Fin 8) (fwd : Option UpMsg) (rev : Option UpMsg) : Wf.Statement (.up member fwd rev) := Wf.quiet rfl rfl
theorem Wf.joinReq (m : JoinReqMsg) : Wf.Statement (.joinReq m) := Wf.quiet rfl rfl
theorem Wf.bulk (block : Nat) (face : Bool) (data : List Byte) (last : Bool) : Wf.Statement (.bulk block face data last) := Wf.quiet rfl rfl
theorem Wf.halyardExchange : Wf.Statement (.halyardExchange) := Wf.quiet rfl rfl
theorem Wf.memberSubSlot : Wf.Statement (.memberSubSlot) := Wf.quiet rfl rfl
theorem Wf.halyardExchangeClose : Wf.Statement (.halyardExchangeClose) := Wf.quiet rfl rfl
theorem Wf.joinGrantTimeout (member : Fin 8) : Wf.Statement (.joinGrantTimeout member) := Wf.quiet rfl rfl
theorem Wf.ringDirectionRecovery : Wf.Statement (.ringDirectionRecovery) := Wf.quiet rfl rfl
theorem Wf.otpLoad (obs : OtpObs) : Wf.Statement (.otpLoad obs) := Wf.quiet rfl rfl
theorem Wf.memoryTest (march : List Bool) (romA romB : Bool) : Wf.Statement (.memoryTest march romA romB) := Wf.quiet rfl rfl
theorem Wf.frontEndTest (systems : List FrontEndObs) (vref gnd : Nat) (holdOk : Bool) : Wf.Statement (.frontEndTest systems vref gnd holdOk) := Wf.quiet rfl rfl
theorem Wf.lockstepComparatorTest (flagged : List (Bool × Bool)) (spurious : Bool) : Wf.Statement (.lockstepComparatorTest flagged spurious) := Wf.quiet rfl rfl
theorem Wf.supplySweep (frames : List SweepFrame) : Wf.Statement (.supplySweep frames) := Wf.quiet rfl rfl
theorem Wf.startupPhaseTimeout : Wf.Statement (.startupPhaseTimeout) := Wf.quiet rfl rfl
theorem Wf.joinWindowEnd : Wf.Statement (.joinWindowEnd) := Wf.quiet rfl rfl
theorem Wf.shutdown (q : Req) : Wf.Statement (.shutdown q) := Wf.asked rfl rfl rfl
theorem Wf.shutdownOutputsOff : Wf.Statement (.shutdownOutputsOff) := Wf.quiet rfl rfl
theorem Wf.shutdownEventsDrained : Wf.Statement (.shutdownEventsDrained) := Wf.quiet rfl rfl
theorem Wf.read (q : Req) (tagged : Bool) (snaprd : Bool) : Wf.Statement (.read q tagged snaprd) := Wf.asked rfl rfl rfl
theorem Wf.registerWrite (q : Req) : Wf.Statement (.registerWrite q) := Wf.asked rfl rfl rfl
theorem Wf.hostTransactionCut (port : Fin 2) : Wf.Statement (.hostTransactionCut port) := Wf.quiet rfl rfl
theorem Wf.requestRejected (port : Fin 2) (bytes : List Byte) : Wf.Statement (.requestRejected port bytes) := Wf.quiet rfl rfl
theorem Wf.irqstatClear (q : Req) : Wf.Statement (.irqstatClear q) := Wf.asked rfl rfl rfl
theorem Wf.snap (q : Req) : Wf.Statement (.snap q) := Wf.asked rfl rfl rfl
theorem Wf.snapRelease (q : Req) : Wf.Statement (.snapRelease q) := Wf.asked rfl rfl rfl
theorem Wf.cqPop (q : Req) : Wf.Statement (.cqPop q) := Wf.asked rfl rfl rfl
theorem Wf.result (q : Req) : Wf.Statement (.result q) := Wf.asked rfl rfl rfl
theorem Wf.recallResult (q : Req) : Wf.Statement (.recallResult q) := Wf.asked rfl rfl rfl
theorem Wf.nop (q : Req) : Wf.Statement (.nop q) := Wf.asked rfl rfl rfl
theorem Wf.sessionOpen (q : Req) : Wf.Statement (.sessionOpen q) := Wf.asked rfl rfl rfl
theorem Wf.passwordCheckComplete (port : Fin 2) : Wf.Statement (.passwordCheckComplete port) := Wf.quiet rfl rfl
theorem Wf.sessionClose (q : Req) : Wf.Statement (.sessionClose q) := Wf.asked rfl rfl rfl
theorem Wf.sessionIdleTimeout (port : Fin 2) : Wf.Statement (.sessionIdleTimeout port) := Wf.quiet rfl rfl
theorem Wf.lockoutEnd (port : Fin 2) : Wf.Statement (.lockoutEnd port) := Wf.quiet rfl rfl
theorem Wf.resetArm (q : Req) : Wf.Statement (.resetArm q) := Wf.asked rfl rfl rfl
theorem Wf.resetConfirm (q : Req) : Wf.Statement (.resetConfirm q) := Wf.asked rfl rfl rfl
theorem Wf.outClear (q : Req) : Wf.Statement (.outClear q) := Wf.asked rfl rfl rfl
theorem Wf.reefPropose (q : Req) : Wf.Statement (.reefPropose q) := Wf.asked rfl rfl rfl
theorem Wf.wake (q : Req) : Wf.Statement (.wake q) := Wf.asked rfl rfl rfl
theorem Wf.switchover (q : Req) : Wf.Statement (.switchover q) := Wf.asked rfl rfl rfl
theorem Wf.resync (q : Req) : Wf.Statement (.resync q) := Wf.asked rfl rfl rfl
theorem Wf.unfreeze (q : Req) : Wf.Statement (.unfreeze q) := Wf.asked rfl rfl rfl
theorem Wf.splitForbid (q : Req) : Wf.Statement (.splitForbid q) := Wf.asked rfl rfl rfl
theorem Wf.rigVerificationEnd : Wf.Statement (.rigVerificationEnd) := Wf.quiet rfl rfl
theorem Wf.rigActivation : Wf.Statement (.rigActivation) := Wf.quiet rfl rfl
theorem Wf.bankVerificationTimeout : Wf.Statement (.bankVerificationTimeout) := Wf.quiet rfl rfl
theorem Wf.rigBegin (q : Req) : Wf.Statement (.rigBegin q) := Wf.asked rfl rfl rfl
theorem Wf.rigWrite (q : Req) : Wf.Statement (.rigWrite q) := Wf.asked rfl rfl rfl
theorem Wf.rigCheck (q : Req) : Wf.Statement (.rigCheck q) := Wf.asked rfl rfl rfl
theorem Wf.rigActivate (q : Req) : Wf.Statement (.rigActivate q) := Wf.asked rfl rfl rfl
theorem Wf.splitActivateTimeout : Wf.Statement (.splitActivateTimeout) := Wf.quiet rfl rfl
theorem Wf.rigStore (q : Req) : Wf.Statement (.rigStore q) := Wf.asked rfl rfl rfl
theorem Wf.rigStoreComplete : Wf.Statement (.rigStoreComplete) := Wf.quiet rfl rfl
theorem Wf.rigLoad (q : Req) : Wf.Statement (.rigLoad q) := Wf.asked rfl rfl rfl
theorem Wf.rigDiscard (q : Req) : Wf.Statement (.rigDiscard q) := Wf.asked rfl rfl rfl
theorem Wf.pwSet (q : Req) : Wf.Statement (.pwSet q) := Wf.asked rfl rfl rfl
theorem Wf.pwRecover (q : Req) : Wf.Statement (.pwRecover q) := Wf.asked rfl rfl rfl
theorem Wf.pwRecoverTimeout : Wf.Statement (.pwRecoverTimeout) := Wf.quiet rfl rfl
theorem Wf.logFetch (q : Req) : Wf.Statement (.logFetch q) := Wf.asked rfl rfl rfl
theorem Wf.logAck (q : Req) : Wf.Statement (.logAck q) := Wf.asked rfl rfl rfl
theorem Wf.calWrite (q : Req) : Wf.Statement (.calWrite q) := Wf.asked rfl rfl rfl
theorem Wf.calClear (q : Req) : Wf.Statement (.calClear q) := Wf.asked rfl rfl rfl
theorem Wf.otpRead (q : Req) : Wf.Statement (.otpRead q) := Wf.asked rfl rfl rfl
theorem Wf.clearOccurrenceCounters (q : Req) : Wf.Statement (.clearOccurrenceCounters q) := Wf.asked rfl rfl rfl
theorem Wf.clearLinCounters (q : Req) : Wf.Statement (.clearLinCounters q) := Wf.asked rfl rfl rfl
theorem Wf.clearHalCounters (q : Req) : Wf.Statement (.clearHalCounters q) := Wf.asked rfl rfl rfl
theorem Wf.clearDpxCounters (q : Req) : Wf.Statement (.clearDpxCounters q) := Wf.asked rfl rfl rfl
theorem Wf.clearBgwCounters (q : Req) : Wf.Statement (.clearBgwCounters q) := Wf.asked rfl rfl rfl
theorem Wf.clearResyncCounter (q : Req) : Wf.Statement (.clearResyncCounter q) := Wf.asked rfl rfl rfl
theorem Wf.holdoffSet (q : Req) : Wf.Statement (.holdoffSet q) := Wf.asked rfl rfl rfl
theorem Wf.holdoffClear (q : Req) : Wf.Statement (.holdoffClear q) := Wf.asked rfl rfl rfl
theorem Wf.erasePulseEnd (done : Bool) : Wf.Statement (.erasePulseEnd done) := Wf.quiet rfl rfl
theorem Wf.scrubPassOverdue : Wf.Statement (.scrubPassOverdue) := Wf.quiet rfl rfl
theorem Wf.recomparisonOverdue : Wf.Statement (.recomparisonOverdue) := Wf.quiet rfl rfl
theorem Wf.backgroundJobOverdue (job : Nat) : Wf.Statement (.backgroundJobOverdue job) := Wf.quiet rfl rfl

end Sys2Proof.Laws
end

