-- ==== Sys2Proof/Laws/Safe.lean ====
section
/-! SUPPORT. What the entry into the safe state leaves (R345 to R348, Table FLT-4). -/
namespace Sys2Proof.Machine

/-- An output of a half in its safe state. -/
def Output.safed (o : Output) : Output :=
  { o.applyReq false false with reqHi := false, reqLo := false, gateHi := false, gateLo := false, pulse := none }

/-- What the entry of half `h` leaves of the rest, and what it makes of its own. -/
theorem Dev.safeHalf_spec (h : Half) (d : Dev) :
    (d.safeHalf h).straps = d.straps ∧ (d.safeHalf h).faults = d.faults ∧ (d.safeHalf h).lastCause = d.lastCause
    ∧ (d.safeHalf h).faultN = false ∧ (d.safeHalf h).hbeat = false ∧ (d.safeHalf h).inReset = d.inReset
    ∧ ((d.safeHalf h).mm = d.mm ∧ (d.safeHalf h).probe = d.probe)
    ∧ ((d.safeHalf h).node h = { d.node h with sys := .safe, safe := true, line := (d.node h).line.undriven })
    ∧ (∀ g, g ≠ h → (d.safeHalf h).node g = d.node g)
    ∧ ((d.safeHalf h).outputs = d.outputs.map fun o => if decide (d.halfOfOut o.id = h) then o.safed else o)
    ∧ ((d.safeHalf h).tps = d.tps.map fun t => if decide (d.halfOfSrc t.id = h) then { t with on := false } else t)
    ∧ ((d.safeHalf h).systems = d.systems.map fun x => if decide (d.halfOfSys x.id = h) then x.switchOff else x) := by
  have ne : ∀ (e : Dev), (∀ g, g ≠ h → e.node g = d.node g) ↔ (match h with | .a => e.nodeB = d.nodeB | .b => e.nodeA = d.nodeA) := by
    intro e
    cases h
    · exact ⟨fun H => H .b (by decide), fun H g n => by cases g with | a => exact absurd rfl n | b => exact H⟩
    · exact ⟨fun H => H .a (by decide), fun H g n => by cases g with | b => exact absurd rfl n | a => exact H⟩
  rw [ne]
  unfold Dev.safeHalf
  cases h <;> (dsimp only [Dev.setWorked]; split <;> split <;> split <;> exact ⟨rfl, rfl, rfl, rfl, rfl, rfl, ⟨rfl, rfl⟩, rfl, rfl, rfl, rfl, rfl⟩)
theorem Dev.safeHalf_straps (h : Half) (d : Dev) : (d.safeHalf h).straps = d.straps := (Dev.safeHalf_spec h d).1
theorem Dev.safeHalf_faults (h : Half) (d : Dev) : (d.safeHalf h).faults = d.faults := (Dev.safeHalf_spec h d).2.1
theorem Dev.safeHalf_lastCause (h : Half) (d : Dev) : (d.safeHalf h).lastCause = d.lastCause := (Dev.safeHalf_spec h d).2.2.1
theorem Dev.safeHalf_faultN (h : Half) (d : Dev) : (d.safeHalf h).faultN = false := (Dev.safeHalf_spec h d).2.2.2.1
theorem Dev.safeHalf_hbeat (h : Half) (d : Dev) : (d.safeHalf h).hbeat = false := (Dev.safeHalf_spec h d).2.2.2.2.1
theorem Dev.safeHalf_inReset (h : Half) (d : Dev) : (d.safeHalf h).inReset = d.inReset := (Dev.safeHalf_spec h d).2.2.2.2.2.1
theorem Dev.safeHalf_mm (h : Half) (d : Dev) : (d.safeHalf h).mm = d.mm := (Dev.safeHalf_spec h d).2.2.2.2.2.2.1.1
theorem Dev.safeHalf_probe (h : Half) (d : Dev) : (d.safeHalf h).probe = d.probe := (Dev.safeHalf_spec h d).2.2.2.2.2.2.1.2
theorem Dev.safeHalf_node (h : Half) (d : Dev) :
    (d.safeHalf h).node h = { d.node h with sys := .safe, safe := true, line := (d.node h).line.undriven } :=
  (Dev.safeHalf_spec h d).2.2.2.2.2.2.2.1
theorem Dev.safeHalf_node_ne {h g : Half} (ne : g ≠ h) (d : Dev) : (d.safeHalf h).node g = d.node g :=
  (Dev.safeHalf_spec h d).2.2.2.2.2.2.2.2.1 g ne
theorem Dev.safeHalf_outputs (h : Half) (d : Dev) :
    (d.safeHalf h).outputs = d.outputs.map fun o => if decide (d.halfOfOut o.id = h) then o.safed else o :=
  (Dev.safeHalf_spec h d).2.2.2.2.2.2.2.2.2.1
theorem Dev.safeHalf_tps (h : Half) (d : Dev) :
    (d.safeHalf h).tps = d.tps.map fun t => if decide (d.halfOfSrc t.id = h) then { t with on := false } else t :=
  (Dev.safeHalf_spec h d).2.2.2.2.2.2.2.2.2.2.1
theorem Dev.safeHalf_systems (h : Half) (d : Dev) :
    (d.safeHalf h).systems = d.systems.map fun x => if decide (d.halfOfSys x.id = h) then x.switchOff else x :=
  (Dev.safeHalf_spec h d).2.2.2.2.2.2.2.2.2.2.2

/-! ## Half numbering rests on the straps alone -/

theorem Dev.halfOf_congr {d e : Dev} (h : d.straps = e.straps) (i n : Nat) : d.halfOf i n = e.halfOf i n := by
  simp [Dev.halfOf, Dev.split, h]
theorem Dev.halves_congr {d e : Dev} (h : d.straps = e.straps) : d.halves = e.halves := by
  simp [Dev.halves, Dev.split, h]

theorem Dev.halfOfSys_congr {d e : Dev} (h : d.straps = e.straps) (p : d.probe = e.probe) (i : Nat) : d.halfOfSys i = e.halfOfSys i := by
  simp only [Dev.halfOfSys, p, Dev.halfOf_congr h]

theorem Sys.switchOff_mode (x : Sys) : x.switchOff.mode = .off ∨ x.switchOff.mode = .discharge := by
  unfold Sys.switchOff; split <;> simp_all
theorem Sys.switchOff_id (x : Sys) : x.switchOff.id = x.id := by
  unfold Sys.switchOff; split <;> rfl

/-- The half that enters its safe state is held as Table FLT-4 says. -/
theorem Dev.safeHalf_held (h : Half) (d : Dev) : (d.safeHalf h).Held h := by
  have hs := Dev.safeHalf_straps h d
  refine ⟨by rw [safeHalf_node], by rw [safeHalf_node], ?_, ?_, ?_⟩
  · intro o ho e
    rw [safeHalf_outputs, List.mem_map] at ho
    obtain ⟨a, -, rfl⟩ := ho
    have e' : d.halfOfOut a.id = h := by
      rw [← e]; unfold Dev.halfOfOut; rw [Dev.halfOf_congr hs]; split <;> rfl
    simp [e', Output.safed, Output.applyReq]
  · intro t ht e
    rw [safeHalf_tps, List.mem_map] at ht
    obtain ⟨a, -, rfl⟩ := ht
    have e' : d.halfOfSrc a.id = h := by
      rw [← e]; unfold Dev.halfOfSrc; rw [Dev.halfOf_congr hs]; split <;> rfl
    simp [e']
  · intro x hx e
    rw [safeHalf_systems, List.mem_map] at hx
    obtain ⟨a, -, rfl⟩ := hx
    have e' : d.halfOfSys a.id = h := by
      rw [← e, Dev.halfOfSys_congr hs (Dev.safeHalf_probe h d)]; split <;> simp [Sys.switchOff_id]
    simpa [e'] using Sys.switchOff_mode a

/-- A half that is held stays so when another enters its safe state. -/
theorem Dev.safeHalf_keeps_held {h g : Half} (ne : g ≠ h) (d : Dev) (H : d.Held g) : (d.safeHalf h).Held g := by
  have hs := Dev.safeHalf_straps h d
  obtain ⟨h1, h2, h3, h4, h5⟩ := H
  refine ⟨by rw [safeHalf_node_ne ne]; exact h1, by rw [safeHalf_node_ne ne]; exact h2, ?_, ?_, ?_⟩
  · intro o ho e
    rw [safeHalf_outputs, List.mem_map] at ho
    obtain ⟨a, ha, rfl⟩ := ho
    split
    · simp [Output.safed, Output.applyReq]
    · rename_i hn
      rw [if_neg hn] at e
      exact h3 a ha (by rw [← e]; unfold Dev.halfOfOut; rw [Dev.halfOf_congr hs])
  · intro t ht e
    rw [safeHalf_tps, List.mem_map] at ht
    obtain ⟨a, ha, rfl⟩ := ht
    split
    · rfl
    · rename_i hn
      rw [if_neg hn] at e
      exact h4 a ha (by rw [← e]; unfold Dev.halfOfSrc; rw [Dev.halfOf_congr hs])
  · intro x hx e
    rw [safeHalf_systems, List.mem_map] at hx
    obtain ⟨a, ha, rfl⟩ := hx
    split
    · exact Sys.switchOff_mode a
    · rename_i hn
      rw [if_neg hn] at e
      exact h5 a ha (by rw [← e, Dev.halfOfSys_congr hs (Dev.safeHalf_probe h d)])

/-! ## Entry for every running half -/

/-- What a step of the entry does with one half. -/
def Dev.safeStep (d : Dev) (h : Half) : Dev := if (d.node h).safe then d else d.safeHalf h

theorem Dev.safeStep_live {d : Dev} {h : Half} (e : (d.node h).safe = false) : d.safeStep h = d.safeHalf h := by
  unfold Dev.safeStep; rw [if_neg (by rw [e]; decide)]

/-- The device that the entry starts its halves from. -/
def Dev.safeBase (code cyc : Nat) (d : Dev) : Dev :=
  let key : FaultKey := { code, kind := .device, obj := 0 }
  let fresh := !d.faults.active.any (FaultKey.same key)
  let f := { d.faults with
    active := if fresh then key :: d.faults.active else d.faults.active
    occ := bumpOcc code d.faults.occ }
  let f := if fresh then f.push { key } d.frame (dtOf (d.stamp cyc)) else f
  let already := d.halves.all fun h => (d.node h).safe
  { d with
    faults := f
    lastCause := LastCause.record { code, half := if !d.split then 0 else 3, frame := d.frame, dt := dtOf (d.stamp cyc), cyc } d.lastCause already
    shut := d.shut.filter fun r => !d.halves.contains (d.halfOfPort r.port) }

theorem Dev.safeAll_eq (code cyc : Nat) (d : Dev) : d.safeAll code cyc = d.halves.foldl Dev.safeStep (d.safeBase code cyc) := by
  unfold Dev.safeAll Dev.enterSafe Dev.safeBase Dev.halves
  cases hsp : d.split <;> rfl

/-- A live device enters the safe state whole. -/
theorem Dev.safeAll_entered (code cyc : Nat) (d : Dev) (live : d.AllLive) : (d.safeAll code cyc).EnteredSafe code cyc d := by
  have hb : (d.safeBase code cyc).straps = d.straps := rfl
  have hn : ∀ h, (d.safeBase code cyc).node h = d.node h := fun h => by cases h <;> rfl
  have act : (d.safeBase code cyc).codeActive code = true := by
    unfold Dev.codeActive Dev.safeBase
    dsimp only
    cases hf : d.faults.active.any (FaultKey.same { code, kind := .device, obj := 0 }) with
    | false => simp [Faults.push]
    | true =>
      simp only [Bool.not_true, Bool.false_eq_true, if_false]
      rw [List.any_eq_true] at hf ⊢
      obtain ⟨x, hx, e⟩ := hf
      exact ⟨x, hx, by have := (FaultKey.same_iff _ _).mp e; simp [this.1.symm]⟩
  have lc : (d.safeBase code cyc).lastCause.code = code ∧ (d.safeBase code cyc).lastCause.frame = d.frame
      ∧ (d.safeBase code cyc).lastCause.dt = dtOf (d.stamp cyc) := by
    have : (d.halves.all fun h => (d.node h).safe) = false := by
      unfold Dev.AllLive Dev.halves at live
      unfold Dev.halves
      cases hsp : d.split <;> simp_all
    simp [Dev.safeBase, this, LastCause.record]
  rw [Dev.safeAll_eq]
  unfold Dev.EnteredSafe
  cases hsp : d.split with
  | false =>
    have hh : d.halves = [.a] := by simp [Dev.halves, hsp]
    have la : (d.node .a).safe = false := live _ (by simp [hh])
    have e : d.halves.foldl Dev.safeStep (d.safeBase code cyc) = (d.safeBase code cyc).safeHalf .a := by
      rw [hh]; exact Dev.safeStep_live (by rw [hn]; exact la)
    rw [e, Dev.halves_congr (Dev.safeHalf_straps _ _), Dev.halves_congr hb, hh]
    refine ⟨?_, ?_, Dev.safeHalf_faultN _ _, Dev.safeHalf_hbeat _ _, ?_⟩
    · intro h m; simp at m; subst m; exact Dev.safeHalf_held _ _
    · unfold Dev.codeActive; rw [Dev.safeHalf_faults]; exact act
    · rw [Dev.safeHalf_lastCause]; exact lc
  | true =>
    have hh : d.halves = [.a, .b] := by simp [Dev.halves, hsp]
    have la : (d.node .a).safe = false := live _ (by simp [hh])
    have lb : (d.node .b).safe = false := live _ (by simp [hh])
    have e : d.halves.foldl Dev.safeStep (d.safeBase code cyc) = ((d.safeBase code cyc).safeHalf .a).safeHalf .b := by
      rw [hh]
      show ((d.safeBase code cyc).safeStep .a).safeStep .b = _
      have e1 : (d.safeBase code cyc).safeStep .a = (d.safeBase code cyc).safeHalf .a := Dev.safeStep_live (by rw [hn]; exact la)
      rw [e1]
      exact Dev.safeStep_live (by rw [Dev.safeHalf_node_ne (by decide), hn]; exact lb)
    rw [e, Dev.halves_congr (Dev.safeHalf_straps _ _), Dev.halves_congr (Dev.safeHalf_straps _ _), Dev.halves_congr hb, hh]
    refine ⟨?_, ?_, Dev.safeHalf_faultN _ _, Dev.safeHalf_hbeat _ _, ?_⟩
    · intro h m
      cases h with
      | a => exact Dev.safeHalf_keeps_held (by decide) _ (Dev.safeHalf_held _ _)
      | b => exact Dev.safeHalf_held _ _
    · unfold Dev.codeActive; rw [Dev.safeHalf_faults, Dev.safeHalf_faults]; exact act
    · rw [Dev.safeHalf_lastCause, Dev.safeHalf_lastCause]; exact lc

end Sys2Proof.Machine
end

