-- ==== Sys2Proof/Tests/Slice0.lean ====
section
/-! SUPPORT. Tests: ill-formed commands that the check refuses, single steps against the spec's own numbers, and for each
statement with premises a state that meets them. -/
namespace Sys2Proof.Tests
open Sys2Proof Sys2Proof.Machine

/-! ## States for the tests -/

/-- A rig without a record. -/
def tRig : Rig := {}

/-- A device in service: straps latched as mission mode, a rig active, the claim running. -/
def tDev : Dev :=
  { Dev.blank with
    inReset := false, resetN := true, straps := { done := true }, nodeA := { sys := .operational, phase := .done }
    rig := { active := some tRig }, dpx := { role := .solo, claim := true }, tpsRun := true, bgw := {} }
def tOf (f : Dev → Dev) : State := { State.reset with dev := f tDev }
def tLive : State := tOf id
def tSafe : State := tOf fun d => { d with nodeA := { sys := .safe, safe := true } }
def tHeld : State := { State.reset with dev := { Dev.blank with resetN := true } }
def tBoot : State := tOf fun d => { d with straps := {}, nodeA := {}, rig := {} }
def tBoard : State := tOf fun d => { d with boardTest := true, nodeA := { sys := .boardTest } }
def tWork : State := tOf fun d => { d with codePos := 0, workDone := true }
def tSys (x : Sys) : State := tOf fun d => { d with systems := d.systems.set x.id x }
def tPoint (p : Point) : State :=
  tOf fun d => { d with systems := d.systems.map fun x => { x with usable := true }, nodeA := { d.nodeA with points := [p] } }
def tSect (x : Sect) : State := tOf fun d => { d with nodeA := { d.nodeA with sections := [x] } }
def tOut (o : Output) : State := tOf fun d => { d with outputs := d.outputs.set o.id o }
def tOut2 (o p : Output) : State := tOf fun d => { d with outputs := (d.outputs.set o.id o).set p.id p }
def tInp (us : Nat) (x : Input) : State := tOf fun d => { d with inputs := d.inputs.set x.id x, dt := BitVec.ofNat 48 us }

/-- A line node of address 2 on a line whose master is `master`. -/
def tLinePart (master : Nat) : RigPart :=
  { node := { val := { address := 2 } }, line := some { val := { master, reef := true } }
    schedule := some { val := { nodes := [(2, 0), (3, 0)]
                                slots := [{ owner := master, kind := .beacon, lclass := 32 }, { owner := 2, lclass := 64, offset := 1000 },
                                          { owner := 3, lclass := 64, offset := 2000 }] } } }
def tLineOn (master : Nat) (f : LineNode → LineNode) : State :=
  tOf fun d => { d with rig := { active := some { partA := tLinePart master } }, nodeA := { d.nodeA with line := f d.nodeA.line } }
def tLineWith : (LineNode → LineNode) → State := tLineOn 2
def tLine : State := tLineWith id
def tSlave : State := tLineOn 3 id

/-- A unit of a duplex pair at position 0, 3 ms after the release. -/
def tPair (f : Dpx → Dpx) : State :=
  tOf fun d => { d with rig := { active := some { partA := { duplex := some { val := {} } } } }, dpx := f {}, dt := 3000 }

/-- A stack master of two devices; a halyard member at position 1. -/
def tStack (f : HMember → HMember) : State :=
  tOf fun d => { d with rig := { active := some { partA := { stack := some { val := 2 } } } }, hal := { members := (List.replicate 7 {}).modify 0 f } }
def tMember (f : Hal → Hal) : State := tOf fun d => { d with straps := { done := true, latched := 1 }, hal := f {} }

/-- A start-up phase, long after the release of the internal reset. -/
def tPhase (ph : BootPhase) (st : SysState) : State :=
  tOf fun d => { d with rig := {}, dpx := {}, nodeA := { sys := st, phase := ph, joinFrame := -999 } }
def tShut (r : ShutdownRun) : State := tOf fun d => { d with shut := some r }
def tPort (f : Port → Port) : State := tOf fun d => { d with port0 := f d.port0 }
def tRigs (f : RigMgr → RigMgr) : State :=
  tOf fun d => { d with rig := f { active := some tRig }, port0 := { session := some { operator := 7 } } }

/-- The device after one step of `c` at the front of the queue. -/
def after (c : Instr) (s : State) (f : Dev → Bool) : Bool :=
  match step { s with pending := [c] } with | .next t => f t.dev | _ => false

/-! ## Ill-formed commands are refused -/

theorem test_wf_cycle_of_a_brown_out : (Instr.vsupBrownOut 48096).wf = false ∧ (Instr.vsupBrownOut 48095).wf = true := by decide
theorem test_wf_strap_samples : (Instr.strapLatch [[0, 0]]).wf = false ∧ (Instr.strapLatch [List.replicate 8 0]).wf = true := by decide
theorem test_wf_strap_attempts : (Instr.strapLatch (List.replicate 4 (List.replicate 8 0))).wf = false
    ∧ (Instr.strapLatch [[0, 0, 0, 0, 0, 0, 0, 1]]).wf = false ∧ (Instr.strapLatch [List.replicate 8 0, List.replicate 8 0]).wf = false := by decide
theorem test_wf_code_of_12_bits : (Instr.frameBoundary { refCode := 4096 } 0).wf = false ∧ (Instr.frameBoundary { readback := [4096] } 0).wf = false := by decide
theorem test_wf_two_dacs_read_back : (Instr.frameBoundary { readback := [1, 2, 3] } 0).wf = false := by decide
theorem test_wf_sample_in_its_frame : (Instr.frameBoundary { systems := [{ sys := 0, samples := [{ off := 501 }] }] } 0).wf = false := by decide
/-- R68: every system is held at the same instants. -/
theorem test_wf_hold_instants :
    (Instr.frameBoundary { systems := [{ sys := 0, samples := [{ off := 16 }] }, { sys := 1, samples := [{ off := 32 }] }] } 0).wf = false := by decide
theorem test_wf_system_of_an_observation : (Instr.frameBoundary { systems := [{ sys := 33 }] } 0).wf = false := by decide
theorem test_wf_cycle_of_a_word_error : (Instr.frameWork { sramBad := some (48096, true) }).wf = false := by decide
theorem test_wf_slack_cycles : (Instr.backgroundSlack { cycles := 48096 }).wf = false := by decide
theorem test_wf_window_code : (Instr.windowFaultRecovery 0 0x3A).wf = false ∧ (Instr.windowFaultRecovery 0 0x39).wf = true := by decide
theorem test_wf_point_index : (Instr.pointRecovery .a 1024).wf = false ∧ (Instr.classifierVerdict .a 1024 [] [] 0).wf = false := by decide
theorem test_wf_section_index : (Instr.verdictOverdue .a 512).wf = false := by decide
theorem test_wf_pulse_nodes : (Instr.offPulseStart 0 false [] [] true).wf = false := by decide
theorem test_wf_slot_number : (Instr.slotStart .a 4096 {} 0).wf = false ∧ (Instr.slotStart .a 4095 {} 0).wf = true := by decide
theorem test_wf_line_code : (Instr.lineFaultRecovery .a 0x67 .a).wf = false := by decide
theorem test_wf_copy_toggles : (Instr.invalidCopy .a .a { main := List.replicate 4097 0 }).wf = false := by
  simp only [Instr.wf, Copy.ok, waveOk, List.length_replicate]; decide
theorem test_wf_wake_toggles : (Instr.wakeDetected .a [] (List.replicate 4097 0) 0).wf = false := by
  simp only [Instr.wf, waveOk, List.length_replicate]; decide
theorem test_wf_telegram_code : (Instr.telegramFaultRecovery .a 0x6D .a).wf = false := by decide
theorem test_wf_unit_position : (Instr.hello { position := 2 }).wf = false ∧ (Instr.joinReq { pos := 8 }).wf = false := by decide
/-- Table DPX-3: a payload of at most 1 200 bytes, between header and CRC. -/
theorem test_wf_record_bytes : (Instr.twinRecord (List.replicate 1215 0) 0).wf = false ∧ (Instr.invalidTwinMessage (List.replicate 4097 0)).wf = false := by
  simp only [Instr.wf, List.length_replicate]; decide
theorem test_wf_duplex_code : (Instr.duplexFaultRecovery 0x71 0).wf = false := by decide
theorem test_wf_bulk_block : (Instr.bulk 0 true (List.replicate 3073 0) false).wf = false := by
  simp only [Instr.wf, List.length_replicate]; decide
theorem test_wf_store_copies : (Instr.otpLoad { badCopies := [6] }).wf = false := by decide
theorem test_wf_self_test_results : (Instr.memoryTest [true] true true).wf = false ∧ (Instr.frontEndTest [] 0 0 true).wf = false
    ∧ (Instr.lockstepComparatorTest [] false).wf = false ∧ (Instr.supplySweep [{}]).wf = false := by decide
theorem test_wf_request_fields : (Instr.nop { tag := 64 }).wf = false ∧ (Instr.nop { index := 65536 }).wf = false ∧ (Instr.nop { cyc := 48096 }).wf = false := by decide
theorem test_wf_request_bytes : (Instr.requestRejected 0 []).wf = false := by decide

/-! ## The spec's own numbers -/

def digits : List Byte := [0x31, 0x32, 0x33, 0x34, 0x35, 0x36, 0x37, 0x38, 0x39]

set_option maxRecDepth 20000 in
/-- R277. -/
theorem test_crc16_check_value : crc16 digits = 0x29B1 := rfl
set_option maxRecDepth 20000 in
/-- Table TEL-2a, SC1 and SC2. -/
theorem test_crc32_check_values : crc32c digits = 0xE3069283 ∧ crc32Keyed 0 (digits.map (~~~ ·)) = 0xCBF43926 := ⟨rfl, rfl⟩
/-- R14: OUT_PHASE of frames 0 and 2 005. -/
theorem test_phase_wraps_at_a_second : phase 0 = 0 ∧ phase 2005 = 5 := by decide

/-! ## Single steps -/

/-- R26: the release starts BOOT at device time 0. -/
theorem test_release_enters_boot : after (.internalResetRelease {}) tHeld (fun d => !d.inReset && decide (d.nodeA.sys = .boot) && d.dt = 0) = true := by decide
/-- R11: a boundary adds one frame and 500 ticks. -/
theorem test_boundary_adds_500_ticks :
    after (.frameBoundary {} 0) tLive (fun d => decide (d.frame = 1) && decide (d.dt = 500) && d.codePos == 1) = true := by decide
/-- R12: a tick outside 900 ns to 1 100 ns. -/
theorem test_slow_tick_is_safe : after (.frameBoundary { tickNs := 1101 } 0) tLive (fun d => d.nodeA.safe && d.lastCause.code == 0x14) = true := by decide
/-- Table HST-4: CQ_EMPTY. -/
theorem test_empty_queue_answers_cq_empty : after (.cqPop {}) tLive (fun d => d.port0.resp.code == 2) = true := by decide
/-- R290: the third CRC error in a row is violation 1. -/
theorem test_third_crc_error_freezes : after (.hostTransactionCut 0) (tPort fun x => { x with crcRun := 2 }) (fun d => d.port0.frozen && d.port0.lastViol == 1) = true := by decide
/-- R290: a protected register without a session is violation 2. -/
theorem test_write_without_session_freezes : after (.clearLinCounters {}) tLive (fun d => d.port0.frozen && d.port0.lastViol == 2) = true := by decide
/-- R305: the other port owns the staging buffer. -/
theorem test_begin_of_the_other_port_is_denied :
    after (.rigBegin { data := 9 }) (tRigs fun g => { g with staged := true, owner := some 1, stagedSerial := 4 })
      (fun d => decide (d.rig.stagedSerial = 4) && d.done.any (fun c => decide (c.2.status = .denied))) = true := by decide
/-- R39, Table HED-1: an overload opens the line at once for a DISCHARGE of 50 ms. -/
theorem test_overload_opens_the_line : after (.hsupOverload 4) (tSys { id := 4, defd := true, mode := .on }) (fun d => decide ((d.sys 4).mode = .discharge) && (d.sys 4).dischLeft == 100) = true := by decide
/-- R216: three valid pairs in a row are no claim, the fourth is. -/
theorem test_fourth_pair_is_a_claim :
    after (.shroudValidPair 4800) (tPair fun x => { x with pairRun := 3, pairRef := 288000 }) (fun d => d.dpx.pclaim) = true
    ∧ after (.shroudValidPair 4800) (tPair fun x => { x with pairRun := 2, pairRef := 288000 }) (fun d => d.dpx.pclaim) = false := by decide
/-- R251: the second exchange without an UP makes a member ABSENT with 0x80. -/
theorem test_second_missed_up_is_absence :
    after .halyardExchangeClose (tStack fun x => { x with state := .present, miss := 1 }) (fun d => decide ((d.member 1).state = .absent) && d.codeActive 0x80) = true := by decide
/-- R91: 200 frames of recovery; a point with one frame less stays DISTURBED. -/
theorem test_recovery_needs_200_frames :
    after (.pointRecovery .a 3) (tPoint { cfg := { index := 3 }, state := .disturbed, recover := 199 }) (fun d => d.nodeA.points.all fun p => decide (p.state = .disturbed)) = true := by decide
/-- R348: of two causes in one cycle the lower code stays. -/
theorem test_lowest_code_of_a_cycle :
    after (.vioBrownOut 5) (tOf fun d => (d.safeAll 0x15 5)) (fun d => d.lastCause.code == 0x11)
    && after (.vioBrownOut 6) (tOf fun d => (d.safeAll 0x15 5)) (fun d => d.lastCause.code == 0x15) = true := by decide
/-- R320: a region filled to its end gives up its oldest page, and the current copies it held go forward first. -/
theorem test_full_store_region_gives_up_a_page :
    ({ written := 16384, erased := 0, starts := [0, 1152, 16320] } : StoreRegion).append 2
      = ({ written := 17728, erased := 2048, starts := [16384, 17536, 17664] }, [0]) := by decide
/-- R132, R272: a fault of the other half does not end a half's SHUTDOWN. -/
theorem test_shutdown_of_the_other_half_stays :
    (((tOf fun d => { d with straps := { d.straps with latched := 8 }, shut := some { port := 0 } }).dev.safeOf 0x23 .b 0).shut.isSome
      && !((tOf fun d => { d with straps := { d.straps with latched := 8 }, shut := some { port := 0 } }).dev.safeOf 0x23 .a 0).shut.isSome) = true := by decide

/-! ## States that meet the premises of the statements

One theorem for the clauses of a statement, with the states, operands and boundary values that meet each of them. -/

/-- 20 ms after the release, in frame 40, so that stamps and ages lie on either side of their limits. -/
def tLater (f : Dev → Dev) : State := tOf fun d => f { d with dt := 20000, frame := 40 }
def tS4 (x : Sys) : State := tLater fun d => { d with systems := d.systems.set 4 { x with id := 4 } }

theorem witness_StepRunsFrontCommand : State.reset.pending = [] := rfl
theorem witness_StepKeepsStoresCanonical : State.StoresCanonical { State.reset with flash := [(3, 1)], staging := [(0, 7)] } := by
  decide
theorem witness_SafeStateEndsOnlyByInternalReset : State.SafeHeld tSafe := by decide
theorem witness_InternalResetClearsAllButTheStores : tLive.dev.inReset = false ∧ State.reset.dev.inReset = true := ⟨rfl, rfl⟩
theorem witness_ReleaseStartsTimeAtZero :
    let r : RailObs := { resetUs := 10, vsupUs := 1000, vioMv := 1661, vfld := 3600 }
    let hot := { tHeld with dev := { tHeld.dev with vfldOver := true } }
    tHeld.dev.inReset = true ∧ tHeld.dev.resetN = true ∧ 10 ≤ r.resetUs ∧ 1000 ≤ r.vsupUs ∧ 1660 < r.vioMv ∧ r.pllLocked = true
    ∧ hot.dev.inReset = true ∧ hot.dev.resetN = true ∧ hot.dev.vfldOver = true ∧ r.vfld ≤ 3600 ∧ 3600 < ({ vfld := 3601 } : RailObs).vfld
    ∧ ({ resetUs := 9 } : RailObs).resetUs < 10 ∧ ({ vsupUs := 999 } : RailObs).vsupUs < 1000 ∧ ({ vioMv := 1660 } : RailObs).vioMv ≤ 1660
    ∧ State.reset.dev.resetN = false ∧ tLive.dev.inReset = false := by decide
theorem witness_SupervisorsLatchTheSafeState : tLive.dev.inReset = false ∧ tLive.dev.AllLive ∧ tLive.dev.straps.done = true
    ∧ tLive.dev.boardTest = false ∧ tLive.dev.split = false ∧ CoreField.regData.differs 1 1 = true ∧ CoreField.regData.differs 1 (~~~1) = false := by decide
theorem witness_FieldUndervoltageDisturbsAndRecovers :
    let s := tOf fun d => { d with vfldUnder := true, vfldLow := -200 }
    let r := tOf fun d => { d with vfldUnder := true, vfldLow := -199 }
    s.dev.inReset = false ∧ s.dev.allSafe = false ∧ s.dev.vfldUnder = true ∧ 200 ≤ since s.dev.frame s.dev.vfldLow
    ∧ r.dev.allSafe = false ∧ since r.dev.frame r.dev.vfldLow < 200 ∧ tLive.dev.allSafe = false := by decide
theorem witness_StrapsLatchOnceAndByTheirValue : tBoot.dev.inReset = false ∧ tBoot.dev.straps.done = false ∧ tBoot.dev.nodeA.sys = .boot
    ∧ tBoot.dev.nodeA.safe = false ∧ tBoot.dev.nodeB.safe = false ∧ tBoot.dev.AllLive ∧ (∀ v : Byte, [0, 0, 0, 0, 0, 0, 0, 1] ≠ List.replicate 8 v)
    ∧ strapConflict 3 false = false ∧ strapConflict 9 false = true ∧ (0x80 : Byte).getLsbD 7 = true := by decide
theorem witness_StrapRereadAndTestAccessOnlyReport : tLive.dev.inReset = false ∧ tLive.dev.straps.done = true ∧ tLive.dev.boardTest = false
    ∧ (1 : Byte).toNat % 128 ≠ tLive.dev.straps.latched.toNat % 128 ∧ (128 : Byte).toNat % 128 = tLive.dev.straps.latched.toNat % 128
    ∧ tBoard.dev.inReset = false ∧ tBoard.dev.boardTest = true := by decide
theorem witness_SupplyCodePattern : ({ tDev with offPulse := true } : Dev).offPulse = true ∧ ({ mode := .discharge } : Sys).mode ≠ .on ∧ ({ mode := .discharge } : Sys).mode ≠ .chip := by decide
theorem witness_ChipFrameBlanksAndPulsesTheAppliedLines :
    let s := tOf fun d => { d with codeA := true, systems := d.systems.set 0 { id := 0, defd := true, mode := .on } }
    s.dev.inReset = false ∧ s.dev.applied (s.dev.sys 0) = true ∧ s.dev.applied (s.dev.sys 1) = false := by decide
theorem witness_LineOverloadDischargeAndRetry :
    let on := tS4 { defd := true, mode := .on, retrying := true, retryFrame := -19960 }
    let dis := tS4 { mode := .discharge, pendOn := true }
    let early := tS4 { retrying := true, retryFrame := -19959 }
    let off := tS4 { defd := true, retrying := true, retryFrame := -19960 }
    on.dev.inReset = false ∧ (on.dev.sys 4).mode ≠ .off ∧ (on.dev.sys 4).mode ≠ .discharge ∧ 20000 ≤ since on.dev.frame (on.dev.sys 4).retryFrame
    ∧ (dis.dev.sys 4).mode = .discharge ∧ (dis.dev.sys 4).dischLeft = 0 ∧ (dis.dev.sys 4).pendOn = true ∧ dis.dev.supplies (dis.dev.halfOfSys 4) = true
    ∧ (early.dev.sys 4).retrying = true ∧ since early.dev.frame (early.dev.sys 4).retryFrame < 20000
    ∧ (off.dev.sys 4).mode = .off ∧ (off.dev.sys 4).defd = true ∧ (off.dev.sys 4).holdoff = false ∧ off.dev.supplies (off.dev.halfOfSys 4) = true := by decide
theorem witness_ComparatorEdgeReportsOrIsMasked :
    let s := tS4 { defd := true, cOcc := { reported := some false }, captured := 15 }
    let full := tS4 { defd := true, cOcc := { reported := some false }, captured := 16 }
    let masked := tS4 { defd := true, cOcc := { reported := some false, ebUntil := 1920100 } }
    s.dev.inReset = false ∧ 4 < s.dev.systems.length ∧ (s.dev.sys 4).defd = true ∧ (s.dev.sys 4).cOcc.reported ≠ none ∧ (s.dev.sys 4).cOcc.live ≠ true
    ∧ (s.dev.sys 4).masked .occ 1920000 = false ∧ (s.dev.sys 4).awaits .occ 1920000 = false ∧ (s.dev.sys 4).captured < 16 ∧ ¬ (full.dev.sys 4).captured < 16
    ∧ (masked.dev.sys 4).masked .occ 1920100 = true ∧ (masked.dev.sys 4).awaits .occ 1920101 = true
    ∧ (s.dev.sys 5).defd = false ∧ (s.dev.sys 5).cOcc.live = false ∧ (s.dev.sys 32).cOcc.reported = some false := by decide
theorem witness_MaskEndResamplesTheLiveLevel :
    let b := tS4 { cOcc := { reported := some false, live := true, masked := 1, earliest := 1919000, ebUntil := 1920000 }, cOpen := { reported := some false, ebUntil := 5 } }
    let m := tS4 { cOcc := { reported := some false, ebUntil := 1920000 }, sched := true, schedUntil := 1920200 }
    let w := tS4 { cOcc := { reported := some false, live := true }, cOpen := { reported := some false }, cShort := { reported := some false }, rwUntil := 1920000, sched := true, schedUntil := 1920000 }
    (b.dev.sys 4).captured < 16 ∧ (b.dev.sys 4).cOcc.reported ≠ some (b.dev.sys 4).cOcc.live ∧ (b.dev.sys 4).cOcc.ebUntil ≠ 0 ∧ (b.dev.sys 4).cOcc.ebUntil < 1920001
    ∧ (b.dev.sys 4).maskedSched 1920001 = false ∧ (b.dev.sys 4).maskedRw 1920001 = false ∧ (b.dev.sys 4).cOpen.reported = some (b.dev.sys 4).cOpen.live
    ∧ (b.dev.sys 4).cOpen.ebUntil ≠ 0 ∧ (m.dev.sys 4).maskedSched 1920001 = true
    ∧ (w.dev.sys 4).cOpen.reported = some (w.dev.sys 4).cOpen.live ∧ (w.dev.sys 4).cShort.reported = some (w.dev.sys 4).cShort.live
    ∧ (w.dev.sys 4).cOcc.reported ≠ some (w.dev.sys 4).cOcc.live ∧ (w.dev.sys 4).cOcc.ebUntil = 0 ∧ (w.dev.sys 4).rwUntil < 1920001 ∧ (w.dev.sys 4).schedUntil < 1920001 := by decide
theorem witness_BandTimeoutsAndFieldRecoveries :
    let s := tS4 { defd := true, node := .high, cOpen := { onFrom := some 1824000 }, cShort := { onFrom := some 1824000 }, baseGood := 20000, rbOpen := 4, rbOcc := 4, rbShort := 4, quietFrames := 200, disClean := 128, noOpenFrames := 200, noShortFrames := 199 }
    s.Runs (s.dev.halfOfSys 4) ∧ (s.dev.sys 4).cOpen.onDone = false ∧ 96000 ≤ (s.dev.sys 4).cOpen.runAt 1920000 ∧ ¬ 96000 ≤ (s.dev.sys 4).cOpen.runAt 1919999
    ∧ (s.dev.sys 4).node = .high ∧ 96000 ≤ (s.dev.sys 4).cShort.runAt 1920000 ∧ 200 ≤ (s.dev.sys 4).noOpenFrames ∧ ¬ 200 ≤ (s.dev.sys 4).noShortFrames
    ∧ 20000 ≤ (s.dev.sys 4).baseGood ∧ (s.dev.sys 5).defd = false ∧ s.Runs (s.dev.halfOfSys 32) ∧ (s.dev.sys 32).id = 32 := by decide
theorem witness_BandExcursionEndMergesOrCountsIt :
    let s := tS4 { exc := some { start := 100, release := some 1918080 } }
    let r := tS4 { exc := some { start := 100, before := true } }
    s.Runs (s.dev.halfOfSys 4) ∧ (s.dev.sys 4).exc = some { start := 100, release := some 1918080 } ∧ ¬ s.dev.dt.toNat * 96 + 0 < 1918080 + 1920
    ∧ (s.dev.sys 4).occ = false ∧ (r.dev.sys 4).exc = some { start := 100, before := true } ∧ (r.dev.sys 4).occ ≠ true := by decide
theorem witness_CodePeriodEndClosesTheObservedSets : tWork.dev.inReset = false ∧ tWork.dev.codePos = 0 ∧ tWork.dev.allSafe = false
    ∧ (∀ h ∈ tWork.dev.halves, (tWork.dev.node h).safe = false → tWork.dev.worked h = true) ∧ tSafe.dev.allSafe = true
    ∧ (∃ h ∈ tLive.dev.halves, (tLive.dev.node h).safe = false ∧ tLive.dev.worked h = false) := by decide
theorem witness_VerdictsFollowTheFeatures : Feature.outside ∈ [Feature.outside] ∧ Feature.outside ∉ [Feature.none] ∧ (∃ f ∈ [Feature.none], f ≠ Feature.inside)
    ∧ Verdict.uncertain ≠ .nonWheel ∧ ¬ (Verdict.wheel = .wheel ∧ Verdict.uncertain = .wheel) := by decide
/-- t_v lies 2 000 µs after the later release, in frame 40 at its first cycle. -/
theorem witness_ClassifierVerdictEntersTheCaptureSet :
    let w : Wait := { offA := 1728000, offB := 1700000, numbered := true }
    let s := tLater fun d => { (tPoint { cfg := { index := 3 }, waits := [{ offA := 1727999 }, w] }).dev with dt := 20000, frame := 40, log := d.log }
    s.Runs .a ∧ s.dev.ownPoint .a 3 = some { cfg := { index := 3 }, waits := [{ offA := 1727999 }, w] } ∧ s.dev.runsPoint { index := 3 } = true
    ∧ [({ offA := 1727999 } : Wait), w].find? (s.dev.verdictDue 0) = some w ∧ s.dev.ownPoint .a 4 = none := by decide
theorem witness_PointsRecoverAndReportOffline :
    let s := tPoint { cfg := { index := 3 }, state := .disturbed, recover := 200 }
    let f := fun (n : Word) => { tPoint { cfg := { index := 3, kind := .remote }, state := .offline } with
      dev := { (tPoint { cfg := { index := 3, kind := .remote }, state := .offline }).dev with rig := { actFrame := n } } }
    s.Runs .a ∧ s.dev.ownPoint .a 3 = some { cfg := { index := 3 }, state := .disturbed, recover := 200 }
    ∧ s.dev.runsPoint { index := 3 } = true ∧ s.dev.pointCause { index := 3 } = false
    ∧ (f (-1000)).Runs .a ∧ ((f (-1000)).dev.node .a).point 3 = some { cfg := { index := 3, kind := .remote }, state := .offline }
    ∧ 1000 ≤ since (f (-1000)).dev.frame (f (-1000)).dev.rig.actFrame ∧ ¬ 1000 ≤ since (f (-999)).dev.frame (f (-999)).dev.rig.actFrame := by decide
theorem witness_CompletedCrossingsAloneGiveEvents :
    ({} : Point).pas = {} ∧ Side.A ≠ .B ∧ tooFast {} 672000 = false ∧ tooFast {} 86015 = true ∧ tooFast {} 86016 = false
    ∧ ({ pas := { last := some { side := .A, hi := 7 } } } : Point).pas.last = some { side := .A, hi := 7 } ∧ (7 : Nat) ≤ 7 := by decide
theorem witness_EventsMoveTheCountOfTheirSections :
    ({ bounds := [(3, false)] } : Sect).bounds = (({ point := 3 } : AxleEvt).point, false) :: [] ∧ (∀ b ∈ ({ bounds := [(3, false)] } : Sect).bounds, b.1 ≠ 4)
    ∧ (-32768 : Int) ≤ ({ count := 32767 } : Sect).count ∧ ({ count := 32767 } : Sect).count ≤ 32767 := by decide
theorem witness_ASectionClearsOnlyOnZeroAndWheel : ({ state := .occupied } : Sect).state ≠ .clear
    ∧ (({ state := .occupied } : Sect).transit false false false).state = .clear
    ∧ (({ state := .clear, count := 1 } : Sect).transit false true false).state = .occupied
    ∧ ¬ (({ state := .clear, count := 1 } : Sect).count = 0 ∧ ∀ c ∈ ({ state := .clear, count := 1 } : Sect).contrib, c.verdict = .wheel) := by decide
theorem witness_OverdueVerdictDisturbsAndArmsExpire :
    let x : Sect := { cfg := { index := 2, vlimit := 100 }, contrib := [{ frame := -200 }], arm := some { frame := -20002 } }
    let y : Sect := { cfg := { index := 2, vlimit := 100 }, contrib := [{ frame := -199 }], arm := some { frame := -20001 } }
    (tSect x).Runs .a ∧ ((tSect x).dev.node .a).sect 2 = some x ∧ (tSect x).dev.sectFault .a 2 0x47 = false
    ∧ (∃ c ∈ x.contrib, c.verdict = .pending ∧ 2 * x.cfg.vlimit ≤ since (tSect x).dev.frame c.frame) ∧ 20001 < since (tSect x).dev.frame (-20002 : Word)
    ∧ ((tSect y).dev.node .a).sect 2 = some y ∧ (¬ ∃ c ∈ y.contrib, c.verdict = .pending ∧ 2 * y.cfg.vlimit ≤ since (tSect y).dev.frame c.frame)
    ∧ since (tSect y).dev.frame (-20001 : Word) ≤ 20001 := by decide
theorem witness_ResetNeedsEveryConditionOfItsTable :
    let x : Sect := { cfg := { index := 2, direct := true } }
    let y : Sect := { cfg := { index := 2 }, state := .prep }
    let z : Sect := { cfg := { index := 2 }, state := .occupied }
    ((tSect x).dev.node .a).sect 2 = some x ∧ x.state = .disturbed ∧ x.cfg.direct = true ∧ x.bounds = [] ∧ x.contrib = [] ∧ x.caused ≠ some (tSect x).dev.frame
    ∧ x.resetDone = false ∧ ((tSect y).dev.node .a).sect 2 = some y ∧ y.state = .prep ∧ ((tSect z).dev.node .a).sect 2 = some z ∧ z.state ≠ .disturbed ∧ z.cfg.fromOcc = false := by decide
theorem witness_GatesNeedRequestPermissionAndNoPulse : 3 < tLive.dev.outputs.length
    ∧ (∃ o ∈ tSafe.dev.driveGates.outputs, (tSafe.dev.node (tSafe.dev.halfOfOut o.id)).safe = true) := by decide
theorem witness_DecidedOnlyWithEverySectionClear :
    ((tOut { id := 2, defd := true }).dev.out 2).defd = true ∧ ((tOut { id := 2, defd := true }).dev.out 2).id = 2 := by decide
theorem witness_OutputFaultsLatch :
    let s := fun (o : Output) => tLater fun d => { d with outputs := d.outputs.set 2 { o with id := 2, defd := true } }
    let wait := s { state := .onWait, gateFrame := 36 }
    let on := s { state := .on, leftAt := some 1910399 }
    let off := s { hiCls := .high, highAt := some 1728000, gateFrame := 36 }
    let edm := s { cfg := { mode := .edm, tedm := 10, edmSrc := 0 }, gateFrame := 2 }
    wait.Runs (wait.dev.halfOfOut 2) ∧ wait.dev.observes = false ∧ (wait.dev.out 2).state = .onWait ∧ (wait.dev.out 2).levelOk = false
    ∧ 4 ≤ since wait.dev.frame (wait.dev.out 2).gateFrame ∧ ¬ 4 ≤ since wait.dev.frame (37 : Word)
    ∧ (on.dev.out 2).state = .on ∧ (on.dev.out 2).pulse = none ∧ 1910399 + 100 * 96 < on.dev.dt.toNat * 96 + 0 ∧ ¬ 1910400 + 100 * 96 < on.dev.dt.toNat * 96 + 0
    ∧ (¬ ∃ x ∈ on.dev.outputs, x.id ≠ 2 ∧ on.dev.halfOfOut x.id = on.dev.halfOfOut 2 ∧ x.pulse.isSome = true)
    ∧ (off.dev.out 2).state = .off ∧ 1728000 + 2000 * 96 < off.dev.dt.toNat * 96 + (0 + 1) ∧ 4 ≤ since off.dev.frame (off.dev.out 2).gateFrame
    ∧ (edm.dev.out 2).defd = true ∧ edm.dev.edmLate (edm.dev.out 2) = false := by decide
theorem witness_NodeClassesAreTakenAsSeen : (tOut { id := 2, defd := true }).dev.inReset = false ∧ ((tOut { id := 2, defd := true }).dev.out 2).defd = true := by decide
theorem witness_OffPulsesRunInTheirSlotsAndAreChecked :
    let s := tOut { id := 0, defd := true, state := .on, slotOn := true, pulse := some {} }
    let f := tOut2 { id := 0, defd := true, state := .on, slotOn := true } { id := 1, defd := true, gateFrame := -4 }
    s.Runs (s.dev.halfOfOut 0) ∧ s.dev.dpx.handover = false ∧ s.dev.dpx.hold = false ∧ (s.dev.out 0).slotOn = true ∧ s.dev.frame.toNat % 2000 = 250 * 0 + 0
    ∧ s.dev.observes = false ∧ (s.dev.out 0).pulse = some {} ∧ (f.dev.out 0).pulse = none ∧ tLive.dev.frame.toNat % 2000 ≠ 250 * 1 + 0
    ∧ (f.dev.out 1) ∈ f.dev.outputs ∧ (f.dev.out 1).state = .off ∧ 4 ≤ f.dev.gateAge (f.dev.out 1)
    ∧ [(NodeClass.low, NodeClass.low), (.low, .low)][1]? ≠ [(NodeClass.low, NodeClass.low), (.mid, .low)][1]? := by decide
theorem witness_ProofIntervalWarnsAndActs :
    let s := fun (st : OutState) (force : Bool) (ran : Word) => tOut { id := 2, defd := true, state := st, cfg := { mode := .edm, proof := 1, force }, proofStart := -ran }
    (s .on true 7200000).Runs ((s .on true 7200000).dev.halfOfOut 2) ∧ ((s .on true 7200000).dev.out 2).cfg.mode ≠ .offpulse ∧ 0 < ((s .on true 7200000).dev.out 2).cfg.proof
    ∧ 7200000 ≤ since (s .on true 7200000).dev.frame ((s .on true 7200000).dev.out 2).proofStart ∧ ((s .on true 7200000).dev.out 2).state = .on
    ∧ ((s .off true 7200000).dev.out 2).state ≠ .on ∧ ((s .on false 7200000).dev.out 2).cfg.force = false
    ∧ 9 * 7200000 ≤ 10 * since (s .on true 6480000).dev.frame ((s .on true 6480000).dev.out 2).proofStart
    ∧ ¬ 9 * 7200000 ≤ 10 * since (s .on true 6479999).dev.frame ((s .on true 6479999).dev.out 2).proofStart := by decide
theorem witness_InputsFilterAndPressesCount :
    let s := tInp 600000 { id := 3, defd := true, raw := true, lvl := true, rawSince := 57168000, cfg := { use := .reset } }
    let r := tInp 600000 { id := 3, defd := true, filt := true, pressing := true, rawSince := 4800000, cfg := { use := .reset } }
    s.Runs (s.dev.halfOfInp 3) ∧ (s.dev.inp 3).defd = true ∧ (s.dev.inp 3).raw = (s.dev.inp 3).lvl ∧ (s.dev.inp 3).rawSince + 480000 = s.dev.dt.toNat * 96 + 48000
    ∧ (s.dev.inp 3).cfg.enable = none ∧ (s.dev.inp 3).ignored = false ∧ s.dev.inpFaulty 3 = false ∧ (s.dev.inp 3).faultEnd = none
    ∧ (r.dev.inp 3).raw = (r.dev.inp 3).lvl ∧ (r.dev.inp 3).pressing = true ∧ (r.dev.inp 3).pressBad = none
    ∧ ((r.dev.inp 3).rawSince - (r.dev.inp 3).pressAt) / 96000 = 50 ∧ (r.dev.inp 3).rawSince + 480000 ≤ r.dev.dt.toNat * 96 + 48000
    ∧ s.dev.frame.toNat % 8 = 2 * (s.dev.inp 3).cfg.src ∧ 28800 ≤ 28800 ∧ (46081 : Nat) > 46080 := by decide
theorem witness_StuckInputsAreIgnoredUntilReleased :
    let s := tInp 5000000 { id := 3, defd := true, filt := true, pressing := true, filtAt := 47999, cfg := { use := .reset } }
    let r := tInp 6000000 { id := 3, ignored := true, filtAt := 480048000 }
    s.Runs (s.dev.halfOfInp 3) ∧ (s.dev.inp 3).defd = true ∧ (s.dev.inp 3).cfg.use = .reset ∧ (s.dev.inp 3).filt = true ∧ (s.dev.inp 3).ignored = false
    ∧ (s.dev.inp 3).filtAt + 480000000 < s.dev.dt.toNat * 96 + 48000 ∧ ¬ 48000 + 480000000 < s.dev.dt.toNat * 96 + 48000
    ∧ r.Runs (r.dev.halfOfInp 3) ∧ (r.dev.inp 3).ignored = true ∧ (r.dev.inp 3).filt = false ∧ (r.dev.inp 3).filtAt + 96000000 = r.dev.dt.toNat * 96 + 48000 := by decide
theorem witness_TestPulsesCheckSourcesAndInputs :
    let s := tInp 0 { id := 3, defd := true, filt := true, missHist := [true, true], cleanRun := 16 }
    let r := tInp 0 { id := 3, defd := true, filt := true, excRun := [(0, 1)], cfg := { src := 1 } }
    let h := tOf fun d => { d with tps := d.tps.set 0 { id := 0, failHist := [true, true], cleanRun := 16 } }
    s.dev.tpsOn 0 = true ∧ s.dev.frame.toNat % 8 = 2 * 0 ∧ (s.dev.inp 3).filt = true ∧ 2 ≤ ((s.dev.inp 3).missHist.take 15).count true
    ∧ s.dev.frame.toNat % 8 ≠ 2 * 1 ∧ s.Runs (s.dev.halfOfInp 3) ∧ 16 ≤ (s.dev.inp 3).cleanRun ∧ (s.dev.inp 4).cleanRun < 16
    ∧ (r.dev.inp 3).cfg.src ≠ 0 ∧ (r.dev.inp 3).excRun.find? (·.1 == 0) = some (0, 0 + 1)
    ∧ 2 ≤ ((h.dev.src 0).failHist.take 15).count true ∧ h.Runs (h.dev.halfOfSrc 0) ∧ 16 ≤ (h.dev.src 0).cleanRun := by decide
theorem witness_ProbeRunsStartOnTimeAndStarvationIsSafe :
    let s := fun (p : Probe) => tLater fun d => { d with probe := p }
    let due := s { k := 1, lastStart := -19960, lastPass := -59960 }
    let ramp := s { k := 1, run := some { t0 := 1921311 } }
    due.dev.inReset = false ∧ due.dev.split = false ∧ due.dev.probe.run = none ∧ due.dev.probeFaulty = false ∧ due.dev.inService .a = true
    ∧ due.dev.probeInterval .a ≤ since due.dev.frame due.dev.probe.lastStart ∧ due.dev.AllLive ∧ 3 * due.dev.probeInterval .a ≤ since due.dev.frame due.dev.probe.lastPass
    ∧ since due.dev.frame (-19959 : Word) < due.dev.probeInterval .a ∧ since due.dev.frame (-59959 : Word) < 3 * due.dev.probeInterval .a
    ∧ (ramp.dev.node ramp.dev.probe.half).safe = false ∧ ramp.dev.probe.ramps < 4 ∧ ramp.dev.probe.ramps % 2 = 0
    ∧ ramp.dev.dt.toNat * 96 + 0 = 1921311 + 96 * 0 - 1311 ∧ ramp.dev.dt.toNat * 96 + 1 ≠ 1921311 + 96 * 0 - 1311 := by decide
theorem witness_BoundaryAdvancesTheTimebase :
    let m := tMember fun x => { x with stepTo := some { frame := 9 } }
    tLive.dev.inReset = false ∧ tLive.dev.hal.stepTo = none ∧ tLive.dev.mirrors = false ∧ tLive.dev.allSafe = false ∧ tLive.dev.AllLive
    ∧ m.dev.hal.stepTo = some { frame := 9 } ∧ tSafe.dev.inReset = false ∧ tSafe.dev.allSafe = true ∧ tSafe.dev.nodeA.safe = true ∧ tHeld.dev.inReset = true
    ∧ 900 ≤ ({} : FrameObs).tickNs ∧ ({ tickNs := 899 } : FrameObs).tickNs < 900 ∧ 1100 < ({ tickNs := 1101 } : FrameObs).tickNs := by decide
theorem witness_FrameWorkRunsOnceAndPublishesNothing :
    let m := tStack id
    tLive.dev.inReset = false ∧ tLive.dev.boardTest = false ∧ tLive.dev.worked .a = false ∧ tLive.dev.stackMaster = false
    ∧ tLive.dev.dpx.awaitRecord = false ∧ (tLive.dev.node .a).safe = false ∧ (tLive.dev.node .a).sys ≠ .boot ∧ Half.a ∈ tLive.dev.halves
    ∧ m.dev.worked .a = false ∧ (m.dev.node .a).safe = false ∧ m.dev.stackMaster = true ∧ m.dev.hal.exClosed = false
    ∧ tWork.dev.worked .a = true ∧ ({ sramBad := some (47, false) } : WorkObs).sramBad = some (47, false) := by decide
theorem witness_DeadlinesAndResyncsOfTheCores :
    let c := fun (l : List Word) => tOf fun d => { d with nodeA := { d.nodeA with cores := { resyncFrames := l } } }
    tLive.dev.inReset = false ∧ tLive.dev.evaluates .a = true ∧ tLive.dev.worked .a = false ∧ tWork.dev.evaluates .a = true
    ∧ tWork.dev.worked .a = true ∧ (tLive.dev.node .a).cores.reran = false ∧ tLive.dev.split = false
    ∧ (((c [0, 0, -20000]).dev.node .a).cores.resyncFrames.filter fun f => since (c []).dev.frame f ≤ 20000).length = 3
    ∧ (((c [0, 0, -20001]).dev.node .a).cores.resyncFrames.filter fun f => since (c []).dev.frame f ≤ 20000).length = 2 := by decide
theorem witness_OverdueJobsAndPhasesAreSafe :
    let s := tOf fun d => { d with bgw := { running := true, scrubStart := -8000, cmpRunning := true, cmpStart := -8000, calStart := -192, romRunning := true, romStart := -120000, opened := true }, log := { d.log with chainStart := -20000 } }
    let b := tOf fun d => { d with nodeA := { sys := .boot }, dt := 4500 }
    s.dev.inReset = false ∧ s.dev.AllLive ∧ s.dev.bgw.running = true ∧ 8000 ≤ since s.dev.frame s.dev.bgw.scrubStart ∧ 8000 ≤ since s.dev.frame s.dev.bgw.cmpStart
    ∧ 192 ≤ since s.dev.frame s.dev.bgw.calStart ∧ 120000 ≤ since s.dev.frame s.dev.bgw.romStart ∧ s.dev.log.chainDone = false ∧ 20000 ≤ since s.dev.frame s.dev.log.chainStart
    ∧ tLive.dev.bgw.running = false ∧ (3 : Nat) ∉ [4, 6, 8] ∧ b.dev.AllLive ∧ (b.dev.node .a).sys = .boot ∧ 5000 ≤ b.dev.dt.toNat + 500
    ∧ ¬ (∃ h ∈ tLive.dev.halves, ((tLive.dev.node h).sys = .boot ∧ 5000 ≤ tLive.dev.dt.toNat + 500) ∨ ((tLive.dev.node h).sys = .selftest ∧ 520000 ≤ tLive.dev.dt.toNat + 500)) := by decide
theorem witness_SlackJobsReportAndStopOnlyOnFindings :
    let s := tOf fun d => { d with workDone := true, bgw := { running := true } }
    s.dev.inReset = false ∧ s.dev.bgw.running = true ∧ s.dev.allSafe = false ∧ s.dev.bgw.slackRan = false ∧ s.dev.AllLive
    ∧ (∀ h ∈ s.dev.halves, (s.dev.node h).safe = false → s.dev.worked h = true) ∧ s.dev.split = false ∧ tLive.dev.bgw.running = false := by decide
theorem witness_TelegramsDecodeToWhatWasSent : Telegram.fits { type := 2, src := 3, entries := [.ack 5 7] } := by
  refine ⟨by decide, by decide, by decide, by decide, ?_⟩
  intro e he
  simp at he
  subst he
  show (5 : Nat) < 1024
  decide

/-- A DATA of node 3 in cycle 4 and a JOIN and a BEACON of it, as both lines carry them undisturbed from 20 ms on; their
start-delimiter ends lie 42 bit times of 192 cycles later (R172, R175). -/
def tData : Telegram := { type := 2, src := 3, cycle := 4, tseq := 1 }
def tJoin : Telegram := { type := 3, src := 3, cycle := 4, tseq := 9, entries := [.join 1 77] }
def tBeacon : Telegram := { type := 1, src := 3, cycle := 5, tseq := 9, entries := [.beacon .normal 0 0] }
def tCopy (m : Telegram) : Copy := Copy.clean 0 32 1920000 (m.bytes 1)
def tSd : Nat := 1920000 + 42 * 192

set_option maxRecDepth 20000 in
theorem witness_TelegramsDecodeToWhatWasSent_bytes : (telegramOf 1 (Telegram.bytes 1 { type := 2, src := 3 })).isSome = true := by decide
theorem tData_fits : tData.fits := ⟨by decide, by decide, by decide, by decide, by intro e he; simp [tData] at he⟩
theorem tJoin_fits : tJoin.fits := ⟨by decide, by decide, by decide, by decide, by
  intro e he
  simp [tJoin] at he
  subst he
  show (1 : Nat) < 256
  decide⟩
theorem tBeacon_fits : tBeacon.fits := ⟨by decide, by decide, by decide, by decide, by
  intro e he
  simp [tBeacon] at he
  subst he
  show (0 : Nat) < 256
  decide⟩
theorem tCopy_brings : ∀ m ∈ [tData, tJoin, tBeacon], (tCopy m).reception 192 = some (m.bytes 1, tSd) := by decide +kernel

theorem witness_LineChecksCountAndSuspend :
    let s := tLineWith fun l => { l with cycle := some 4, lineA := { suspCycles := 1, susp62 := true, biasFails := 3, drive := some { start := 0, stop := 9 } } }
    let bad : Copy := { tCopy tData with sense := [] }
    tLine.Runs .a ∧ tLine.dev.hasLine .a = true ∧ ((tLine.dev.line .a).phys .a).susp62 = false ∧ ((tLine.dev.line .a).phys .a).suspended = false
    ∧ ((tLine.dev.line .a).phys .b).suspCycles ≠ 1 ∧ ({} : Copy).begun 192 = false ∧ bad.begun 192 = true ∧ bad.reception 192 = none
    ∧ s.Runs .a ∧ s.dev.hasLine .a = true ∧ ((s.dev.line .a).phys .a).suspCycles = 1 ∧ ((s.dev.line .a).phys .a).suspended = true
    ∧ 3 ≤ ((s.dev.line .a).phys .a).biasFails ∧ ((s.dev.line .a).phys .a).drive.all (fun y => y.wake == false) = true
    ∧ telegramIn 1 (some 4) (tData.bytes 1) = some tData := by decide +kernel
theorem witness_LinkFaultsClearOnlyWhenRecovered :
    let s := tLineWith fun l => { l with bothRun := 64, s64Cycles := 2000, clean65 := true, lineA := { biasGood := 64, cleanTx := 8, decGood := 64, susp62 := true, suspFrame := -2000 } }
    s.Runs .a ∧ 64 ≤ (s.dev.line .a).bothRun ∧ 64 ≤ ((s.dev.line .a).phys .a).biasGood ∧ ((s.dev.line .a).phys .a).susp62 = true
    ∧ 2000 ≤ since s.dev.frame ((s.dev.line .a).phys .a).suspFrame ∧ ((s.dev.line .a).phys .b).susp62 = false ∧ ¬ 64 ≤ ((s.dev.line .a).phys .b).biasGood := by decide
/-- Five runs of 10 µs low with 10 µs high between them, and the master of a line in reef. -/
theorem witness_WakeQuietAndMissedBeacons :
    let s := tLineWith fun l => { l with inReef := true, mode := .reef, wakeBursts := 7, wakeEnd := 0, cycle := some 4, slotRef := some 0 }
    let t := { s with dev := { s.dev with dt := 40000 } }
    let q := tLineWith fun l => { l with quietFrame := -20000, slotRef := some 0 }
    let wave := (List.range 10).map fun k => 3820000 + 960 * k
    s.dev.inReset = false ∧ s.dev.hasLine .a = true ∧ (s.dev.line .a).inReef = true ∧ s.dev.isMaster .a = true ∧ (s.dev.line .a).wakePending = false
    ∧ wakeSeen (t.dev.dt.toNat * 96) wave = true ∧ wakeSeen (t.dev.dt.toNat * 96) [] = false
    ∧ 1 ≤ (t.dev.line .a).wakeBursts ∧ (t.dev.line .a).wakeBursts < 8 ∧ (t.dev.line .a).wakeEnd + (30000 + 220 * t.dev.lineAddress .a) * 96 ≤ t.dev.dt.toNat * 96
    ∧ tLine.dev.hasLine .a = true ∧ (tLine.dev.line .a).inReef = false ∧ tLine.dev.isMaster .a = true ∧ (tLine.dev.lineRec .a).reef = true ∧ (tLine.dev.line .a).slotRef = none
    ∧ 2000 * (q.dev.lineRec .a).quiet ≤ since q.dev.frame (q.dev.line .a).quietFrame ∧ (q.dev.line .a).slotRef = some 0
    ∧ ¬ 0 + (q.dev.line .a).period (q.dev.lineRec .a) + 192 * q.dev.tPath .a + 9600 ≤ q.dev.dt.toNat * 96 + 0
    ∧ 0 + (t.dev.line .a).period (q.dev.lineRec .a) + 192 * t.dev.tPath .a + 9600 > t.dev.dt.toNat * 96 ∧ tSlave.dev.isMaster .a = false := by decide +kernel
theorem witness_WakeQuietAndMissedBeacons_missed :
    let s := tLineWith fun l => { l with cycle := some 4, slotRef := some 0, sinceBeacon := 15 }
    let t := { s with dev := { s.dev with dt := 4100 } }
    t.dev.hasLine .a = true ∧ 0 + (t.dev.line .a).period (t.dev.lineRec .a) + 192 * t.dev.tPath .a + 9600 ≤ t.dev.dt.toNat * 96 + 0 ∧ (t.dev.line .a).sinceBeacon < 16 := by decide
theorem witness_ReceivedTelegramsAreTakenOnce :
    let s := tLineWith fun l => { l with cycle := some 4, slotRef := some (tSd - 192000), peers := [{ cfg := { address := 3 } }] }
    s.dev.inReset = false ∧ s.dev.hasLine .a = true ∧ ((s.dev.line .a).phys .a).suspended = false ∧ ((s.dev.line .a).phys .b).suspended = false
    ∧ bitCycles (s.dev.lineRec .a).rate = 192 ∧ (s.dev.lineRec .a).key = 1 ∧ (s.dev.line .a).cycle = some tData.cycle ∧ (s.dev.line .a).cycle = some tJoin.cycle
    ∧ tData.src ≠ s.dev.lineAddress .a ∧ s.dev.inSlot .a 3 tSd = true ∧ s.dev.mutedSource .a 3 = false ∧ (s.dev.line .a).peer 3 = some { cfg := { address := 3 } }
    ∧ ({ cfg := { address := 3 } } : Peer).dropped = false ∧ ({ cfg := { address := 3 } } : Peer).heard = false ∧ ({ cfg := { address := 3 } } : Peer).session ≠ some 77
    ∧ newer 1 tData.tseq = false := by decide
theorem witness_ReceivedTelegramsAreTakenOnce_beacon :
    let s := tSlave
    let r := tLineOn 3 fun l => { l with cycle := some 4, slotRef := some (tSd - 384000) }
    s.dev.hasLine .a = true ∧ tBeacon.src ≠ s.dev.lineAddress .a ∧ tBeacon.src = (s.dev.lineRec .a).master ∧ s.dev.beaconInSlot .a .normal tSd = true
    ∧ (s.dev.line .a).cycle = none ∧ (s.dev.line .a).peer 3 = none ∧ r.dev.beaconInSlot .a .normal tSd = true ∧ newer 4 tBeacon.cycle = true := by decide
theorem witness_SlotsAndBeaconsAreSentInTurn :
    let s := { tLineWith fun l => { l with cycle := some 4, slotRef := some 8064 } with dev := { (tLineWith fun l => { l with cycle := some 4, slotRef := some 8064 }).dev with dt := 1000 } }
    let own : Slot := { owner := 2, lclass := 64, offset := 1000 }
    let other : Slot := { owner := 3, lclass := 64, offset := 2000 }
    s.dev.inReset = false ∧ s.dev.mayRequest .a = true ∧ (s.dev.slots .a)[1]? = some own ∧ s.dev.inGate .a own 96000 64 = true ∧ s.dev.inGate .a own 96001 64 = false
    ∧ (s.dev.slots .a)[2]? = some other ∧ s.dev.inGate .a other 96000 24 = false ∧ s.dev.hasFault 0x64 .lineNode 0 .a = false ∧ Half.a ∈ s.dev.halves
    ∧ (s.dev.line .a).silent = false ∧ (s.dev.line .a).mode ≠ .reef ∧ (s.dev.line .a).joinsLeft = 0 ∧ s.dev.sendsBeacon .a = true
    ∧ (s.dev.line .a).e0.toNat + (s.dev.line .a).e0Next < s.dev.dt.toNat + 500 ∧ tLine.dev.mayRequest .a = false ∧ tSlave.dev.sendsBeacon .a = false
    ∧ s.dev.beaconEcho .a { type := 1, src := 2 } {} = none := by decide
theorem witness_ClaimsAreSeenAndYielded :
    let s := fun (pos : Byte) (f : Dpx → Dpx) => { tPair fun x => f { x with pairRun := 3, pairRef := 288000 } with
      dev := { (tPair fun x => f { x with pairRun := 3, pairRef := 288000 }).dev with straps := { done := true, latched := pos } } }
    let a := s 0 fun x => { x with claim := true, role := .solo }
    let b := s 0x10 fun x => { x with claim := true, role := .solo }
    let c := s 0 fun x => { x with contSince := some (-2000) }
    a.dev.inReset = false ∧ a.dev.split = false ∧ a.dev.pair = true ∧ a.dev.position = 0 ∧ a.dev.dpx.claim = true ∧ a.dev.dpx.hold = false ∧ a.dev.dpx.pclaim = false
    ∧ a.dev.dpx.pairRef + 40 * 96 = a.dev.dt.toNat * 96 + 3840 ∧ a.dev.dt.toNat * 96 + 5760 = a.dev.dpx.pairRef + 60 * 96 ∧ 3 ≤ a.dev.dpx.pairRun
    ∧ b.dev.pair = true ∧ b.dev.position ≠ 0 ∧ b.dev.dpx.giveUps = []
    ∧ c.dev.dpx.claim = false ∧ c.dev.pair = true ∧ c.dev.position = 0 ∧ 2000 ≤ since c.dev.frame (-2000) ∧ ¬ 2000 ≤ since c.dev.frame (-1999) ∧ a.dev.dpx.contSince = none := by decide +kernel
theorem witness_ClaimsAreGainedAndHandedOver :
    let s := fun (r : Role) => tPair fun x => { x with role := r, pclaim := true, lastPair := 264000 }
    let w := tPair fun x => { x with offAt := 336000 }
    let h := tPair fun x => { x with handover := true, claim := true, role := .active }
    let e := tPair fun x => { x with hold := true, holdAt := 48000, role := .active }
    let p := tPair fun x => { x with hold := true, holdAt := 288000, pclaim := true, presAt := 297600, role := .active }
    (s .standby).dev.inReset = false ∧ (s .standby).dev.split = false ∧ (s .standby).dev.pair = true ∧ (s .standby).dev.dpx.pclaim = true ∧ (s .standby).dev.dpx.role = .standby
    ∧ (s .standby).dev.dpx.lastPair + 250 * 96 = (s .standby).dev.dt.toNat * 96 + 0 ∧ (s .offline).dev.dpx.role = .offline ∧ (s .offline).dev.pair = true
    ∧ w.dev.pair = true ∧ w.dev.dpx.role = .offline ∧ w.dev.dpx.hold = false ∧ w.dev.dpx.pclaim = false ∧ w.dev.inService .a = true ∧ w.dev.mayArbitrate = true
    ∧ max (w.dev.dpx.absentSince + 300 * 96) w.dev.dpx.offAt + (if w.dev.position = 0 then 0 else 200000 * 96) = w.dev.dt.toNat * 96 + 48000
    ∧ (∀ i < 8, (w.dev.outputs[i]?).map (·.id) = some i) ∧ w.dev.outputs.length = 8
    ∧ h.dev.pair = true ∧ h.dev.dpx.handover = true ∧ h.dev.dpx.claim = true ∧ h.dev.nodeA.safe = false
    ∧ e.dev.dpx.hold = true ∧ e.dev.dpx.holdAt + 3000 * 96 = e.dev.dt.toNat * 96 + 48000 ∧ e.dev.dpx.claim = false ∧ e.dev.dpx.pclaim = false
    ∧ p.dev.dpx.presAt + 400 * 96 = p.dev.dt.toNat * 96 + 48000 := by decide +kernel
theorem witness_TwinMessagesMoveTheRoles :
    let s := tPair fun x => { x with pclaim := true }
    let m : HelloMsg := { epoch := 1, position := 1, role := .solo, hash := 7, romver := Config.romVersion }
    let f := tPair fun x => { x with frozen := true, frozenFrame := -1999 }
    s.dev.inReset = false ∧ s.dev.pair = true ∧ s.dev.dpx.frozen = false ∧ newer s.dev.dpx.epoch m.epoch = true ∧ s.dev.dpx.role = .offline
    ∧ m.position ≠ s.dev.position ∧ s.dev.dpx.pclaim = true ∧ s.dev.inService .a = true ∧ s.dev.mayArbitrate = true ∧ s.dev.dpx.hold = false
    ∧ s.dev.dpx.lock76 = false ∧ s.dev.dpx.retryWait = false ∧ s.dev.compatible { m with hash := 0 } = true ∧ s.dev.compatible m = false
    ∧ s.dev.unitFault 0x73 = false ∧ s.dev.unitFault 0x7A = false ∧ m.inWindow = true ∧ s.dev.alignedWith m.role = false
    ∧ tLive.dev.pair = false ∧ f.dev.pair = true ∧ f.dev.dpx.frozen = true ∧ since f.dev.frame f.dev.dpx.frozenFrame < 2000
    ∧ newer s.dev.dpx.epoch ({ epoch := 0xFFFF } : HelloMsg).epoch = false := by
  refine ⟨by decide, by decide, by decide, by decide, by decide, by decide, by decide, by decide, by decide, by decide, by decide, by decide, ?_, by decide, by decide, by decide, by decide, by decide, by decide, by decide, by decide, by decide, by decide⟩
  simp [Dev.compatible]; decide
theorem witness_TwinMessagesMoveTheRoles_shadow :
    let s := tPair fun x => { x with role := .active, claim := true, bad := 2, prevResults := [.event { point := 1 }] }
    let m : ShadowMsg := { role := .standby, inWindow := true, frame := s.dev.frame }
    let t := tPair fun x => { x with role := .solo, claim := true, prole := some .syncing }
    s.dev.pair = true ∧ s.dev.dpx.frozen = false ∧ m.epoch = s.dev.dpx.epoch ∧ s.dev.dpx.claim = true ∧ s.dev.dpx.role = .active ∧ m.inWindow = true
    ∧ m.role = .standby ∧ m.signature = s.dev.nodeA.cores.sig ∧ ({ m with signature := 1 } : ShadowMsg).signature ≠ s.dev.nodeA.cores.sig
    ∧ 1 ∉ m.incomparable ∧ (viewOf 1 s.dev.dpx.prevResults).differs (viewOf 1 m.results) = true ∧ 2 ≤ s.dev.dpx.bad ∧ linkOf [] = none
    ∧ linkOf (LinkMsg.bytes { type := 0x55 }) = some { type := 0x55 } ∧ (0x55 : Nat) ∉ twinTypes ∧ (({ type := 0x55 } : LinkMsg).epoch = s.dev.dpx.epoch)
    ∧ t.dev.dpx.role = .solo ∧ t.dev.dpx.prole = some .syncing ∧ t.dev.dpx.frozen = false ∧ t.dev.dpx.sentBlocks < t.dev.imageBlocks := by
  refine ⟨by decide, by decide, by decide, by decide, by decide, by decide, by decide, by decide, by decide, by decide, by decide, by decide, by decide, by decide +kernel, by decide, by decide, by decide, by decide, by decide, ?_⟩
  simp [Dev.imageBlocks, tPair, tOf] <;> omega
/-- A RECORD of this frame without entries, its payload the head (Table DPX-3a), with the right or another signature. -/
def tRecord (sig : Word) : LinkMsg := { type := 0x12, payload := RecordMsg.payload 1 { signature := sig } }
theorem witness_ResyncRunsItsStepsAndRecordsMirror :
    let s := fun (step progress : Nat) => tPair fun x => { x with role := .syncing, step, progress }
    let r := tPair fun x => { x with retryWait := true, failFrame := -2000, contEnd := -2000 }
    let img : TransferMsg := { block := 127, image := some {} }
    (s 1 127).dev.inReset = false ∧ (s 1 127).dev.allSafe = false ∧ (s 1 127).dev.pair = true ∧ (s 1 127).dev.dpx.frozen = false ∧ (s 1 127).dev.dpx.role = .syncing
    ∧ (s 1 127).dev.dpx.step = 1 ∧ img.block = (s 1 127).dev.dpx.progress ∧ (s 1 127).dev.dpx.progress < 128 ∧ img.epoch = (s 1 127).dev.dpx.epoch ∧ img.inWindow = true
    ∧ img.frame = (s 1 127).dev.frame ∧ ({} : TransferMsg).block ≠ (s 1 127).dev.dpx.progress
    ∧ (s 3 2000).dev.pair = true ∧ (s 3 2000).dev.dpx.step = 3 ∧ 2000 ≤ (s 3 2000).dev.dpx.progress ∧ ¬ 2000 ≤ (s 3 1999).dev.dpx.progress
    ∧ r.dev.dpx.retryWait = true ∧ r.dev.dpx.lock76 = false ∧ 2000 ≤ since r.dev.frame r.dev.dpx.failFrame ∧ r.dev.dpx.contSince = none ∧ 2000 ≤ since r.dev.frame r.dev.dpx.contEnd
    ∧ tLive.dev.pair = false := by decide
theorem witness_ResyncRunsItsStepsAndRecordsMirror_record :
    let s := tPair fun x => { x with role := .standby, awaitRecord := true, pclaim := true, unmirrored := 1 }
    s.dev.pair = true ∧ s.dev.dpx.awaitRecord = true ∧ s.dev.dpx.role = .standby ∧ s.dev.port0.journal = [] ∧ s.dev.port1.journal = [] ∧ s.dev.dpx.frozen = false
    ∧ linkOf (tRecord 0).bytes = some (tRecord 0) ∧ (tRecord 0).epoch = s.dev.dpx.epoch ∧ (tRecord 0).frame = s.dev.frame ∧ s.dev.dpx.pclaim = true ∧ (s.dev.lineRec .a).key = 1
    ∧ recordOf 1 (tRecord 0) = some {} ∧ recordOf 1 (tRecord 5) = some { signature := 5 } ∧ s.dev.nodeA.cores.sig = 0 ∧ 1 ≤ s.dev.dpx.unmirrored
    ∧ linkOf (LinkMsg.bytes { type := 0x12 }) = some { type := 0x12 } ∧ recordOf 1 { type := 0x12 } = none ∧ linkOf [] = none := by decide +kernel
theorem witness_MasterAdmitsServesAndFreezesMembers :
    let s := fun (st : Membership) => tStack fun x => { x with state := st, epoch := 1, grantFrame := -400, freezeFrame := -2000 }
    let u : UpMsg := { epoch := 1, frame := tLive.dev.frame, serial := 0, ready := true }
    let q : JoinReqMsg := { pos := 1, session := 5, romver := Config.romVersion }
    (s .present).dev.inReset = false ∧ (s .present).dev.stackMaster = true ∧ 1 ≤ (s .present).dev.hal.members.length ∧ u.inSlot = true ∧ u.typeOk = true
    ∧ u.frame = (s .present).dev.frame ∧ ((s .present).dev.member 1).state = .present ∧ u.epoch = ((s .present).dev.member 1).epoch ∧ u.serial = (s .present).dev.activeSerial
    ∧ ({ u with epoch := 2 } : UpMsg).epoch ≠ ((s .present).dev.member 1).epoch ∧ u ≠ { u with ready := false }
    ∧ ((s .joining).dev.member 1).state = .joining ∧ u.hash = (s .joining).dev.activeHash ∧ 400 ≤ since (s .joining).dev.frame ((s .joining).dev.member 1).grantFrame
    ∧ ((s .absent).dev.member 1).state = .absent ∧ q.pos = 1 ∧ 1 < (s .absent).dev.stackN ∧ q.duplex = ((s .absent).dev.position == 1) ∧ q.romver = Config.romVersion
    ∧ ((s .frozen).dev.member 1).state = .frozen ∧ q.session ≠ ((s .frozen).dev.member 1).session ∧ 2000 ≤ since (s .frozen).dev.frame ((s .frozen).dev.member 1).freezeFrame
    ∧ (s .present).dev.workWaits = none ∧ ((s .present).dev.member 1).gotUp = false ∧ ((s .present).dev.member 1).miss = 0 ∧ tLive.dev.stackMaster = false := by
  refine ⟨by decide, by decide, by decide, by decide, by decide, by decide, by decide, by decide, by decide, by decide, by decide, by decide, by decide, by decide, by decide, by decide, by decide, by decide, rfl, by decide, by decide, by decide, by decide, by decide, by decide, by decide⟩
theorem witness_MasterAdmitsServesAndFreezesMembers_missed :
    let s := tStack fun x => { x with state := .present, miss := 1, inval := 2 }
    let r := tStack fun x => { x with state := .present, gotUp := true }
    s.dev.stackMaster = true ∧ (s.dev.member 1).state = .present ∧ (s.dev.member 1).gotUp = false ∧ 1 ≤ (s.dev.member 1).miss ∧ 2 ≤ (s.dev.member 1).inval
    ∧ (r.dev.member 1).state = .present ∧ (r.dev.member 1).gotUp = true ∧ (r.dev.member 1).inval < 2 := by decide
theorem witness_MembersFollowTheirMaster :
    let s := fun (m : Membership) => tMember fun x => { x with selfState := m, lostFrame := -2000 }
    let u := fun (m : Membership) => ({ members := [m] } : DownMsg)
    (s .present).dev.inReset = false ∧ (s .present).dev.stackMember = true ∧ (s .present).dev.stackPos = 1 ∧ (∀ g ∈ (u .present).grants, g.member ≠ 1)
    ∧ (u .present).members[1 - 1]? = some .present ∧ (u .absent).members[1 - 1]? = some .absent ∧ (u .frozen).members[1 - 1]? = some .frozen ∧ u .present ≠ u .absent
    ∧ (s .present).dev.straps.done = true ∧ (s .present).dev.hal.selfState = .present ∧ (s .joining).dev.hal.selfState = .joining
    ∧ (s .absent).dev.hal.selfState = .absent ∧ (s .absent).dev.hal.frozenSelf = false ∧ 2000 ≤ since (s .frozen).dev.frame (s .frozen).dev.hal.lostFrame
    ∧ (s .present).dev.workWaits = none ∧ (s .present).dev.hal.gotDown = false ∧ (s .present).dev.hal.missDown = 0 ∧ (s .present).dev.allSafe = false ∧ 85 < 86
    ∧ tLive.dev.stackMember = false := by decide
theorem witness_MembersFollowTheirMaster_grant :
    let s := tMember fun x => { x with missDown := 1, bothOk := 2000, selfState := .present }
    let f := tMember fun x => { x with selfState := .frozen, frozenSelf := true, lostFrame := -1999, gotDown := true }
    let u : DownMsg := { members := [.joining], grants := [{ member := 1, epoch := 1 }] }
    s.dev.stackMember = true ∧ s.dev.stackPos = 1 ∧ u.grants = [{ member := 1, epoch := 1 }] ∧ u.members[0]? = some .joining ∧ s.dev.hal.gotDown = false
    ∧ 1 ≤ s.dev.hal.missDown ∧ s.dev.hal.selfState = .present ∧ 2000 ≤ s.dev.hal.bothOk
    ∧ f.dev.hal.frozenSelf = true ∧ since f.dev.frame f.dev.hal.lostFrame < 2000 ∧ f.dev.hal.gotDown = true := by decide
theorem witness_StartUpAndShutdownRunTheirSteps :
    let o := tPhase .otp .boot
    let w := { tPhase .sweep .selftest with dev := { (tPhase .sweep .selftest).dev with sweepFrame := some (-63) } }
    let j := tPhase .joins .verify
    let r := tShut { step := 3, port := 0, tag := 5, frame := 0 }
    let q := tShut { step := 2, port := 0, tag := 5, frame := 0 }
    o.dev.inReset = false ∧ o.dev.AllLive ∧ o.dev.InPhase .otp .boot ∧ ¬ o.dev.InPhase .memory .selftest
    ∧ (tPhase .memory .selftest).dev.InPhase .memory .selftest ∧ (tPhase .frontEnd .selftest).dev.InPhase .frontEnd .selftest ∧ (tPhase .frontEnd .selftest).dev.split = false
    ∧ (tPhase .lockstep .selftest).dev.InPhase .lockstep .selftest ∧ w.dev.InPhase .sweep .selftest ∧ w.dev.sweepFrame = some (-63) ∧ 63 ≤ since w.dev.frame (-63)
    ∧ since w.dev.frame (-62) < 63 ∧ 31 < w.dev.systems.length
    ∧ j.dev.split = false ∧ j.dev.stackMember = false ∧ j.dev.nodeA.sys = .verify ∧ j.dev.nodeA.phase = .joins ∧ 999 = since j.dev.frame j.dev.nodeA.joinFrame ∧ j.dev.hasDuplex = false
    ∧ tLive.dev.shut = none ∧ r.dev.shut = some { step := 3, port := 0, tag := 5, frame := 0 } ∧ r.dev.drained { step := 3, port := 0, tag := 5, frame := 0 } = true
    ∧ q.dev.shut = some { step := 2, port := 0, tag := 5, frame := 0 } ∧ (∀ o ∈ q.dev.outputs, o.defd = false) := by decide
theorem witness_DirectOperationsAnswerAtOnce :
    let c : Completion := { opc := 0x22, tag := 5 }
    let k : Completion := { opc := 0x20, tag := 6 }
    let s := { tPort fun x => { x with cq := [c], tags := [(5, 0x22)], recalled := [k], crcRun := 1 } with snap1 := some tDev }
    let z := tPort fun x => { x with frozen := true }
    s.PortOpen 0 ∧ s.PortOpen 1 ∧ isRS 0 = false ∧ s.snapOf 0 = none ∧ s.snapOf 1 = some tDev ∧ s.dev.port0.cq = [c] ∧ s.dev.port1.cq = []
    ∧ s.dev.port0.cq.find? (fun y => y.tag == 5 % 64) = some c ∧ s.dev.port0.cq.find? (fun y => y.tag == 6) = none
    ∧ s.dev.port0.recalled.find? (fun y => y.tag == 6) = some k ∧ s.dev.port0.recalled.find? (fun y => y.tag == 7) = none
    ∧ s.dev.stackMember = false ∧ s.dev.nodeA.sys.inService = true ∧ s.dev.port0.crcRun < 2 ∧ 2 ≤ (tPort fun x => { x with crcRun := 2 }).dev.port0.crcRun
    ∧ z.dev.inReset = false ∧ z.dev.boardTest = false ∧ (z.dev.node (z.dev.halfOfPort 0)).sys ≠ .boot ∧ z.dev.port0.frozen = true
    ∧ tSafe.dev.port0.frozen = false ∧ (tSafe.dev.node (tSafe.dev.halfOfPort 0)).safe = true ∧ (tSafe.dev.node (tSafe.dev.halfOfPort 0)).sys ≠ .boot := by decide
set_option maxRecDepth 20000 in
theorem witness_DirectOperationsAnswerAtOnce_malformed :
    let b : List Byte := [0xFF, 0, 0, 0, 0, 0, 0, 0]
    let bytes := b ++ [BitVec.ofNat 8 ((crc16 b).toNat / 256), BitVec.ofNat 8 ((crc16 b).toNat % 256)]
    bytes.length = 10 ∧ (crc16 (bytes.take 8)).toNat = fieldAt bytes 8 2 ∧ malformed (fieldAt bytes 0 1) (fieldAt bytes 1 1) = true
    ∧ (crc16 ([1, 2, 3, 4, 5, 6, 7, 8] : List Byte)).toNat ≠ fieldAt [1, 2, 3, 4, 5, 6, 7, 8, 9, 10] 8 2 := ⟨rfl, rfl, rfl, by decide⟩
theorem witness_TaggedOperationsQueueWithTheirVerdict :
    let s := tPort fun x => { x with session := some { operator := 7 }, tags := [(6, 1)] }
    let n := tPort id
    let full := { n with dev := { n.dev with log := { n.dev.log with writeFault := true } } }
    s.PortOpen 0 ∧ s.dev.port0.tags.any (fun y => y.1 == 5 % 64) = false ∧ s.dev.port0.tags.any (fun y => y.1 == 6 % 64) = true
    ∧ s.dev.stackMember = false ∧ s.dev.nodeA.sys.inService = true ∧ s.dev.port0.session.isSome = true ∧ n.PortOpen 0 ∧ n.dev.port0.session = none
    ∧ s.dev.stackMaster = false ∧ s.dev.mayCal = true ∧ s.dev.showsSys 0 0 = true ∧ s.dev.mayReserve = true ∧ full.dev.mayReserve = false ∧ s.dev.rig.actDue = none
    ∧ s.dev.refuses { opc := 0x29, operator := some 7 } = false ∧ n.dev.refuses { opc := 0x29 } = true ∧ sessionOps.contains 0x29 = true ∧ loggedOps.contains 0x29 = true
    ∧ accessOf 0 = .ro ∧ hstAccess 0 = .rw ∧ bit (0x10000 : Word) 16 = true ∧ ((tSys { id := 4, defd := true }).dev.sys 4).holdoff = false := by decide
theorem witness_SessionsLogAndStoresActOnTheirCommands :
    let j : PwJob := { cmd := { opc := 0x10, index := 7 }, frame := -200 }
    let s := tPort fun x => { x with pwJobs := [j], session := none, lockout := some (-120000) }
    let r := tOf fun d => { d with store := { d.store with pw := { state := 1 }, recover := some { frame := -20000 } }, log := { d.log with erasing := some (3, 159) }, port0 := { session := some { operator := 7, last := -1200000 }, pwRun := 2 } }
    let q : Req := { port := 0, data := s.dev.activeSerial }
    s.Accepts q ∧ s.dev.nodeA.sys.inService = true ∧ q.data = s.dev.activeSerial ∧ s.dev.log.find 0 = none ∧ s.dev.port0.pwJobs = [j] ∧ 200 ≤ since s.dev.frame j.frame
    ∧ since s.dev.frame (-199 : Word) < 200 ∧ j.cmd.port = 0 ∧ j.cmd.opc = 0x10 ∧ j.cmd.verdict = none ∧ 1 ≤ j.cmd.index ∧ j.cmd.index ≤ 0xFFFE ∧ s.dev.port0.session = none
    ∧ 120000 ≤ since s.dev.frame (-120000 : Word) ∧ s.dev.store.recover = none ∧ s.dev.log.erasing = none ∧ s.dev.log.slots.length < 3584 ∧ s.dev.log.writeFails = 0
    ∧ r.dev.store.pw.state = 1 ∧ 20000 ≤ since r.dev.frame (-20000 : Word) ∧ r.dev.log.erasing = some (3, 159) ∧ r.dev.log.programmed = false ∧ r.dev.log.storeWrite = false
    ∧ 160 ≤ 159 + 1 ∧ 1200000 ≤ since r.dev.frame (-1200000 : Word) ∧ 2 ≤ r.dev.port0.pwRun := by decide
theorem witness_SessionsLogAndStoresActOnTheirCommands_operations :
    let l := tLineWith id
    let p := tPair fun x => { x with pclaim := true }
    let f := tOf fun d => { d with port0 := { frozen := true }, log := { d.log with newest := 4, wmark := 2 } }
    l.dev.hasLine .a = true ∧ l.dev.isMaster .a = true ∧ (l.dev.lineRec .a).reef = true ∧ p.dev.hasDuplex = true ∧ p.dev.dpx.role = .offline ∧ p.dev.dpx.resyncCmd = none
    ∧ p.dev.dpx.frozen = false ∧ f.dev.port0.frozen = true ∧ f.dev.port0.locked f.dev.frame = false ∧ (0 : Fin 2) ≠ 1
    ∧ newer (2 : Word) (BitVec.ofNat 32 f.dev.log.wmark) = false ∧ newer (BitVec.ofNat 32 f.dev.log.newest) (5 : Word) = true := by decide
theorem witness_RigsAreStagedVerifiedStoredAndActivated :
    let s := tRigs fun g => { g with staged := true, owner := some 0, passed := some {} }
    let q : Req := { port := 0 }
    s.Accepts q ∧ (s.dev.node (s.dev.halfOfPort 0)).sys.inService = true ∧ s.dev.port0.session.isSome = true ∧ s.dev.mirrors = false ∧ s.dev.mayReserve = true
    ∧ s.dev.rig.staged = true ∧ s.dev.rig.owner = some 0 ∧ s.dev.rig.passed ≠ none ∧ s.dev.rig.store = none ∧ s.dev.rig.job = none ∧ s.dev.rig.pendAct = none
    ∧ q.data = s.dev.rig.stagedSerial ∧ q.index < 2 ∧ (s.dev.port0.par.getD 0 0).toNat < 2 ∧ ((1 : Fin 2) ≠ 0) := by decide
theorem witness_RigsAreStagedVerifiedStoredAndActivated_end :
    let s := tRigs fun g => { g with actDue := some ({}, []), pendAct := some { opc := 0x33, frame := -20001 } }
    let b := tPhase .rigLoad .verify
    let e := tRigs fun g => { g with job := some { cmd := { opc := 0x35 } }, storeLogged := true, store := some { cmd := { opc := 0x34 } } }
    s.dev.inReset = false ∧ s.dev.allSafe = false ∧ s.dev.activating = some ({}, []) ∧ 20000 < since s.dev.frame (-20001 : Word) ∧ b.dev.allSafe = false ∧ b.dev.bootVerifies = true
    ∧ b.dev.rig.job = none ∧ b.dev.rig.store = none ∧ s.dev.bootVerifies = false ∧ tLive.dev.activating = none
    ∧ e.dev.rig.storeLogged = true ∧ e.dev.rig.store = some { cmd := { opc := 0x34 } } ∧ e.dev.rig.job = some { cmd := { opc := 0x35 } } := by decide
end Sys2Proof.Tests
end

section
/-! The timebase layer: one lemma per function of a frame's work, of the boundary and of the ports, that it leaves the
time, the straps and the work marks alone. A proof `(rfl)` stands in brackets so that `simp` does not take the lemma for a
definitional one, which it could not use for the hypothesis of `Dev.foldl_timebase`. -/
namespace Sys2Proof.Machine

/-- What neither a frame's work nor the parts of a boundary after its start change: the internal reset, the straps, device
time, frame number, code position, and the halves' work marks. -/
structure Timebase where
  inReset : Bool
  straps : Straps
  dt : DTime
  frame : Word
  codePos : Nat
  workDone : Bool
  workDoneB : Bool

def Dev.timebase (d : Dev) : Timebase :=
  { inReset := d.inReset, straps := d.straps, dt := d.dt, frame := d.frame, codePos := d.codePos
    workDone := d.workDone, workDoneB := d.workDoneB }

/-! ## How the timebase passes through branches and folds -/

@[simp] theorem Dev.timebase_ite (c : Prop) [Decidable c] (a b : Dev) :
    (if c then a else b).timebase = if c then a.timebase else b.timebase := apply_ite Dev.timebase c a b

@[simp] theorem Dev.snd_timebase_ite {β : Type} (c : Prop) [Decidable c] (a b : β × Dev) :
    (if c then a else b).2.timebase = if c then a.2.timebase else b.2.timebase := apply_ite (fun x : β × Dev => x.2.timebase) c a b

@[simp] theorem Dev.foldl_timebase {α : Type} {f : Dev → α → Dev} (keep : ∀ d x, (f d x).timebase = d.timebase)
    (l : List α) (d : Dev) : (l.foldl f d).timebase = d.timebase := by
  induction l generalizing d with
  | nil => rfl
  | cons x l ih => exact (ih (f d x)).trans (keep d x)

theorem Dev.foldl_snd_timebase {α β : Type} {f : β × Dev → α → β × Dev} (keep : ∀ x a, (f x a).2.timebase = x.2.timebase)
    (l : List α) (x : β × Dev) : (l.foldl f x).2.timebase = x.2.timebase := by
  induction l generalizing x with
  | nil => rfl
  | cons a l ih => exact (ih (f x a)).trans (keep x a)

/-! ## Updates of one part -/

@[simp] theorem Dev.setNode_timebase (h : Half) (n : Node) (d : Dev) : (d.setNode h n).timebase = d.timebase := by cases h <;> rfl
@[simp] theorem Dev.onNode_timebase (h : Half) (f : Node → Node) (d : Dev) : (d.onNode h f).timebase = d.timebase := by
  simp [Dev.onNode]
@[simp] theorem Dev.raise_timebase (c : Nat) (k : Kind) (i : Nat) (d : Dev) (h : Half) (p : Nat) :
    (d.raise c k i h p).timebase = d.timebase := (rfl)
@[simp] theorem Dev.clearF_timebase (c : Nat) (k : Kind) (i : Nat) (d : Dev) (h : Half) :
    (d.clearF c k i h).timebase = d.timebase := (rfl)
@[simp] theorem Dev.fresh_timebase (d : Dev) : d.fresh.2.timebase = d.timebase := (rfl)
@[simp] theorem Dev.onSys_timebase (i : Nat) (f : Sys → Sys) (d : Dev) : (d.onSys i f).timebase = d.timebase := (rfl)
@[simp] theorem Dev.onOut_timebase (i : Nat) (f : Output → Output) (d : Dev) : (d.onOut i f).timebase = d.timebase := (rfl)
@[simp] theorem Dev.onInp_timebase (i : Nat) (f : Input → Input) (d : Dev) : (d.onInp i f).timebase = d.timebase := (rfl)
@[simp] theorem Dev.setPort_timebase (p : Fin 2) (x : Port) (d : Dev) : (d.setPort p x).timebase = d.timebase := by
  unfold Dev.setPort; split <;> rfl
@[simp] theorem Dev.onPort_timebase (p : Fin 2) (f : Port → Port) (d : Dev) : (d.onPort p f).timebase = d.timebase := by
  simp [Dev.onPort]
@[simp] theorem Dev.onLine_timebase (h : Half) (f : LineNode → LineNode) (d : Dev) : (d.onLine h f).timebase = d.timebase := by
  simp [Dev.onLine]
@[simp] theorem Dev.onPeer_timebase (h : Half) (a : Nat) (f : Peer → Peer) (d : Dev) : (d.onPeer h a f).timebase = d.timebase := by
  simp [Dev.onPeer]
@[simp] theorem Dev.onDpx_timebase (f : Dpx → Dpx) (d : Dev) : (d.onDpx f).timebase = d.timebase := (rfl)
@[simp] theorem Dev.onHal_timebase (f : Hal → Hal) (d : Dev) : (d.onHal f).timebase = d.timebase := (rfl)
@[simp] theorem Dev.onMember_timebase (m : Nat) (f : HMember → HMember) (d : Dev) : (d.onMember m f).timebase = d.timebase := by
  simp [Dev.onMember]
@[simp] theorem Dev.onLog_timebase (f : ChangeLog → ChangeLog) (d : Dev) : (d.onLog f).timebase = d.timebase := (rfl)
@[simp] theorem Dev.onStore_timebase (f : Store → Store) (d : Dev) : (d.onStore f).timebase = d.timebase := (rfl)
@[simp] theorem Dev.onRig_timebase (f : RigMgr → RigMgr) (d : Dev) : (d.onRig f).timebase = d.timebase := (rfl)
@[simp] theorem Dev.onBgw_timebase (f : Bgw → Bgw) (d : Dev) : (d.onBgw f).timebase = d.timebase := (rfl)
@[simp] theorem Dev.onCores_timebase (f : Core → Core) (d : Dev) : (d.onCores f).timebase = d.timebase := (rfl)
@[simp] theorem Dev.mapOwn_timebase (h : Half) (f : Point → Point) (d : Dev) : (d.mapOwn h f).timebase = d.timebase := by
  unfold Dev.mapOwn
  split
  · rfl
  · simp
@[simp] theorem Dev.onOwn_timebase (h : Half) (i : Nat) (f : Point → Point) (d : Dev) : (d.onOwn h i f).timebase = d.timebase := by
  simp [Dev.onOwn]
@[simp] theorem Dev.onHead_timebase (i : Nat) (f : Point → Point) (d : Dev) : (d.onHead i f).timebase = d.timebase := by
  simp [Dev.onHead]
@[simp] theorem Dev.disturbPointOf_timebase (i : Nat) (d : Dev) : (d.disturbPointOf i).timebase = d.timebase := by
  simp [Dev.disturbPointOf]

/-! ## Faults of one object, completions -/

@[simp] theorem Dev.raiseSys_timebase (i c : Nat) (d : Dev) (p : Nat) : (d.raiseSys i c p).timebase = d.timebase := (rfl)
@[simp] theorem Dev.raiseHed_timebase (i c : Nat) (d : Dev) (p : Nat) : (d.raiseHed i c p).timebase = d.timebase := (rfl)
@[simp] theorem Dev.raisePt_timebase (h : Half) (i c : Nat) (d : Dev) : (d.raisePt h i c).timebase = d.timebase := (rfl)
@[simp] theorem Dev.clearPt_timebase (h : Half) (i c : Nat) (d : Dev) : (d.clearPt h i c).timebase = d.timebase := (rfl)
@[simp] theorem Dev.raiseSect_timebase (h : Half) (i c : Nat) (d : Dev) : (d.raiseSect h i c).timebase = d.timebase := (rfl)
@[simp] theorem Dev.raiseOut_timebase (n c : Nat) (d : Dev) (p : Nat) : (d.raiseOut n c p).timebase = d.timebase := (rfl)
@[simp] theorem Dev.outFault_timebase (n c : Nat) (d : Dev) (p : Nat) : (d.outFault n c p).timebase = d.timebase := (rfl)
@[simp] theorem Dev.clearUnit_timebase (c : Nat) (d : Dev) : (d.clearUnit c).timebase = d.timebase := (rfl)
@[simp] theorem Dev.breakPresses_timebase (e t : Nat) (d : Dev) : (d.breakPresses e t).timebase = d.timebase := (rfl)
@[simp] theorem Dev.complete_timebase (c : HostCmd) (st : Status) (v : Word) (d : Dev) : (d.complete c st v).timebase = d.timebase := (rfl)
@[simp] theorem Dev.completeAt_timebase (c : HostCmd) (st : Status) (v w : Word) (d : Dev) :
    (d.completeAt c st v w).timebase = d.timebase := (rfl)
@[simp] theorem Dev.onJournal_timebase (c : HostCmd) (f : HostCmd → HostCmd) (d : Dev) : (d.onJournal c f).timebase = d.timebase := by
  simp [Dev.onJournal]
@[simp] theorem Dev.ends_timebase (c : HostCmd) (r : Status × Dev) : (Dev.ends c r).timebase = r.2.timebase := (rfl)

/-! ## What the closed frame brought -/

@[simp] theorem Dev.raiseHw_timebase (k : FaultKey) (d : Dev) : (d.raiseHw k).timebase = d.timebase := by
  unfold Dev.raiseHw
  dsimp only
  split
  · rfl
  · rw [Dev.foldl_timebase (by simp)]
    rfl
  · rfl
@[simp] theorem Dev.observeSys_timebase (i p : Nat) (o : SysObs) (v : Nat) (d : Dev) : (d.observeSys i p o v).1.timebase = d.timebase := by
  unfold Dev.observeSys
  dsimp only
  split
  · rw [Dev.foldl_timebase (by simp), Dev.onSys_timebase]
  · split <;> simp
@[simp] theorem Dev.windowFrame_timebase (i : Nat) (o : SysObs) (m : Bool) (d : Dev) : (d.windowFrame i o m).timebase = d.timebase := by
  simp [Dev.windowFrame]
@[simp] theorem Dev.lookAt_timebase (o : SysObs) (d : Dev) : (d.lookAt o).timebase = d.timebase := by
  unfold Dev.lookAt
  dsimp only
  split
  · rfl
  · split <;> simp
@[simp] theorem Dev.lookAtFrame_timebase (hs : List Half) (d : Dev) : (d.lookAtFrame hs).timebase = d.timebase := by
  simp [Dev.lookAtFrame]
@[simp] theorem Dev.probeFrame_timebase (d : Dev) : d.probeFrame.timebase = d.timebase := by
  unfold Dev.probeFrame
  dsimp only
  split
  · rfl
  · split <;> rfl
@[simp] theorem Dev.shutFrame_timebase (d : Dev) : d.shutFrame.timebase = d.timebase := by
  unfold Dev.shutFrame
  split
  · split <;> rfl
  · rfl

/-! ## Step 1 and the members' results -/

@[simp] theorem Dev.noteEvent_timebase (h : Half) (w : Bool) (c : Completed) (d : Dev) : (d.noteEvent h w c).2.timebase = d.timebase := by
  simp [Dev.noteEvent]
@[simp] theorem Dev.stepOne_timebase (h : Half) (w : Bool) (d : Dev) : (d.stepOne h w).2.timebase = d.timebase := by
  unfold Dev.stepOne
  dsimp only
  rw [Dev.foldl_snd_timebase (by simp), Dev.foldl_timebase, Dev.mapOwn_timebase]
  intro d r
  split <;> simp
@[simp] theorem Dev.takePoint_timebase (m : Nat) (x : Nat × PointState × Position) (d : Dev) : (d.takePoint m x).timebase = d.timebase := by
  simp [Dev.takePoint]
@[simp] theorem Dev.takeReply_timebase (m : Nat) (r : Nat × Status × Word) (d : Dev) : (d.takeReply m r).timebase = d.timebase := by
  unfold Dev.takeReply
  split <;> simp
@[simp] theorem Dev.takeEvent_timebase (m : Nat) (e : RawEvent) (d : Dev) : (d.takeEvent m e).timebase = d.timebase := by
  simp [Dev.takeEvent]
@[simp] theorem Dev.takeVerdict_timebase (m : Nat) (x : List (Nat × Option Word × Verdict) × Dev) (v : Nat × Verdict) :
    (Dev.takeVerdict m x v).2.timebase = x.2.timebase := by
  unfold Dev.takeVerdict
  split <;> simp
@[simp] theorem Dev.memberFrame_timebase (w : Bool) (d : Dev) : (d.memberFrame w).2.2.timebase = d.timebase := by
  unfold Dev.memberFrame
  dsimp only
  rw [Dev.foldl_snd_timebase]
  · simp
  · intro x u
    exact Dev.foldl_snd_timebase (by simp) _ _
@[simp] theorem Dev.ownInputs_timebase (h : Half) (w : Bool) (d : Dev) : (d.ownInputs h w).2.timebase = d.timebase := by
  unfold Dev.ownInputs
  dsimp only
  split <;> simp
@[simp] theorem Dev.noteResults_timebase (es : List RawEvent) (vs : List (Nat × Verdict)) (d : Dev) :
    (d.noteResults es vs).timebase = d.timebase := (rfl)
@[simp] theorem Dev.shadowWork_timebase (d : Dev) : d.shadowWork.timebase = d.timebase := by
  simp [Dev.shadowWork]

/-! ## Steps 2 to 4 -/

@[simp] theorem Dev.skipNumbers_timebase (d : Dev) : d.skipNumbers.timebase = d.timebase := by
  unfold Dev.skipNumbers
  split
  · rw [Dev.onDpx_timebase]
    unfold Dev.timebase
    rfl
  · rfl
@[simp] theorem Dev.number_timebase (h : Half) (e : RawEvent) (m : Option Nat) (d : Dev) : (d.number h e m).2.timebase = d.timebase := by
  unfold Dev.number
  simp only [Dev.timebase_ite, Dev.raise_timebase, Dev.onNode_timebase, ite_self]
  split <;> rfl
@[simp] theorem Dev.numberAll_timebase (h : Half) (es : List (Option Nat × RawEvent)) (d : Dev) : (d.numberAll h es).2.timebase = d.timebase := by
  unfold Dev.numberAll
  exact Dev.foldl_snd_timebase (by simp) _ _
@[simp] theorem Dev.ownerDisturbed_timebase (h : Half) (a : Nat) (b : Bool) (d : Dev) : (d.ownerDisturbed h a b).timebase = d.timebase := by
  simp [Dev.ownerDisturbed]
@[simp] theorem Dev.remoteEvent_timebase (h : Half) (a : Nat) (v : Verdict) (ba res : Bool) (pt : Nat) (q : Word) (x : Remote) (d : Dev) :
    (d.remoteEvent h a v ba res pt q x).2.timebase = d.timebase := by
  unfold Dev.remoteEvent
  dsimp only
  split
  · split <;> simp
  · rfl
@[simp] theorem Dev.remoteEntry_timebase (h : Half) (a : Nat) (e : Entry) (x : Remote × Dev) :
    (Dev.remoteEntry h a e x).2.timebase = x.2.timebase := by
  unfold Dev.remoteEntry
  dsimp only
  split <;> simp
@[simp] theorem Dev.remoteTelegram_timebase (h : Half) (x : Remote × Dev) (t : Telegram) :
    (Dev.remoteTelegram h x t).2.timebase = x.2.timebase := by
  have entries : ∀ (l : List Entry) (y : Remote × Dev), (l.foldl (fun x e => Dev.remoteEntry h t.src e x) y).2.timebase = y.2.timebase :=
    Dev.foldl_snd_timebase (by simp)
  unfold Dev.remoteTelegram
  dsimp only
  split <;> simp [entries]
@[simp] theorem Dev.remoteFrame_timebase (h : Half) (ts : List Telegram) (d : Dev) : (d.remoteFrame h ts).2.timebase = d.timebase := by
  unfold Dev.remoteFrame
  exact Dev.foldl_snd_timebase (by simp) ts _
@[simp] theorem Dev.sectFrame_timebase (h : Half) (es : List AxleEvt) (vs : List VerdictIn) (i : Nat) (d : Dev) :
    (d.sectFrame h es vs i).timebase = d.timebase := by
  unfold Dev.sectFrame
  split
  · rfl
  · simp
@[simp] theorem Dev.sectionsFrame_timebase (h : Half) (es : List AxleEvt) (vs : List VerdictIn) (d : Dev) :
    (d.sectionsFrame h es vs).timebase = d.timebase := by
  simp [Dev.sectionsFrame]
@[simp] theorem Dev.evaluate_timebase (h : Half) (x : FrameIn) (d : Dev) : (d.evaluate h x).timebase = d.timebase := by
  simp [Dev.evaluate]

/-! ## Step 5: the commands -/

@[simp] theorem Dev.requestReset_timebase (h : Half) (i : Nat) (b : Bool) (src : ResetSource) (d : Dev) :
    (d.requestReset h i b src).2.timebase = d.timebase := by
  unfold Dev.requestReset
  split
  · rfl
  · simp
@[simp] theorem Dev.armReset_timebase (h : Half) (i : Nat) (b : Bool) (p : Fin 2) (n a : Word) (d : Dev) :
    (d.armReset h i b p n a).2.timebase = d.timebase := by
  unfold Dev.armReset
  split
  · rfl
  · simp
@[simp] theorem Dev.confirmReset_timebase (h : Half) (i : Nat) (k : Option Bool) (p : Fin 2) (n a : Word) (d : Dev) :
    (d.confirmReset h i k p n a).2.timebase = d.timebase := by
  unfold Dev.confirmReset
  dsimp only
  split
  · rfl
  · split <;> simp
@[simp] theorem Dev.clearOutput_timebase (n : Nat) (d : Dev) : (d.clearOutput n).2.timebase = d.timebase := by
  simp [Dev.clearOutput]
@[simp] theorem Dev.logCapacity_timebase (d : Dev) : d.logCapacity.timebase = d.timebase := by
  simp [Dev.logCapacity]
@[simp] theorem Dev.release_timebase (d : Dev) : d.release.timebase = d.timebase := by
  simp [Dev.release]
@[simp] theorem Dev.refuse_timebase (c : HostCmd) (st : Status) (d : Dev) : (d.refuse c st).timebase = d.timebase := by
  simp [Dev.refuse]
@[simp] theorem Dev.writeEntry_timebase (e : LogEntry) (d : Dev) : (d.writeEntry e).2.timebase = d.timebase := by
  simp [Dev.writeEntry]
@[simp] theorem Dev.writeEntries_timebase (l : List LogEntry) (d : Dev) : (Dev.writeEntries l d).2.timebase = d.timebase := by
  induction l generalizing d with
  | nil => rfl
  | cons e l ih => simp [Dev.writeEntries, ih]
theorem Dev.logged_timebase (c : HostCmd) (e : LogEntry) (v : Word) {act : Dev → Dev} (keep : ∀ d, (act d).timebase = d.timebase)
    (d : Dev) : (d.logged c e v act).timebase = d.timebase := by
  simp [Dev.logged, keep]
@[simp] theorem Dev.storeFound_timebase (d : Dev) : d.storeFound.timebase = d.timebase := by
  simp [Dev.storeFound]
@[simp] theorem Dev.ackBreak_timebase (w : Word) (d : Dev) : (d.ackBreak w).timebase = d.timebase := by
  simp [Dev.ackBreak]
@[simp] theorem Dev.applyCal_timebase (t : Nat) (new : List CalEntry) (d : Dev) : (d.applyCal t new).timebase = d.timebase := by
  simp [Dev.applyCal]
@[simp] theorem Dev.fresh64_timebase (d : Dev) : d.fresh64.2.timebase = d.timebase := by
  simp [Dev.fresh64]
@[simp] theorem Dev.forwardCal_timebase (c : HostCmd) (pos : Nat) (op : FwdOp) (e : LogEntry) (d : Dev) :
    (d.forwardCal c pos op e).timebase = d.timebase := by
  simp [Dev.forwardCal]

@[simp] theorem doResetArm_timebase (c : HostCmd) (d : Dev) : (doResetArm c d).timebase = d.timebase := by
  unfold doResetArm
  split <;> simp
@[simp] theorem doResetConfirm_timebase (c : HostCmd) (d : Dev) : (doResetConfirm c d).timebase = d.timebase := by
  simp [doResetConfirm]
@[simp] theorem doOutClear_timebase (c : HostCmd) (d : Dev) : (doOutClear c d).timebase = d.timebase := by
  simp [doOutClear]
@[simp] theorem doReefPropose_timebase (c : HostCmd) (d : Dev) : (doReefPropose c d).timebase = d.timebase := by
  simp [doReefPropose]
@[simp] theorem doWake_timebase (c : HostCmd) (d : Dev) : (doWake c d).timebase = d.timebase := by
  simp [doWake]
@[simp] theorem doSwitchover_timebase (c : HostCmd) (d : Dev) : (doSwitchover c d).timebase = d.timebase := by
  simp [doSwitchover]
@[simp] theorem doResync_timebase (c : HostCmd) (d : Dev) : (doResync c d).timebase = d.timebase := by
  simp [doResync]
@[simp] theorem doShutdown_timebase (c : HostCmd) (d : Dev) : (doShutdown c d).timebase = d.timebase := by
  have begun : ∀ (e : Dev) (r : Option ShutdownRun), { e with shut := r }.timebase = e.timebase := fun _ _ => rfl
  simp [doShutdown, begun]
@[simp] theorem doUnfreeze_timebase (c : HostCmd) (d : Dev) : (doUnfreeze c d).timebase = d.timebase := by
  simp [doUnfreeze]
@[simp] theorem doSplitForbid_timebase (c : HostCmd) (d : Dev) : (doSplitForbid c d).timebase = d.timebase :=
  Dev.logged_timebase c _ _ (by simp) d
@[simp] theorem doPwRecover_timebase (c : HostCmd) (d : Dev) : (doPwRecover c d).timebase = d.timebase := by
  unfold doPwRecover
  split
  · simp
  · split <;> simp
@[simp] theorem doLogAck_timebase (c : HostCmd) (d : Dev) : (doLogAck c d).timebase = d.timebase := by
  simp [doLogAck]
@[simp] theorem doCalWrite_timebase (c : HostCmd) (d : Dev) : (doCalWrite c d).timebase = d.timebase := by
  simp [doCalWrite, Dev.logged_timebase]
@[simp] theorem doCalClear_timebase (c : HostCmd) (d : Dev) : (doCalClear c d).timebase = d.timebase := by
  simp [doCalClear, Dev.logged_timebase]
@[simp] theorem doOtpRead_timebase (c : HostCmd) (d : Dev) : (doOtpRead c d).timebase = d.timebase := by
  simp [doOtpRead]
@[simp] theorem doCmd_timebase (c : HostCmd) (d : Dev) : (doCmd c d).timebase = d.timebase := by
  unfold doCmd
  split <;> simp
@[simp] theorem runCmd_timebase (c : HostCmd) (d : Dev) : (runCmd c d).timebase = d.timebase := by
  unfold runCmd
  split
  · simp
  · split
    · simp
    · split <;> simp
@[simp] theorem Dev.stepCmd_timebase (c : HostCmd) (d : Dev) : (d.stepCmd c).timebase = d.timebase := by
  simp only [Dev.stepCmd, Dev.onDpx_timebase, runCmd_timebase, Dev.onJournal_timebase]
  split <;> simp
@[simp] theorem Dev.cmdsFrame_timebase (hs : List Half) (d : Dev) : (d.cmdsFrame hs).timebase = d.timebase := by
  simp [Dev.cmdsFrame]
@[simp] theorem Dev.activateFrame_timebase (d : Dev) : d.activateFrame.timebase = d.timebase := by
  unfold Dev.activateFrame
  split
  · rfl
  · dsimp only
    split
    · simp
    · split <;> simp
@[simp] theorem Dev.doInput_timebase (h : Half) (r : InputReq) (d : Dev) : (d.doInput h r).timebase = d.timebase := by
  unfold Dev.doInput
  split <;> simp
@[simp] theorem Dev.inputsFrame_timebase (h : Half) (d : Dev) : (d.inputsFrame h).timebase = d.timebase := by
  simp [Dev.inputsFrame]
@[simp] theorem Dev.mirrorCmd_timebase (c : RecCmd) (d : Dev) : (d.mirrorCmd c).timebase = d.timebase := by
  have delivered : ∀ (e : Dev) (l : List (Fin 2 × Completion)), { e with done := l }.timebase = e.timebase := fun _ _ => rfl
  unfold Dev.mirrorCmd
  simp only [delivered, Dev.timebase_ite]
  split
  · split <;> simp [delivered]
  · simp [delivered]

/-! ## Step 6 and the end of a frame's work -/

@[simp] theorem Dev.outSettle_timebase (n : Nat) (d : Dev) : (d.outSettle n).timebase = d.timebase := by
  unfold Dev.outSettle
  dsimp only
  split <;> simp
@[simp] theorem Dev.outFrame_timebase (n : Nat) (d : Dev) : (d.outFrame n).timebase = d.timebase := by
  unfold Dev.outFrame
  simp only [Dev.timebase_ite, Dev.onOut_timebase]
  split
  · rfl
  · split <;> simp
@[simp] theorem Dev.outputsFrame_timebase (h : Half) (d : Dev) : (d.outputsFrame h).timebase = d.timebase := by
  simp [Dev.outputsFrame]
@[simp] theorem Dev.journalPressure_timebase (d : Dev) : d.journalPressure.timebase = d.timebase := by
  simp [Dev.journalPressure]
@[simp] theorem Dev.masterWake_timebase (h : Half) (lead : Nat) (d : Dev) : (d.masterWake h lead).timebase = d.timebase := by
  unfold Dev.masterWake
  split <;> simp
@[simp] theorem Dev.burst_timebase (h : Half) (t : Nat) (d : Dev) : (d.burst h t).timebase = d.timebase := by
  simp [Dev.burst]
@[simp] theorem Dev.wakeCause_timebase (h : Half) (d : Dev) : (d.wakeCause h).timebase = d.timebase := by
  simp [Dev.wakeCause]
@[simp] theorem Dev.lineFrame_timebase (h : Half) (b : Bool) (d : Dev) : (d.lineFrame h b).timebase = d.timebase := by
  simp [Dev.lineFrame]
@[simp] theorem Dev.handoverFrame_timebase (d : Dev) : d.handoverFrame.timebase = d.timebase := by
  simp [Dev.handoverFrame]
@[simp] theorem Dev.endWork_timebase (hs : List Half) (f : Half → Bool) (d : Dev) : (d.endWork hs f).timebase = d.timebase := by
  simp [Dev.endWork]
@[simp] theorem Dev.finish_timebase (hs : List Half) (x : Half → FrameIn) (d : Dev) : (d.finish hs x).timebase = d.timebase := by
  simp [Dev.finish]

/-! ## The frame's work of a unit -/

@[simp] theorem Dev.memberWork_timebase (d : Dev) : d.memberWork.timebase = d.timebase := by
  simp [Dev.memberWork]
@[simp] theorem Dev.armSkip_timebase (d : Dev) : d.armSkip.timebase = d.timebase := by
  simp [Dev.armSkip]
@[simp] theorem Dev.soleWork_timebase (hs : List Half) (d : Dev) : (d.soleWork hs).timebase = d.timebase := by
  have inputs : ∀ (w : Bool) (x : List (Half × FrameIn) × Dev), (hs.foldl (fun (x : List (Half × FrameIn) × Dev) h =>
      (x.1 ++ [(h, (x.2.ownInputs h w).1)], (x.2.ownInputs h w).2)) x).2.timebase = x.2.timebase :=
    fun w => Dev.foldl_snd_timebase (by simp) hs
  simp [Dev.soleWork, inputs]
@[simp] theorem Dev.holdoff_timebase (i : Nat) (b : Bool) (d : Dev) : (d.holdoff i b).timebase = d.timebase := by
  simp [Dev.holdoff]

/-! ## The boundary -/

@[simp] theorem Dev.driveGates_timebase (d : Dev) : d.driveGates.timebase = d.timebase := (rfl)
@[simp] theorem Dev.closeField_timebase (obs : FrameObs) (d : Dev) : (d.closeField obs).timebase = d.timebase := (rfl)
@[simp] theorem Dev.closeCores_timebase (obs : FrameObs) (h : Half) (d : Dev) : (d.closeCores obs h).timebase = d.timebase := by
  simp [Dev.closeCores]
@[simp] theorem Dev.noteBias_timebase (obs : FrameObs) (h : Half) (d : Dev) : (d.noteBias obs h).timebase = d.timebase := by
  simp [Dev.noteBias]
@[simp] theorem Dev.closeLinks_timebase (d : Dev) : d.closeLinks.timebase = d.timebase := by
  simp [Dev.closeLinks]
@[simp] theorem Dev.closePoints_timebase (d : Dev) : d.closePoints.timebase = d.timebase := by
  simp [Dev.closePoints]
@[simp] theorem Dev.startSweep_timebase (d : Dev) : d.startSweep.timebase = d.timebase := by
  unfold Dev.startSweep
  split <;> rfl
@[simp] theorem Dev.settleSources_timebase (d : Dev) : d.settleSources.timebase = d.timebase := (rfl)
@[simp] theorem Dev.startJoin_timebase (h : Half) (r : Nat) (d : Dev) : (d.startJoin h r).timebase = d.timebase := by
  simp [Dev.startJoin]
@[simp] theorem Dev.enterService_timebase (h : Half) (d : Dev) : (d.enterService h).timebase = d.timebase := by
  have shown : ∀ (e : Dev) (b : Bool), { e with faultN := b }.timebase = e.timebase := fun _ _ => rfl
  have pulsing : ∀ (e : Dev) (b : Bool), { e with tpsRun := b }.timebase = e.timebase := fun _ _ => rfl
  have opened : ∀ (e : Dev) (p q : Probe) (b : Bgw) (l : ChangeLog),
      { e with probe := p, probeOther := q, bgw := b, log := l }.timebase = e.timebase := fun _ _ _ _ _ => rfl
  simp only [Dev.enterService, Dev.driveGates_timebase, shown, Dev.onNode_timebase, Dev.timebase_ite, Dev.onDpx_timebase,
    opened, Dev.startJoin_timebase, pulsing, ite_self]
@[simp] theorem Dev.tryService_timebase (h : Half) (d : Dev) : (d.tryService h).timebase = d.timebase := by
  simp [Dev.tryService]
@[simp] theorem Dev.closeStates_timebase (d : Dev) : d.closeStates.timebase = d.timebase := by
  have shown : ∀ (e : Dev) (b c : Bool), { e with faultN := b, hbeat := c }.timebase = e.timebase := fun _ _ _ => rfl
  simp [Dev.closeStates, shown]
@[simp] theorem Dev.rigDistribution_timebase (d : Dev) : d.rigDistribution.timebase = d.timebase := by
  unfold Dev.rigDistribution
  split
  · split
    · rfl
    · split <;> simp
  · simp
  · rfl
@[simp] theorem Dev.telemetryDue_timebase (d : Dev) : d.telemetryDue.timebase = d.timebase := by
  simp [Dev.telemetryDue]
@[simp] theorem Dev.closeJobs_timebase (d : Dev) : d.closeJobs.timebase = d.timebase := by
  simp [Dev.closeJobs]

/-- The device side of the boundary ends with the timebase of the new frame, its work to be done. -/
theorem Dev.close_timebase (obs : FrameObs) (lead : Int) (before d : Dev) :
    (Dev.close obs lead before d).timebase = { (d.advance lead).timebase with workDone := false, workDoneB := false } := by
  have opened : ∀ (e : Dev) (f : Faults), { e with workDone := false, workDoneB := false, workWaits := none, faults := f }.timebase
      = { e.timebase with workDone := false, workDoneB := false } := fun _ _ => rfl
  simp [Dev.close, opened]

/-! ## The ports at the boundary -/

@[simp] theorem Dev.forward_timebase (c : HostCmd) (d : Dev) : (d.forward c).timebase = d.timebase := by
  simp [Dev.forward]
@[simp] theorem Dev.clearCounters_timebase (h : Half) (w : Word) (d : Dev) : (d.clearCounters h w).timebase = d.timebase := by
  have counted : ∀ (e : Dev) (f : Faults), { e with faults := f }.timebase = e.timebase := fun _ _ => rfl
  have passed : ∀ (e : Dev) (b : Bgw), { e with bgw := b }.timebase = e.timebase := fun _ _ => rfl
  simp only [Dev.clearCounters, Dev.timebase_ite, Dev.onNode_timebase, passed, Dev.onDpx_timebase, Dev.onHal_timebase, Dev.onLine_timebase, counted, ite_self]
@[simp] theorem Dev.applyWrite_timebase (c : HostCmd) (d : Dev) : (d.applyWrite c).timebase = d.timebase := by
  simp [Dev.applyWrite]
@[simp] theorem Dev.updateWrite_timebase (c : HostCmd) (d : Dev) : (d.updateWrite c).timebase = d.timebase := by
  unfold Dev.updateWrite
  split
  · simp
  · split
    · simp
    · split <;> simp
@[simp] theorem Dev.updateWrites_timebase (d : Dev) : d.updateWrites.timebase = d.timebase := by
  simp [Dev.updateWrites]
@[simp] theorem Dev.deliver_timebase (d : Dev) : d.deliver.timebase = d.timebase := (rfl)
@[simp] theorem Dev.setCauses_timebase (b d : Dev) : (Dev.setCauses b d).timebase = d.timebase := by
  simp [Dev.setCauses, Dev.timebase]

end Sys2Proof.Machine
end

section
/-! The entry into the safe state, for any list of halves: time, work marks, the fault and what is held (R345 to R348). -/
namespace Sys2Proof.Machine

theorem Dev.SameTime.of_timebase {d e : Dev} (h : e.timebase = d.timebase) : d.SameTime e :=
  ⟨congrArg Timebase.dt h, congrArg Timebase.frame h, congrArg Timebase.codePos h, congrArg Timebase.straps h⟩

theorem Dev.SameTime.trans {d e f : Dev} (h : d.SameTime e) (k : e.SameTime f) : d.SameTime f := by
  obtain ⟨hd, hf, hc, hs⟩ := h
  obtain ⟨kd, kf, kc, ks⟩ := k
  exact ⟨kd.trans hd, kf.trans hf, kc.trans hc, ks.trans hs⟩

theorem Dev.SameTime.of_setWorked {d e : Dev} {h : Half} {b : Bool} (k : e.timebase = (d.setWorked h b).timebase) : d.SameTime e := by
  have marked : d.SameTime (d.setWorked h b) := by cases h <;> exact ⟨rfl, rfl, rfl, rfl⟩
  exact marked.trans (.of_timebase k)

theorem Dev.worked_of_timebase {d e : Dev} (h : e.timebase = d.timebase) (g : Half) : e.worked g = d.worked g := by
  cases g
  · exact congrArg Timebase.workDone h
  · exact congrArg Timebase.workDoneB h

theorem Dev.safeHalf_timebase (h : Half) (d : Dev) : (d.safeHalf h).timebase = (d.setWorked h false).timebase := by
  have aborted0 (e : Dev) (p : Port) : { e with port0 := p }.timebase = e.timebase := rfl
  have aborted1 (e : Dev) (p : Port) : { e with port1 := p }.timebase = e.timebase := rfl
  have retired (e : Dev) (x : Dpx) (b : Bool) : { e with dpx := x, tpsRun := b }.timebase = e.timebase := rfl
  simp only [Dev.safeHalf, Dev.timebase_ite, aborted0, aborted1, retired, ite_self]
  cases h <;> rfl

theorem Dev.safeStep_sameTime (d : Dev) (h : Half) : d.SameTime (d.safeStep h) := by
  unfold Dev.safeStep
  split
  · exact .of_timebase rfl
  · exact .of_setWorked (Dev.safeHalf_timebase h d)

theorem Dev.safeStep_due {d : Dev} {g : Half} (due : d.worked g = false) (h : Half) : (d.safeStep h).worked g = false := by
  unfold Dev.safeStep
  split
  · exact due
  · rw [Dev.worked_of_timebase (Dev.safeHalf_timebase h d)]
    by_cases e : g = h
    · subst e; exact Dev.worked_setWorked g false d
    · rw [Dev.worked_setWorked_other false d e]; exact due

theorem Dev.safeStep_faults (d : Dev) (h : Half) : (d.safeStep h).faults = d.faults := by
  unfold Dev.safeStep
  split
  · rfl
  · exact Dev.safeHalf_faults h d

/-- A half that is live before its step is held after it. -/
theorem Dev.safeStep_held {d : Dev} {h : Half} (live : (d.node h).safe = false) : (d.safeStep h).Held h := by
  rw [Dev.safeStep_live live]
  exact Dev.safeHalf_held h d

theorem Dev.safeStep_keeps_held {d : Dev} {g : Half} (held : d.Held g) (h : Half) : (d.safeStep h).Held g := by
  unfold Dev.safeStep
  split
  · exact held
  · rename_i live
    have ne : g ≠ h := by
      rintro rfl
      obtain ⟨safe, -⟩ := held
      exact live safe
    exact Dev.safeHalf_keeps_held ne d held

theorem Dev.safeStep_node_ne {d : Dev} {g h : Half} (ne : g ≠ h) : (d.safeStep h).node g = d.node g := by
  unfold Dev.safeStep
  split
  · rfl
  · exact Dev.safeHalf_node_ne ne d

theorem Dev.foldl_safeStep_keeps_held {g : Half} (hs : List Half) {d : Dev} (held : d.Held g) : (hs.foldl Dev.safeStep d).Held g := by
  induction hs generalizing d with
  | nil => exact held
  | cons h hs ih => exact ih (Dev.safeStep_keeps_held held h)

/-- Every live half of the list is held at the end. -/
theorem Dev.foldl_safeStep_held {g : Half} {hs : List Half} (mem : g ∈ hs) {d : Dev} (live : (d.node g).safe = false) :
    (hs.foldl Dev.safeStep d).Held g := by
  induction hs generalizing d with
  | nil => cases mem
  | cons h hs ih =>
    by_cases e : g = h
    · subst e
      exact Dev.foldl_safeStep_keeps_held hs (Dev.safeStep_held live)
    · have rest : g ∈ hs := by simpa [e] using mem
      exact ih rest (by rw [Dev.safeStep_node_ne e]; exact live)

theorem Dev.foldl_safeStep_sameTime (hs : List Half) (d : Dev) : d.SameTime (hs.foldl Dev.safeStep d) := by
  induction hs generalizing d with
  | nil => exact .of_timebase rfl
  | cons h hs ih => exact (Dev.safeStep_sameTime d h).trans (ih _)

theorem Dev.foldl_safeStep_due {g : Half} (hs : List Half) {d : Dev} (due : d.worked g = false) :
    (hs.foldl Dev.safeStep d).worked g = false := by
  induction hs generalizing d with
  | nil => exact due
  | cons h hs ih => exact ih (Dev.safeStep_due due h)

theorem Dev.foldl_safeStep_faults (hs : List Half) (d : Dev) : (hs.foldl Dev.safeStep d).faults = d.faults := by
  induction hs generalizing d with
  | nil => rfl
  | cons h hs ih => exact (ih _).trans (Dev.safeStep_faults d h)

/-- The fault of an entry into the safe state is active after it, whether it had been or not. -/
theorem Faults.entered_any (key : FaultKey) (occ : List (Nat × Nat)) (frame : Word) (t0 : DTime) (f : Faults) :
    let fresh := !f.active.any (FaultKey.same key)
    let g := { f with active := if fresh then key :: f.active else f.active, occ := occ }
    ((if fresh then g.push { key } frame t0 else g).active.any (·.code == key.code)) = true := by
  cases active : f.active.any (FaultKey.same key) with
  | false => simp [Faults.push]
  | true =>
    obtain ⟨x, mem, same⟩ := List.any_eq_true.mp active
    have code : key.code = x.code := ((FaultKey.same_iff key x).mp same).1
    exact List.any_eq_true.mpr ⟨x, mem, by simp [code]⟩

/-- The entry is its halves' steps, from a device in which only the fault, the last cause and SHUTDOWN's run differ. -/
theorem Dev.enterSafe_eq_foldl (code : Nat) (hs : List Half) (cyc : Nat) (d : Dev) :
    ∃ e : Dev, d.enterSafe code true hs cyc = hs.foldl Dev.safeStep e ∧ e.timebase = d.timebase ∧ (∀ g, e.node g = d.node g)
      ∧ e.codeActive code = true := by
  refine ⟨_, rfl, rfl, fun g => by cases g <;> rfl, ?_⟩
  exact Faults.entered_any { code, kind := _, obj := _ } _ _ _ _

theorem Dev.enterSafe_sameTime (code : Nat) (hs : List Half) (cyc : Nat) (d : Dev) : d.SameTime (d.enterSafe code true hs cyc) := by
  obtain ⟨e, steps, time, -⟩ := d.enterSafe_eq_foldl code hs cyc
  rw [steps]
  exact (Dev.SameTime.of_timebase time).trans (Dev.foldl_safeStep_sameTime hs e)

theorem Dev.enterSafe_due {g : Half} (code : Nat) (hs : List Half) (cyc : Nat) {d : Dev} (due : d.worked g = false) :
    (d.enterSafe code true hs cyc).worked g = false := by
  obtain ⟨e, steps, time, -⟩ := d.enterSafe_eq_foldl code hs cyc
  rw [steps]
  exact Dev.foldl_safeStep_due hs ((Dev.worked_of_timebase time g).trans due)

theorem Dev.enterSafe_held {g : Half} {hs : List Half} (mem : g ∈ hs) (code cyc : Nat) {d : Dev} (live : (d.node g).safe = false) :
    (d.enterSafe code true hs cyc).Held g := by
  obtain ⟨e, steps, -, node, -⟩ := d.enterSafe_eq_foldl code hs cyc
  rw [steps]
  exact Dev.foldl_safeStep_held mem (by rw [node]; exact live)

theorem Dev.enterSafe_codeActive (code : Nat) (hs : List Half) (cyc : Nat) (d : Dev) :
    (d.enterSafe code true hs cyc).codeActive code = true := by
  obtain ⟨e, steps, -, -, active⟩ := d.enterSafe_eq_foldl code hs cyc
  rw [steps, Dev.codeActive, Dev.foldl_safeStep_faults]
  exact active

theorem Dev.allSafe_of_allLive {d : Dev} (live : d.AllLive) : d.allSafe = false := by
  have mem : Half.a ∈ d.halves := by
    unfold Dev.halves
    split <;> simp
  simp only [Dev.allSafe, List.all_eq_false]
  exact ⟨.a, mem, by simp [live .a mem]⟩

end Sys2Proof.Machine
end

section
/-! Changes of the device alone, and the parts of a boundary and of a frame's work that are such changes. -/
namespace Sys2Proof.Machine

/-- Of the state at most the device differs, and its timebase stands. -/
def State.KeepsTime (s t : State) : Prop := ∃ d : Dev, t = s.lift (fun _ => d) ∧ d.timebase = s.dev.timebase

theorem State.KeepsTime.refl (s : State) : s.KeepsTime s := ⟨s.dev, rfl, rfl⟩

theorem State.KeepsTime.lift {f : Dev → Dev} {s : State} (keep : (f s.dev).timebase = s.dev.timebase) : s.KeepsTime (s.lift f) :=
  ⟨f s.dev, rfl, keep⟩

theorem State.KeepsTime.trans {s t u : State} (h : s.KeepsTime t) (k : t.KeepsTime u) : s.KeepsTime u := by
  obtain ⟨d, rfl, hd⟩ := h
  obtain ⟨e, rfl, he⟩ := k
  exact ⟨e, rfl, he.trans hd⟩

theorem State.lift_lift_const (f : Dev → Dev) (d : Dev) (s : State) : (s.lift f).lift (fun _ => d) = s.lift fun _ => d := rfl

theorem State.foldl_keepsTime {α : Type} {f : State → α → State} (keep : ∀ (s : State) x, s.KeepsTime (f s x)) (l : List α) (s : State) :
    s.KeepsTime (l.foldl f s) := by
  induction l generalizing s with
  | nil => exact .refl s
  | cons x l ih => exact (keep s x).trans (ih _)

theorem State.updateRead_keepsTime (s : State) (c : HostCmd) : s.KeepsTime (s.updateRead c) := by
  unfold State.updateRead
  split
  · exact .lift (by simp)
  · split
    · exact .lift (by simp)
    · exact .lift (by simp)

theorem State.fillRead_keepsTime (s : State) (c : HostCmd) : s.KeepsTime (s.fillRead c) := by
  unfold State.fillRead
  split
  · exact .refl s
  · exact .lift (by simp)

theorem State.closePorts_keepsTime (s : State) : s.KeepsTime s.closePorts := by
  have read (l : List HostCmd) (u : State) := State.foldl_keepsTime State.updateRead_keepsTime l u
  have filled (l : List HostCmd) (u : State) := State.foldl_keepsTime State.fillRead_keepsTime l u
  have written (u : State) : u.KeepsTime (u.lift Dev.updateWrites) := .lift (by simp)
  have delivered (u : State) : u.KeepsTime (u.lift Dev.deliver) := .lift (by simp)
  have caused (u : State) : u.KeepsTime (u.lift (Dev.setCauses u.bank)) := .lift (by simp)
  unfold State.closePorts
  exact (written s).trans ((read _ _).trans ((delivered _).trans ((filled _ _).trans (caused _))))

theorem State.forwarded_keepsTime (s : State) (f : Fwd) : s.KeepsTime (s.forwarded f) := by
  unfold State.forwarded
  dsimp only
  split <;> exact .lift (by simp)

end Sys2Proof.Machine
end

section
/-! The boundary (R11, R12, R18, R252, R346). -/
namespace Sys2Proof.Machine

/-- R11, R44: without a grant every count advances by its step, device time by one more or less where the unit mirrors. -/
theorem Dev.advance_steps {d : Dev} (lead : Int) (h : d.hal.stepTo = none) :
    (d.advance lead).frame = d.frame + 1 ∧ (d.advance lead).codePos = (d.codePos + 1) % 63
    ∧ (d.mirrors = false → (d.advance lead).dt = d.dt + 500)
    ∧ ((d.advance lead).dt = d.dt + 500 ∨ (d.advance lead).dt = d.dt + 499 ∨ (d.advance lead).dt = d.dt + 501) := by
  unfold Dev.advance
  simp only [h]
  refine ⟨trivial, trivial, ?_, ?_⟩
  · intro m
    simp [m]
  · split
    · split
      · simp
      · split <;> simp
    · simp

/-- R252: a granted member takes the counts of its grant. -/
theorem Dev.advance_granted {d : Dev} (lead : Int) {g : Grant} (h : d.hal.stepTo = some g) :
    (d.advance lead).frame = g.frame + 1 ∧ (d.advance lead).codePos = (g.codePos + 1) % 63 := by
  simp [Dev.advance, h]

theorem Dev.probeSwap_sameTime (d : Dev) : d.SameTime d.probeSwap := by
  unfold Dev.probeSwap
  dsimp only
  split
  · exact (Dev.SameTime.of_timebase rfl).trans (Dev.enterSafe_sameTime _ _ _ _)
  · exact (Dev.SameTime.of_timebase rfl).trans (Dev.enterSafe_sameTime _ _ _ _)
  · exact .of_timebase rfl

theorem Dev.probeSwap_due {d : Dev} {g : Half} (due : d.worked g = false) : d.probeSwap.worked g = false := by
  unfold Dev.probeSwap
  dsimp only
  split
  · exact Dev.enterSafe_due _ _ _ (by cases g <;> exact due)
  · exact Dev.enterSafe_due _ _ _ (by cases g <;> exact due)
  · cases g <;> exact due

/-- R346: a safe half has a bank of its own from here on, the first one that was in force. -/
theorem State.freezeBanks_of_safe (s : State) :
    (s.dev.nodeA.safe = true → s.freezeBanks.frozenA = some (s.frozenA.getD s.bank))
    ∧ (s.dev.nodeB.safe = true → s.freezeBanks.frozenB = some (s.frozenB.getD s.bank)) := by
  constructor
  · intro safe
    cases frozen : s.frozenA <;> simp [State.freezeBanks, safe, frozen]
  · intro safe
    cases frozen : s.frozenB <;> simp [State.freezeBanks, safe, frozen]

theorem State.freezeBanks_keeps {s : State} {b : Dev} :
    (s.frozenA = some b → s.freezeBanks.frozenA = some b) ∧ (s.frozenB = some b → s.freezeBanks.frozenB = some b) :=
  ⟨fun frozen => by simp [State.freezeBanks, frozen], fun frozen => by simp [State.freezeBanks, frozen]⟩

/-- What every boundary out of the internal reset shares: the time that `Dev.advance` gives, the bank that closes, and
the fields that it leaves. -/
structure State.Closes (lead : Int) (s t : State) : Prop where
  time : (s.dev.advance lead).SameTime t.dev
  prev : t.prev = s.bank
  flash : t.flash = s.flash
  snap0 : t.snap0 = s.snap0
  snap1 : t.snap1 = s.snap1
  pending : t.pending = s.pending
  frozenA : ∀ b, s.frozenA = some b → t.frozenA = some b
  frozenB : ∀ b, s.frozenB = some b → t.frozenB = some b

/-- The boundary of a device whose running halves are all safe: the time advances, the bank stays (R346). -/
def State.still (lead : Int) (s : State) : State := { s with dev := s.dev.advance lead, prev := s.bank }

/-- The boundary of a live device whose tick fails its check (R12). -/
def State.stopped (lead : Int) (s : State) : State :=
  { (s.still lead).lift (Dev.safeAll 0x14 0) with prev := s.bank }.freezeBanks

/-- The boundary of a live device with a good tick: the update, the ports, the swap (R18). -/
def State.runs (obs : FrameObs) (lead : Int) (s : State) : State := ((s.lift (Dev.close obs lead s.bank)).closePorts).swap

theorem State.boundary_of_reset (obs : FrameObs) (lead : Int) {s : State} (held : s.dev.inReset = true) : s.boundary obs lead = s := by
  rw [State.boundary, if_pos held]

theorem State.boundary_of_safe (obs : FrameObs) (lead : Int) {s : State} (out : s.dev.inReset = false) (safe : s.dev.allSafe = true) :
    s.boundary obs lead = s.freezeBanks.still lead := by
  have safe' : s.freezeBanks.dev.allSafe = true := safe
  simp only [State.boundary, out, safe', if_true, Bool.false_eq_true, if_false]
  rfl

theorem State.boundary_of_bad_tick {obs : FrameObs} (lead : Int) {s : State} (out : s.dev.inReset = false)
    (running : s.dev.allSafe = false) (bad : tickOk obs.tickNs = false) : s.boundary obs lead = s.freezeBanks.stopped lead := by
  have running' : s.freezeBanks.dev.allSafe = false := running
  simp only [State.boundary, out, running', bad, Bool.not_false, if_true, Bool.false_eq_true, if_false]
  rfl

theorem State.boundary_of_good_tick {obs : FrameObs} (lead : Int) {s : State} (out : s.dev.inReset = false)
    (running : s.dev.allSafe = false) (good : tickOk obs.tickNs = true) : s.boundary obs lead = s.freezeBanks.runs obs lead := by
  have running' : s.freezeBanks.dev.allSafe = false := running
  simp only [State.boundary, out, running', good, Bool.not_true, Bool.false_eq_true, if_false]
  rfl

theorem State.still_closes (lead : Int) (s : State) : s.Closes lead (s.still lead) :=
  { time := .of_timebase rfl, prev := rfl, flash := rfl, snap0 := rfl, snap1 := rfl, pending := rfl
    frozenA := fun _ frozen => frozen, frozenB := fun _ frozen => frozen }

theorem State.stopped_closes (lead : Int) (s : State) : s.Closes lead (s.stopped lead) :=
  { time := Dev.enterSafe_sameTime _ _ _ _, prev := rfl, flash := rfl, snap0 := rfl, snap1 := rfl, pending := rfl
    frozenA := fun _ frozen => State.freezeBanks_keeps.1 frozen, frozenB := fun _ frozen => State.freezeBanks_keeps.2 frozen }

/-- A live boundary before its swap: the device of the new frame, its work to be done, and nothing else of the state. -/
theorem State.runs_before_swap (obs : FrameObs) (lead : Int) (s : State) :
    ∃ d : Dev, s.runs obs lead = (s.lift fun _ => d).swap
      ∧ d.timebase = { (s.dev.advance lead).timebase with workDone := false, workDoneB := false } := by
  obtain ⟨d, ports, time⟩ := (s.lift (Dev.close obs lead s.bank)).closePorts_keepsTime
  refine ⟨d, ?_, ?_⟩
  · rw [State.runs, ports, State.lift_lift_const]
  · rw [time, State.lift_dev, Dev.close_timebase]

theorem State.swap_closes (lead : Int) {s : State} {d : Dev} (time : (s.dev.advance lead).SameTime d) :
    s.Closes lead (s.lift fun _ => d).swap :=
  { time := time.trans (Dev.probeSwap_sameTime d), prev := rfl, flash := rfl, snap0 := rfl, snap1 := rfl, pending := rfl
    frozenA := fun _ frozen => State.freezeBanks_keeps.1 frozen, frozenB := fun _ frozen => State.freezeBanks_keeps.2 frozen }

/-- The bank that a live boundary puts in force shows the time of the device. -/
theorem State.swap_bank_sameTime (s : State) : s.swap.bank.SameTime s.swap.dev := by
  have probed := Dev.probeSwap_sameTime s.dev
  show Dev.SameTime (if s.dev.probeSwap.live = s.dev.live then s.dev.probeSwap else s.dev) s.dev.probeSwap
  split
  · exact .of_timebase rfl
  · exact probed

/-- A live boundary closes the frame, puts a bank of the new time in force, and leaves the frame's work to be done. -/
theorem State.runs_spec (obs : FrameObs) (lead : Int) (s : State) :
    s.Closes lead (s.runs obs lead) ∧ (s.runs obs lead).bank.SameTime (s.runs obs lead).dev
    ∧ ∀ g, (s.runs obs lead).dev.worked g = false := by
  obtain ⟨d, before, time⟩ := s.runs_before_swap obs lead
  rw [before]
  have same : (s.dev.advance lead).SameTime d :=
    ⟨congrArg Timebase.dt time, congrArg Timebase.frame time, congrArg Timebase.codePos time, congrArg Timebase.straps time⟩
  refine ⟨State.swap_closes lead same, State.swap_bank_sameTime _, fun g => Dev.probeSwap_due ?_⟩
  cases g
  · exact congrArg Timebase.workDone time
  · exact congrArg Timebase.workDoneB time

theorem State.boundary_closes (obs : FrameObs) (lead : Int) {s : State} (out : s.dev.inReset = false) :
    s.freezeBanks.Closes lead (s.boundary obs lead) := by
  cases safe : s.dev.allSafe with
  | true =>
    rw [State.boundary_of_safe obs lead out safe]
    exact State.still_closes lead _
  | false =>
    cases tick : tickOk obs.tickNs with
    | false =>
      rw [State.boundary_of_bad_tick lead out safe tick]
      exact State.stopped_closes lead _
    | true =>
      rw [State.boundary_of_good_tick lead out safe tick]
      exact (State.runs_spec obs lead _).1

end Sys2Proof.Machine
end

section
/-! The release of the internal reset (R11, R27, R35, R270). -/
namespace Sys2Proof.Machine

/-- The device that leaves the internal reset. -/
def Dev.released (d : Dev) : Dev :=
  { d with inReset := false, vfldOver := false, pll := true, dt := 0, frame := 0, codePos := 0, nodeA := Node.boot, nodeB := Node.boot }

theorem Dev.mayRelease_iff (r : RailObs) (d : Dev) : d.mayRelease r = true ↔ d.inReset = true ∧ d.resetN = true
    ∧ 10 ≤ r.resetUs ∧ 1000 ≤ r.vsupUs ∧ 1660 < r.vioMv ∧ r.pllLocked = true ∧ (d.vfldOver = true → r.vfld ≤ 3600) := by
  simp only [Dev.mayRelease, Bool.and_eq_true, Bool.or_eq_true, decide_eq_true_eq, Bool.not_eq_true', and_assoc]
  cases d.vfldOver <;> simp

theorem exec_release {r : RailObs} {s : State} (may : s.dev.mayRelease r = true) :
    exec (.internalResetRelease r) s = .next { s with dev := s.dev.released, bank := s.dev.released, prev := s.dev.released } := by
  show execInternalResetRelease r s = _
  unfold execInternalResetRelease
  rw [if_neg (by simp [may])]
  rfl

theorem exec_release_held {r : RailObs} {s : State} (missing : ¬ s.dev.mayRelease r = true) :
    exec (.internalResetRelease r) s = .next (s.lift (Dev.seeLock r)) := by
  show execInternalResetRelease r s = _
  unfold execInternalResetRelease
  rw [if_pos (by simpa using missing)]

end Sys2Proof.Machine
end

section
/-! The frame's work (R16, R18, R124). -/
namespace Sys2Proof.Machine

@[simp] theorem Dev.coreWrites_timebase (h : Half) (d : Dev) : (d.coreWrites h).timebase = d.timebase := by
  unfold Dev.coreWrites
  dsimp only
  split
  · rfl
  · cases h <;> rfl

theorem Dev.commit_sameTime (h : Half) (d : Dev) : d.SameTime (d.commit h) := by
  unfold Dev.commit
  split
  · exact .of_timebase rfl
  · have writes : d.SameTime (d.coreWrites h) := .of_timebase (Dev.coreWrites_timebase h d)
    exact writes.trans (.of_setWorked (Dev.clearF_timebase _ _ _ _ _))

/-- A commit leaves the half's work done, unless the half is safe. -/
theorem Dev.commit_worked (h : Half) (d : Dev) : (d.commit h).worked h = true ∨ ((d.commit h).node h).safe = true := by
  unfold Dev.commit
  split
  · rename_i safe
    exact .inr safe
  · exact .inl ((Dev.worked_of_timebase (Dev.clearF_timebase _ _ _ _ _) h).trans (Dev.worked_setWorked h true _))

/-- RIG_STORE's entry changes the flash and the device at most. -/
theorem State.storeFrame_keeps (s : State) :
    ∃ (d : Dev) (f : List Host.Cell), s.storeFrame = { s with dev := d, flash := f } ∧ d.timebase = s.dev.timebase := by
  unfold State.storeFrame
  split
  · split
    · exact ⟨_, _, rfl, rfl⟩
    · dsimp only
      split
      · exact ⟨_, _, rfl, by simp⟩
      · exact ⟨_, _, rfl, by simp⟩
  · split
    · exact ⟨_, _, rfl, rfl⟩
    · exact ⟨_, _, rfl, by simp⟩
  · exact ⟨_, _, rfl, rfl⟩

/-- The steps of a frame's work of half `h` on the device (R16). -/
def Dev.workSteps (h : Half) (w : WorkObs) (d : Dev) : Dev :=
  let d := ({ d with inWork := true, workWaits := none }.onLog fun l => { l with writeFails := w.progFails }).shutFrame.lookAtFrame [h]
  let d := if d.probe.half = h then d.probeFrame else d
  if d.mirrors then d.shadowWork else if d.stackMember then d.memberWork else d.soleWork [h]

/-- The end of a frame's work: committed, or waiting for RECORD. -/
def Dev.workEnd (h : Half) (d : Dev) : Dev := { (if d.dpx.awaitRecord then d else d.commit h) with inWork := false }

theorem State.workOf_eq (h : Half) (w : WorkObs) (s : State) :
    s.workOf h w = ((((s.lift (Dev.workSteps h w)).dev.hal.fwdIn).foldl State.forwarded
      ((s.lift (Dev.workSteps h w)).lift (Dev.onHal fun x => { x with fwdIn := [] }))).storeFrame).lift (Dev.workEnd h) := by
  unfold State.workOf Dev.workSteps Dev.workEnd
  rfl

theorem Dev.workSteps_timebase (h : Half) (w : WorkObs) (d : Dev) : (d.workSteps h w).timebase = d.timebase := by
  have begun : ({ d with inWork := true, workWaits := none } : Dev).timebase = d.timebase := rfl
  simp [Dev.workSteps, begun]

theorem Dev.workEnd_sameTime (h : Half) (d : Dev) : d.SameTime (d.workEnd h) := by
  have ended (e : Dev) : e.SameTime { e with inWork := false } := .of_timebase rfl
  unfold Dev.workEnd
  refine Dev.SameTime.trans ?_ (ended _)
  split
  · exact .of_timebase rfl
  · exact Dev.commit_sameTime h d

theorem Dev.workEnd_ends (h : Half) (d : Dev) : (d.workEnd h).inWork = false
    ∧ ((d.workEnd h).worked h = true ∨ (d.workEnd h).dpx.awaitRecord = true ∨ ((d.workEnd h).node h).safe = true) := by
  refine ⟨rfl, ?_⟩
  unfold Dev.workEnd
  split
  · rename_i awaits
    exact .inr (.inl awaits)
  · have committed := Dev.commit_worked h d
    cases h
    · exact committed.imp id .inr
    · exact committed.imp id .inr

/-- A frame's work changes the device and the flash at most, ends, and keeps the time. -/
theorem State.workOf_spec (h : Half) (w : WorkObs) (s : State) :
    ∃ (d : Dev) (f : List Host.Cell), s.workOf h w = { s with dev := d.workEnd h, flash := f } ∧ d.timebase = s.dev.timebase := by
  have begun (u : State) : u.KeepsTime (u.lift (Dev.workSteps h w)) := .lift (Dev.workSteps_timebase h w _)
  have taken (u : State) : u.KeepsTime (u.lift (Dev.onHal fun x => { x with fwdIn := [] })) := .lift (by simp)
  have answered (l : List Fwd) (u : State) := State.foldl_keepsTime State.forwarded_keepsTime l u
  obtain ⟨d, forwards, time⟩ := (begun s).trans ((taken _).trans (answered (s.lift (Dev.workSteps h w)).dev.hal.fwdIn _))
  obtain ⟨e, f, stored, kept⟩ := (s.lift fun _ => d).storeFrame_keeps
  refine ⟨e, f, ?_, kept.trans time⟩
  rw [State.workOf_eq, forwards, stored]
  rfl

/-- The work that runs publishes nothing (R18). -/
structure State.Unpublished (s t : State) : Prop where
  time : s.dev.SameTime t.dev
  bank : t.bank = s.bank
  prev : t.prev = s.prev
  snap0 : t.snap0 = s.snap0
  snap1 : t.snap1 = s.snap1
  pending : t.pending = s.pending

theorem State.workOf_unpublished (h : Half) (w : WorkObs) (s : State) : s.Unpublished (s.workOf h w) := by
  obtain ⟨d, f, eq, time⟩ := s.workOf_spec h w
  rw [eq]
  exact { time := (Dev.SameTime.of_timebase time).trans (Dev.workEnd_sameTime h d), bank := rfl, prev := rfl, snap0 := rfl, snap1 := rfl, pending := rfl }

theorem State.workOf_ends (h : Half) (w : WorkObs) (s : State) : (s.workOf h w).dev.inWork = false
    ∧ ((s.workOf h w).dev.worked h = true ∨ (s.workOf h w).dev.dpx.awaitRecord = true ∨ ((s.workOf h w).dev.node h).safe = true) := by
  obtain ⟨d, f, eq, -⟩ := s.workOf_spec h w
  rw [eq]
  exact Dev.workEnd_ends h d

/-- The halves that an uncorrectable word stops. -/
def Dev.stoppedHalves (h : Half) (all : Bool) (d : Dev) : List Half := if all then d.halves else if d.split then [h] else [.a]

theorem State.frameWork_none {w : WorkObs} (s : State) (good : w.sramBad = none) : s.frameWork w = s.workOf (s.dev.workHalf w) w := by
  simp [State.frameWork, good]

theorem State.frameWork_some {w : WorkObs} {x : Nat × Bool} (s : State) (bad : w.sramBad = some x) :
    s.frameWork w = s.lift (Dev.enterSafe 0x21 true (s.dev.stoppedHalves (s.dev.workHalf w) x.2) x.1) := by
  obtain ⟨cyc, all⟩ := x
  unfold State.frameWork
  rw [bad]
  cases all <;> rfl

theorem Dev.mem_stoppedHalves (w : WorkObs) (d : Dev) (all : Bool) (mem : d.workHalf w ∈ d.halves) :
    d.workHalf w ∈ d.stoppedHalves (d.workHalf w) all := by
  unfold Dev.stoppedHalves
  split
  · exact mem
  · unfold Dev.workHalf
    split <;> simp

theorem State.frameWork_unpublished (w : WorkObs) (s : State) : s.Unpublished (s.frameWork w) := by
  cases h : w.sramBad with
  | none =>
    rw [State.frameWork_none s h]
    exact State.workOf_unpublished _ w s
  | some x =>
    rw [State.frameWork_some s h]
    exact { time := Dev.enterSafe_sameTime _ _ _ _, bank := rfl, prev := rfl, snap0 := rfl, snap1 := rfl, pending := rfl }

/-- R16, R124: when a half's work runs. -/
theorem Dev.mayWork_iff (h : Half) (d : Dev) :
    d.mayWork h = true ↔ d.inReset = false ∧ h ∈ d.halves ∧ d.boardTest = false ∧ (d.node h).safe = false ∧ (d.node h).sys ≠ .boot
      ∧ d.worked h = false ∧ d.dpx.awaitRecord = false := by
  simp [Dev.mayWork, Dev.evaluates, and_assoc]

end Sys2Proof.Machine
end

section
/-! The obligations of 01, One axle end to end. -/
namespace Sys2Proof.Proofs
open Sys2Proof Sys2Proof.Machine

/-- Settles O39: the time is that of `Dev.advance` in each of the boundary's three cases, and each case says the rest. -/
theorem boundaryAdvancesTheTimebase : Obligations.BoundaryAdvancesTheTimebase := by
  unfold Obligations.BoundaryAdvancesTheTimebase
  intro s obs lead
  refine ⟨fun held => ?_, fun out => ⟨s.boundary obs lead, rfl, ?_⟩⟩
  · exact congrArg Host.Outcome.next (State.boundary_of_reset obs lead held)
  have closes := State.boundary_closes obs lead out
  obtain ⟨hdt, hframe, hcode, -⟩ := closes.time
  obtain ⟨keptA, keptB⟩ := s.freezeBanks_of_safe
  refine ⟨fun none => ?_, fun g granted => ?_, closes.prev, closes.flash, closes.snap0, closes.snap1, closes.pending,
    fun safe => closes.frozenA _ (keptA safe), fun safe => closes.frozenB _ (keptB safe), ?_, ?_, ?_⟩
  · rw [hframe, hcode, hdt]
    exact Dev.advance_steps lead none
  · rw [hframe, hcode]
    exact Dev.advance_granted lead granted
  · intro safe
    rw [State.boundary_of_safe obs lead out safe]
    exact ⟨rfl, rfl⟩
  · intro live tick
    have bad : tickOk obs.tickNs = false := by simp [tickOk]; omega
    rw [State.boundary_of_bad_tick lead out (Dev.allSafe_of_allLive live) bad]
    exact Dev.safeAll_entered 0x14 0 (s.dev.advance lead) live
  · intro running low high
    have good : tickOk obs.tickNs = true := by simp [tickOk, low, high]
    rw [State.boundary_of_good_tick lead out running good]
    obtain ⟨-, ⟨bdt, bframe, -, -⟩, due⟩ := State.runs_spec obs lead s.freezeBanks
    exact ⟨bframe.symm, bdt.symm, due .a, due .b⟩

/-- Settles O40, by the three answers of FRAME_WORK: not its turn, waiting for the exchange, or a run of the work. -/
theorem frameWorkRunsOnceAndPublishesNothing : Obligations.FrameWorkRunsOnceAndPublishesNothing := by
  unfold Obligations.FrameWorkRunsOnceAndPublishesNothing
  intro s w h may
  have half : h = s.dev.workHalf w := rfl
  have answer : exec (.frameWork w) s = .next (if !s.dev.mayWork h then s
      else if s.dev.stackMaster && !s.dev.hal.exClosed then s.lift fun d => { d with workWaits := some w } else s.frameWork w) := rfl
  have runs : s.dev.mayWork h = true ↔ may := Dev.mayWork_iff h s.dev
  clear_value h
  subst half
  refine ⟨fun no => ?_, fun yes master waits => ?_, fun yes closed => ⟨s.frameWork w, ?_, ?_, ?_, ?_⟩⟩
  · have idle : s.dev.mayWork (s.dev.workHalf w) = false := Bool.eq_false_iff.mpr fun yes => no (runs.mp yes)
    rw [answer, if_pos (by simp [idle])]
  · rw [answer, if_neg (by simp [runs.mpr yes]), if_pos (by simp [master, waits])]
    rfl
  · rw [answer, if_neg (by simp [runs.mpr yes]), if_neg]
    rcases closed with alone | closed
    · simp [alone]
    · simp [closed]
  · intro good
    rw [State.frameWork_none s good]
    exact State.workOf_ends _ w s
  · intro x bad
    obtain ⟨-, mem, -, live, -⟩ := yes
    rw [State.frameWork_some s bad]
    exact ⟨Dev.enterSafe_held (Dev.mem_stoppedHalves w s.dev x.2 mem) 0x21 x.1 live, Dev.enterSafe_codeActive _ _ _ _⟩
  · obtain ⟨time, bank, prev, snap0, snap1, pending⟩ := s.frameWork_unpublished w
    exact ⟨time, bank, prev, snap0, snap1, pending⟩

/-- Settles O8, on both sides of `Dev.mayRelease`. -/
theorem releaseStartsTimeAtZero : Obligations.ReleaseStartsTimeAtZero := by
  unfold Obligations.ReleaseStartsTimeAtZero
  refine ⟨fun s => rfl, fun s r held high wait vsup vio lock field => ?_, fun s r held missing => ?_, fun s r out => ?_⟩
  · have may : s.dev.mayRelease r = true := (Dev.mayRelease_iff r s.dev).mpr ⟨held, high, wait, vsup, vio, lock, field⟩
    exact ⟨_, exec_release may, rfl, rfl, rfl, rfl, rfl, fun h => by cases h <;> exact ⟨rfl, rfl⟩, rfl, rfl, rfl⟩
  · have stays : ¬ s.dev.mayRelease r = true := by
      rw [Dev.mayRelease_iff]
      rintro ⟨-, high, wait, vsup, vio, lock, field⟩
      rcases missing with low | short | young | under | unlocked | ⟨risen, hot⟩
      · simp [high] at low
      · omega
      · omega
      · omega
      · simp [lock] at unlocked
      · exact absurd (field risen) (by omega)
    rw [exec_release_held stays, State.lift, Dev.seeLock, if_pos held]
  · have stays : ¬ s.dev.mayRelease r = true := by simp [Dev.mayRelease_iff, out]
    rw [exec_release_held stays, State.lift, Dev.seeLock, if_neg (by simp [out])]

end Sys2Proof.Proofs
end

section
/-! Causes of the whole device that enter the safe state (R35, R36, R116, R120, R348). -/
namespace Sys2Proof.Machine

/-- What the entry records of the frame's time is read from the frame number and device time alone (R348). -/
theorem Dev.EnteredSafe.of_sameClock {t d e : Dev} {code cyc : Nat} (entered : t.EnteredSafe code cyc d)
    (frame : d.frame = e.frame) (dt : d.dt = e.dt) : t.EnteredSafe code cyc e := by
  have stamp : d.stamp cyc = e.stamp cyc := by rw [Dev.stamp, Dev.stamp, dt]
  obtain ⟨held, active, faultN, hbeat, cause, atFrame, atTime⟩ := entered
  exact ⟨held, active, faultN, hbeat, cause, atFrame.trans frame, stamp ▸ atTime⟩

/-- A change of the device that is the entry of a live one with the frame number and time of the present. -/
theorem State.lift_entersSafe {s : State} {f : Dev → Dev} {e : Dev} {code cyc : Nat} (enters : f s.dev = e.safeAll code cyc)
    (live : e.AllLive) (frame : e.frame = s.dev.frame) (dt : e.dt = s.dev.dt) : (s.lift f).dev.EnteredSafe code cyc s.dev := by
  rw [State.lift_dev, enters]
  exact (Dev.safeAll_entered code cyc e live).of_sameClock frame dt

theorem up_entersSafe {s : State} {f : Dev → Dev} {e : Dev} {code cyc : Nat} (out : s.dev.inReset = false)
    (enters : f s.dev = e.safeAll code cyc) (live : e.AllLive) (frame : e.frame = s.dev.frame) (dt : e.dt = s.dev.dt) :
    ∃ t, up f s = .next t ∧ t.dev.EnteredSafe code cyc s.dev ∧ t = { s with dev := t.dev } :=
  ⟨s.lift f, up_next f out, State.lift_entersSafe enters live frame dt, rfl⟩

theorem Dev.safeStep_mm (d : Dev) (h : Half) : (d.safeStep h).mm = d.mm := by
  unfold Dev.safeStep
  split
  · rfl
  · exact Dev.safeHalf_mm h d

theorem Dev.foldl_safeStep_mm (hs : List Half) (d : Dev) : (hs.foldl Dev.safeStep d).mm = d.mm := by
  induction hs generalizing d with
  | nil => rfl
  | cons h hs ih => exact (ih _).trans (Dev.safeStep_mm d h)

/-- The entry keeps COR_MMINFO. -/
theorem Dev.safeAll_mm (code cyc : Nat) (d : Dev) : (d.safeAll code cyc).mm = d.mm := by
  rw [Dev.safeAll_eq, Dev.foldl_safeStep_mm]
  rfl

/-- COR_MMINFO after core values that fail to match: the first mismatch since power-on stays (R120). -/
def Dev.mmAfter (f : CoreField) (a b : Word) (cyc : Nat) (d : Dev) : MmInfo :=
  if d.mm.valid then d.mm else { valid := true, frame := d.frame, cycle := cyc, group := f.group, a := a &&& f.mask, b := f.trueOf b }

theorem Dev.mismatch_of_differs {f : CoreField} {a b : Word} (cyc : Nat) {d : Dev} (out : d.inReset = false)
    (whole : d.split = false) (differ : f.differs a b = true) :
    d.mismatch f a b cyc = { d with mm := d.mmAfter f a b cyc }.safeAll 0x20 cyc := by
  rw [Dev.mismatch, if_neg (by simp [out, whole, differ])]
  rfl

/-- R119, R130: matching values, or a device of two single cores, change nothing. -/
theorem Dev.mismatch_of_not_compared {f : CoreField} {a b : Word} (cyc : Nat) {d : Dev}
    (alone : d.split = true ∨ f.differs a b = false) : d.mismatch f a b cyc = d := by
  rw [Dev.mismatch, if_pos]
  rcases alone with split | same
  · simp [split]
  · simp [same]

end Sys2Proof.Machine
end

section
/-! The straps (R30 to R32, R36): sampling, the latch and its three outcomes. -/
namespace Sys2Proof.Machine

/-- An attempt that agrees is eight times one value. -/
theorem agreeing_cons_of_unequal {a : List Byte} (unequal : ∀ v : Byte, a ≠ List.replicate 8 v) (n : Nat) (rest : List (List Byte)) :
    agreeing n (a :: rest) = agreeing (n + 1) rest := by
  cases a with
  | nil => rfl
  | cons v l =>
    rw [agreeing, if_neg]
    intro agrees
    obtain ⟨length, all⟩ : (v :: l).length = 8 ∧ ∀ x ∈ v :: l, x = v := by simpa using agrees
    exact unequal v (List.eq_replicate_iff.mpr ⟨length, all⟩)

theorem agreeing_none {l : List (List Byte)} (unequal : ∀ a ∈ l, ∀ v : Byte, a ≠ List.replicate 8 v) (n : Nat) : agreeing n l = none := by
  induction l generalizing n with
  | nil => rfl
  | cons a l ih =>
    rw [agreeing_cons_of_unequal (unequal a List.mem_cons_self)]
    exact ih (fun x mem => unequal x (List.mem_cons_of_mem a mem)) (n + 1)

theorem agreeing_cons_replicate (n : Nat) (v : Byte) (rest : List (List Byte)) :
    agreeing n (List.replicate 8 v :: rest) = some (n, v) := by
  simp [agreeing, List.replicate]

/-- `f` acts on the node of every running half. -/
def Dev.onHalves (f : Node → Node) (d : Dev) : Dev := d.halves.foldl (fun d h => d.onNode h f) d

/-- Only the nodes differ, and each running half's is `f` of the one before. -/
theorem Dev.onHalves_spec (f : Node → Node) (d : Dev) : ∃ a b, d.onHalves f = { d with nodeA := a, nodeB := b }
    ∧ ∀ h ∈ d.halves, (d.onHalves f).node h = f (d.node h) := by
  unfold Dev.onHalves Dev.halves
  cases d.split with
  | false => exact ⟨f d.nodeA, d.nodeB, rfl, by simp⟩
  | true =>
    refine ⟨f d.nodeA, f d.nodeB, rfl, fun h _ => ?_⟩
    cases h <;> rfl

theorem Dev.onHalves_node {f : Node → Node} {d : Dev} {h : Half} (mem : h ∈ (d.onHalves f).halves) :
    (d.onHalves f).node h = f (d.node h) := by
  obtain ⟨a, b, eq, nodes⟩ := d.onHalves_spec f
  have halves : (d.onHalves f).halves = d.halves := Dev.halves_congr (by rw [eq])
  exact nodes h (halves ▸ mem)

theorem Dev.onHalves_straps (f : Node → Node) (d : Dev) : (d.onHalves f).straps = d.straps := by
  obtain ⟨a, b, eq, -⟩ := d.onHalves_spec f
  rw [eq]

theorem Dev.onHalves_boardTest (f : Node → Node) (d : Dev) : (d.onHalves f).boardTest = d.boardTest := by
  obtain ⟨a, b, eq, -⟩ := d.onHalves_spec f
  rw [eq]

/-- The straps with TMODE latched as `v` at the `n`-th attempt (R30). -/
def Dev.latch (n : Nat) (v : Byte) (d : Dev) : Dev :=
  { d with straps := { done := true, latched := v, attempts := n, raw := v, forbidLatched := d.store.otpForbid } }

/-- What the latched value makes of the device (R31, R36). -/
def Dev.afterLatch (v : Byte) (d : Dev) : Dev :=
  if strapConflict v d.store.otpForbid then d.safeAll 0x17 0
  else if v.getLsbD 7 then { d with boardTest := true }.onHalves fun n => { n with sys := .boardTest }
  else d.onHalves fun n => { n with phase := .otp }

/-- What STRAP_LATCH does with a device in BOOT whose straps are not latched. -/
def Dev.sampleStraps (attempts : List (List Byte)) (d : Dev) : Dev :=
  match agreeing 1 (attempts.take 3) with
  | none => if 3 ≤ attempts.length then d.safeAll 0x16 0 else d
  | some (n, v) => (d.latch n v).afterLatch v

theorem exec_strapLatch {s : State} (attempts : List (List Byte)) (out : s.dev.inReset = false) (unlatched : s.dev.straps.done = false)
    (boot : s.dev.nodeA.sys = .boot) (live : s.dev.nodeA.safe = false) :
    exec (.strapLatch attempts) s = .next (s.lift (Dev.sampleStraps attempts)) := by
  have samples : ¬ (s.dev.straps.done || decide (s.dev.nodeA.sys ≠ .boot) || s.dev.nodeA.safe) = true := by simp [unlatched, boot, live]
  show execStrapLatch attempts s = _
  rw [execStrapLatch, up_next _ out]
  exact congrArg (fun d => Host.Outcome.next { s with dev := d }) (if_neg samples)

theorem Dev.sampleStraps_of_unequal {l : List (List Byte)} (unequal : ∀ a ∈ l, ∀ v : Byte, a ≠ List.replicate 8 v) (d : Dev) :
    d.sampleStraps l = if 3 ≤ l.length then d.safeAll 0x16 0 else d := by
  rw [Dev.sampleStraps, agreeing_none fun a mem => unequal a (List.mem_of_mem_take mem)]

theorem Dev.sampleStraps_of_equal (v : Byte) (rest : List (List Byte)) (d : Dev) :
    d.sampleStraps (List.replicate 8 v :: rest) = (d.latch 1 v).afterLatch v := by
  rw [Dev.sampleStraps, List.take_succ_cons, agreeing_cons_replicate]

/-- Whatever follows, the straps stay as latched. -/
theorem Dev.afterLatch_straps (v : Byte) (d : Dev) : (d.afterLatch v).straps = d.straps := by
  unfold Dev.afterLatch
  split
  · obtain ⟨-, -, -, straps⟩ := Dev.enterSafe_sameTime 0x17 d.halves 0 d
    exact straps
  · split
    · exact Dev.onHalves_straps _ _
    · exact Dev.onHalves_straps _ _

/-- A re-read shows the raw value, the run of matches and the drift warning (R32). -/
def Dev.showReread (raw : Byte) (run : Nat) (drift : Bool) (d : Dev) : Dev :=
  { d with straps := { d.straps with raw := raw, matches_ := run, drift := drift } }

theorem exec_strapReread_of_match {s : State} {raw : Byte} (out : s.dev.inReset = false) (latched : s.dev.straps.done = true)
    (same : raw.toNat % 128 = s.dev.straps.latched.toNat % 128) : exec (.strapReread raw) s = .next (s.lift
      (Dev.showReread raw (min 10 (s.dev.straps.matches_ + 1)) (s.dev.straps.drift && decide (s.dev.straps.matches_ < 9)))) := by
  have tenth : min 10 (s.dev.straps.matches_ + 1) < 10 ↔ s.dev.straps.matches_ < 9 := by omega
  show execStrapReread raw s = _
  rw [execStrapReread, up_next _ out]
  simp [State.lift, Dev.showReread, latched, same, tenth]

theorem exec_strapReread_of_drift {s : State} {raw : Byte} (out : s.dev.inReset = false) (latched : s.dev.straps.done = true)
    (drifts : raw.toNat % 128 ≠ s.dev.straps.latched.toNat % 128) :
    exec (.strapReread raw) s = .next (s.lift (Dev.showReread raw 0 true)) := by
  show execStrapReread raw s = _
  rw [execStrapReread, up_next _ out]
  simp [State.lift, Dev.showReread, latched, drifts]

/-- The test access port with instruction `ir` selected. -/
def Dev.selectTap (ir : TapInstr) (drive : Nat) (d : Dev) : Dev := { d with tap := ir, tapDrive := drive }

/-- Outside board test EXTEST selects BYPASS and drives no ball. -/
theorem exec_extest_of_mission {s : State} (drive : Nat) (out : s.dev.inReset = false) (mission : s.dev.boardTest = false) :
    exec (.testAccessInstruction .extest drive) s = .next (s.lift (Dev.selectTap .bypass s.dev.tapDrive)) := by
  show execTestAccessInstruction .extest drive s = _
  rw [execTestAccessInstruction, up_next _ out]
  simp [State.lift, Dev.selectTap, mission]

theorem exec_extest_of_boardTest {s : State} (drive : Nat) (out : s.dev.inReset = false) (board : s.dev.boardTest = true) :
    exec (.testAccessInstruction .extest drive) s = .next (s.lift (Dev.selectTap .extest drive)) := by
  show execTestAccessInstruction .extest drive s = _
  rw [execTestAccessInstruction, up_next _ out]
  simp [State.lift, Dev.selectTap, board]

end Sys2Proof.Machine
end

section
/-! The obligations of 02, Balls, supplies and straps. -/
namespace Sys2Proof.Proofs
open Sys2Proof Sys2Proof.Machine

/-- Settles O6: every clause reads a field of `Dev.blank`, in which the objects are as their types' defaults. -/
theorem stateAfterPowerOn : Obligations.StateAfterPowerOn := by
  unfold Obligations.StateAfterPowerOn
  have undriven : (Dev.blank.outputs.all fun o => !o.gateHi && !o.gateLo) = true := by decide
  have unsupplied : (Dev.blank.systems.all fun x => decide (x.mode = .off)) = true := by decide
  have unsourced : (Dev.blank.tps.all fun t => !t.on) = true := by decide
  exact ⟨rfl, rfl, rfl, rfl, rfl, rfl, undriven, unsupplied, unsourced, rfl, rfl, rfl, rfl, rfl, rfl⟩

/-- Settles O9: each cause is an entry of the live device (`up_entersSafe`), and the entry keeps COR_MMINFO. -/
theorem supervisorsLatchTheSafeState : Obligations.SupervisorsLatchTheSafeState := by
  unfold Obligations.SupervisorsLatchTheSafeState
  intro s cyc out live
  refine ⟨fun c code listed => ?_, fun latched mission => ?_, fun whole f a b differ => ?_, fun f a b same => ?_⟩
  · simp only [List.mem_cons, Prod.mk.injEq, List.not_mem_nil, or_false] at listed
    rcases listed with ⟨rfl, rfl⟩ | ⟨rfl, rfl⟩ | ⟨rfl, rfl⟩ | ⟨rfl, rfl⟩
    · exact up_entersSafe out (e := s.dev) rfl live rfl rfl
    · exact up_entersSafe out (e := s.dev) rfl live rfl rfl
    · exact up_entersSafe out (e := { s.dev with vfldOver := true }) rfl live rfl rfl
    · exact up_entersSafe out (e := { s.dev with pll := false }) rfl live rfl rfl
  · exact up_entersSafe out (e := s.dev) (if_pos (by simp [latched, mission])) live rfl rfl
  · have enters := Dev.mismatch_of_differs cyc out whole differ
    have recorded : (s.lift (Dev.mismatch f a b cyc)).dev.mm = s.dev.mmAfter f a b cyc := by
      rw [State.lift_dev, enters, Dev.safeAll_mm]
    exact ⟨_, up_next _ out, State.lift_entersSafe enters live rfl rfl, rfl, recorded⟩
  · show up (Dev.mismatch f a b cyc) s = _
    rw [up_next _ out, State.lift, Dev.mismatch_of_not_compared cyc same]

/-- Settles O11, by the outcome of the sampling and, once latched, by the branches of `Dev.afterLatch`. -/
theorem strapsLatchOnceAndByTheirValue : Obligations.StrapsLatchOnceAndByTheirValue := by
  unfold Obligations.StrapsLatchOnceAndByTheirValue
  intro s out unlatched boot live
  have answer (l : List (List Byte)) := exec_strapLatch l out unlatched boot live
  refine ⟨fun l unequal => ⟨fun few => ?_, fun three allLive => ?_⟩, fun v rest liveB => ?_⟩
  · rw [answer, State.lift, Dev.sampleStraps_of_unequal unequal, if_neg (by omega)]
  · have enters : s.dev.sampleStraps l = s.dev.safeAll 0x16 0 := by
      rw [Dev.sampleStraps_of_unequal unequal, if_pos (Nat.le_of_eq three.symm)]
    exact ⟨_, answer l, State.lift_entersSafe enters allLive rfl rfl, rfl⟩
  · have latched : (s.lift (Dev.sampleStraps (List.replicate 8 v :: rest))).dev = (s.dev.latch 1 v).afterLatch v :=
      Dev.sampleStraps_of_equal v rest s.dev
    refine ⟨_, answer _, rfl, ?_⟩
    rw [latched, Dev.afterLatch_straps]
    refine ⟨rfl, rfl, rfl, ?_⟩
    have forbid : (s.dev.latch 1 v).store.otpForbid = s.dev.store.otpForbid := rfl
    rw [Dev.afterLatch, forbid]
    split
    · have allLive : (s.dev.latch 1 v).AllLive := fun h _ => by
        cases h
        · exact live
        · exact liveB
      exact (Dev.safeAll_entered 0x17 0 _ allLive).of_sameClock rfl rfl
    · split
      · exact ⟨Dev.onHalves_boardTest _ _, fun h mem => by rw [Dev.onHalves_node mem]⟩
      · refine ⟨Dev.onHalves_boardTest _ _, fun h mem => ?_⟩
        rw [Dev.onHalves_node mem]
        exact ⟨rfl, by cases h <;> rfl⟩

/-- Settles O12, by whether the re-read value matches, and by the instruction. -/
theorem strapRereadAndTestAccessOnlyReport : Obligations.StrapRereadAndTestAccessOnlyReport := by
  unfold Obligations.StrapRereadAndTestAccessOnlyReport
  refine ⟨fun s raw out latched => ?_, fun s ir drive out mission => ?_, fun s drive out board => exec_extest_of_boardTest drive out board⟩
  · by_cases same : raw.toNat % 128 = s.dev.straps.latched.toNat % 128
    · exact ⟨_, exec_strapReread_of_match out latched same, rfl, rfl, fun drifts => absurd same drifts, fun _ => ⟨rfl, rfl⟩, rfl⟩
    · exact ⟨_, exec_strapReread_of_drift out latched same, rfl, rfl, fun _ => ⟨rfl, rfl⟩, fun matched => absurd matched same, rfl⟩
  · cases ir with
    | extest => exact ⟨_, exec_extest_of_mission drive out mission, rfl, rfl⟩
    | bypass => exact ⟨_, up_next _ out, rfl, rfl⟩
    | idcode => exact ⟨_, up_next _ out, rfl, rfl⟩
    | samplePreload => exact ⟨_, up_next _ out, rfl, rfl⟩
    | other => exact ⟨_, up_next _ out, rfl, rfl⟩

end Sys2Proof.Proofs
end

section
/-! The supply code (R45): the chips of a line by the code, and their number in a period. -/
namespace Sys2Proof.Machine

theorem chipAt_periodic (k : Nat) : chipAt (k + 63) = chipAt k := by
  rw [chipAt, chipAt, Nat.add_mod_right]

/-- A line of even number carries the code four positions further for each head. -/
theorem codeChip_even (n p : Nat) : codeChip (2 * n) p = chipAt (4 * n + p) := by
  have even : 2 * n % 2 = 0 := by omega
  have position : p + 2 * (2 * n) = 4 * n + p := by omega
  simp [codeChip, nominal, even, position]

/-- The other line of the head, two positions further, yields to it. -/
theorem codeChip_odd (n p : Nat) : codeChip (2 * n + 1) p = (chipAt (4 * n + p + 2) && !chipAt (4 * n + p)) := by
  have odd : (2 * n + 1) % 2 = 1 := by omega
  have position : p + 2 * (2 * n + 1) = 4 * n + p + 2 := by omega
  have neighbour : p + 2 * (2 * n) = 4 * n + p := by omega
  simp [codeChip, nominal, odd, position, neighbour]

theorem length_filter_range_add (f : Nat → Bool) (a b : Nat) : ((List.range (a + b)).filter f).length
    = ((List.range a).filter f).length + ((List.range b).filter fun k => f (a + k)).length := by
  rw [List.range_add, List.filter_append, List.length_append, List.filter_map, List.length_map]
  rfl

/-- A periodic property holds equally often in a period from wherever that begins. -/
theorem length_filter_period {f : Nat → Bool} {a : Nat} (periodic : ∀ k, f (k + a) = f k) (m : Nat) :
    ((List.range a).filter fun k => f (m + k)).length = ((List.range a).filter f).length := by
  have again : (fun k => f (a + k)) = f := funext fun k => by rw [Nat.add_comm, periodic]
  have shifted := length_filter_range_add f m a
  have wrapped := length_filter_range_add f a m
  rw [again, Nat.add_comm] at wrapped
  omega

theorem codeChip_even_count (n : Nat) : ((List.range 63).filter (codeChip (2 * n))).length = 32 := by
  rw [funext (codeChip_even n), length_filter_period chipAt_periodic (4 * n)]
  decide

theorem codeChip_odd_count (n : Nat) : ((List.range 63).filter (codeChip (2 * n + 1))).length = 16 := by
  have periodic (k : Nat) : (chipAt (k + 63 + 2) && !chipAt (k + 63)) = (chipAt (k + 2) && !chipAt k) := by
    rw [Nat.add_right_comm k 63 2, chipAt_periodic, chipAt_periodic]
  rw [funext (codeChip_odd n), length_filter_period (f := fun k => chipAt (k + 2) && !chipAt k) periodic (4 * n)]
  decide

/-- R45: in a period every line of even number has 32 chips, every other 16. -/
theorem codeChip_count (l : Nat) : ((List.range 63).filter (codeChip l)).length = if l % 2 = 0 then 32 else 16 := by
  split
  · have even : l = 2 * (l / 2) := by omega
    rw [even, codeChip_even_count]
  · have odd : l = 2 * (l / 2) + 1 := by omega
    rw [odd, codeChip_odd_count]

/-- The two lines of a head never carry a chip together. -/
theorem codeChip_head_alone (n p : Nat) : (codeChip (2 * n) p && codeChip (2 * n + 1) p) = false := by
  rw [codeChip_even, codeChip_odd]
  cases chipAt (4 * n + p) <;> simp

theorem Dev.applied_of_offPulse {d : Dev} (pulse : d.offPulse = true) (x : Sys) : d.applied x = false := by
  simp [Dev.applied, pulse]

theorem Dev.applied_of_unsupplied (d : Dev) {x : Sys} (notOn : x.mode ≠ .on) (notChip : x.mode ≠ .chip) : d.applied x = false := by
  simp [Dev.applied, notOn, notChip]

end Sys2Proof.Machine
end

section
/-! The commands of a chip frame (Table HED-1, R45, R53, R65): what each does with one system. -/
namespace Sys2Proof.Machine

/-- The device with `f` applied to every system. -/
def Dev.mapSys (f : Sys → Sys) (d : Dev) : Dev := { d with systems := d.systems.map f }

/-- Scheduled blanking until the span's last cycle, with the runs of the OPEN and SHORT assertions paused (R65, R78). -/
def Dev.blanked (d : Dev) (x : Sys) : Sys :=
  { x with
    sched := true, schedUntil := d.stamp x.blankLast, blank := true
    cOpen := x.cOpen.pause (d.stamp blankOpen), cShort := x.cShort.pause (d.stamp blankOpen) }

def Sys.pulsed (x : Sys) : Sys := { x with mode := .chip, chip := true }

def Sys.proving (x : Sys) : Sys := { x with mode := .proof, proofWait := false, proof := true }

/-- SCHEDULED_BLANKING_START for one system. -/
def Dev.blankingStart (d : Dev) (x : Sys) : Sys :=
  if x.id < 32 && (d.applied x || d.partnerChip x) then d.blanked x else x

/-- SUPPLY_TEST_PULSE for one system. -/
def Dev.testPulse (d : Dev) (x : Sys) : Sys :=
  if x.id < 32 && d.applied x then x.pulsed else if x.id < 32 && d.proves x then x.proving else x

/-- SUPPLY_TEST_PULSE_END for one system. -/
def Sys.pulseEnded (x : Sys) : Sys :=
  match x.mode with
  | .chip => { x with mode := .on }
  | .proof => { x with mode := .off }
  | _ => x

theorem exec_scheduledBlankingStart {s : State} (out : s.dev.inReset = false) :
    exec .scheduledBlankingStart s = .next (s.lift (Dev.mapSys s.dev.blankingStart)) := up_next Dev.startBlanking out

theorem exec_supplyTestPulse {s : State} (out : s.dev.inReset = false) :
    exec .supplyTestPulse s = .next (s.lift (Dev.mapSys s.dev.testPulse)) :=
  up_next (fun d => d.mapSys d.testPulse) out

theorem exec_supplyTestPulseEnd {s : State} (out : s.dev.inReset = false) :
    exec .supplyTestPulseEnd s = .next (s.lift (Dev.mapSys Sys.pulseEnded)) := up_next (Dev.mapSys Sys.pulseEnded) out

theorem Dev.blankingStart_eq (d : Dev) (x : Sys) :
    d.blankingStart x = if x.id < 32 ∧ (d.applied x = true ∨ d.partnerChip x = true) then d.blanked x else x := by
  simp [Dev.blankingStart]

theorem Dev.testPulse_eq (d : Dev) (x : Sys) :
    d.testPulse x = if x.id < 32 ∧ d.applied x = true then x.pulsed else if x.id < 32 ∧ d.proves x = true then x.proving else x := by
  simp [Dev.testPulse]

theorem Sys.set_own_mode {x : Sys} {m : HsupMode} (own : x.mode = m) : { x with mode := m } = x := by
  subst own
  rfl

/-- The end of a pulse changes the mode alone. -/
theorem Sys.pulseEnded_eq (x : Sys) : x.pulseEnded = { x with mode := match x.mode with | .chip => .on | .proof => .off | m => m } := by
  unfold Sys.pulseEnded
  cases mode : x.mode with
  | chip => rfl
  | proof => rfl
  | off => exact (Sys.set_own_mode mode).symm
  | on => exact (Sys.set_own_mode mode).symm
  | discharge => exact (Sys.set_own_mode mode).symm

end Sys2Proof.Machine
end

section
/-! HSUP_OVERLOAD, HSUP_DISCHARGE_END and HSUP_OVERLOAD_RETRY (R38, R51, R55): the change of the one line. -/
namespace Sys2Proof.Machine

theorem Dev.onSys_onlyAt (i : Nat) (f : Sys → Sys) (d : Dev) : OnlyAt i d.systems (d.onSys i f).systems :=
  fun _ other => getElem?_modify_ne d.systems f other

/-- A line that is not OFF stands in the list of systems. -/
theorem Dev.listed_of_mode {d : Dev} {i : Nat} (notOff : (d.sys i).mode ≠ .off) : i < d.systems.length :=
  lt_of_getD_ne fun empty : d.sys i = { id := i } => notOff (by rw [empty])

/-- A defined line stands in the list of systems. -/
theorem Dev.listed_of_defd {d : Dev} {i : Nat} (defd : (d.sys i).defd = true) : i < d.systems.length :=
  lt_of_getD_ne fun empty : d.sys i = { id := i } => by simp [empty] at defd

/-- The switch-off of a line that was neither OFF nor in DISCHARGE (R55). -/
theorem Sys.switchOff_of_supplied {x : Sys} (notOff : x.mode ≠ .off) (notDischarging : x.mode ≠ .discharge) :
    x.switchOff = { x with mode := .discharge, dischLeft := 100, pendOn := false, onWhole := false, chip := false } := by
  unfold Sys.switchOff
  split
  · exact absurd ‹_› notOff
  · exact absurd ‹_› notDischarging
  · rfl

theorem Sys.switchOn_of_off {x : Sys} (off : x.mode = .off) : x.switchOn = x.enterOn := by
  rw [Sys.switchOn, off]

/-- An overload of line `i` in frame `frame`: the line is opened and its retry runs (R38). -/
def Sys.overloaded (frame : Word) (x : Sys) : Sys := { x.switchOff with retrying := true, retryFrame := frame }

/-- The overload is an input of the next frame's work. -/
def Dev.noteOverload (i : Nat) (d : Dev) : Dev := { d with capOpen := { d.capOpen with overloads := d.capOpen.overloads ++ [i] } }

theorem exec_hsupOverload {s : State} {i : Fin 32} (out : s.dev.inReset = false) (notOff : (s.dev.sys i).mode ≠ .off)
    (notDischarging : (s.dev.sys i).mode ≠ .discharge) : exec (.hsupOverload i) s = .next (s.lift fun d =>
      (d.onSys i (Sys.overloaded s.dev.frame)).noteOverload i) := by
  show execHsupOverload i s = _
  rw [execHsupOverload, up_next _ out, State.lift, if_neg (by simp [notOff, notDischarging])]
  rfl

/-- The end of a DISCHARGE in a device that `supplies` the line or not (R55). -/
def Sys.discharged (supplies : Bool) (x : Sys) : Sys := if x.pendOn && supplies then x.enterOn else { x with mode := .off, pendOn := false }

theorem exec_hsupDischargeEnd_early {s : State} {i : Fin 32} (out : s.dev.inReset = false) (mode : (s.dev.sys i).mode = .discharge)
    (early : (s.dev.sys i).dischLeft ≠ 0) : exec (.hsupDischargeEnd i) s = .next s := by
  show execHsupDischargeEnd i s = _
  rw [execHsupDischargeEnd, up_next _ out, State.lift]
  simp only [mode, if_pos early]

theorem exec_hsupDischargeEnd_over {s : State} {i : Fin 32} (out : s.dev.inReset = false) (mode : (s.dev.sys i).mode = .discharge)
    (expired : (s.dev.sys i).dischLeft = 0) : exec (.hsupDischargeEnd i) s = .next (s.lift
      (Dev.onSys i (Sys.discharged (s.dev.supplies (s.dev.halfOfSys i))))) := by
  show execHsupDischargeEnd i s = _
  rw [execHsupDischargeEnd, up_next _ out, State.lift]
  simp only [mode, expired]
  rfl

theorem exec_hsupOverloadRetry_early {s : State} {i : Fin 32} (out : s.dev.inReset = false)
    (early : since s.dev.frame (s.dev.sys i).retryFrame < 20000) : exec (.hsupOverloadRetry i) s = .next s := by
  show execHsupOverloadRetry i s = _
  rw [execHsupOverloadRetry, up_next _ out, State.lift]
  simp [Dev.ago, tenSeconds, early]

/-- The last try of a retry is 10 s old. -/
theorem retry_due {d : Dev} {x : Sys} (retrying : x.retrying = true) (due : 20000 ≤ since d.frame x.retryFrame) :
    ¬ (!x.retrying || decide (d.ago x.retryFrame < tenSeconds)) = true := by
  have old : ¬ d.ago x.retryFrame < tenSeconds := Nat.not_lt.mpr due
  simp [retrying, old]

section
variable {s : State} {i : Fin 32} (out : s.dev.inReset = false) (retrying : (s.dev.sys i).retrying = true)
  (due : 20000 ≤ since s.dev.frame (s.dev.sys i).retryFrame)
include out retrying due

/-- A retry that ran 10 s without an overload is over and clears 0x30. -/
theorem exec_hsupOverloadRetry_on (mode : (s.dev.sys i).mode = .on) : exec (.hsupOverloadRetry i) s = .next (s.lift fun d =>
    (d.onSys i fun x => { x with retrying := false }).clearSys i 0x30) := by
  show execHsupOverloadRetry i s = _
  rw [execHsupOverloadRetry, up_next _ out, State.lift]
  simp only [if_neg (retry_due retrying due), mode]
  rfl

/-- A retry of a line that is OFF switches it on (R51). -/
theorem exec_hsupOverloadRetry_off (mode : (s.dev.sys i).mode = .off) (defd : (s.dev.sys i).defd = true)
    (free : (s.dev.sys i).holdoff = false) (supplied : s.dev.supplies (s.dev.halfOfSys i) = true) :
    exec (.hsupOverloadRetry i) s = .next (s.lift (Dev.onSys i fun x => { x.switchOn with retryFrame := s.dev.frame })) := by
  show execHsupOverloadRetry i s = _
  rw [execHsupOverloadRetry, up_next _ out, State.lift]
  simp only [if_neg (retry_due retrying due), mode, defd, free, supplied]
  rfl

end

/-- A cleared fault of a system is not active. -/
theorem Dev.sysFault_clearSys (i code : Nat) (d : Dev) : (d.clearSys i code).sysFault i code = false :=
  Dev.hasFault_clearF code .system i d (d.halfOfSys i)

end Sys2Proof.Machine
end

section
/-! The end of a code period (R49, R391): correlation changes no code set and, besides the systems, the fault system alone. -/
namespace Sys2Proof.Machine

/-- What a system holds of the code: its number, the sets that correlation compares, and the sets and counts of the
running period. -/
def Sys.codeSets (x : Sys) : (Nat × PosSet × PosSet × PosSet × PosSet) × (PosSet × PosSet × PosSet × PosSet × Nat × Nat) :=
  ((x.id, x.dSet, x.iSet, x.vSet, x.aSet), (x.dRun, x.iRun, x.vRun, x.aRun, x.exceptions, x.applied))

/-- From `d` to `e` only the systems and the fault system changed, and no system's code sets. -/
structure Dev.KeepsCodeSets (d e : Dev) : Prop where
  frame : e = { d with systems := e.systems, faults := e.faults }
  sets : e.systems.map Sys.codeSets = d.systems.map Sys.codeSets

theorem Dev.KeepsCodeSets.refl (d : Dev) : d.KeepsCodeSets d := ⟨rfl, rfl⟩

theorem Dev.KeepsCodeSets.trans {d e f : Dev} (first : d.KeepsCodeSets e) (next : e.KeepsCodeSets f) : d.KeepsCodeSets f where
  frame := next.frame.trans (congrArg (fun g : Dev => { g with systems := f.systems, faults := f.faults }) first.frame)
  sets := next.sets.trans first.sets

theorem Dev.KeepsCodeSets.ite {c : Prop} [Decidable c] {d e f : Dev} (yes : d.KeepsCodeSets e) (no : d.KeepsCodeSets f) :
    d.KeepsCodeSets (if c then e else f) := by
  split
  · exact yes
  · exact no

theorem Dev.KeepsCodeSets.foldl {α : Type} {f : Dev → α → Dev} (keep : ∀ (d : Dev) x, d.KeepsCodeSets (f d x)) (l : List α) (d : Dev) :
    d.KeepsCodeSets (l.foldl f d) := by
  induction l generalizing d with
  | nil => exact .refl d
  | cons x l ih => exact (keep d x).trans (ih (f d x))

theorem map_modify_of_keeps {α β : Type} {f : α → α} {g : α → β} (keep : ∀ x, g (f x) = g x) (l : List α) (i : Nat) :
    (l.modify i f).map g = l.map g := by
  induction l generalizing i with
  | nil => rw [List.modify_nil]
  | cons x l ih => cases i with
    | zero => simp [keep]
    | succ i => simp [ih]

theorem Dev.onSys_keepsCodeSets {f : Sys → Sys} (keep : ∀ x, (f x).codeSets = x.codeSets) (i : Nat) (d : Dev) :
    d.KeepsCodeSets (d.onSys i f) := ⟨rfl, map_modify_of_keeps keep d.systems i⟩

theorem Dev.clearSys_keepsCodeSets (i code : Nat) (d : Dev) : d.KeepsCodeSets (d.clearSys i code) := ⟨rfl, rfl⟩

theorem Dev.raiseHed_keepsCodeSets (i code partner : Nat) (d : Dev) : d.KeepsCodeSets (d.raiseHed i code partner) := by
  refine .trans (e := d.raiseSys i code partner) ⟨rfl, rfl⟩ (Dev.onSys_keepsCodeSets ?_ i _)
  exact fun _ => rfl

/-- A fault that is raised where it is not active yet. -/
theorem Dev.raiseHed_once_keepsCodeSets (i code partner : Nat) (d : Dev) :
    d.KeepsCodeSets (if d.sysFault i code then d else d.raiseHed i code partner) :=
  .ite (.refl d) (Dev.raiseHed_keepsCodeSets i code partner d)

/-- Naming enters the two lines among each other's partners and faults them. -/
theorem Dev.nameOne_keepsCodeSets (l x kind : Nat) (d : Dev) : d.KeepsCodeSets (d.nameOne l x kind) := by
  have partner (p : Nat) (s : Sys) : (if s.partners.contains p then s else { s with partners := (s.partners ++ [p]).take 4 }).codeSets
      = s.codeSets := by split <;> rfl
  refine .trans ((Dev.onSys_keepsCodeSets (partner x) l d).trans (Dev.onSys_keepsCodeSets (partner l) x _)) (.ite ?_ ?_)
  · exact Dev.raiseHed_once_keepsCodeSets l 0x35 x _
  · exact (Dev.raiseHed_once_keepsCodeSets l 0x33 x _).trans (Dev.raiseHed_once_keepsCodeSets x 0x33 l _)

/-- The period of one line: naming, recovery, and the results that the line shows. -/
theorem Dev.periodLine_keepsCodeSets (i : Nat) (now : List (Nat × Nat)) (d : Dev) : d.KeepsCodeSets (d.periodLine i now) := by
  have recovers (d : Dev) : d.KeepsCodeSets (hedCodes.foldl (fun d c => d.clearSys i c) d) :=
    .foldl (fun d c => Dev.clearSys_keepsCodeSets i c d) hedCodes d
  refine .trans (.foldl (fun (d : Dev) (c : Nat × Nat) => Dev.nameOne_keepsCodeSets i c.1 c.2 d) _ d)
    (.trans (.ite (recovers _) (.refl _)) (Dev.onSys_keepsCodeSets ?_ i _))
  exact fun _ => rfl

/-- Every line's running sets become the compared ones (R391). -/
def Dev.closePeriods (d : Dev) : Dev := { d with systems := d.systems.map fun (s : Sys) => if s.id < 32 then s.closePeriod else s }

/-- Correlation over the defined lines, with the candidates of the period just closed (R49). -/
def Dev.correlate (d : Dev) : Dev :=
  (d.systems.map fun (s : Sys) => (s.id, d.candidatesOf s)).foldl
    (fun (d : Dev) (c : Nat × List (Nat × Nat)) => if c.1 < 32 && (d.sys c.1).defd then d.periodLine c.1 c.2 else d) d

theorem Dev.correlate_keepsCodeSets (d : Dev) : d.KeepsCodeSets d.correlate :=
  .foldl (fun (d : Dev) (c : Nat × List (Nat × Nat)) => .ite (Dev.periodLine_keepsCodeSets c.1 c.2 d) (.refl d)) _ d

/-- CODE_PERIOD_END is due: position 0, and every live half, of which there is one, has done the frame's work. -/
def Dev.endsPeriod (d : Dev) : Prop := d.codePos = 0 ∧ d.allSafe = false ∧ ∀ h ∈ d.halves, (d.node h).safe = false → d.worked h = true

theorem Dev.endsPeriod_iff (d : Dev) : d.endsPeriod ↔ ¬ (d.codePos ≠ 0 || d.live.isEmpty || !d.live.all d.worked) = true := by
  have empty : d.live.isEmpty = d.allSafe := 
    Bool.eq_iff_iff.mpr (by simp [Dev.live, Dev.allSafe])
  rw [empty]
  simp [Dev.endsPeriod, Dev.live, and_assoc]

theorem exec_codePeriodEnd {s : State} (out : s.dev.inReset = false) (due : s.dev.endsPeriod) :
    exec .codePeriodEnd s = .next (s.lift fun d => d.closePeriods.correlate) := by
  show execCodePeriodEnd s = _
  rw [execCodePeriodEnd, up_next _ out, State.lift, if_neg ((Dev.endsPeriod_iff s.dev).mp due)]
  rfl

theorem exec_codePeriodEnd_not_due {s : State} (out : s.dev.inReset = false) (notDue : ¬ s.dev.endsPeriod) :
    exec .codePeriodEnd s = .next s := by
  show execCodePeriodEnd s = _
  rw [execCodePeriodEnd, up_next _ out, State.lift, if_pos (by rwa [Dev.endsPeriod_iff, Classical.not_not] at notDue)]

/-- R391: the code sets of a line after the close of its period; S32 has none and keeps what it holds. -/
theorem Dev.closePeriods_sets (d : Dev) : d.closePeriods.systems.map Sys.codeSets = d.systems.map fun x =>
    if x.id < 32 then ((x.id, x.dRun, x.iRun, x.vRun, x.aRun), (0, 0, 0, 0, 0, 0)) else x.codeSets := by
  simp only [Dev.closePeriods, List.map_map]
  congr 1
  funext x
  simp only [Function.comp_apply]
  split <;> rfl

end Sys2Proof.Machine
end

section
/-! The obligations of 03, Sensor-head interface. -/
namespace Sys2Proof.Proofs
open Sys2Proof Sys2Proof.Machine

/-- Settles O20: the periods are closed, and correlation keeps the code sets (`Dev.correlate_keepsCodeSets`). -/
theorem codePeriodEndClosesTheObservedSets : Obligations.CodePeriodEndClosesTheObservedSets := by
  unfold Obligations.CodePeriodEndClosesTheObservedSets
  refine fun s out => ⟨fun held => exec_codePeriodEnd_not_due out fun ⟨pos, live, worked⟩ => ?_, fun pos live worked => ?_⟩
  · rcases held with pos' | safe | ⟨h, mem, running, due⟩
    · exact pos' pos
    · simp [safe] at live
    · simp [worked h mem running] at due
  · have keeps := Dev.correlate_keepsCodeSets s.dev.closePeriods
    have sets := keeps.sets.trans s.dev.closePeriods_sets
    refine ⟨_, exec_codePeriodEnd out ⟨pos, live, worked⟩, congrArg (fun d => { s with dev := d }) keeps.frame, ?_, ?_⟩
    · have compared := congrArg (List.map Prod.fst) sets
      simp only [List.map_map, Function.comp_def, apply_ite Prod.fst] at compared
      exact compared
    · have running := congrArg (List.map Prod.snd) sets
      simp only [List.map_map, Function.comp_def, apply_ite Prod.snd] at running
      exact running

/-- Settles O13: the recurrence and line 1 by evaluation, the counts by `codeChip_count`. -/
theorem supplyCodePattern : Obligations.SupplyCodePattern := by
  unfold Obligations.SupplyCodePattern
  refine ⟨by decide, by decide, by decide, ?_, by decide, codeChip_head_alone, fun d x dark => ?_⟩
  · exact List.all_eq_true.mpr fun l _ => beq_iff_eq.mpr (codeChip_count l)
  · rcases dark with pulse | ⟨notOn, notChip⟩
    · exact Dev.applied_of_offPulse pulse x
    · exact d.applied_of_unsupplied notOn notChip

/-- Settles O14: each command maps one function over the systems. -/
theorem chipFrameBlanksAndPulsesTheAppliedLines : Obligations.ChipFrameBlanksAndPulsesTheAppliedLines := by
  unfold Obligations.ChipFrameBlanksAndPulsesTheAppliedLines
  refine fun s out => ⟨⟨_, exec_scheduledBlankingStart out, fun x => ?_⟩, ⟨_, exec_supplyTestPulse out, fun x => ?_⟩,
    ⟨_, exec_supplyTestPulseEnd out, Sys.pulseEnded_eq⟩⟩
  · rw [Dev.blankingStart_eq]
    split
    · rfl
    · rfl
  · rw [Dev.testPulse_eq]
    split
    · rfl
    · split
      · rfl
      · rfl

/-- Settles O15: each command changes the one line, which stands in the list because it is not OFF or is defined. -/
theorem lineOverloadDischargeAndRetry : Obligations.LineOverloadDischargeAndRetry := by
  unfold Obligations.LineOverloadDischargeAndRetry
  intro s i out
  refine ⟨fun notOff notDischarging => ?_, fun mode => ?_, fun _ early => exec_hsupOverloadRetry_early out early,
    fun retrying due mode => ?_, fun retrying due mode defd free supplied => ?_⟩
  · refine ⟨_, exec_hsupOverload out notOff notDischarging, ?_, Dev.onSys_onlyAt i _ s.dev, rfl⟩
    refine (Dev.sys_onSys (Dev.listed_of_mode notOff)).trans ?_
    rw [Sys.overloaded, Sys.switchOff_of_supplied notOff notDischarging]
  · by_cases expired : (s.dev.sys i).dischLeft = 0
    · refine ⟨_, exec_hsupDischargeEnd_over out mode expired, ?_, Dev.onSys_onlyAt i _ s.dev, rfl⟩
      refine (Dev.sys_onSys (Dev.listed_of_mode (by simp [mode]))).trans ?_
      rw [if_neg fun running => running expired]
      simp [Sys.discharged, Sys.enterOn]
    · exact ⟨s, exec_hsupDischargeEnd_early out mode expired, (if_pos expired).symm, fun _ _ => rfl, rfl⟩
  · exact ⟨_, exec_hsupOverloadRetry_on out retrying due mode, Dev.sys_onSys (Dev.listed_of_mode (by simp [mode])),
      Dev.sysFault_clearSys i 0x30 _, Dev.onSys_onlyAt i _ s.dev, rfl⟩
  · refine ⟨_, exec_hsupOverloadRetry_off out retrying due mode defd free supplied, ?_, Dev.onSys_onlyAt i _ s.dev, rfl⟩
    refine (Dev.sys_onSys (Dev.listed_of_defd defd)).trans ?_
    rw [Sys.switchOn_of_off mode, Sys.enterOn]

end Sys2Proof.Proofs
end

section
/-! The capture path of the window monitors (R63 to R66, R82, R122): what a record, a resample and their parts change. -/
namespace Sys2Proof.Machine

/-! ## One comparator of a system -/

@[simp] theorem Sys.cmp_setCmp (k : Comparator) (c : Cmp) (x : Sys) : (x.setCmp k c).cmp k = c := by cases k <;> rfl

@[simp] theorem Sys.setCmp_setCmp (k : Comparator) (b c : Cmp) (x : Sys) : (x.setCmp k b).setCmp k c = x.setCmp k c := by
  cases k <;> rfl

@[simp] theorem Sys.setCmp_captured (k : Comparator) (c : Cmp) (x : Sys) : (x.setCmp k c).captured = x.captured := by cases k <;> rfl

@[simp] theorem Sys.setCmp_hidden (k : Comparator) (c : Cmp) (x : Sys) : (x.setCmp k c).hidden = x.hidden := by cases k <;> rfl

@[simp] theorem Sys.setCmp_lastBand (k : Comparator) (c : Cmp) (x : Sys) : (x.setCmp k c).lastBand = x.lastBand := by cases k <;> rfl

@[simp] theorem Sys.setCmp_sched (k : Comparator) (c : Cmp) (x : Sys) : (x.setCmp k c).sched = x.sched := by cases k <;> rfl

@[simp] theorem Sys.setCmp_rwUntil (k : Comparator) (c : Cmp) (x : Sys) : (x.setCmp k c).rwUntil = x.rwUntil := by cases k <;> rfl

@[simp] theorem Sys.setCmp_ebEnd (k : Comparator) (c : Cmp) (x : Sys) (t : Nat) : (x.setCmp k c).ebEnd t = x.ebEnd t := by
  cases k <;> rfl

@[simp] theorem Sys.setCmp_maskedSched (k : Comparator) (c : Cmp) (x : Sys) (t : Nat) :
    (x.setCmp k c).maskedSched t = x.maskedSched t := by cases k <;> rfl

@[simp] theorem Sys.setCmp_maskedRw (k : Comparator) (c : Cmp) (x : Sys) (t : Nat) :
    (x.setCmp k c).maskedRw t = x.maskedRw t := by cases k <;> rfl

/-! ## The frame of the capture path -/

/-- From `d` to `e` only system `i` and the edge records of the two capture sets changed. -/
structure Dev.CapturesAt (i : Nat) (d e : Dev) : Prop where
  frame : e = { d with systems := e.systems, capOpen := { d.capOpen with edges := e.capOpen.edges }
                       capClosed := { d.capClosed with edges := e.capClosed.edges } }
  only : OnlyAt i d.systems e.systems
  length : e.systems.length = d.systems.length

theorem Dev.CapturesAt.refl (i : Nat) (d : Dev) : d.CapturesAt i d := ⟨rfl, fun _ _ => rfl, rfl⟩

theorem Dev.CapturesAt.trans {i : Nat} {d e f : Dev} (first : d.CapturesAt i e) (next : e.CapturesAt i f) : d.CapturesAt i f where
  frame := next.frame.trans (congrArg (fun g : Dev => { g with
    systems := f.systems, capOpen := { g.capOpen with edges := f.capOpen.edges }
    capClosed := { g.capClosed with edges := f.capClosed.edges } }) first.frame)
  only := fun j other => (next.only j other).trans (first.only j other)
  length := next.length.trans first.length

theorem Dev.onSys_capturesAt (i : Nat) (f : Sys → Sys) (d : Dev) : d.CapturesAt i (d.onSys i f) :=
  ⟨rfl, Dev.onSys_onlyAt i f d, List.length_modify f d.systems i⟩

theorem Dev.edges_capturesAt (i : Nat) (opened closed : List EdgeRec) (d : Dev) :
    d.CapturesAt i { d with capOpen := { d.capOpen with edges := opened }, capClosed := { d.capClosed with edges := closed } } :=
  ⟨rfl, fun _ _ => rfl, rfl⟩

theorem Dev.CapturesAt.frameNo {i : Nat} {d e : Dev} (captures : d.CapturesAt i e) : e.frame = d.frame := by
  rw [captures.frame]

theorem Dev.CapturesAt.listed {i : Nat} {d e : Dev} (captures : d.CapturesAt i e) (listed : i < d.systems.length) :
    i < e.systems.length := captures.length ▸ listed

/-! ## A record enters the capture set (R122) -/

theorem Dev.capture_room {e : EdgeRec} {d : Dev} (room : (d.sys e.sys).captured < 16) :
    d.capture e = { (d.onSys e.sys fun s => { s with captured := s.captured + 1 }) with
      capOpen := { d.capOpen with edges := d.capOpen.edges ++ [e] } } :=
  if_neg (Nat.not_le.mpr room)

theorem Dev.capture_full {e : EdgeRec} {d : Dev} (full : ¬ (d.sys e.sys).captured < 16) :
    d.capture e = d.onSys e.sys fun s => { s with overflow := true } :=
  if_pos (Nat.not_lt.mp full)

theorem Dev.capture_capturesAt (e : EdgeRec) (d : Dev) : d.CapturesAt e.sys (d.capture e) := by
  by_cases room : (d.sys e.sys).captured < 16
  · rw [Dev.capture_room room]
    exact (Dev.onSys_capturesAt e.sys _ d).trans (Dev.edges_capturesAt e.sys _ _ _)
  · rw [Dev.capture_full room]
    exact Dev.onSys_capturesAt e.sys _ d

theorem Dev.capture_capClosed (e : EdgeRec) (d : Dev) : (d.capture e).capClosed = d.capClosed := by
  by_cases room : (d.sys e.sys).captured < 16
  · rw [Dev.capture_room room, Dev.onSys_capClosed]
  · rw [Dev.capture_full room, Dev.onSys_capClosed]

theorem Dev.capture_edges (e : EdgeRec) (d : Dev) : (d.capture e).capOpen.edges
    = if (d.sys e.sys).captured < 16 then d.capOpen.edges ++ [e] else d.capOpen.edges := by
  split
  · rw [Dev.capture_room ‹_›]
  · rw [Dev.capture_full ‹_›, Dev.onSys_capOpen]

section
variable {e : EdgeRec} {d : Dev} (listed : e.sys < d.systems.length)
include listed

theorem Dev.capture_room_sys (room : (d.sys e.sys).captured < 16) :
    (d.capture e).sys e.sys = { d.sys e.sys with captured := (d.sys e.sys).captured + 1 } := by
  rw [Dev.capture_room room]
  exact Dev.sys_onSys listed

theorem Dev.capture_full_sys (full : ¬ (d.sys e.sys).captured < 16) : (d.capture e).sys e.sys = { d.sys e.sys with overflow := true } := by
  rw [Dev.capture_full full]
  exact Dev.sys_onSys listed

/-- A capture leaves the comparators and the masks of its system. -/
theorem Dev.capture_keeps : ((d.capture e).sys e.sys).cmp = (d.sys e.sys).cmp
    ∧ ((d.capture e).sys e.sys).sched = (d.sys e.sys).sched ∧ ((d.capture e).sys e.sys).rwUntil = (d.sys e.sys).rwUntil := by
  by_cases room : (d.sys e.sys).captured < 16
  · rw [Dev.capture_room_sys listed room]
    exact ⟨rfl, rfl, rfl⟩
  · rw [Dev.capture_full_sys listed room]
    exact ⟨rfl, rfl, rfl⟩

end

/-! ## Excursions and BAND_ADJ flags (R63, R82) -/

/-- From `x` to `y` the comparators, the running masks and the place in the capture set are the same. -/
structure Sys.SameFace (x y : Sys) : Prop where
  cmp : y.cmp = x.cmp
  captured : y.captured = x.captured
  sched : y.sched = x.sched
  rwUntil : y.rwUntil = x.rwUntil

theorem Sys.SameFace.refl (x : Sys) : x.SameFace x := ⟨rfl, rfl, rfl, rfl⟩

theorem Sys.openExc_face (t : Nat) (edges : List EdgeRec) (x : Sys) : x.SameFace (x.openExc t edges) := by
  unfold Sys.openExc
  split
  · exact ⟨rfl, rfl, rfl, rfl⟩
  · split
    · exact ⟨rfl, rfl, rfl, rfl⟩
    · exact ⟨rfl, rfl, rfl, rfl⟩

theorem Sys.releaseExc_face (t : Nat) (x : Sys) : x.SameFace (x.releaseExc t) := by
  unfold Sys.releaseExc
  split
  · split
    · exact .refl x
    · exact ⟨rfl, rfl, rfl, rfl⟩
  · exact .refl x

/-- What an OPEN or SHORT record marks in its system: the excursion, and the stamp of the latest such record. -/
def Sys.bandMarked (level : Bool) (t : Nat) (edges : List EdgeRec) (x : Sys) : Sys :=
  { (if level then x.openExc t edges else x.releaseExc t) with lastBand := some t }

theorem Sys.bandMarked_face (level : Bool) (t : Nat) (edges : List EdgeRec) (x : Sys) : x.SameFace (x.bandMarked level t edges) := by
  cases level with
  | true => obtain ⟨cmp, captured, sched, rwUntil⟩ := x.openExc_face t edges; exact ⟨cmp, captured, sched, rwUntil⟩
  | false => obtain ⟨cmp, captured, sched, rwUntil⟩ := x.releaseExc_face t; exact ⟨cmp, captured, sched, rwUntil⟩

theorem Dev.pullBack_capturesAt (i : Nat) (d : Dev) : d.CapturesAt i (d.pullBack i) := by
  unfold Dev.pullBack
  split
  · dsimp only
    split
    · exact .refl i d
    · exact Dev.edges_capturesAt i _ _ d
  · exact .refl i d

theorem Dev.pullBack_sys (i : Nat) (d : Dev) : (d.pullBack i).sys i = d.sys i := by
  unfold Dev.pullBack
  split
  · dsimp only
    split
    · rfl
    · rfl
  · rfl

theorem Dev.bandRecord_capturesAt (i : Nat) (level : Bool) (t : Nat) (d : Dev) : d.CapturesAt i (d.bandRecord i level t) :=
  ((Dev.edges_capturesAt i _ _ d).trans (Dev.onSys_capturesAt i _ _)).trans (Dev.pullBack_capturesAt i _)

theorem Dev.bandRecord_face {i : Nat} {d : Dev} (listed : i < d.systems.length) (level : Bool) (t : Nat) :
    (d.sys i).SameFace ((d.bandRecord i level t).sys i) := by
  have marked : (d.bandRecord i level t).sys i = (d.sys i).bandMarked level t (d.untaken i ++ d.capOpen.edges) :=
    (Dev.pullBack_sys i _).trans (Dev.sys_onSys listed)
  rw [marked]
  exact Sys.bandMarked_face level t _ (d.sys i)

/-! ## A report (R63, R64, R66) -/

/-- A comparator whose level is reported at `t` (R63): no transition is masked, the window of R64 runs to `eb`. -/
def Cmp.reportedAt (level : Bool) (t eb : Nat) (c : Cmp) : Cmp := { c.run level t with reported := some level, masked := 0, ebUntil := eb }

def Sys.reporting (k : Comparator) (level : Bool) (t : Nat) (x : Sys) : Sys := x.setCmp k ((x.cmp k).reportedAt level t (x.ebEnd t))

/-- An occupancy that ended at `t` settles from there on (R74). -/
def Sys.settled (t : Nat) (x : Sys) : Sys := if x.occ then x else { x with settleUntil := usOf t + 2000, offEdges := (usOf t :: x.offEdges).take 16 }

/-- What an OCC record marks in its system: the level seen in the frame (R90), and the settling. -/
def Sys.occMarked (t : Nat) (x : Sys) : Sys := Sys.settled t { x with occSeen := x.occSeen || x.occ }

theorem Sys.occMarked_face (t : Nat) (x : Sys) : x.SameFace (x.occMarked t) := by
  unfold Sys.occMarked Sys.settled
  split
  · exact ⟨rfl, rfl, rfl, rfl⟩
  · exact ⟨rfl, rfl, rfl, rfl⟩

theorem Sys.occMarked_lastBand (t : Nat) (x : Sys) : (x.occMarked t).lastBand = x.lastBand := by
  unfold Sys.occMarked Sys.settled
  split
  · rfl
  · rfl

/-- An OCC record at `t` lies within 20 µs after an OPEN or SHORT record of its system (R63). -/
def Sys.adjacent (k : Comparator) (t : Nat) (x : Sys) : Bool :=
  match x.lastBand with
  | some b => decide (k = .occ) && decide (t ≤ b + bandSpan)
  | none => false

theorem Sys.adjacent_of_band {k : Comparator} (band : k ≠ .occ) (t : Nat) (x : Sys) : x.adjacent k t = false := by
  unfold Sys.adjacent
  split
  · simp [band]
  · rfl

theorem Sys.adjacent_of_lastBand {x y : Sys} (same : y.lastBand = x.lastBand) (k : Comparator) (t : Nat) :
    y.adjacent k t = x.adjacent k t := by
  rw [Sys.adjacent, Sys.adjacent, same]

/-- The record of comparator `k` of system `i` at `t`. -/
def Dev.recordOf (d : Dev) (i : Nat) (k : Comparator) (level : Bool) (lo t : Nat) (resampled : Bool) : EdgeRec :=
  { sys := i, cmp := k, level, lo, hi := t, resampled, bandAdj := (d.sys i).adjacent k t, fr := d.frame }

/-- The device in which the record of a report is captured. -/
def Dev.beforeCapture (i : Nat) (k : Comparator) (level : Bool) (t : Nat) (d : Dev) : Dev :=
  match k with
  | .occ => (d.onSys i (Sys.reporting .occ level t)).onSys i (Sys.occMarked t)
  | k => (d.onSys i (Sys.reporting k level t)).bandRecord i level t

theorem Dev.beforeCapture_of_band {k : Comparator} (band : k ≠ .occ) (i : Nat) (level : Bool) (t : Nat) (d : Dev) :
    d.beforeCapture i k level t = (d.onSys i (Sys.reporting k level t)).bandRecord i level t := by
  cases k with
  | occ => exact absurd rfl band
  | opn => rfl
  | short => rfl

theorem Dev.beforeCapture_capturesAt (i : Nat) (k : Comparator) (level : Bool) (t : Nat) (d : Dev) :
    d.CapturesAt i (d.beforeCapture i k level t) := by
  have reporting := d.onSys_capturesAt i (Sys.reporting k level t)
  by_cases occ : k = .occ
  · subst occ
    exact reporting.trans (Dev.onSys_capturesAt i _ _)
  · rw [Dev.beforeCapture_of_band occ]
    exact reporting.trans (Dev.bandRecord_capturesAt i _ _ _)

theorem Dev.beforeCapture_occ_sys {i : Nat} {d : Dev} (listed : i < d.systems.length) (level : Bool) (t : Nat) :
    (d.beforeCapture i .occ level t).sys i = ((d.sys i).reporting .occ level t).occMarked t := by
  have reporting : (d.onSys i (Sys.reporting .occ level t)).sys i = _ := Dev.sys_onSys listed
  rw [← reporting]
  exact Dev.sys_onSys ((d.onSys_capturesAt i _).listed listed)

/-- Before its capture a record has moved its comparator and taken no place in the set. -/
theorem Dev.beforeCapture_face {i : Nat} {d : Dev} (listed : i < d.systems.length) (k : Comparator) (level : Bool) (t : Nat) :
    ((d.sys i).reporting k level t).SameFace ((d.beforeCapture i k level t).sys i) := by
  by_cases occ : k = .occ
  · subst occ
    rw [Dev.beforeCapture_occ_sys listed]
    exact Sys.occMarked_face t _
  · have reporting : (d.onSys i (Sys.reporting k level t)).sys i = (d.sys i).reporting k level t := Dev.sys_onSys listed
    rw [Dev.beforeCapture_of_band occ, ← reporting]
    exact Dev.bandRecord_face ((d.onSys_capturesAt i _).listed listed) level t

/-- The record of a report is that of the device before it: an OPEN or SHORT record is never BAND_ADJ, an OCC record
leaves the stamp of the latest OPEN or SHORT record. -/
theorem Dev.beforeCapture_recordOf {i : Nat} {d : Dev} (listed : i < d.systems.length) (k : Comparator) (level : Bool) (lo t : Nat)
    (resampled : Bool) : (d.beforeCapture i k level t).recordOf i k level lo t resampled = d.recordOf i k level lo t resampled := by
  have adjacent : ((d.beforeCapture i k level t).sys i).adjacent k t = (d.sys i).adjacent k t := by
    by_cases occ : k = .occ
    · subst occ
      refine Sys.adjacent_of_lastBand ?_ .occ t
      rw [Dev.beforeCapture_occ_sys listed, Sys.occMarked_lastBand]
      exact Sys.setCmp_lastBand .occ _ _
    · rw [Sys.adjacent_of_band occ, Sys.adjacent_of_band occ]
  rw [Dev.recordOf, adjacent, (Dev.beforeCapture_capturesAt i k level t d).frameNo, Dev.recordOf]

theorem Dev.report_eq {i : Nat} {d : Dev} (listed : i < d.systems.length) (k : Comparator) (level : Bool) (lo t : Nat) (resampled : Bool) :
    d.report i k level lo t resampled = (d.beforeCapture i k level t).capture (d.recordOf i k level lo t resampled) := by
  rw [← Dev.beforeCapture_recordOf listed]
  cases k <;> rfl

section
variable {i : Nat} {d : Dev} (listed : i < d.systems.length) (k : Comparator) (level : Bool) (lo t : Nat) (resampled : Bool)
include listed

theorem Dev.report_capturesAt : d.CapturesAt i (d.report i k level lo t resampled) := by
  rw [Dev.report_eq listed]
  exact (d.beforeCapture_capturesAt i k level t).trans (Dev.capture_capturesAt (d.recordOf i k level lo t resampled) _)

/-- The reported comparator after its record; the others are those of before. -/
theorem Dev.report_sys_cmp : ((d.report i k level lo t resampled).sys i).cmp = ((d.sys i).reporting k level t).cmp := by
  have captures := d.beforeCapture_capturesAt i k level t
  obtain ⟨kept, -, -⟩ := Dev.capture_keeps (e := d.recordOf i k level lo t resampled) (captures.listed listed)
  rw [Dev.report_eq listed]
  exact kept.trans (Dev.beforeCapture_face listed k level t).cmp

theorem Dev.report_cmp : ((d.report i k level lo t resampled).sys i).cmp k = ((d.sys i).cmp k).reportedAt level t ((d.sys i).ebEnd t) := by
  rw [Dev.report_sys_cmp listed, Sys.reporting, Sys.cmp_setCmp]

theorem Dev.report_masks : ((d.report i k level lo t resampled).sys i).sched = (d.sys i).sched
    ∧ ((d.report i k level lo t resampled).sys i).rwUntil = (d.sys i).rwUntil := by
  have captures := d.beforeCapture_capturesAt i k level t
  have face := Dev.beforeCapture_face listed k level t
  obtain ⟨-, sched, rewritten⟩ := Dev.capture_keeps (e := d.recordOf i k level lo t resampled) (captures.listed listed)
  rw [Dev.report_eq listed]
  exact ⟨sched.trans (face.sched.trans (Sys.setCmp_sched k _ _)), rewritten.trans (face.rwUntil.trans (Sys.setCmp_rwUntil k _ _))⟩

theorem Dev.beforeCapture_captured : ((d.beforeCapture i k level t).sys i).captured = (d.sys i).captured :=
  (Dev.beforeCapture_face listed k level t).captured.trans (Sys.setCmp_captured k _ _)

/-- With room in the frame's set a report adds its record at the end (R122). -/
theorem Dev.report_of_room (room : (d.sys i).captured < 16) :
    ((d.report i k level lo t resampled).sys i).captured = (d.sys i).captured + 1
    ∧ (d.report i k level lo t resampled).capOpen.edges.getLast? = some (d.recordOf i k level lo t resampled) := by
  have captures := d.beforeCapture_capturesAt i k level t
  have taken := Dev.beforeCapture_captured listed k level t
  have captured := Dev.capture_room_sys (e := d.recordOf i k level lo t resampled) (captures.listed listed) (taken ▸ room)
  rw [Dev.report_eq listed]
  refine ⟨(congrArg Sys.captured captured).trans (congrArg (· + 1) taken), ?_⟩
  rw [Dev.capture_room (taken ▸ room)]
  exact List.getLast?_concat

/-- A 17th record is discarded and marked (R122). -/
theorem Dev.report_of_full (full : ¬ (d.sys i).captured < 16) : ((d.report i k level lo t resampled).sys i).overflow = true := by
  have captures := d.beforeCapture_capturesAt i k level t
  have taken := Dev.beforeCapture_captured listed k level t
  rw [Dev.report_eq listed]
  exact congrArg Sys.overflow (Dev.capture_full_sys (e := d.recordOf i k level lo t resampled) (captures.listed listed) (taken ▸ full))

/-- An OCC record changes no other record of the capture sets. -/
theorem Dev.report_occ_sets : (d.report i .occ level lo t resampled).capClosed = d.capClosed
    ∧ (d.report i .occ level lo t resampled).capOpen.edges
      = if (d.sys i).captured < 16 then d.capOpen.edges ++ [d.recordOf i .occ level lo t resampled] else d.capOpen.edges := by
  have edges := Dev.capture_edges (d.recordOf i .occ level lo t resampled) (d.beforeCapture i .occ level t)
  have taken : ((d.beforeCapture i .occ level t).sys (d.recordOf i .occ level lo t resampled).sys).captured = (d.sys i).captured :=
    Dev.beforeCapture_captured listed .occ level t
  rw [taken] at edges
  rw [Dev.report_eq listed]
  exact ⟨Dev.capture_capClosed _ _, edges⟩

end

end Sys2Proof.Machine
end

section
/-! The resample at the end of a mask (R66): masked still, unchanged, or one record. -/
namespace Sys2Proof.Machine

theorem Dev.resample_masked {i t : Nat} {k : Comparator} {d : Dev} (masked : (d.sys i).masked k t = true) : d.resample i k t = d :=
  if_pos masked

/-- A comparator whose level has not changed: its masked transitions count as one hidden pulse. -/
def Sys.unmasked (k : Comparator) (c : Cmp) (x : Sys) : Sys :=
  { x.setCmp k { c with masked := 0 } with hidden := if c.masked = 0 then x.hidden else satAdd 16 x.hidden 1 }

/-- The resample of a free comparator that has reported its level `r`. -/
theorem Dev.resample_free {i t : Nat} {k : Comparator} {d : Dev} {r : Bool} (free : (d.sys i).masked k t = false)
    (reported : ((d.sys i).cmp k).reported = some r) : d.resample i k t =
      let c := (d.sys i).cmp k
      if c.live = r then d.onSys i (Sys.unmasked k c)
      else d.report i k c.live (if c.masked = 0 then t else c.earliest) t (c.masked ≠ 0) := by
  unfold Dev.resample
  dsimp only
  rw [if_neg (Bool.eq_false_iff.mp free)]
  split
  · rename_i none
    exact absurd (none.symm.trans reported) nofun
  · rename_i r' some
    obtain rfl : r' = r := Option.some.inj (some.symm.trans reported)
    rfl

theorem Dev.resample_same {i t : Nat} {k : Comparator} {d : Dev} (free : (d.sys i).masked k t = false)
    (same : ((d.sys i).cmp k).reported = some ((d.sys i).cmp k).live) :
    d.resample i k t = d.onSys i (Sys.unmasked k ((d.sys i).cmp k)) :=
  (Dev.resample_free free same).trans (if_pos rfl)

/-- A resample with a changed level reports it. -/
theorem Dev.resample_changed {i t : Nat} {k : Comparator} {d : Dev} (free : (d.sys i).masked k t = false)
    (started : ((d.sys i).cmp k).reported ≠ none) (changed : ((d.sys i).cmp k).reported ≠ some ((d.sys i).cmp k).live) :
    d.resample i k t = d.report i k ((d.sys i).cmp k).live
      (if ((d.sys i).cmp k).masked = 0 then t else ((d.sys i).cmp k).earliest) t (((d.sys i).cmp k).masked ≠ 0) := by
  obtain ⟨r, reported⟩ := Option.ne_none_iff_exists'.mp started
  exact (Dev.resample_free free reported).trans (if_neg fun same => changed (by rw [reported, same]))

/-- The record of a resample at `t`: RESAMPLED from the earliest masked transition on, where there was one. -/
def Dev.resampledRecord (d : Dev) (i : Nat) (k : Comparator) (t : Nat) : EdgeRec :=
  let c := (d.sys i).cmp k
  d.recordOf i k c.live (if c.masked = 0 then t else c.earliest) t (c.masked ≠ 0)

/-- From `d` to `e` comparator `k` of system `i` alone changed, with the hidden pulses, and no record was made. -/
structure Dev.QuietAt (i : Nat) (k : Comparator) (d e : Dev) : Prop where
  captures : d.CapturesAt i e
  opened : e.capOpen = d.capOpen
  closed : e.capClosed = d.capClosed
  sys : ∃ c n, e.sys i = { (d.sys i).setCmp k c with hidden := n }

/-- A comparator whose level is the reported one makes no record, masked or not. -/
theorem Dev.resample_quietAt {i : Nat} {k : Comparator} {d : Dev} (listed : i < d.systems.length) (t : Nat)
    (same : ((d.sys i).cmp k).reported = some ((d.sys i).cmp k).live) : d.QuietAt i k (d.resample i k t) := by
  by_cases masked : (d.sys i).masked k t = true
  · rw [Dev.resample_masked masked]
    exact ⟨.refl i d, rfl, rfl, (d.sys i).cmp k, (d.sys i).hidden, by cases k <;> rfl⟩
  · rw [Dev.resample_same (Bool.eq_false_iff.mpr masked) same]
    exact ⟨Dev.onSys_capturesAt i _ d, rfl, rfl, _, _, Dev.sys_onSys listed⟩

theorem Dev.QuietAt.masks {i : Nat} {k : Comparator} {d e : Dev} (quiet : d.QuietAt i k e) :
    (e.sys i).sched = (d.sys i).sched ∧ (e.sys i).rwUntil = (d.sys i).rwUntil := by
  obtain ⟨c, n, sys⟩ := quiet.sys
  rw [sys]
  exact ⟨Sys.setCmp_sched k c _, Sys.setCmp_rwUntil k c _⟩

/-- From `d` to `e` system `i` made the one record `r`; the running masks are the same. -/
structure Dev.RecordsAt (i : Nat) (r : EdgeRec) (d e : Dev) : Prop where
  captures : d.CapturesAt i e
  edges : e.capOpen.edges = d.capOpen.edges ++ [r]
  closed : e.capClosed = d.capClosed
  masks : (e.sys i).sched = (d.sys i).sched ∧ (e.sys i).rwUntil = (d.sys i).rwUntil

theorem Dev.RecordsAt.after_quiet {i : Nat} {k : Comparator} {r : EdgeRec} {d e f : Dev} (quiet : d.QuietAt i k e)
    (records : e.RecordsAt i r f) : d.RecordsAt i r f := by
  obtain ⟨sched, rewritten⟩ := quiet.masks
  obtain ⟨sched', rewritten'⟩ := records.masks
  exact ⟨quiet.captures.trans records.captures, by rw [records.edges, quiet.opened], records.closed.trans quiet.closed,
    sched'.trans sched, rewritten'.trans rewritten⟩

theorem Dev.RecordsAt.then_quiet {i : Nat} {k : Comparator} {r : EdgeRec} {d e f : Dev} (records : d.RecordsAt i r e)
    (quiet : e.QuietAt i k f) : d.RecordsAt i r f := by
  obtain ⟨sched, rewritten⟩ := records.masks
  obtain ⟨sched', rewritten'⟩ := quiet.masks
  exact ⟨records.captures.trans quiet.captures, by rw [quiet.opened, records.edges], quiet.closed.trans records.closed,
    sched'.trans sched, rewritten'.trans rewritten⟩

/-- The resample of a changed OCC comparator makes one record and leaves SHORT alone. -/
theorem Dev.resample_occ_recordsAt {i t : Nat} {d : Dev} (listed : i < d.systems.length) (room : (d.sys i).captured < 16)
    (free : (d.sys i).masked .occ t = false) (started : ((d.sys i).cmp .occ).reported ≠ none)
    (changed : ((d.sys i).cmp .occ).reported ≠ some ((d.sys i).cmp .occ).live) :
    d.RecordsAt i (d.resampledRecord i .occ t) (d.resample i .occ t)
    ∧ ((d.resample i .occ t).sys i).cmp .short = (d.sys i).cmp .short := by
  rw [Dev.resample_changed free started changed]
  obtain ⟨closed, edges⟩ := Dev.report_occ_sets listed ((d.sys i).cmp .occ).live
    (if ((d.sys i).cmp .occ).masked = 0 then t else ((d.sys i).cmp .occ).earliest) t (((d.sys i).cmp .occ).masked ≠ 0)
  exact ⟨⟨Dev.report_capturesAt listed .occ _ _ _ _, edges.trans (if_pos room), closed, Dev.report_masks listed .occ _ _ _ _⟩,
    congrFun (Dev.report_sys_cmp listed .occ _ _ _ _) .short⟩

/-- OPEN and SHORT are as last reported, OCC has changed, and its set has room. -/
structure Sys.OccChanged (x : Sys) : Prop where
  opn : (x.cmp .opn).reported = some (x.cmp .opn).live
  short : (x.cmp .short).reported = some (x.cmp .short).live
  started : (x.cmp .occ).reported ≠ none
  changed : (x.cmp .occ).reported ≠ some (x.cmp .occ).live
  room : x.captured < 16

/-- Where OCC alone has changed, the resample of all three comparators is the one record of OCC. -/
theorem Dev.resampleAll_recordsAt {i t : Nat} {d : Dev} (listed : i < d.systems.length) (occ : (d.sys i).OccChanged)
    (free : (d.sys i).masked .occ t = false) : d.RecordsAt i (d.resampledRecord i .occ t) (d.resampleAll i t) := by
  have quiet : d.QuietAt i .opn (d.resample i .opn t) := Dev.resample_quietAt listed t occ.opn
  obtain ⟨c, n, sys⟩ := quiet.sys
  have record : (d.resample i .opn t).resampledRecord i .occ t = d.resampledRecord i .occ t := by
    rw [Dev.resampledRecord, Dev.recordOf, quiet.captures.frameNo, sys]
    rfl
  obtain ⟨records, kept⟩ := Dev.resample_occ_recordsAt (t := t) (d := d.resample i .opn t) (quiet.captures.listed listed)
    (by rw [sys]; exact occ.room) (by rw [sys]; exact free) (by rw [sys]; exact occ.started) (by rw [sys]; exact occ.changed)
  have last : ((d.resample i .opn t).resample i .occ t).QuietAt i .short (d.resampleAll i t) :=
    Dev.resample_quietAt (records.captures.listed (quiet.captures.listed listed)) t (by rw [kept, sys]; exact occ.short)
  rw [← record]
  exact (Dev.RecordsAt.after_quiet quiet records).then_quiet last

end Sys2Proof.Machine
end

section
/-! COMPARATOR_EDGE (R57, R63 to R66, R122), case by case. -/
namespace Sys2Proof.Machine

theorem Sys.live_iff (d : Dev) (i : Nat) : Sys.live d i = true ↔ (d.sys i).defd = true ∨ i = 32 := by
  simp [Sys.live]

/-- The live level of comparator `k` of system `i` alone follows. -/
def Dev.seeLevel (i : Nat) (k : Comparator) (level : Bool) (d : Dev) : Dev :=
  d.onSys i fun x => x.setCmp k { (d.sys i).cmp k with live := level }

/-- A transition that a window hides: counted with the earliest stamp, and noisy outside scheduled blanking (R66, R77). -/
def Sys.hiding (k : Comparator) (level : Bool) (t : Nat) (c : Cmp) (x : Sys) : Sys :=
  { x.setCmp k { c with live := level, masked := c.masked + 1, earliest := if c.masked = 0 then t else c.earliest } with
    noisy := x.noisy || x.noisyAt k t }

section
variable {i t : Nat} {k : Comparator} {level : Bool} {d : Dev}

theorem Dev.edge_unchanged (same : ((d.sys i).cmp k).live = level) : d.edge i k level t = d := if_pos same

theorem Dev.edge_masked (changed : ((d.sys i).cmp k).live ≠ level) (live : Sys.live d i = true) (masked : (d.sys i).masked k t = true) :
    d.edge i k level t = d.onSys i (Sys.hiding k level t ((d.sys i).cmp k)) := by
  unfold Dev.edge
  rw [if_neg changed, if_neg (by simp [live]), if_pos masked]
  rfl

/-- No record of an undefined system, before the first resample, or where a resample is due (R66, log 106). -/
theorem Dev.edge_unrecorded (changed : ((d.sys i).cmp k).live ≠ level) (none : ¬ Sys.live d i = true
    ∨ (d.sys i).masked k t = false ∧ (((d.sys i).cmp k).reported = none ∨ (d.sys i).awaits k t = true)) :
    d.edge i k level t = d.seeLevel i k level := by
  unfold Dev.edge
  rw [if_neg changed]
  by_cases live : Sys.live d i = true
  · obtain ⟨free, held⟩ := none.resolve_left (not_not_intro live)
    rw [if_neg (by simp [live]), if_neg (Bool.eq_false_iff.mp free), if_pos (by simpa using held)]
    rfl
  · rw [if_pos (by simpa using live)]
    rfl

theorem Dev.edge_reported (changed : ((d.sys i).cmp k).live ≠ level) (live : Sys.live d i = true) (free : (d.sys i).masked k t = false)
    (started : ((d.sys i).cmp k).reported ≠ none) (settled : (d.sys i).awaits k t = false) :
    d.edge i k level t = (d.seeLevel i k level).report i k level t t false := by
  unfold Dev.edge
  rw [if_neg changed, if_neg (by simp [live]), if_neg (Bool.eq_false_iff.mp free), if_neg (by simp [started, settled])]
  rfl

theorem Dev.seeLevel_capturesAt (i : Nat) (k : Comparator) (level : Bool) (d : Dev) : d.CapturesAt i (d.seeLevel i k level) :=
  Dev.onSys_capturesAt i _ d

theorem Dev.seeLevel_sys (listed : i < d.systems.length) :
    (d.seeLevel i k level).sys i = (d.sys i).setCmp k { (d.sys i).cmp k with live := level } := Dev.sys_onSys listed

/-- The record and the comparator of an unmasked transition. -/
theorem Dev.seeLevel_recordOf (listed : i < d.systems.length) (lo : Nat) (resampled : Bool) :
    (d.seeLevel i k level).recordOf i k level lo t resampled = d.recordOf i k level lo t resampled := by
  rw [Dev.recordOf, Dev.seeLevel_sys listed, Sys.adjacent_of_lastBand (Sys.setCmp_lastBand k _ _)]
  rfl

theorem Dev.seeLevel_report_cmp (listed : i < d.systems.length) (lo : Nat) (resampled : Bool) :
    (((d.seeLevel i k level).report i k level lo t resampled).sys i).cmp k
      = Cmp.reportedAt level t ((d.sys i).ebEnd t) { (d.sys i).cmp k with live := level } := by
  rw [Dev.report_cmp ((d.seeLevel_capturesAt i k level).listed listed), Dev.seeLevel_sys listed, Sys.cmp_setCmp, Sys.setCmp_ebEnd]

theorem Dev.edge_capturesAt (listed : i < d.systems.length) (k : Comparator) (level : Bool) (t : Nat) :
    d.CapturesAt i (d.edge i k level t) := by
  have seen := d.seeLevel_capturesAt i k level
  by_cases changed : ((d.sys i).cmp k).live = level
  · rw [Dev.edge_unchanged changed]
    exact .refl i d
  by_cases live : Sys.live d i = true
  · by_cases masked : (d.sys i).masked k t = true
    · rw [Dev.edge_masked changed live masked]
      exact Dev.onSys_capturesAt i _ d
    by_cases held : ((d.sys i).cmp k).reported = none ∨ (d.sys i).awaits k t = true
    · rw [Dev.edge_unrecorded changed (.inr ⟨Bool.eq_false_iff.mpr masked, held⟩)]
      exact seen
    · obtain ⟨started, settled⟩ := not_or.mp held
      rw [Dev.edge_reported changed live (Bool.eq_false_iff.mpr masked) started (Bool.eq_false_iff.mpr settled)]
      exact seen.trans (Dev.report_capturesAt (seen.listed listed) k _ _ _ _)
  · rw [Dev.edge_unrecorded changed (.inl live)]
    exact seen

end

theorem exec_comparatorEdge {s : State} (i : Fin 33) (k : Comparator) (level : Bool) (cyc : Nat) (out : s.dev.inReset = false) :
    exec (.comparatorEdge i k level cyc) s = .next (s.lift fun d => d.edge i k level (d.stamp cyc)) := up_next _ out

theorem Dev.CapturesAt.state {i : Nat} {s : State} {e : Dev} (captures : s.dev.CapturesAt i e) :
    s.lift (fun _ => e) = { s with dev := { s.dev with
      systems := e.systems, capOpen := { s.dev.capOpen with edges := e.capOpen.edges }
      capClosed := { s.dev.capClosed with edges := e.capClosed.edges } } } :=
  congrArg (fun d => { s with dev := d }) captures.frame

end Sys2Proof.Machine
end

section
/-! EDGE_BLANKING_END, REWRITE_MASK_END and SCHEDULED_BLANKING_END (R64 to R66): a window ends, then the resample. -/
namespace Sys2Proof.Machine

/-! ## Windows that are over -/

section
variable {x : Sys} {k : Comparator} {t : Nat}

theorem Sys.maskedSched_over (past : x.sched = false ∨ x.schedUntil < t) : x.maskedSched t = false := by
  rcases past with ended | past
  · simp [Sys.maskedSched, ended]
  · simp [Sys.maskedSched, Nat.not_le.mpr past]

theorem Sys.maskedRw_over (past : x.rwUntil = 0 ∨ x.rwUntil < t) : x.maskedRw t = false := by
  rcases past with ended | past
  · simp [Sys.maskedRw, ended]
  · simp [Sys.maskedRw, Nat.not_le.mpr past]

theorem Sys.maskedEb_over (past : (x.cmp k).ebUntil = 0 ∨ (x.cmp k).ebUntil < t) : x.maskedEb k t = false := by
  rcases past with ended | past
  · simp [Sys.maskedEb, ended]
  · simp [Sys.maskedEb, Nat.not_le.mpr past]

/-- Where every window is over nothing masks the comparator. -/
theorem Sys.masked_over (sched : x.sched = false ∨ x.schedUntil < t) (rewritten : x.rwUntil = 0 ∨ x.rwUntil < t)
    (edge : (x.cmp k).ebUntil = 0 ∨ (x.cmp k).ebUntil < t) : x.masked k t = false := by
  rw [Sys.masked, Sys.maskedSched_over sched, Sys.maskedRw_over rewritten, Sys.maskedEb_over edge]
  rfl

end

/-! ## The end of an edge-blanking window -/

/-- The edge-blanking window of comparator `k` of system `i` is over. -/
def Dev.endWindow (i : Nat) (k : Comparator) (d : Dev) : Dev := d.onSys i fun x => x.setCmp k { (d.sys i).cmp k with ebUntil := 0 }

section
variable {i t : Nat} {k : Comparator} {d : Dev} (listed : i < d.systems.length)
include listed

theorem Dev.endWindow_sys : (d.endWindow i k).sys i = (d.sys i).setCmp k { (d.sys i).cmp k with ebUntil := 0 } := Dev.sys_onSys listed

theorem Dev.endWindow_cmp : ((d.endWindow i k).sys i).cmp k = { (d.sys i).cmp k with ebUntil := 0 } := by
  rw [Dev.endWindow_sys listed, Sys.cmp_setCmp]

/-- Only scheduled blanking and the rewrite mask can still cover the comparator. -/
theorem Dev.endWindow_masked : ((d.endWindow i k).sys i).masked k t = ((d.sys i).maskedSched t || (d.sys i).maskedRw t) := by
  have edge : ((d.endWindow i k).sys i).maskedEb k t = false := Sys.maskedEb_over (.inl (by rw [Dev.endWindow_cmp listed]))
  rw [Sys.masked, edge, Bool.or_false, Dev.endWindow_sys listed, Sys.setCmp_maskedSched, Sys.setCmp_maskedRw]

theorem Dev.endWindow_resampledRecord : (d.endWindow i k).resampledRecord i k t = d.resampledRecord i k t := by
  rw [Dev.resampledRecord, Dev.endWindow_cmp listed, Dev.recordOf, Dev.endWindow_sys listed,
    Sys.adjacent_of_lastBand (Sys.setCmp_lastBand k _ _)]
  rfl

/-- A resample after the first changes its system and the edge records alone. -/
theorem Dev.resample_capturesAt (started : ((d.sys i).cmp k).reported ≠ none) : d.CapturesAt i (d.resample i k t) := by
  by_cases masked : (d.sys i).masked k t = true
  · rw [Dev.resample_masked masked]
    exact .refl i d
  by_cases same : ((d.sys i).cmp k).reported = some ((d.sys i).cmp k).live
  · exact (Dev.resample_quietAt listed t same).captures
  · rw [Dev.resample_changed (Bool.eq_false_iff.mpr masked) started same]
    exact Dev.report_capturesAt listed k _ _ _ _

/-- A resample with a changed level and room in the set: the record, and the comparator after it. -/
theorem Dev.resample_reports (free : (d.sys i).masked k t = false) (started : ((d.sys i).cmp k).reported ≠ none)
    (changed : ((d.sys i).cmp k).reported ≠ some ((d.sys i).cmp k).live) (room : (d.sys i).captured < 16) :
    (d.resample i k t).capOpen.edges.getLast? = some (d.resampledRecord i k t)
    ∧ ((d.resample i k t).sys i).cmp k = ((d.sys i).cmp k).reportedAt ((d.sys i).cmp k).live t ((d.sys i).ebEnd t) := by
  rw [Dev.resample_changed free started changed]
  obtain ⟨-, last⟩ := Dev.report_of_room listed k ((d.sys i).cmp k).live
    (if ((d.sys i).cmp k).masked = 0 then t else ((d.sys i).cmp k).earliest) t (((d.sys i).cmp k).masked ≠ 0) room
  exact ⟨last, Dev.report_cmp listed k _ _ _ _⟩

end

/-! ### The resample that follows it -/

theorem Dev.endWindow_capturesAt (i : Nat) (k : Comparator) (d : Dev) : d.CapturesAt i (d.endWindow i k) := Dev.onSys_capturesAt i _ d

section
variable {i t : Nat} {k : Comparator} {d : Dev}

/-- While another mask still covers the comparator only the window ends. -/
theorem Dev.endWindow_resample_masked (listed : i < d.systems.length) (masked : (d.sys i).maskedSched t = true ∨ (d.sys i).maskedRw t = true) :
    (d.endWindow i k).resample i k t = d.endWindow i k :=
  Dev.resample_masked (by rw [Dev.endWindow_masked listed, Bool.or_eq_true]; exact masked)

variable (listed : i < d.systems.length) (sched : (d.sys i).maskedSched t = false) (rewritten : (d.sys i).maskedRw t = false)
include listed sched rewritten

theorem Dev.endWindow_free : ((d.endWindow i k).sys i).masked k t = false := by
  rw [Dev.endWindow_masked listed, sched, rewritten]
  rfl

/-- An unchanged level makes no record; masked transitions count as one hidden pulse. -/
theorem Dev.endWindow_resample_same (same : ((d.sys i).cmp k).reported = some ((d.sys i).cmp k).live) :
    (d.endWindow i k).QuietAt i k ((d.endWindow i k).resample i k t)
    ∧ ((d.endWindow i k).resample i k t).sys i = { (d.sys i).setCmp k { (d.sys i).cmp k with ebUntil := 0, masked := 0 } with
        hidden := if ((d.sys i).cmp k).masked = 0 then (d.sys i).hidden else min ((d.sys i).hidden + 1) 65535 } := by
  have listed' := (d.endWindow_capturesAt i k).listed listed
  have same' : (((d.endWindow i k).sys i).cmp k).reported = some (((d.endWindow i k).sys i).cmp k).live := by
    rw [Dev.endWindow_cmp listed]; exact same
  refine ⟨Dev.resample_quietAt listed' t same', ?_⟩
  rw [Dev.resample_same (Dev.endWindow_free listed sched rewritten) same', Dev.sys_onSys listed', Dev.endWindow_cmp listed,
    Dev.endWindow_sys listed, Sys.unmasked, Sys.setCmp_setCmp, Sys.setCmp_hidden]
  rfl

variable (started : ((d.sys i).cmp k).reported ≠ none) (changed : ((d.sys i).cmp k).reported ≠ some ((d.sys i).cmp k).live)
  (room : (d.sys i).captured < 16)
include started changed room

/-- A changed level makes one record and opens a new window. -/
theorem Dev.endWindow_resample_changed :
    ((d.endWindow i k).resample i k t).capOpen.edges.getLast? = some (d.resampledRecord i k t)
    ∧ (((d.endWindow i k).resample i k t).sys i).cmp k
      = Cmp.reportedAt ((d.sys i).cmp k).live t ((d.sys i).ebEnd t) { (d.sys i).cmp k with ebUntil := 0 } := by
  have reports := Dev.resample_reports (k := k) (t := t) ((d.endWindow_capturesAt i k).listed listed)
    (Dev.endWindow_free listed sched rewritten) (by rw [Dev.endWindow_cmp listed]; exact started)
    (by rw [Dev.endWindow_cmp listed]; exact changed) (by rw [Dev.endWindow_sys listed, Sys.setCmp_captured]; exact room)
  rwa [Dev.endWindow_resampledRecord listed, Dev.endWindow_cmp listed, Dev.endWindow_sys listed, Sys.setCmp_ebEnd] at reports

end

theorem Dev.endWindow_occ_recordsAt {i t : Nat} {d : Dev} (listed : i < d.systems.length) (sched : (d.sys i).maskedSched t = false)
    (rewritten : (d.sys i).maskedRw t = false) (started : ((d.sys i).cmp .occ).reported ≠ none)
    (changed : ((d.sys i).cmp .occ).reported ≠ some ((d.sys i).cmp .occ).live) (room : (d.sys i).captured < 16) :
    (d.endWindow i .occ).RecordsAt i (d.resampledRecord i .occ t) ((d.endWindow i .occ).resample i .occ t) := by
  rw [← Dev.endWindow_resampledRecord listed]
  exact (Dev.resample_occ_recordsAt ((d.endWindow_capturesAt i .occ).listed listed)
    (by rw [Dev.endWindow_sys listed, Sys.setCmp_captured]; exact room) (Dev.endWindow_free listed sched rewritten)
    (by rw [Dev.endWindow_cmp listed]; exact started) (by rw [Dev.endWindow_cmp listed]; exact changed)).1

theorem exec_edgeBlankingEnd {s : State} {i : Fin 33} {k : Comparator} {cyc : Nat} (out : s.dev.inReset = false)
    (opened : ((s.dev.sys i).cmp k).ebUntil ≠ 0) (past : ((s.dev.sys i).cmp k).ebUntil < s.dev.stamp cyc) :
    exec (.edgeBlankingEnd i k cyc) s = .next (s.lift fun d => (d.endWindow i k).resample i k (s.dev.stamp cyc)) := by
  show execEdgeBlankingEnd i k cyc s = _
  rw [execEdgeBlankingEnd, up_next _ out, State.lift, if_pos (by simp [opened, past])]
  rfl

/-! ## The end of the rewrite mask and of scheduled blanking -/

def Sys.endRewrite (x : Sys) : Sys := { x with rwUntil := 0 }
def Sys.endBlanking (x : Sys) : Sys := { x with sched := false }

/-- After scheduled blanking the assertions of OPEN and SHORT count on (R78). -/
def Sys.countOn (t : Nat) (x : Sys) : Sys := { x with cOpen := x.cOpen.goOn t, cShort := x.cShort.goOn t }

theorem exec_rewriteMaskEnd {s : State} {i : Fin 33} {cyc : Nat} (out : s.dev.inReset = false)
    (opened : (s.dev.sys i).rwUntil ≠ 0) (past : (s.dev.sys i).rwUntil < s.dev.stamp cyc) :
    exec (.rewriteMaskEnd i cyc) s = .next (s.lift fun d => (d.onSys i Sys.endRewrite).resampleAll i (s.dev.stamp cyc)) := by
  show execRewriteMaskEnd i cyc s = _
  rw [execRewriteMaskEnd, up_next _ out, State.lift, if_pos (by simp [opened, past])]
  rfl

theorem exec_scheduledBlankingEnd {s : State} {i : Fin 32} {cyc : Nat} (out : s.dev.inReset = false)
    (running : (s.dev.sys i).sched = true) (past : (s.dev.sys i).schedUntil < s.dev.stamp cyc) :
    exec (.scheduledBlankingEnd i cyc) s = .next (s.lift fun d =>
      ((d.onSys i Sys.endBlanking).resampleAll i (s.dev.stamp cyc)).onSys i (Sys.countOn (s.dev.stamp cyc))) := by
  show execScheduledBlankingEnd i cyc s = _
  rw [execScheduledBlankingEnd, up_next _ out, State.lift, if_pos (by simp [running, past])]
  rfl

/-- From `x` to `y` the comparators, the room in the set and the stamp of the latest OPEN or SHORT record are the same. -/
structure Sys.SameLevels (x y : Sys) : Prop where
  cmp : y.cmp = x.cmp
  captured : y.captured = x.captured
  lastBand : y.lastBand = x.lastBand

theorem Sys.OccChanged.of_sameLevels {x y : Sys} (same : x.SameLevels y) (occ : x.OccChanged) : y.OccChanged where
  opn := by rw [same.cmp]; exact occ.opn
  short := by rw [same.cmp]; exact occ.short
  started := by rw [same.cmp]; exact occ.started
  changed := by rw [same.cmp]; exact occ.changed
  room := by rw [same.captured]; exact occ.room

/-- A mask of system `i` ends, by `f`: OCC, free then, makes the one record that the device before it shows. -/
theorem Dev.onSys_resampleAll_recordsAt {i t : Nat} {d : Dev} {f : Sys → Sys} (listed : i < d.systems.length)
    (same : (d.sys i).SameLevels (f (d.sys i))) (occ : (d.sys i).OccChanged) (free : (f (d.sys i)).masked .occ t = false) :
    (d.onSys i f).RecordsAt i (d.resampledRecord i .occ t) ((d.onSys i f).resampleAll i t) := by
  have sys : (d.onSys i f).sys i = f (d.sys i) := Dev.sys_onSys listed
  have record : (d.onSys i f).resampledRecord i .occ t = d.resampledRecord i .occ t := by
    rw [Dev.resampledRecord, Dev.recordOf, sys, Sys.adjacent_of_lastBand same.lastBand, same.cmp]
    rfl
  rw [← record]
  exact Dev.resampleAll_recordsAt ((d.onSys_capturesAt i f).listed listed) (sys ▸ occ.of_sameLevels same) (sys ▸ free)

end Sys2Proof.Machine
end

section
/-! BAND_TIMEOUT (R78) and the recoveries of window and baseline faults (R76, R78, Table WIN-5). -/
namespace Sys2Proof.Machine

/-! ## BAND_TIMEOUT -/

/-- The assertion of SHORT or of OPEN has lasted its 1 000 µs at `t` and is to raise its fault. -/
def Sys.bandOver (short : Bool) (t : Nat) (x : Sys) : Bool := if short then x.cShort.runOver t else x.cOpen.runOver t && x.nodeHigh

/-- The assertion has raised its fault; the frames toward its recovery are counted anew (R339). -/
def Sys.bandRaised (short : Bool) (x : Sys) : Sys :=
  if short then { x with cShort := { x.cShort with onDone := true }, noShortFrames := 0 }
  else { x with cOpen := { x.cOpen with onDone := true }, noOpenFrames := 0 }

def bandCode (short : Bool) : Nat := if short then 0x3C else 0x3B

theorem Cmp.runOver_iff (t : Nat) (c : Cmp) : c.runOver t = true ↔ c.onDone = false ∧ 96000 ≤ c.runAt t := by
  rw [Cmp.runOver, Bool.and_eq_true, Bool.not_eq_true', decide_eq_true_iff]
  rfl

theorem Sys.bandOver_open_iff (t : Nat) (x : Sys) :
    x.bandOver false t = true ↔ x.cOpen.onDone = false ∧ 96000 ≤ x.cOpen.runAt t ∧ (x.node = .high ∨ x.id = 32) := by
  simp [Sys.bandOver, Cmp.runOver_iff, Sys.nodeHigh, and_assoc]

theorem Sys.bandOver_short_iff (t : Nat) (x : Sys) :
    x.bandOver true t = true ↔ x.cShort.onDone = false ∧ 96000 ≤ x.cShort.runAt t := Cmp.runOver_iff t x.cShort

section
variable {s : State} {i : Fin 33} (runs : s.Runs (s.dev.halfOfSys i))
include runs

theorem exec_bandTimeout_undefined (undefined : ¬ Sys.live s.dev i = true) (short : Bool) (cyc : Nat) :
    exec (.bandTimeout i short cyc) s = .next s := by
  obtain ⟨out, running⟩ := runs
  show execBandTimeout i short cyc s = _
  rw [execBandTimeout, upIn_next _ _ out running, State.lift, if_pos (by simpa using undefined)]

theorem exec_bandTimeout (live : Sys.live s.dev i = true) (short : Bool) (cyc : Nat) :
    exec (.bandTimeout i short cyc) s = .next (s.lift fun d => if (d.sys i).bandOver short (d.stamp cyc)
      then (d.onSys i (Sys.bandRaised short)).raiseSys i (bandCode short) else d) := by
  obtain ⟨out, running⟩ := runs
  show execBandTimeout i short cyc s = _
  rw [execBandTimeout, upIn_next _ _ out running, State.lift, if_neg (by simp [live])]
  cases short <;> rfl

theorem exec_bandTimeout_early {short : Bool} {cyc : Nat} (live : Sys.live s.dev i = true)
    (early : ¬ (s.dev.sys i).bandOver short (s.dev.stamp cyc) = true) : exec (.bandTimeout i short cyc) s = .next s := by
  rw [exec_bandTimeout runs live, State.lift, if_neg early]

end

/-- A fault raised on a system is active. -/
theorem Dev.sysFault_raiseSys (i code : Nat) (d : Dev) : (d.raiseSys i code).sysFault i code = true :=
  Dev.hasFault_raise code .system i d (d.halfOfSys i) 0xFFFF

/-- A timeout that has come raises the fault of its assertion, once (log 105). -/
theorem exec_bandTimeout_raises {s : State} {i : Fin 33} (runs : s.Runs (s.dev.halfOfSys i)) {short : Bool} {cyc : Nat}
    (live : Sys.live s.dev i = true) (listed : i < s.dev.systems.length)
    (past : (s.dev.sys i).bandOver short (s.dev.stamp cyc) = true) :
    ∃ t, exec (.bandTimeout i short cyc) s = .next t ∧ t.dev.sysFault i (bandCode short) = true
      ∧ t.dev.sys i = (s.dev.sys i).bandRaised short ∧ OnlyAt i s.dev.systems t.dev.systems
      ∧ t = { s with dev := { s.dev with systems := t.dev.systems, faults := t.dev.faults } } := by
  refine ⟨s.lift fun d => (d.onSys i (Sys.bandRaised short)).raiseSys i (bandCode short), ?_,
    Dev.sysFault_raiseSys i (bandCode short) _, Dev.sys_onSys listed, Dev.onSys_onlyAt i _ s.dev, rfl⟩
  rw [exec_bandTimeout runs live, State.lift, if_pos past]
  rfl

/-! ## Recoveries -/

section
variable {s : State} {i : Fin 33} (runs : s.Runs (s.dev.halfOfSys i))
include runs

/-- 0x3D is the device's fault; ten good calibrations clear it. -/
theorem exec_windowFaultRecovery_cal : exec (.windowFaultRecovery i 0x3D) s
    = .next (s.lift fun d => if 10 ≤ d.bgw.calGood then d.clearF 0x3D .device 0 else d) := by
  obtain ⟨out, running⟩ := runs
  exact upIn_next _ _ out running

theorem exec_windowFaultRecovery_sys {code : Nat} (own : code ≠ 0x3D) : exec (.windowFaultRecovery i code) s
    = .next (s.lift fun d => if d.windowRecovered i code then d.clearSys i code else d) := by
  obtain ⟨out, running⟩ := runs
  show execWindowFaultRecovery i code s = _
  rw [execWindowFaultRecovery, upIn_next _ _ out running, State.lift, if_neg own]
  rfl

end

theorem exec_baselineFaultRecovery {s : State} {i : Fin 32} (runs : s.Runs (s.dev.halfOfSys i)) :
    exec (.baselineFaultRecovery i) s = .next (s.lift fun d => if 20000 ≤ (d.sys i).baseGood then d.clearSys i 0x3A else d) := by
  obtain ⟨out, running⟩ := runs
  exact upIn_next _ _ out running

/-- A recovery under condition `p` by `c`, after which the fault is `gone`: it changes the faults alone, or nothing. -/
theorem recovery_clears_or_idles {p : Dev → Prop} [DecidablePred p] {c : Dev → Dev} {s : State} {o : Out} {gone : Dev → Prop}
    (outcome : o = .next (s.lift fun d => if p d then c d else d)) (clears : gone (c s.dev))
    (faultsOnly : c s.dev = { s.dev with faults := (c s.dev).faults }) :
    if p s.dev then ∃ t, o = .next t ∧ gone t.dev ∧ t = { s with dev := { s.dev with faults := t.dev.faults } } else o = .next s := by
  split
  next recovered =>
    refine ⟨s.lift c, ?_, clears, congrArg (fun d => { s with dev := d }) faultsOnly⟩
    rw [outcome, State.lift, if_pos recovered]
    rfl
  next held => rw [outcome, State.lift, if_neg held]

/-- The conditions of Table WIN-5. -/
theorem Dev.windowRecovered_of_mem {d : Dev} {i c : Nat} {ok : Bool} (entry : (c, ok) ∈
    [(0x37, decide (4 ≤ (d.sys i).rbOpen ∧ 4 ≤ (d.sys i).rbOcc ∧ 4 ≤ (d.sys i).rbShort)), (0x38, decide (200 ≤ (d.sys i).quietFrames)),
      (0x39, decide (128 ≤ (d.sys i).disClean)), (0x3B, decide (200 ≤ (d.sys i).noOpenFrames)), (0x3C, decide (200 ≤ (d.sys i).noShortFrames))]) :
    ok = d.windowRecovered i c ∧ c ≠ 0x3D := by
  simp only [List.mem_cons, Prod.mk.injEq, List.not_mem_nil, or_false] at entry
  rcases entry with ⟨rfl, rfl⟩ | ⟨rfl, rfl⟩ | ⟨rfl, rfl⟩ | ⟨rfl, rfl⟩ | ⟨rfl, rfl⟩
  · exact ⟨by simp [Dev.windowRecovered, Bool.and_assoc], by decide⟩
  all_goals exact ⟨rfl, by decide⟩

end Sys2Proof.Machine
end

section
/-! The verdict of an occupancy and of an event (R72), and CLASSIFIER_VERDICT (R73). -/
namespace Sys2Proof.Machine

section
variable {fs : List Feature}

theorem verdictOf_of_outside (outside : Feature.outside ∈ fs) : verdictOf fs = .nonWheel :=
  if_pos (List.contains_iff_mem.mpr outside)

theorem verdictOf_of_none_outside (none : Feature.outside ∉ fs) :
    verdictOf fs = if fs.all (· == .inside) then .wheel else .uncertain :=
  if_neg (mt List.contains_iff_mem.mp none)

theorem verdictOf_of_all_inside (inside : ∀ f ∈ fs, f = .inside) : verdictOf fs = .wheel := by
  have none : Feature.outside ∉ fs := fun mem => nomatch inside _ mem
  rw [verdictOf_of_none_outside none, if_pos (by simpa using inside)]

theorem verdictOf_of_unmeasured (none : Feature.outside ∉ fs) (unmeasured : ∃ f ∈ fs, f ≠ .inside) : verdictOf fs = .uncertain := by
  rw [verdictOf_of_none_outside none, if_neg (by simpa using unmeasured)]

end

/-! ## Own points -/

theorem Dev.mapOwn_frame (h : Half) (f : Point → Point) (d : Dev) : d.mapOwn h f = { d with
    nodeA := { d.nodeA with points := (d.mapOwn h f).nodeA.points }, nodeB := { d.nodeB with points := (d.mapOwn h f).nodeB.points }
    dpx := { d.dpx with shadow := (d.mapOwn h f).dpx.shadow } } := by
  unfold Dev.mapOwn
  split
  · rfl
  · cases h <;> rfl

theorem Dev.node_onNode_ne {h g : Half} (other : g ≠ h) (f : Node → Node) (d : Dev) : (d.onNode h f).node g = d.node g := by
  cases h with
  | a => cases g with
    | a => exact absurd rfl other
    | b => rfl
  | b => cases g with
    | a => rfl
    | b => exact absurd rfl other

theorem Dev.mapOwn_node_ne {h g : Half} (other : g ≠ h) (f : Point → Point) (d : Dev) : (d.mapOwn h f).node g = d.node g := by
  unfold Dev.mapOwn
  split
  · cases g <;> rfl
  · exact Dev.node_onNode_ne other _ d

theorem Dev.mapOwn_mirrors (h : Half) (f : Point → Point) (d : Dev) : (d.mapOwn h f).mirrors = d.mirrors := by
  rw [Dev.mapOwn_frame]
  rfl

theorem Dev.mapOwn_ownPoints (h : Half) (f : Point → Point) (d : Dev) : (d.mapOwn h f).ownPoints h = (d.ownPoints h).map f := by
  rw [Dev.ownPoints, Dev.mapOwn_mirrors, Dev.ownPoints, Dev.mapOwn]
  by_cases mirrors : d.mirrors = true
  · simp only [if_pos mirrors]
  · simp only [if_neg mirrors, Dev.node_onNode]

/-- The update of one own point, by an `f` that keeps its number. -/
theorem Dev.onOwn_ownPoint {f : Point → Point} (keep : ∀ p, (f p).cfg.index = p.cfg.index) (h : Half) (i : Nat) (d : Dev) :
    (d.onOwn h i f).ownPoint h i = (d.ownPoint h i).map f := by
  rw [Dev.ownPoint, Dev.onOwn, Dev.mapOwn_ownPoints, List.find?_map, Dev.ownPoint]
  have number (p : Point) : (if p.cfg.index == i then f p else p).cfg.index = p.cfg.index := by
    split
    · exact keep p
    · rfl
  simp only [Function.comp_def, number]
  cases found : (d.ownPoints h).find? (·.cfg.index == i) with
  | none => rfl
  | some p => exact congrArg some (if_pos (List.find?_some found))

/-! ## CLASSIFIER_VERDICT -/

/-- The number of the event that a verdict names: on a member its MTAG. -/
def Dev.eventName (d : Dev) (w : Wait) : Option Word :=
  if d.stackPos ≠ 0 then some (BitVec.ofNat 32 w.mtag) else if w.numbered then some w.eseq else none

theorem Dev.onOwn_eventName (h : Half) (i : Nat) (f : Point → Point) (w : Wait) (d : Dev) :
    (d.onOwn h i f).eventName w = d.eventName w := by
  rw [Dev.onOwn, Dev.mapOwn_frame]
  rfl

/-- A verdict is an input of the next frame's work (R73). -/
def Dev.noteVerdict (v : Half × Nat × Option Word × Verdict) (d : Dev) : Dev :=
  { d with capOpen := { d.capOpen with verdicts := d.capOpen.verdicts ++ [v] } }

theorem Dev.onOwn_noteVerdict_capOpen (h : Half) (i : Nat) (f : Point → Point) (v : Half × Nat × Option Word × Verdict) (d : Dev) :
    ((d.onOwn h i f).noteVerdict v).capOpen = { d.capOpen with verdicts := d.capOpen.verdicts ++ [v] } := by
  have opened : (d.onOwn h i f).capOpen = d.capOpen := by
    rw [Dev.onOwn, Dev.mapOwn_frame]
  rw [Dev.noteVerdict, opened]

/-- Besides the open capture set the own points alone change. -/
theorem Dev.onOwn_noteVerdict_frame (h : Half) (i : Nat) (f : Point → Point) (v : Half × Nat × Option Word × Verdict) (d : Dev) :
    let e := (d.onOwn h i f).noteVerdict v
    e = { d with capOpen := e.capOpen, nodeA := { d.nodeA with points := e.nodeA.points }
                 nodeB := { d.nodeB with points := e.nodeB.points }, dpx := { d.dpx with shadow := e.dpx.shadow } } := by
  intro e
  have opened := Dev.onOwn_noteVerdict_capOpen h i f v d
  exact (congrArg (Dev.noteVerdict v) (d.mapOwn_frame h _)).trans (by rw [opened]; rfl)

def Point.dropWait (w : Wait) (p : Point) : Point := { p with waits := p.waits.erase w }

section
variable {s : State} {h : Half} {i : Nat} {cyc : Nat} (runs : s.Runs h) (a b : List CurSample)
include runs

theorem exec_classifierVerdict {p : Point} {w : Wait} (own : s.dev.ownPoint h i = some p) (here : s.dev.runsPoint p.cfg = true)
    (due : p.waits.find? (s.dev.verdictDue cyc) = some w) : exec (.classifierVerdict h i a b cyc) s = .next (s.lift fun d =>
      (d.onOwn h i (Point.dropWait w)).noteVerdict (h, i, s.dev.eventName w, s.dev.classify h p.cfg w a b)) := by
  obtain ⟨out, running⟩ := runs
  have found : (s.dev.ownPoint h i).filter (fun p => s.dev.runsPoint p.cfg) = some p := by rw [own, Option.filter, if_pos here]
  show execClassifierVerdict h i a b cyc s = _
  rw [execClassifierVerdict, upIn_next _ _ out running, State.lift]
  simp only [found, due]
  rw [← Dev.onOwn_eventName h i (Point.dropWait w)]
  rfl

theorem exec_classifierVerdict_idle (idle : ∀ p, s.dev.ownPoint h i = some p →
    s.dev.runsPoint p.cfg = false ∨ ∀ w ∈ p.waits, ¬ s.dev.verdictDue cyc w = true) : exec (.classifierVerdict h i a b cyc) s = .next s := by
  obtain ⟨out, running⟩ := runs
  show execClassifierVerdict h i a b cyc s = _
  rw [execClassifierVerdict, upIn_next _ _ out running, State.lift]
  dsimp only
  split
  · rename_i p found
    obtain ⟨own, here⟩ := Option.filter_eq_some_iff.mp found
    have none := List.find?_eq_none.mpr ((idle p own).resolve_left (by simp [here]))
    simp only [none]
  · rfl

end

theorem Dev.verdictDue_iff (d : Dev) (cyc : Nat) (w : Wait) : d.verdictDue cyc w = true
    ↔ d.stamp 0 ≤ max w.offA w.offB + 192000 ∧ max w.offA w.offB + 192000 ≤ d.stamp cyc := by
  rw [Dev.verdictDue, Bool.and_eq_true, decide_eq_true_iff, decide_eq_true_iff]
  rfl

end Sys2Proof.Machine
end

section
/-! The obligations of 04, Window monitors. -/
namespace Sys2Proof.Proofs
open Sys2Proof Sys2Proof.Machine

/-- Settles O16: the cases of `Dev.edge`, each by its equation, and the record of the last one by what a report does. -/
theorem comparatorEdgeReportsOrIsMasked : Obligations.ComparatorEdgeReportsOrIsMasked := by
  unfold Obligations.ComparatorEdgeReportsOrIsMasked
  intro s i k level cyc out listed
  refine ⟨fun same => ?_, fun changed => ?_⟩
  · rw [exec_comparatorEdge i k level cyc out, State.lift, Dev.edge_unchanged same]
  have captures := Dev.edge_capturesAt listed k level (s.dev.stamp cyc)
  refine ⟨_, exec_comparatorEdge i k level cyc out, captures.only, captures.state, fun counted masked => ?_, fun unrecorded => ?_,
    fun counted free started settled => ?_⟩
  · have edge := Dev.edge_masked (t := s.dev.stamp cyc) changed ((Sys.live_iff s.dev i).mpr counted) masked
    rw [State.lift_dev, edge]
    exact ⟨rfl, rfl, Dev.sys_onSys listed⟩
  · have edge := Dev.edge_unrecorded (t := s.dev.stamp cyc) changed (unrecorded.imp_left (mt (Sys.live_iff s.dev i).mp))
    rw [State.lift_dev, edge]
    exact ⟨rfl, rfl, Dev.sys_onSys listed⟩
  · have edge := Dev.edge_reported (t := s.dev.stamp cyc) changed ((Sys.live_iff s.dev i).mpr counted) free started settled
    have listed' := (s.dev.seeLevel_capturesAt i k level).listed listed
    have comparator := Dev.seeLevel_report_cmp (k := k) (level := level) (t := s.dev.stamp cyc) listed (s.dev.stamp cyc) false
    have record := Dev.seeLevel_recordOf (k := k) (level := level) (t := s.dev.stamp cyc) listed (s.dev.stamp cyc) false
    have taken : ((s.dev.seeLevel i k level).sys i).captured = (s.dev.sys i).captured := by
      rw [Dev.seeLevel_sys listed, Sys.setCmp_captured]
    rw [State.lift_dev, edge]
    refine ⟨congrArg Cmp.live comparator, congrArg Cmp.reported comparator, congrArg Cmp.masked comparator,
      congrArg Cmp.ebUntil comparator, ?_, ?_⟩
    · split
      next room =>
        obtain ⟨counted, last⟩ := Dev.report_of_room listed' k level (s.dev.stamp cyc) (s.dev.stamp cyc) false (taken ▸ room)
        exact ⟨taken ▸ counted, last.trans (congrArg some record)⟩
      next full => exact Dev.report_of_full listed' k level _ _ false (taken ▸ full)
    · rintro rfl
      have sets := Dev.report_occ_sets listed' level (s.dev.stamp cyc) (s.dev.stamp cyc) false
      rw [record, taken] at sets
      exact sets

/-- Settles O17: the window ends, and the resample is that of a masked, an unchanged or a changed comparator. -/
theorem maskEndResamplesTheLiveLevel : Obligations.MaskEndResamplesTheLiveLevel := by
  unfold Obligations.MaskEndResamplesTheLiveLevel
  intro s i cyc out listed room
  refine ⟨fun k started opened past => ?_, fun opn short started changed edge => ?_⟩
  · have captures := (s.dev.endWindow_capturesAt i k).trans (Dev.resample_capturesAt (k := k) (t := s.dev.stamp cyc)
      ((s.dev.endWindow_capturesAt i k).listed listed) (by rw [Dev.endWindow_cmp listed]; exact started))
    refine ⟨_, exec_edgeBlankingEnd out opened past, ⟨captures.only, captures.state⟩, fun masked => ?_, fun sched rewritten => ?_⟩
    · rw [State.lift_dev, Dev.endWindow_resample_masked (t := s.dev.stamp cyc) listed masked]
      exact ⟨rfl, rfl, Dev.endWindow_sys listed⟩
    · split
      next same =>
        obtain ⟨quiet, sys⟩ := Dev.endWindow_resample_same (t := s.dev.stamp cyc) listed sched rewritten same
        exact ⟨quiet.opened, quiet.closed, sys⟩
      next changed =>
        obtain ⟨last, comparator⟩ := Dev.endWindow_resample_changed (t := s.dev.stamp cyc) listed sched rewritten started changed room
        refine ⟨last, ?_, congrArg Cmp.reported comparator, congrArg Cmp.masked comparator, congrArg Cmp.ebUntil comparator⟩
        rintro rfl
        have records := Dev.endWindow_occ_recordsAt (t := s.dev.stamp cyc) listed sched rewritten started changed room
        exact ⟨records.edges, records.closed⟩
  · have occ : (s.dev.sys i).OccChanged := ⟨opn, short, started, changed, room⟩
    refine ⟨fun opened past blanking => ?_, fun lt rewritten running past => ?_⟩
    · have records := Dev.onSys_resampleAll_recordsAt (f := Sys.endRewrite) (t := s.dev.stamp cyc) listed ⟨rfl, rfl, rfl⟩ occ
        (Sys.masked_over blanking (.inl rfl) edge)
      have captures := (s.dev.onSys_capturesAt i Sys.endRewrite).trans records.captures
      obtain ⟨-, mask⟩ := records.masks
      refine ⟨_, exec_rewriteMaskEnd out opened past, ⟨captures.only, captures.state⟩, ?_, records.edges, records.closed⟩
      exact mask.trans (congrArg Sys.rwUntil (Dev.sys_onSys listed))
    · have records := Dev.onSys_resampleAll_recordsAt (f := Sys.endBlanking) (t := s.dev.stamp cyc) listed ⟨rfl, rfl, rfl⟩ occ
        (Sys.masked_over (.inl rfl) rewritten edge)
      have resampled := (s.dev.onSys_capturesAt i Sys.endBlanking).trans records.captures
      have captures := resampled.trans (Dev.onSys_capturesAt i (Sys.countOn (s.dev.stamp cyc)) _)
      obtain ⟨mask, -⟩ := records.masks
      refine ⟨_, exec_scheduledBlankingEnd (i := ⟨i.val, lt⟩) out running past, ⟨captures.only, captures.state⟩, ?_, records.edges, records.closed⟩
      rw [State.lift_dev, Dev.sys_onSys (resampled.listed listed)]
      exact mask.trans (congrArg Sys.sched (Dev.sys_onSys listed))

/-- Settles O18: BAND_TIMEOUT by `Sys.bandOver`, the recoveries by `recovery_clears_or_idles`. -/
theorem bandTimeoutsAndFieldRecoveries : Obligations.BandTimeoutsAndFieldRecoveries := by
  unfold Obligations.BandTimeoutsAndFieldRecoveries
  intro s i runs
  refine ⟨fun cyc counted listed => ?_, fun undefined station short cyc => ?_, fun c ok entry => ?_, ?_, fun j same => ?_⟩
  · have live := (Sys.live_iff s.dev i).mpr counted
    refine ⟨?_, ?_⟩
    · split
      next past => exact exec_bandTimeout_raises runs live listed ((Sys.bandOver_open_iff _ _).mpr past)
      next early => exact exec_bandTimeout_early runs live (mt (Sys.bandOver_open_iff _ _).mp early)
    · split
      next past => exact exec_bandTimeout_raises runs live listed ((Sys.bandOver_short_iff _ _).mpr past)
      next early => exact exec_bandTimeout_early runs live (mt (Sys.bandOver_short_iff _ _).mp early)
  · refine exec_bandTimeout_undefined runs (mt (Sys.live_iff s.dev i).mp ?_) short cyc
    rintro (defd | last)
    · exact Bool.false_ne_true (undefined.symm.trans defd)
    · exact station last
  · obtain ⟨rfl, own⟩ := Dev.windowRecovered_of_mem entry
    exact recovery_clears_or_idles (p := fun d => d.windowRecovered i c = true) (gone := fun d => d.sysFault i c = false)
      (exec_windowFaultRecovery_sys runs own) (Dev.sysFault_clearSys i c s.dev) rfl
  · exact recovery_clears_or_idles (gone := fun d => d.hasFault 0x3D .device 0 = false) (exec_windowFaultRecovery_cal runs)
      (Dev.hasFault_clearF 0x3D .device 0 s.dev .a) rfl
  · rw [← same] at runs ⊢
    exact recovery_clears_or_idles (p := fun d => 20000 ≤ (d.sys j).baseGood) (gone := fun d => d.sysFault j 0x3A = false)
      (exec_baselineFaultRecovery runs) (Dev.sysFault_clearSys j 0x3A s.dev) rfl

/-- Settles O21: one lemma for each verdict of an occupancy; those of an event by its definition. -/
theorem verdictsFollowTheFeatures : Obligations.VerdictsFollowTheFeatures := by
  unfold Obligations.VerdictsFollowTheFeatures
  refine ⟨fun fs => ⟨verdictOf_of_outside, verdictOf_of_all_inside, verdictOf_of_unmeasured⟩,
    fun a b => ⟨fun one => if_pos one, ?_, fun a' b' both => ?_⟩⟩
  · rintro rfl rfl
    rfl
  · exact (if_neg (not_or.mpr ⟨a', b'⟩)).trans (if_neg both)

/-- Settles O22: the wait leaves its own point by `Dev.onOwn`, the verdict enters the set by `Dev.noteVerdict`. -/
theorem classifierVerdictEntersTheCaptureSet : Obligations.ClassifierVerdictEntersTheCaptureSet := by
  unfold Obligations.ClassifierVerdictEntersTheCaptureSet
  refine fun s h i a b cyc runs => ⟨fun p w own here due => ?_, fun idle => ?_⟩
  · refine ⟨_, exec_classifierVerdict runs a b own here due, Dev.onOwn_noteVerdict_capOpen h i _ _ s.dev, ?_,
      fun g other => Dev.mapOwn_node_ne other _ s.dev,
      congrArg (fun d => { s with dev := d }) (Dev.onOwn_noteVerdict_frame h i _ _ s.dev)⟩
    exact (Dev.onOwn_ownPoint (f := Point.dropWait w) (fun _ => rfl) h i s.dev).trans (congrArg (Option.map _) own)
  · exact exec_classifierVerdict_idle runs a b fun p own => (idle p own).imp_right fun none w mem =>
      mt (Dev.verdictDue_iff s.dev cyc w).mp (none w mem)

end Sys2Proof.Proofs
end

section
/-! One record of a counting point (R83, R84, R86 to R88): the rows of Table CNT-2 for either entry side, and what the
records of a passage make of a point. -/
namespace Sys2Proof.Machine

/-! ## Stamps -/

theorem onlyPos_A : onlyPos .A = .aOnly := rfl
theorem onlyPos_B : onlyPos .B = .bOnly := rfl
theorem onlyPos_inj {x y : Side} : onlyPos x = onlyPos y ↔ x = y := by
  cases x <;> cases y <;> decide

/-- The stamp of the latest on edge of a side, and of its latest off edge. -/
def Passage.on (p : Passage) : Side → Nat
  | .A => p.onA
  | .B => p.onB
def Passage.off (p : Passage) : Side → Nat
  | .A => p.offA
  | .B => p.offB

section
variable (r : OccRec) (p : Passage)

/-- A record's stamp changes no more than the stamps. -/
theorem Passage.stamp_frame : p.stamp r =
    { p with onA := (p.stamp r).onA, onB := (p.stamp r).onB, offA := (p.stamp r).offA, offB := (p.stamp r).offB } := by
  unfold Passage.stamp
  split <;> rfl

@[simp] theorem Passage.stamp_pos : (p.stamp r).pos = p.pos := by rw [Passage.stamp_frame]
@[simp] theorem Passage.stamp_entry : (p.stamp r).entry = p.entry := by rw [Passage.stamp_frame]
@[simp] theorem Passage.stamp_overlap : (p.stamp r).overlap = p.overlap := by rw [Passage.stamp_frame]
@[simp] theorem Passage.stamp_bothByFar : (p.stamp r).bothByFar = p.bothByFar := by rw [Passage.stamp_frame]
@[simp] theorem Passage.stamp_lone : (p.stamp r).lone = p.lone := by rw [Passage.stamp_frame]

end

/-! ## The rows of Table CNT-2 and of its mirror -/

/-- From VACANT to the record's side alone, which becomes the entry side. -/
def Passage.enter (r : OccRec) (p : Passage) : Passage :=
  { p.stamp r with last := some r, pos := onlyPos r.side, entry := r.side, overlap := false, res := r.res }

/-- To BOTH. -/
def Passage.reachBoth (r : OccRec) (p : Passage) : Passage :=
  { p.stamp r with last := some r, res := p.res || r.res, pos := .both, overlap := true, bothByFar := decide (r.side ≠ p.entry), lone := none }

/-- From BOTH to the side that stays occupied. -/
def Passage.leaveBoth (stays : Side) (r : OccRec) (p : Passage) : Passage :=
  { p.stamp r with last := some r, res := p.res || r.res, pos := onlyPos stays }

/-- To VACANT. -/
def Passage.vacate (r : OccRec) (lone : Option (Side × Nat)) (p : Passage) : Passage :=
  { p.stamp r with last := some r, pos := .vacant, res := false, lone }

section
variable {cfg : PointRec} {r : OccRec} {p : Passage} {s : Side}

theorem Passage.move_enter (vacant : p.pos = .vacant) (on : r.level = true) : p.move cfg r = .moved (p.enter r) false := by
  simp only [Passage.move, Passage.stamp_pos, vacant, on]
  rfl

theorem Passage.move_reachBoth (only : p.pos = onlyPos s) (on : r.level = true) (other : r.side ≠ s) :
    p.move cfg r = .moved (p.reachBoth r) false := by
  have moves : onlyPos s ≠ onlyPos r.side := mt onlyPos_inj.mp other.symm
  cases s with
  | A => rw [onlyPos_A] at only moves; simp [Passage.move, Passage.reachBoth, only, on, moves]
  | B => rw [onlyPos_B] at only moves; simp [Passage.move, Passage.reachBoth, only, on, moves]

theorem Passage.move_leaveBoth (both : p.pos = .both) (off : r.level = false) (stays : s ≠ r.side) :
    p.move cfg r = .moved (p.leaveBoth s r) false := by
  cases s <;> cases side : r.side
  case A.A | B.B => exact absurd side.symm stays
  case A.B | B.A => simp [Passage.move, Passage.leaveBoth, both, off, side, onlyPos]

/-- R86 has nothing to compare without an earlier lone occupancy. -/
theorem Passage.loneEnd_of_first (first : p.lone = none) :
    p.loneEnd cfg s r = .moved { p with pos := .vacant, res := false, lone := some (s, r.hi) } false := by
  simp [Passage.loneEnd, first]

/-- The last occupied side falls: the far one, or the entry side after BOTH or alone. Its name decides the position, and
that of the entry side the direction. -/
theorem Passage.move_only_off (only : p.pos = onlyPos r.side) (off : r.level = false) : p.move cfg r =
    if r.side ≠ p.entry then .event (p.vacate r none) (decide (p.entry = .B))
      (if p.bothByFar then some ((p.stamp r).on r.side - (p.stamp r).on p.entry) else none)
      ((p.stamp r).off r.side - (p.stamp r).off p.entry)
    else if p.overlap then .moved (p.vacate r none) true
    else Passage.loneEnd cfg r.side r { p.stamp r with last := some r, res := p.res || r.res } := by
  cases side : r.side <;> cases entry : p.entry <;>
    simp [Passage.move, Passage.vacate, Passage.on, Passage.off, only, off, side, entry, onlyPos]

theorem Passage.move_complete (only : p.pos = onlyPos r.side) (off : r.level = false) (far : r.side ≠ p.entry)
    (byFar : p.bothByFar = true) : p.move cfg r = .event (p.vacate r none) (decide (p.entry = .B))
      (some ((p.stamp r).on r.side - (p.stamp r).on p.entry)) ((p.stamp r).off r.side - (p.stamp r).off p.entry) := by
  rw [Passage.move_only_off only off, if_pos far, if_pos byFar]

theorem Passage.move_reverse (only : p.pos = onlyPos r.side) (off : r.level = false) (near : r.side = p.entry)
    (overlap : p.overlap = true) : p.move cfg r = .moved (p.vacate r none) true := by
  rw [Passage.move_only_off only off, if_neg (fun far => far near), if_pos overlap]

theorem Passage.move_lone (only : p.pos = onlyPos r.side) (off : r.level = false) (near : r.side = p.entry)
    (alone : p.overlap = false) (first : p.lone = none) : p.move cfg r = .moved (p.vacate r (some (r.side, r.hi))) false := by
  rw [Passage.move_only_off only off, if_neg (fun far => far near), if_neg (by simp [alone])]
  exact Passage.loneEnd_of_first ((p.stamp_lone r).trans first)

end

/-! ## The order of two records and the transit times (R87, R88) -/

/-- The order of the record and the latest one before it is not known (R88). -/
def Passage.Unresolved (r : OccRec) (p : Passage) : Prop := ∃ l, p.last = some l ∧ l.side ≠ r.side ∧ r.lo ≤ l.hi

/-- R87: an event whose transit is below the limit fails. -/
def PointStep.timed (cfg : PointRec) : PointStep → PointStep
  | .event q ba tOn tOff =>
    if tooFast cfg tOff || (match tOn with | some t => tooFast cfg t | none => false) then .fail 0x42 else .event q ba tOn tOff
  | x => x

section
variable {cfg : PointRec} {r l : OccRec} {p : Passage}

theorem Passage.resolved_of_none (none : p.last = none) : ¬ p.Unresolved r := by
  simp [Passage.Unresolved, none]

theorem Passage.resolved_of_later (last : p.last = some l) (later : l.hi < r.lo) : ¬ p.Unresolved r := by
  simp [Passage.Unresolved, last, later]

theorem Passage.apply_unresolved (unresolved : p.Unresolved r) : p.apply cfg r = .fail 0x40 := by
  obtain ⟨l, last, other, early⟩ := unresolved
  simp [Passage.apply, last, other, early]

theorem Passage.apply_resolved (resolved : ¬ p.Unresolved r) : p.apply cfg r = (p.move cfg r).timed cfg := by
  cases last : p.last with
  | none =>
    simp only [Passage.apply, last]
    rfl
  | some l =>
    have known : ¬ (decide (l.side ≠ r.side) && decide (r.lo ≤ l.hi)) = true := by
      simpa [Passage.Unresolved, last] using resolved
    simp only [Passage.apply, last, if_neg known]
    rfl

theorem Passage.apply_moved {q : Passage} {rev : Bool} (resolved : ¬ p.Unresolved r) (move : p.move cfg r = .moved q rev) :
    p.apply cfg r = .moved q rev := by
  rw [Passage.apply_resolved resolved, move]
  rfl

theorem Passage.apply_event {q : Passage} {ba : Bool} {tOn tOff : Nat} (resolved : ¬ p.Unresolved r)
    (move : p.move cfg r = .event q ba (some tOn) tOff) (on : tooFast cfg tOn = false) (off : tooFast cfg tOff = false) :
    p.apply cfg r = .event q ba (some tOn) tOff := by
  rw [Passage.apply_resolved resolved, move]
  simp [PointStep.timed, on, off]

theorem Passage.apply_tooFast {q : Passage} {ba : Bool} {tOn : Option Nat} {tOff : Nat} (resolved : ¬ p.Unresolved r)
    (move : p.move cfg r = .event q ba tOn tOff) (fast : tooFast cfg tOff = true) : p.apply cfg r = .fail 0x42 := by
  rw [Passage.apply_resolved resolved, move]
  simp [PointStep.timed, fast]

end

/-! ## One record of a run -/

section
variable {r : OccRec} {x : PointRun} (running : x.fault = none)
include running

theorem Point.runRec_moved {q : Passage} {rev : Bool} (step : x.pt.pas.apply x.pt.cfg r = .moved q rev) : Point.runRec r x =
    { x with pt := { x.pt with pas := q, reversals := if rev then x.pt.reversals + 1 else x.pt.reversals } } := by
  simp only [Point.runRec, running, step]

theorem Point.runRec_fail {c : Nat} (step : x.pt.pas.apply x.pt.cfg r = .fail c) :
    Point.runRec r x = { x with pt := x.pt.disturb, fault := some c } := by
  simp only [Point.runRec, running, step]

/-- An event leaves the point and is stamped by its record (R15, R92). -/
theorem Point.runRec_event {q : Passage} {ba : Bool} {tOn : Option Nat} {tOff : Nat}
    (step : x.pt.pas.apply x.pt.cfg r = .event q ba tOn tOff) :
    (Point.runRec r x).pt = { x.pt with pas := q } ∧ (Point.runRec r x).fault = none
      ∧ (Point.runRec r x).evs.map (fun e => (e.ev.point, e.ev.ba, e.ev.dtime))
        = x.evs.map (fun e => (e.ev.point, e.ev.ba, e.ev.dtime)) ++ [(x.pt.cfg.index, ba, dtOf r.hi)] := by
  simp [Point.runRec, running, step]

end

/-! ## The passages of clean records -/

/-- A record without uncertainty (R81). -/
def OccRec.clean (side : Side) (level : Bool) (t : Nat) : OccRec := { side, level, lo := t, hi := t }

/-- What the records `rs` make of point `p`. -/
def Point.run (p : Point) (rs : List OccRec) : PointRun := rs.foldl (fun x r => Point.runRec r x) { pt := p }

/-- The run of point `p` while it is at passage `q` and nothing else of it has changed. -/
def Point.passing (q : Passage) (p : Point) : PointRun := { pt := { p with pas := q } }

theorem Point.passing_own {p : Point} {q : Passage} (own : p.pas = q) : p.passing q = { pt := p } := by
  subst own
  rfl

theorem Point.runRec_passing {p : Point} {r : OccRec} {q q' : Passage} (step : q.apply p.cfg r = .moved q' false) :
    Point.runRec r (p.passing q) = p.passing q' :=
  (Point.runRec_moved (x := p.passing q) rfl step).trans rfl

theorem Point.run_append (p : Point) (rs : List OccRec) (r : OccRec) : p.run (rs ++ [r]) = Point.runRec r (p.run rs) := by
  rw [Point.run, List.foldl_append]
  rfl

/-- The near side is occupied from `t1`, then the far side too from `t2`. -/
def Passage.nearOn (near : Side) (t1 : Nat) : Passage := ({} : Passage).enter (.clean near true t1)
def Passage.bothOn (near far : Side) (t1 t2 : Nat) : Passage := (Passage.nearOn near t1).reachBoth (.clean far true t2)

/-- From BOTH the near side is free from `t3`, in a crossing; the far side, where the wheel turns back. -/
def Passage.farLeft (near far : Side) (t1 t2 t3 : Nat) : Passage := (Passage.bothOn near far t1 t2).leaveBoth far (.clean near false t3)
def Passage.nearLeft (near far : Side) (t1 t2 t3 : Nat) : Passage := (Passage.bothOn near far t1 t2).leaveBoth near (.clean far false t3)

section
variable {p : Point} {near far : Side} {t1 t2 t3 t4 : Nat} (vacant : p.pas = {}) (sides : near ≠ far)

include vacant in
theorem Point.run_nearOn : p.run [.clean near true t1] = p.passing (.nearOn near t1) := by
  have step : ({} : Passage).apply p.cfg (.clean near true t1) = .moved (.nearOn near t1) false :=
    Passage.apply_moved (Passage.resolved_of_none rfl) (Passage.move_enter rfl rfl)
  rw [Point.run, List.foldl_cons, List.foldl_nil, ← Point.passing_own vacant, Point.runRec_passing step]

include vacant in
theorem Point.run_lone (up : t1 < t2) : p.run [.clean near true t1, .clean near false t2]
    = p.passing ((Passage.nearOn near t1).vacate (.clean near false t2) (some (near, t2))) := by
  have step : (Passage.nearOn near t1).apply p.cfg (.clean near false t2)
      = .moved ((Passage.nearOn near t1).vacate (.clean near false t2) (some (near, t2))) false :=
    Passage.apply_moved (Passage.resolved_of_later rfl up) (Passage.move_lone rfl rfl rfl rfl (Passage.stamp_lone _ _))
  rw [← List.singleton_append, Point.run_append, Point.run_nearOn vacant, Point.runRec_passing step]

include vacant sides in
theorem Point.run_bothOn (up : t1 < t2) : p.run [.clean near true t1, .clean far true t2] = p.passing (.bothOn near far t1 t2) := by
  have step : (Passage.nearOn near t1).apply p.cfg (.clean far true t2) = .moved (.bothOn near far t1 t2) false :=
    Passage.apply_moved (Passage.resolved_of_later rfl up) (Passage.move_reachBoth (s := near) rfl rfl sides.symm)
  rw [← List.singleton_append, Point.run_append, Point.run_nearOn vacant, Point.runRec_passing step]

include vacant sides in
theorem Point.run_farLeft (up : t1 < t2) (up' : t2 < t3) :
    p.run [.clean near true t1, .clean far true t2, .clean near false t3] = p.passing (.farLeft near far t1 t2 t3) := by
  have step : (Passage.bothOn near far t1 t2).apply p.cfg (.clean near false t3) = .moved (.farLeft near far t1 t2 t3) false :=
    Passage.apply_moved (Passage.resolved_of_later rfl up') (Passage.move_leaveBoth rfl rfl sides.symm)
  rw [← Point.runRec_passing step, ← Point.run_bothOn vacant sides up, ← Point.run_append]
  rfl

include vacant sides in
theorem Point.run_nearLeft (up : t1 < t2) (up' : t2 < t3) :
    p.run [.clean near true t1, .clean far true t2, .clean far false t3] = p.passing (.nearLeft near far t1 t2 t3) := by
  have step : (Passage.bothOn near far t1 t2).apply p.cfg (.clean far false t3) = .moved (.nearLeft near far t1 t2 t3) false :=
    Passage.apply_moved (Passage.resolved_of_later rfl up') (Passage.move_leaveBoth rfl rfl sides)
  rw [← Point.runRec_passing step, ← Point.run_bothOn vacant sides up, ← Point.run_append]
  rfl

@[simp] theorem Passage.bothOn_entry : (Passage.bothOn near far t1 t2).entry = near := Passage.stamp_entry _ _

@[simp] theorem Passage.farLeft_entry : (Passage.farLeft near far t1 t2 t3).entry = near :=
  (Passage.stamp_entry _ _).trans Passage.bothOn_entry

@[simp] theorem Passage.nearLeft_entry : (Passage.nearLeft near far t1 t2 t3).entry = near :=
  (Passage.stamp_entry _ _).trans Passage.bothOn_entry

theorem Passage.farLeft_resolved (up : t3 < t4) : ¬ (Passage.farLeft near far t1 t2 t3).Unresolved (.clean far false t4) :=
  Passage.resolved_of_later rfl up

theorem Passage.nearLeft_resolved (up : t3 < t4) : ¬ (Passage.nearLeft near far t1 t2 t3).Unresolved (.clean near false t4) :=
  Passage.resolved_of_later rfl up

include sides

/-- The far side's off edge completes the crossing, with the transit times of R87. -/
theorem Passage.farLeft_move (cfg : PointRec) : (Passage.farLeft near far t1 t2 t3).move cfg (.clean far false t4)
    = .event ((Passage.farLeft near far t1 t2 t3).vacate (.clean far false t4) none) (decide (near = .B))
      (some (t2 - t1)) (t4 - t3) := by
  have byFar : (Passage.farLeft near far t1 t2 t3).bothByFar = true :=
    (Passage.stamp_bothByFar _ _).trans (decide_eq_true sides.symm)
  rw [Passage.move_complete rfl rfl (by rw [Passage.farLeft_entry]; exact sides.symm) byFar, Passage.farLeft_entry]
  cases near <;> cases far
  case A.A | B.B => exact absurd rfl sides
  case A.B | B.A => rfl

section
variable (up : t1 < t2) (up' : t2 < t3) (up'' : t3 < t4)
include vacant up up' up''

/-- R83, R84: a whole crossing. -/
theorem Point.run_crossing (on : tooFast p.cfg (t2 - t1) = false) (off : tooFast p.cfg (t4 - t3) = false) :
    let x := p.run [.clean near true t1, .clean far true t2, .clean near false t3, .clean far false t4]
    x.evs.map (fun e => (e.ev.point, e.ev.ba, e.ev.dtime)) = [(p.cfg.index, decide (near = .B), dtOf t4)]
      ∧ x.fault = none ∧ x.pt.state = p.state ∧ x.pt.pas.pos = .vacant := by
  intro x
  have last : x = Point.runRec (.clean far false t4) (p.passing (.farLeft near far t1 t2 t3)) := by
    rw [← Point.run_farLeft vacant sides up up', ← Point.run_append]
    rfl
  obtain ⟨pt, fault, evs⟩ := Point.runRec_event (x := p.passing (.farLeft near far t1 t2 t3)) rfl
    (Passage.apply_event (Passage.farLeft_resolved up'') (Passage.farLeft_move sides p.cfg) on off)
  rw [last, pt]
  exact ⟨evs, fault, rfl, rfl⟩

/-- R87: a crossing whose far side is left too early. -/
theorem Point.run_tooFast (fast : tooFast p.cfg (t4 - t3) = true) :
    p.run [.clean near true t1, .clean far true t2, .clean near false t3, .clean far false t4]
      = { pt := ({ p with pas := .farLeft near far t1 t2 t3 } : Point).disturb, fault := some 0x42 } := by
  refine Eq.trans ?_ (Point.runRec_fail (x := p.passing (.farLeft near far t1 t2 t3)) rfl
    (Passage.apply_tooFast (Passage.farLeft_resolved up'') (Passage.farLeft_move sides p.cfg) fast))
  rw [← Point.run_farLeft vacant sides up up', ← Point.run_append]
  rfl

/-- A wheel that turns back at BOTH. -/
theorem Point.run_reversal : p.run [.clean near true t1, .clean far true t2, .clean far false t3, .clean near false t4]
      = { pt := { p with pas := (Passage.nearLeft near far t1 t2 t3).vacate (.clean near false t4) none, reversals := p.reversals + 1 } } := by
  have overlap : (Passage.nearLeft near far t1 t2 t3).overlap = true := Passage.stamp_overlap _ _
  refine Eq.trans ?_ (Point.runRec_moved (x := p.passing (.nearLeft near far t1 t2 t3)) (rev := true) rfl
    (Passage.apply_moved (Passage.nearLeft_resolved up'') (Passage.move_reverse rfl rfl Passage.nearLeft_entry.symm overlap)))
  rw [← Point.run_nearLeft vacant sides up up', ← Point.run_append]
  rfl

end
end

/-- R88: neither order is applied. -/
theorem Point.runRec_unresolved {p : Point} {r : OccRec} (unresolved : p.pas.Unresolved r) :
    Point.runRec r { pt := p } = { pt := p.disturb, fault := some 0x40 } :=
  Point.runRec_fail (x := { pt := p }) rfl (Passage.apply_unresolved unresolved)

end Sys2Proof.Machine
end

section
/-! BAND_EXCURSION_END (R82), POINT_RECOVERY (R90) and REMOTE_POINT_OFFLINE_TIMEOUT (R91). -/
namespace Sys2Proof.Machine

/-! ## The end of an excursion -/

/-- A system with an open excursion stands in the list of systems. -/
theorem Dev.listed_of_exc {d : Dev} {i : Nat} {x : Excursion} (opened : (d.sys i).exc = some x) : i < d.systems.length :=
  lt_of_getD_ne fun empty : d.sys i = { id := i } => by simp [empty] at opened

def Sys.endExc (x : Sys) : Sys := { x with exc := none }

def Point.countHidden (p : Point) : Point := { p with hidden := satAdd 8 p.hidden 1 }

/-- The device with other edge records in its open capture set. -/
def Dev.withEdges (edges : List EdgeRec) (d : Dev) : Dev := { d with capOpen := { d.capOpen with edges := edges } }

/-- The open set's records without the OCC records of system `i` in the excursion `x` that ends at `stop`. -/
def Dev.edgesOutside (d : Dev) (i stop : Nat) (x : Excursion) : List EdgeRec :=
  d.capOpen.edges.filter fun e => !(e.sys == i && decide (e.cmp = .occ) && decide (x.start ≤ e.hi) && decide (e.hi ≤ stop))

/-- The one record of an excursion that changed the level. -/
def Dev.mergedRecord (d : Dev) (i stop : Nat) (x : Excursion) : EdgeRec :=
  { sys := i, cmp := .occ, level := (d.sys i).cOcc.level, lo := x.start, hi := stop, resampled := true, merged := true, fr := d.frame }

section
variable {d : Dev} {i stop : Nat} {x : Excursion}

theorem Dev.endExcursion_same (same : (d.sys i).occ = x.before) : d.endExcursion i stop x =
    ((d.onSys i Sys.endExc).onHead i Point.countHidden).withEdges (d.edgesOutside i stop x) := by
  have opened : ((d.onSys i Sys.endExc).onHead i Point.countHidden).capOpen = d.capOpen := by
    rw [Dev.onHead, Dev.mapOwn_frame]
    rfl
  rw [Dev.withEdges, opened]
  exact if_pos same

theorem Dev.endExcursion_changed (changed : (d.sys i).occ ≠ x.before) : d.endExcursion i stop x =
    (d.onSys i Sys.endExc).withEdges (d.edgesOutside i stop x ++ [d.mergedRecord i stop x]) := if_neg changed

/-- Whatever else the end of an excursion does, of the systems it closes the excursion of the one. -/
theorem Dev.endExcursion_systems : (d.endExcursion i stop x).systems = (d.onSys i Sys.endExc).systems := by
  by_cases same : (d.sys i).occ = x.before
  · rw [Dev.endExcursion_same same, Dev.onHead, Dev.mapOwn_frame]
    rfl
  · rw [Dev.endExcursion_changed same]
    rfl

theorem Dev.endExcursion_sys (listed : i < d.systems.length) : (d.endExcursion i stop x).sys i = (d.sys i).endExc := by
  rw [Dev.sys, Dev.endExcursion_systems]
  exact Dev.sys_onSys listed

theorem Dev.endExcursion_onlyAt : OnlyAt i d.systems (d.endExcursion i stop x).systems := by
  rw [Dev.endExcursion_systems]
  exact Dev.onSys_onlyAt i Sys.endExc d

section
variable (same : (d.sys i).occ = x.before)
include same

/-- A hidden excursion is counted at the points of the head that this device runs. -/
theorem Dev.endExcursion_same_ownPoints : (d.endExcursion i stop x).ownPoints (d.halfOfSys i) = (d.ownPoints (d.halfOfSys i)).map fun p =>
    if d.runsPoint p.cfg && p.cfg.owner == i / 2 then p.countHidden else p := by
  rw [Dev.endExcursion_same same]
  exact Dev.mapOwn_ownPoints (d.halfOfSys i) _ (d.onSys i Sys.endExc)

theorem Dev.endExcursion_same_node {g : Half} (other : g ≠ d.halfOfSys i) : (d.endExcursion i stop x).node g = d.node g := by
  rw [Dev.endExcursion_same same]
  exact Dev.mapOwn_node_ne other _ (d.onSys i Sys.endExc)

theorem Dev.endExcursion_same_capOpen : (d.endExcursion i stop x).capOpen = { d.capOpen with edges := d.edgesOutside i stop x } := by
  rw [Dev.endExcursion_same same, Dev.onHead, Dev.mapOwn_frame]
  rfl

theorem Dev.endExcursion_same_frame : let e := d.endExcursion i stop x
    e = { d with systems := e.systems, capOpen := e.capOpen, nodeA := { d.nodeA with points := e.nodeA.points }
                 nodeB := { d.nodeB with points := e.nodeB.points }, dpx := { d.dpx with shadow := e.dpx.shadow } } := by
  intro e
  have hidden : e = _ := Dev.endExcursion_same same
  rw [hidden, Dev.onHead, Dev.mapOwn_frame]
  rfl

end
end

/-- The count of hidden excursions is a counter of 8 bits. -/
theorem Point.countHidden_ite (c : Prop) [Decidable c] (p : Point) :
    (if c then p.countHidden else p) = { p with hidden := if c then min (p.hidden + 1) 255 else p.hidden } := by
  split <;> rfl

section
variable {s : State} {i : Fin 33} {cyc : Nat} {x : Excursion} (runs : s.Runs (s.dev.halfOfSys i)) (opened : (s.dev.sys i).exc = some x)
include runs opened

theorem exec_bandExcursionEnd_unreleased (held : x.release = none) : exec (.bandExcursionEnd i cyc) s = .next s := by
  obtain ⟨out, running⟩ := runs
  show execBandExcursionEnd i cyc s = _
  rw [execBandExcursionEnd, upIn_next _ _ out running, State.lift]
  simp only [opened, held]

theorem exec_bandExcursionEnd {r : Nat} (released : x.release = some r) : exec (.bandExcursionEnd i cyc) s
    = .next (s.lift fun d => if r + bandSpan ≤ d.stamp cyc then d.endExcursion i (r + bandSpan) x else d) := by
  obtain ⟨out, running⟩ := runs
  show execBandExcursionEnd i cyc s = _
  rw [execBandExcursionEnd, upIn_next _ _ out running, State.lift]
  simp only [opened, released]
  rfl

theorem exec_bandExcursionEnd_early {r : Nat} (released : x.release = some r) (early : s.dev.stamp cyc < r + bandSpan) :
    exec (.bandExcursionEnd i cyc) s = .next s := by
  rw [exec_bandExcursionEnd runs opened released, State.lift, if_neg (Nat.not_le.mpr early)]

theorem exec_bandExcursionEnd_due {r : Nat} (released : x.release = some r) (due : r + bandSpan ≤ s.dev.stamp cyc) :
    exec (.bandExcursionEnd i cyc) s = .next (s.lift (Dev.endExcursion i (r + bandSpan) x)) := by
  rw [exec_bandExcursionEnd runs opened released, State.lift, if_pos due]
  rfl

end

/-! ## Recovery of a point -/

theorem Faults.mem_of_mem_clear {k x : FaultKey} {f : Faults} (mem : x ∈ (f.clear k).active) : x ∈ f.active := by
  unfold Faults.clear at mem
  split at mem
  · exact (List.mem_filter.mp mem).left
  · exact mem

/-- Clearing a fault raises no other. -/
theorem Dev.clearF_keeps_clear {d : Dev} {code obj : Nat} {kind : Kind} {h : Half} (clear : d.hasFault code kind obj h = false)
    (code' obj' : Nat) (kind' : Kind) (h' : Half) : (d.clearF code' kind' obj' h').hasFault code kind obj h = false := by
  rw [Dev.hasFault, List.any_eq_false] at clear ⊢
  exact fun k mem => clear k (Faults.mem_of_mem_clear mem)

/-- The faults `codes` of one point are cleared. -/
def Dev.clearPts (h : Half) (i : Nat) (codes : List Nat) (d : Dev) : Dev := codes.foldl (fun d c => d.clearPt h i c) d

theorem Dev.clearPts_frame (h : Half) (i : Nat) (codes : List Nat) (d : Dev) :
    d.clearPts h i codes = { d with faults := (d.clearPts h i codes).faults } := by
  induction codes generalizing d with
  | nil => rfl
  | cons c codes ih => exact ih (d.clearPt h i c)

theorem Dev.clearPts_node (h g : Half) (i : Nat) (codes : List Nat) (d : Dev) : (d.clearPts h i codes).node g = d.node g := by
  rw [Dev.clearPts_frame]
  cases g <;> rfl

theorem Dev.clearPts_ownPoint (h : Half) (i : Nat) (g : Half) (j : Nat) (codes : List Nat) (d : Dev) :
    (d.clearPts h i codes).ownPoint g j = d.ownPoint g j := by
  rw [Dev.ownPoint, Dev.ownPoints, Dev.clearPts_node, Dev.clearPts_frame]
  rfl

theorem Dev.clearPts_keeps_clear {d : Dev} {h : Half} {i c : Nat} (clear : d.hasFault c .point i h = false) (codes : List Nat) :
    (d.clearPts h i codes).hasFault c .point i h = false := by
  induction codes generalizing d with
  | nil => exact clear
  | cons c' codes ih => exact ih (Dev.clearF_keeps_clear clear c' i .point h)

theorem Dev.clearPts_clears {h : Half} {i c : Nat} {codes : List Nat} (mem : c ∈ codes) (d : Dev) :
    (d.clearPts h i codes).hasFault c .point i h = false := by
  induction codes generalizing d with
  | nil => exact absurd mem List.not_mem_nil
  | cons c' codes ih =>
    rcases List.mem_cons.mp mem with rfl | later
    · exact Dev.clearPts_keeps_clear (Dev.hasFault_clearF c .point i d h) codes
    · exact ih later (d.clearPt h i c')

theorem Dev.pointRecovers_iff (d : Dev) (p : Point) : d.pointRecovers p = true
    ↔ p.state = .disturbed ∧ p.entered = 0 ∧ 200 ≤ p.recover ∧ d.pointCause p.cfg = false ∧ p.jfull = false := by
  simp [Dev.pointRecovers, and_assoc]

/-- A recovered point and its cleared faults. -/
def Dev.recoverPoint (h : Half) (i : Nat) (d : Dev) : Dev := (d.onOwn h i Point.recovered).clearPts h i [0x40, 0x41, 0x42, 0x72]

theorem Dev.recoverPoint_frame (h : Half) (i : Nat) (d : Dev) : d.recoverPoint h i = { d with
    faults := (d.recoverPoint h i).faults
    nodeA := { d.nodeA with points := (d.recoverPoint h i).nodeA.points }, nodeB := { d.nodeB with points := (d.recoverPoint h i).nodeB.points }
    dpx := { d.dpx with shadow := (d.recoverPoint h i).dpx.shadow } } := by
  rw [Dev.recoverPoint, Dev.clearPts_frame, Dev.onOwn, Dev.mapOwn_frame]

theorem Dev.recoverPoint_ownPoint (h : Half) (i : Nat) (d : Dev) :
    (d.recoverPoint h i).ownPoint h i = (d.ownPoint h i).map Point.recovered :=
  (Dev.clearPts_ownPoint h i h i _ _).trans (Dev.onOwn_ownPoint (f := Point.recovered) (fun _ => rfl) h i d)

theorem Dev.recoverPoint_node_ne {h g : Half} (other : g ≠ h) (i : Nat) (d : Dev) : (d.recoverPoint h i).node g = d.node g :=
  (Dev.clearPts_node h g i _ _).trans (Dev.mapOwn_node_ne other _ d)

section
variable {s : State} {h : Half} {i : Nat} {p : Point} (runs : s.Runs h)
include runs

theorem exec_pointRecovery (own : s.dev.ownPoint h i = some p) : exec (.pointRecovery h i) s
    = .next (s.lift fun d => if d.runsPoint p.cfg && d.pointRecovers p then d.recoverPoint h i else d) := by
  obtain ⟨out, running⟩ := runs
  show execPointRecovery h i s = _
  rw [execPointRecovery, upIn_next _ _ out running, State.lift]
  simp only [own]
  rfl

theorem exec_remotePointOfflineTimeout (found : (s.dev.node h).point i = some p) (remote : p.cfg.kind = .remote)
    (offline : p.state = .offline) (unheard : p.heardOnce = false) : exec (.remotePointOfflineTimeout h i) s
    = .next (s.lift fun d => if 1000 ≤ since d.frame d.rig.actFrame then d.raisePt h i 0x44 else d) := by
  obtain ⟨out, running⟩ := runs
  show execRemotePointOfflineTimeout h i s = _
  rw [execRemotePointOfflineTimeout, upIn_next _ _ out running, State.lift]
  simp only [found, remote, offline, unheard, decide_true, Bool.not_false, Bool.true_and, decide_eq_true_eq]
  rfl

end

end Sys2Proof.Machine
end

section
/-! The obligations of 05, Counting points. -/
namespace Sys2Proof.Proofs
open Sys2Proof Sys2Proof.Machine

/-- Settles O24: the last record of each passage decides, by the rows of Table CNT-2 (`Passage.move_only_off`); R88 stands before them. -/
theorem completedCrossingsAloneGiveEvents : Obligations.CompletedCrossingsAloneGiveEvents := by
  unfold Obligations.CompletedCrossingsAloneGiveEvents
  refine ⟨fun p near far t1 t2 t3 t4 vacant sides up up' up'' => ?_, fun p l r last other early => ?_⟩
  · intro r run cross turn
    have fast (slow : tooFast p.cfg (t4 - t3) = true) : cross = _ := Point.run_tooFast vacant sides up up' up'' slow
    have reversal : turn = _ := Point.run_reversal vacant sides up up' up''
    have alone : run [r near true t1, r near false t2] = _ := Point.run_lone vacant up
    refine ⟨Point.run_crossing vacant sides up up' up'', fun slow => ?_, ?_, ?_⟩
    · rw [fast slow]
      exact ⟨rfl, rfl, rfl⟩
    · rw [reversal]
      exact ⟨rfl, rfl, rfl, rfl⟩
    · rw [alone]
      exact ⟨rfl, rfl, rfl, rfl⟩
  · intro x
    have failed : x = _ := Point.runRec_unresolved ⟨l, last, other, early⟩
    rw [failed]
    exact ⟨rfl, rfl, rfl, rfl, rfl, rfl⟩

/-- Settles O19: an excursion whose end has come is `Dev.endExcursion`, with one equation for each outcome. -/
theorem bandExcursionEndMergesOrCountsIt : Obligations.BandExcursionEndMergesOrCountsIt := by
  unfold Obligations.BandExcursionEndMergesOrCountsIt
  intro s i cyc x runs opened
  have listed := Dev.listed_of_exc opened
  cases release : x.release with
  | none => exact exec_bandExcursionEnd_unreleased runs opened release
  | some r =>
    dsimp only
    split
    next early => exact exec_bandExcursionEnd_early runs opened release early
    next due =>
      refine ⟨_, exec_bandExcursionEnd_due runs opened release (Nat.not_lt.mp due), Dev.endExcursion_sys listed, Dev.endExcursion_onlyAt, ?_⟩
      split
      next same =>
        refine ⟨Dev.endExcursion_same_capOpen same, (Dev.endExcursion_same_ownPoints same).trans ?_,
          fun g other => Dev.endExcursion_same_node same other,
          congrArg (fun d => { s with dev := d }) (Dev.endExcursion_same_frame same)⟩
        simp only [Point.countHidden_ite, Bool.and_eq_true, beq_iff_eq]
      next changed =>
        rw [State.lift, Dev.endExcursion_changed changed]
        exact ⟨rfl, rfl⟩

/-- Settles O23: a recovery is `Dev.recoverPoint`; the timeout is a change of the faults alone under its condition. -/
theorem pointsRecoverAndReportOffline : Obligations.PointsRecoverAndReportOffline := by
  unfold Obligations.PointsRecoverAndReportOffline
  refine fun s h i p runs => ⟨fun own => ?_, fun found remote offline unheard => ?_⟩
  · have outcome := exec_pointRecovery runs own
    split
    next recovers =>
      obtain ⟨here, quiet⟩ := recovers
      refine ⟨s.lift (Dev.recoverPoint h i), ?_, ?_, fun c mem => Dev.clearPts_clears mem _,
        fun g other => Dev.recoverPoint_node_ne other i s.dev, congrArg (fun d => { s with dev := d }) (Dev.recoverPoint_frame h i s.dev)⟩
      · rw [outcome, State.lift, if_pos (by simp [here, (Dev.pointRecovers_iff s.dev p).mpr quiet])]
        rfl
      · exact (Dev.recoverPoint_ownPoint h i s.dev).trans (congrArg (Option.map _) own)
    next held =>
      rw [outcome, State.lift, if_neg (by rwa [Bool.and_eq_true, Dev.pointRecovers_iff])]
  · exact recovery_clears_or_idles (gone := fun d => d.hasFault 0x44 .point i h = true)
      (exec_remotePointOfflineTimeout runs found remote offline unheard) (Dev.hasFault_raise 0x44 .point i s.dev h 0xFFFF) rfl

end Sys2Proof.Proofs
end

section
/-! The step of a section without a reset (Table SEC-2, R102 to R105). -/
namespace Sys2Proof.Machine

/-- What Table SEC-2 asks of a section for CLEAR: count 0, and every contributing verdict wheel. -/
def Sect.MayClear (x : Sect) : Prop := x.count = 0 ∧ ∀ c ∈ x.contrib, c.verdict = .wheel

theorem Sect.mayClear_iff (x : Sect) : (decide (x.count = 0) && x.allWheel) = true ↔ x.MayClear := by
  simp [Sect.MayClear, Sect.allWheel]

/-- What the step of a section can make of it when no cause of R102 has arisen. -/
inductive Sect.StepsTo (x : Sect) : Sect → Prop where
  | stays : x.StepsTo x
  | clears (may : x.MayClear) (calm : x.state ≠ .disturbed) (risen : x.state = .prep → x.rose = true) (rejoin : Option (List Nat)) :
      x.StepsTo { x.clear with rejoin := rejoin }
  | fills (calm : x.state ≠ .disturbed) (rejoin : Option (List Nat)) : x.StepsTo { x with state := .occupied, rejoin := rejoin }
  | empties (resting : x.state = .resting) : x.StepsTo { x with contrib := [] }

theorem Sect.byCount_steps {x : Sect} (resting : x.state = .resting) : x.StepsTo { x.byCount with rejoin := none } := by
  unfold Sect.byCount
  split
  next may => exact .clears ((Sect.mayClear_iff x).mp may) (by simp [resting]) (by simp [resting]) none
  next => exact .fills (by simp [resting]) none

theorem Sect.transit_steps (x : Sect) (moved rejoined : Bool) : x.StepsTo (x.transit false moved rejoined) := by
  rw [Sect.transit, if_neg Bool.false_ne_true]
  split
  next clear =>
    split
    · exact .stays
    · split
      next may => exact .clears ((Sect.mayClear_iff x).mp may) (by simp [clear]) (by simp [clear]) x.rejoin
      next => exact .fills (by simp [clear]) x.rejoin
  next occupied =>
    split
    next may => exact .clears ((Sect.mayClear_iff x).mp may) (by simp [occupied]) (by simp [occupied]) x.rejoin
    next => exact .stays
  next => exact .stays
  next prep =>
    split
    next risen =>
      rw [Bool.and_assoc, Bool.and_eq_true, Sect.mayClear_iff] at risen
      obtain ⟨rose, may⟩ := risen
      exact .clears may (by simp [prep]) (fun _ => rose) x.rejoin
    next => exact .stays
  next resting =>
    split
    · exact .fills (by simp [resting]) none
    · split
      · exact Sect.byCount_steps resting
      · split
        · exact .empties resting
        · exact .stays

theorem Sect.transit_of_cause (moved rejoined : Bool) (x : Sect) :
    x.transit true moved rejoined = { x with state := .disturbed, rose := false, rejoin := none } := rfl

/-- An event that leaves a CLEAR section without what CLEAR asks makes it OCCUPIED. -/
theorem Sect.transit_of_clear_moved {x : Sect} (clear : x.state = .clear) (occupied : ¬ x.MayClear) (rejoined : Bool) :
    x.transit false true rejoined = { x with state := .occupied } := by
  rw [← Sect.mayClear_iff] at occupied
  simp only [Sect.transit, clear]
  exact if_neg occupied

section
variable {x y : Sect} (step : x.StepsTo y)
include step

theorem Sect.StepsTo.count : y.count = x.count := by cases step <;> rfl

theorem Sect.StepsTo.contrib : y.contrib = x.contrib ∨ y.contrib = [] := by
  cases step with
  | stays => exact .inl rfl
  | clears => exact .inr rfl
  | fills => exact .inl rfl
  | empties => exact .inr rfl

theorem Sect.StepsTo.disturbed (disturbed : x.state = .disturbed) : y.state = .disturbed := by
  cases step with
  | stays => exact disturbed
  | clears _ calm => exact absurd disturbed calm
  | fills calm => exact absurd disturbed calm
  | empties => exact disturbed

theorem Sect.StepsTo.clear (clear : y.state = .clear) (other : x.state ≠ .clear) : x.MayClear ∧ (x.state = .prep → x.rose = true) := by
  cases step with
  | stays => exact absurd clear other
  | clears may _ risen => exact ⟨may, risen⟩
  | fills => exact absurd clear (show SectionState.occupied ≠ .clear by decide)
  | empties => exact absurd clear other

end

end Sys2Proof.Machine
end

section
/-! The update of one section of a half; VERDICT_OVERDUE and RESET_ARM_EXPIRY (R106, R111). -/
namespace Sys2Proof.Machine

/-! ## One section of a half -/

theorem Node.sect_onSect {f : Sect → Sect} (keep : ∀ x, (f x).cfg.index = x.cfg.index) (i : Nat) (n : Node) :
    (n.onSect i f).sect i = (n.sect i).map f := by
  rw [Node.sect, Node.onSect, mapIf, List.find?_map, Node.sect]
  have number (x : Sect) : (if x.cfg.index == i then f x else x).cfg.index = x.cfg.index := by
    split
    · exact keep x
    · rfl
  simp only [Function.comp_def, number]
  cases found : n.sections.find? (·.cfg.index == i) with
  | none => rfl
  | some x => exact congrArg some (if_pos (List.find?_some found))

/-- The device with section `i` of half `h` changed by `f`. -/
def Dev.onSect (h : Half) (i : Nat) (f : Sect → Sect) (d : Dev) : Dev := d.onNode h (Node.onSect i f)

theorem Dev.onSect_frame (h : Half) (i : Nat) (f : Sect → Sect) (d : Dev) : d.onSect h i f = { d with
    nodeA := { d.nodeA with sections := (d.onSect h i f).nodeA.sections }
    nodeB := { d.nodeB with sections := (d.onSect h i f).nodeB.sections } } := by cases h <;> rfl

theorem Dev.onSect_sect {f : Sect → Sect} {h : Half} {i : Nat} {d : Dev} {x : Sect} (keep : ∀ x, (f x).cfg.index = x.cfg.index)
    (found : (d.node h).sect i = some x) : ((d.onSect h i f).node h).sect i = some (f x) := by
  rw [Dev.onSect, Dev.node_onNode, Node.sect_onSect keep, found]
  rfl

/-! ## VERDICT_OVERDUE and RESET_ARM_EXPIRY -/

theorem Dev.overdue_iff (d : Dev) (x : Sect) : d.overdue x = true
    ↔ ∃ c ∈ x.contrib, c.verdict = .pending ∧ 2 * x.cfg.vlimit ≤ since d.frame c.frame := by
  simp only [Dev.overdue, List.any_eq_true, Bool.and_eq_true, decide_eq_true_iff]
  rfl

/-- A section in which a cause of R102 arose in frame `frame`. -/
def Sect.disturbedAt (frame : Word) (x : Sect) : Sect :=
  { x with state := .disturbed, rose := false, rejoin := none, caused := some frame }

def Sect.disarmed (x : Sect) : Sect := { x with arm := none }

/-- Section `i` disturbed by an overdue verdict, with its fault. -/
def Dev.verdictLate (h : Half) (i : Nat) (d : Dev) : Dev := (d.onSect h i (Sect.disturbedAt d.frame)).raiseSect h i 0x47

theorem Dev.verdictLate_frame (h : Half) (i : Nat) (d : Dev) : d.verdictLate h i = { d with
    faults := (d.verdictLate h i).faults
    nodeA := { d.nodeA with sections := (d.verdictLate h i).nodeA.sections }
    nodeB := { d.nodeB with sections := (d.verdictLate h i).nodeB.sections } } := by cases h <;> rfl

theorem Dev.verdictLate_sect {h : Half} {i : Nat} {d : Dev} {x : Sect} (found : (d.node h).sect i = some x) :
    ((d.verdictLate h i).node h).sect i = some (x.disturbedAt d.frame) := by
  rw [Dev.verdictLate, Dev.raiseSect, Dev.node_raise]
  exact Dev.onSect_sect (fun _ => rfl) found

theorem Dev.verdictLate_node_ne {h g : Half} (other : g ≠ h) (i : Nat) (d : Dev) : (d.verdictLate h i).node g = d.node g := by
  rw [Dev.verdictLate, Dev.raiseSect, Dev.node_raise]
  exact Dev.node_onNode_ne other _ d

section
variable {s : State} {h : Half} {i : Nat} {x : Sect} (runs : s.Runs h) (found : (s.dev.node h).sect i = some x)
include runs found

theorem exec_verdictOverdue : exec (.verdictOverdue h i) s
    = .next (s.lift fun d => if d.overdue x && !d.sectFault h i 0x47 then d.verdictLate h i else d) := by
  obtain ⟨out, running⟩ := runs
  show execVerdictOverdue h i s = _
  rw [execVerdictOverdue, upIn_next _ _ out running, State.lift]
  simp only [found]
  rfl

theorem exec_resetArmExpiry {a : Arm} (armed : x.arm = some a) : exec (.resetArmExpiry h i) s
    = .next (s.lift fun d => if 20001 < since d.frame a.frame then d.onSect h i Sect.disarmed else d) := by
  obtain ⟨out, running⟩ := runs
  show execResetArmExpiry h i s = _
  rw [execResetArmExpiry, upIn_next _ _ out running, State.lift]
  simp only [found, armed]
  rfl

theorem exec_resetArmExpiry_unarmed (unarmed : x.arm = none) : exec (.resetArmExpiry h i) s = .next s := by
  obtain ⟨out, running⟩ := runs
  show execResetArmExpiry h i s = _
  rw [execResetArmExpiry, upIn_next _ _ out running, State.lift]
  simp only [found, unarmed]

end

end Sys2Proof.Machine
end

section
/-! A reset request (R107, R108, R113, Table SEC-3) and its three outcomes. -/
namespace Sys2Proof.Machine

/-! ## Several faults of one object -/

/-- The faults `codes` of one object are cleared (`Dev.clearPts`, for an object of any kind). -/
def Dev.clearCodes (k : Kind) (i : Nat) (h : Half) (codes : List Nat) (d : Dev) : Dev :=
  codes.foldl (fun d c => d.clearF c k i h) d

theorem Dev.clearCodes_frame (k : Kind) (i : Nat) (h : Half) (codes : List Nat) (d : Dev) :
    d.clearCodes k i h codes = { d with faults := (d.clearCodes k i h codes).faults } := by
  induction codes generalizing d with
  | nil => rfl
  | cons c codes ih => exact ih (d.clearF c k i h)

theorem Dev.clearCodes_node (k : Kind) (i : Nat) (h g : Half) (codes : List Nat) (d : Dev) :
    (d.clearCodes k i h codes).node g = d.node g := by
  rw [Dev.clearCodes_frame]
  cases g <;> rfl

theorem Dev.clearCodes_keeps_clear {d : Dev} {k : Kind} {i c : Nat} {h : Half} (clear : d.hasFault c k i h = false) (codes : List Nat) :
    (d.clearCodes k i h codes).hasFault c k i h = false := by
  induction codes generalizing d with
  | nil => exact clear
  | cons c' codes ih => exact ih (Dev.clearF_keeps_clear clear c' i k h)

theorem Dev.clearCodes_clears {k : Kind} {i c : Nat} {h : Half} {codes : List Nat} (mem : c ∈ codes) (d : Dev) :
    (d.clearCodes k i h codes).hasFault c k i h = false := by
  induction codes generalizing d with
  | nil => exact absurd mem List.not_mem_nil
  | cons c' codes ih =>
    rcases List.mem_cons.mp mem with rfl | later
    · exact Dev.clearCodes_keeps_clear (Dev.hasFault_clearF c k i d h) codes
    · exact ih later (d.clearF c' k i h)

/-! ## What a reset leaves of the halves -/

/-- Of the halves at most the sections and the two counts of resets differ, and of the rest the faults. -/
def Dev.OnlyResets (d e : Dev) : Prop := e = { d with
  faults := e.faults
  nodeA := { d.nodeA with sections := e.nodeA.sections, resets := e.nodeA.resets, redundant := e.nodeA.redundant }
  nodeB := { d.nodeB with sections := e.nodeB.sections, resets := e.nodeB.resets, redundant := e.nodeB.redundant } }

theorem Dev.OnlyResets.onNode {f : Node → Node} (keep : ∀ n, f n = { n with
    sections := (f n).sections, resets := (f n).resets, redundant := (f n).redundant }) (h : Half) (d : Dev) : d.OnlyResets (d.onNode h f) := by
  cases h with
  | a => exact congrArg (fun n => { d with nodeA := n }) (keep d.nodeA)
  | b => exact congrArg (fun n => { d with nodeB := n }) (keep d.nodeB)

theorem Dev.OnlyResets.clearCodes {d e : Dev} (only : d.OnlyResets e) (k : Kind) (i : Nat) (h : Half) (codes : List Nat) :
    d.OnlyResets (e.clearCodes k i h codes) := by
  rw [Dev.clearCodes_frame]
  exact congrArg (fun e' : Dev => { e' with faults := (e.clearCodes k i h codes).faults }) only

/-! ## The outcomes -/

/-- A redundant request is counted. -/
def Sect.countRedundant (x : Sect) : Sect := { x with resResult := 2, nRedund := min (x.nRedund + 1) 65535 }

def Sect.denied (x : Sect) : Sect := { x with resResult := 3 }

def Node.redundantReset (i : Nat) (n : Node) : Node := { n.onSect i Sect.countRedundant with redundant := n.redundant + 1 }

def Node.executeReset (i : Nat) (f : Sect → Sect) (n : Node) : Node := { n.onSect i f with resets := n.resets + 1 }

/-- A reset of section `x` has every condition of Table SEC-3, and no cause of R102 has arisen in this frame (R103). -/
def Dev.MayReset (d : Dev) (h : Half) (direct : Bool) (x : Sect) : Prop :=
  (x.state = .disturbed ∨ (x.state = .occupied ∧ x.cfg.fromOcc = true)) ∧ (direct = true → x.cfg.direct = true)
  ∧ (∀ b ∈ x.bounds, ∃ p, (d.node h).point b.1 = some p ∧ p.state = .counting ∧ (direct = true → d.vacant h b.1 = true ∧ p.cfg.kind ≠ .remote))
  ∧ (direct = true → ∀ c ∈ x.contrib, c.verdict ≠ .pending) ∧ x.caused ≠ some d.frame

theorem Sect.resetState_iff (direct : Bool) (x : Sect) : x.resetState direct x.state = true
    ↔ (x.state = .disturbed ∨ (x.state = .occupied ∧ x.cfg.fromOcc = true)) ∧ (direct = true → x.cfg.direct = true) := by
  cases direct <;> simp [Sect.resetState]

theorem Sect.pending_eq_false_iff (x : Sect) : x.pending = false ↔ ∀ c ∈ x.contrib, c.verdict ≠ .pending := by
  simp [Sect.pending]

theorem Node.resetMeets_iff (n : Node) (vacant : Nat → Bool) (direct : Bool) (x : Sect) : n.resetMeets vacant direct x = true
    ↔ x.resetState direct x.state = true
      ∧ (∀ b ∈ x.bounds, ∃ p, n.point b.1 = some p ∧ p.state = .counting ∧ (direct = true → vacant b.1 = true ∧ p.cfg.kind ≠ .remote))
      ∧ (direct = true → x.pending = false) := by
  rw [Node.resetMeets, Bool.and_eq_true, Bool.and_eq_true, List.all_eq_true, and_assoc]
  refine and_congr_right' (and_congr (forall₂_congr fun b _ => ?_) ?_)
  · cases n.point b.1 with
    | none => simp
    | some p => cases direct <;> simp
  · cases direct <;> simp

theorem Dev.mayReset_iff (d : Dev) (h : Half) (direct : Bool) (x : Sect) :
    ((d.node h).resetMeets (d.vacant h) direct x && decide (x.caused ≠ some d.frame)) = true ↔ d.MayReset h direct x := by
  rw [Bool.and_eq_true, decide_eq_true_iff, Node.resetMeets_iff, Sect.resetState_iff, Sect.pending_eq_false_iff, Dev.MayReset]
  simp only [and_assoc]

/-- Whatever a reset request comes to, it touches the sections, the counts of resets and the faults alone. -/
theorem Dev.requestReset_onlyResets (h : Half) (i : Nat) (direct : Bool) (src : ResetSource) (d : Dev) :
    d.OnlyResets (d.requestReset h i direct src).2 := by
  unfold Dev.requestReset
  split
  · rfl
  · split
    · exact .onNode (f := Node.redundantReset i) (fun _ => rfl) h d
    · split
      · exact Dev.OnlyResets.clearCodes (.onNode (f := Node.executeReset i (Sect.reset direct src d.frame)) (fun _ => rfl) h d)
          .sect i h [0x45, 0x46, 0x47, 0x48]
      · exact .onNode (f := Node.onSect i Sect.denied) (fun _ => rfl) h d

section
variable {d : Dev} {h : Half} {i : Nat} {direct : Bool} {src : ResetSource} {x : Sect} (found : (d.node h).sect i = some x)
include found

theorem Dev.redundantReset_sect : ((d.onNode h (Node.redundantReset i)).node h).sect i = some x.countRedundant := by
  rw [Dev.node_onNode]
  exact (Node.sect_onSect (f := Sect.countRedundant) (fun _ => rfl) i (d.node h)).trans (congrArg _ found)

theorem Dev.executeReset_sect {f : Sect → Sect} (keep : ∀ x, (f x).cfg.index = x.cfg.index) (codes : List Nat) :
    (((d.onNode h (Node.executeReset i f)).clearCodes .sect i h codes).node h).sect i = some (f x) := by
  rw [Dev.clearCodes_node, Dev.node_onNode]
  exact (Node.sect_onSect keep i (d.node h)).trans (congrArg _ found)

theorem Dev.requestReset_redundant (again : x.state = .prep ∨ x.resetDone = true) :
    d.requestReset h i direct src = (.ok, d.onNode h (Node.redundantReset i)) := by
  simp only [Dev.requestReset, found]
  exact if_pos (by simpa using again)

variable (fresh : x.state ≠ .prep) (first : x.resetDone = false)
include fresh first

theorem Dev.requestReset_executes (may : d.MayReset h direct x) : d.requestReset h i direct src
    = (.ok, (d.onNode h (Node.executeReset i (Sect.reset direct src d.frame))).clearCodes .sect i h [0x45, 0x46, 0x47, 0x48]) := by
  simp only [Dev.requestReset, found]
  rw [if_neg (by simp [fresh, first]), if_pos ((Dev.mayReset_iff d h direct x).mpr may)]
  rfl

theorem Dev.requestReset_denied (lacks : ¬ d.MayReset h direct x) :
    d.requestReset h i direct src = (.denied, d.onSect h i Sect.denied) := by
  simp only [Dev.requestReset, found]
  rw [if_neg (by simp [fresh, first]), if_neg (mt (Dev.mayReset_iff d h direct x).mp lacks)]
  rfl

end

end Sys2Proof.Machine
end

section
/-! RESET_INPUT_STUCK and RESET_INPUT_RELEASED (R110). -/
namespace Sys2Proof.Machine

theorem Dev.onInp_onlyAt (i : Nat) (f : Input → Input) (d : Dev) : OnlyAt i d.inputs (d.onInp i f).inputs :=
  fun _ other => getElem?_modify_ne d.inputs f other

theorem Dev.inp_listed_of_defd {d : Dev} {i : Nat} (defd : (d.inp i).defd = true) : i < d.inputs.length :=
  lt_of_getD_ne fun empty : d.inp i = { id := i } => by simp [empty] at defd

theorem Dev.inp_listed_of_ignored {d : Dev} {i : Nat} (ignored : (d.inp i).ignored = true) : i < d.inputs.length :=
  lt_of_getD_ne fun empty : d.inp i = { id := i } => by simp [empty] at ignored

theorem InputUse.presses_iff (u : InputUse) : u.presses = true ↔ u = .reset ∨ u = .outClear := by
  cases u <;> simp [InputUse.presses]

theorem Input.stick_eq (x : Input) : x.stick = { x with
    pressing := false, ignored := true, result := if x.pressing then 3 else x.result, tooLong := if x.pressing then min (x.tooLong + 1) 255 else x.tooLong } := by
  cases pressing : x.pressing with
  | true => simp [Input.stick, pressing, satAdd]
  | false =>
    rw [Input.stick, if_neg (by simp [pressing])]
    simp [pressing]

def Input.takenUp (x : Input) : Input := { x with ignored := false }

/-- Input `i` changes by `f` and then the fault system by `g`, whose fault is then as `told`. -/
theorem inputAndFault_change {i : Nat} {f : Input → Input} {g : Dev → Dev} {told : Dev → Prop} {s : State} {o : Out}
    (outcome : o = .next (s.lift fun d => g (d.onInp i f))) (listed : i < s.dev.inputs.length)
    (faultsOnly : ∀ d, g d = { d with faults := (g d).faults }) (tells : told (g (s.dev.onInp i f))) :
    ∃ t, o = .next t ∧ told t.dev ∧ t.dev.inp i = f (s.dev.inp i) ∧ OnlyAt i s.dev.inputs t.dev.inputs
      ∧ t = { s with dev := { s.dev with inputs := t.dev.inputs, faults := t.dev.faults } } := by
  have inputs : (g (s.dev.onInp i f)).inputs = (s.dev.onInp i f).inputs := by rw [faultsOnly]
  refine ⟨_, outcome, tells, ?_, ?_, ?_⟩
  · rw [State.lift_dev, Dev.inp, inputs]
    exact Dev.inp_onInp listed
  · rw [State.lift_dev, inputs]
    exact Dev.onInp_onlyAt i f s.dev
  · rw [State.lift_dev, inputs]
    exact congrArg (fun d => { s with dev := d }) (faultsOnly (s.dev.onInp i f))

/-- Both branches of a conditional statement. A stated rule, since `split` would evaluate the decision of a comparison of stamps. -/
theorem ite_iff_imp_and_imp {p a b : Prop} [Decidable p] : (if p then a else b) ↔ (p → a) ∧ (¬ p → b) := by
  by_cases h : p
  · rw [if_pos h]
    exact ⟨fun holds => ⟨fun _ => holds, fun other => absurd h other⟩, fun both => both.left h⟩
  · rw [if_neg h]
    exact ⟨fun holds => ⟨fun held => absurd held h, fun _ => holds⟩, fun both => both.right h⟩

theorem State.lift_ite {p : Prop} [Decidable p] (f : Dev → Dev) (s : State) :
    (.next { s with dev := if p then f s.dev else s.dev } : Out) = if p then .next (s.lift f) else .next s := by
  split <;> rfl

section
variable {s : State} {i : Fin 12} (runs : s.Runs (s.dev.halfOfInp i))
include runs

theorem exec_resetInputStuck (defd : (s.dev.inp i).defd = true) (presses : (s.dev.inp i).cfg.use.presses = true)
    (on : (s.dev.inp i).filt = true) (heeded : (s.dev.inp i).ignored = false) : exec (.resetInputStuck i) s
    = if (s.dev.inp i).filtAt + 480000000 < s.dev.dt.toNat * 96 + 48000
      then .next (s.lift fun d => (d.onInp i Input.stick).raise 0x49 .input i (s.dev.halfOfInp i)) else .next s := by
  obtain ⟨out, running⟩ := runs
  rw [← State.lift_ite]
  show execResetInputStuck i s = _
  rw [execResetInputStuck, upIn_next _ _ out running, State.lift]
  simp only [defd, presses, on, heeded, Bool.not_false, Bool.true_and, decide_eq_true_eq]
  rfl

theorem exec_resetInputReleased (ignored : (s.dev.inp i).ignored = true) (off : (s.dev.inp i).filt = false) : exec (.resetInputReleased i) s
    = if (s.dev.inp i).filtAt + 96000000 ≤ s.dev.dt.toNat * 96 + 48000
      then .next (s.lift fun d => (d.onInp i Input.takenUp).clearF 0x49 .input i (s.dev.halfOfInp i)) else .next s := by
  obtain ⟨out, running⟩ := runs
  rw [← State.lift_ite]
  show execResetInputReleased i s = _
  rw [execResetInputReleased, upIn_next _ _ out running, State.lift]
  simp only [ignored, off, Bool.not_false, Bool.true_and, decide_eq_true_eq]
  rfl

end

end Sys2Proof.Machine
end

section
/-! The obligations of 06, Sections and reset. -/
namespace Sys2Proof.Proofs
open Sys2Proof Sys2Proof.Machine

/-- Settles O26: a cause by its own equation; without one, by what Table SEC-2 lets a step do (`Sect.transit_steps`). -/
theorem aSectionClearsOnlyOnZeroAndWheel : Obligations.ASectionClearsOnlyOnZeroAndWheel := by
  unfold Obligations.ASectionClearsOnlyOnZeroAndWheel
  intro x cause moved rejoined
  cases cause with
  | true =>
    rw [Sect.transit_of_cause]
    exact ⟨rfl, .inl rfl, fun _ => rfl, fun _ => rfl, fun clear => absurd clear (show SectionState.disturbed ≠ .clear by decide),
      fun _ calm => absurd calm.symm Bool.false_ne_true⟩
  | false =>
    have step := x.transit_steps moved rejoined
    refine ⟨step.count, step.contrib, fun arisen => absurd arisen Bool.false_ne_true, step.disturbed, fun clear other => ?_, fun clear _ events occupied => ?_⟩
    · obtain ⟨⟨count, wheels⟩, risen⟩ := step.clear clear other
      exact ⟨rfl, count, wheels, risen⟩
    · rw [events, Sect.transit_of_clear_moved clear occupied]

/-- Settles O27: an overdue verdict is `Dev.verdictLate`, and the expiry of an arm changes its section alone. -/
theorem overdueVerdictDisturbsAndArmsExpire : Obligations.OverdueVerdictDisturbsAndArmsExpire := by
  unfold Obligations.OverdueVerdictDisturbsAndArmsExpire
  refine fun s h i x runs found => ⟨⟨fun late unraised => ?_, fun idle => ?_⟩, fun a armed past => ?_, fun early => ?_⟩
  · refine ⟨s.lift (Dev.verdictLate h i), ?_, Dev.hasFault_raise 0x47 .sect i _ h 0xFFFF, Dev.verdictLate_sect found,
      fun g other => Dev.verdictLate_node_ne other i s.dev, congrArg (fun d => { s with dev := d }) (Dev.verdictLate_frame h i s.dev)⟩
    rw [exec_verdictOverdue runs found, State.lift, if_pos (by simp [(Dev.overdue_iff s.dev x).mpr late, unraised])]
    rfl
  · rw [exec_verdictOverdue runs found, State.lift, if_neg]
    rw [Bool.and_eq_true, Dev.overdue_iff]
    rintro ⟨late, unraised⟩
    rcases idle with none | raised
    · exact none late
    · simp [raised] at unraised
  · refine ⟨s.lift (Dev.onSect h i Sect.disarmed), ?_, Dev.onSect_sect (fun _ => rfl) found,
      fun g other => Dev.node_onNode_ne other _ s.dev, congrArg (fun d => { s with dev := d }) (Dev.onSect_frame h i Sect.disarmed s.dev)⟩
    rw [exec_resetArmExpiry runs found armed, State.lift, if_pos past]
    rfl
  · cases armed : x.arm with
    | none => exact exec_resetArmExpiry_unarmed runs found armed
    | some a => rw [exec_resetArmExpiry runs found armed, State.lift, if_neg (Nat.not_lt.mpr (early a armed))]

/-- Settles O28: one equation of `Dev.requestReset` for each outcome, and what every outcome leaves alone. -/
theorem resetNeedsEveryConditionOfItsTable : Obligations.ResetNeedsEveryConditionOfItsTable := by
  unfold Obligations.ResetNeedsEveryConditionOfItsTable
  intro d h i direct src x found
  refine ⟨fun again => ?_, fun fresh first may => ?_, fun fresh first lacks => ?_, Dev.requestReset_onlyResets h i direct src d⟩
  · rw [Dev.requestReset_redundant found again]
    exact ⟨rfl, Dev.redundantReset_sect found⟩
  · rw [Dev.requestReset_executes found fresh first may]
    exact ⟨rfl, Dev.executeReset_sect found (f := Sect.reset direct src d.frame) (fun _ => rfl) _, fun c mem => Dev.clearCodes_clears mem _⟩
  · rw [Dev.requestReset_denied found fresh first lacks]
    exact ⟨rfl, Dev.onSect_sect (fun _ => rfl) found, Dev.onNode_faults h _ d⟩

/-- Settles O36: past its limit either command changes its input and then the fault 0x49 (`inputAndFault_change`). -/
theorem stuckInputsAreIgnoredUntilReleased : Obligations.StuckInputsAreIgnoredUntilReleased := by
  unfold Obligations.StuckInputsAreIgnoredUntilReleased
  refine fun s i runs => ⟨fun defd use on heeded => ?_, fun ignored off => ?_⟩
  · have outcome := exec_resetInputStuck runs defd ((InputUse.presses_iff _).mpr use) on heeded
    rw [ite_iff_imp_and_imp, ← Input.stick_eq (s.dev.inp i)]
    refine ⟨fun past => ?_, fun early => outcome.trans (if_neg early)⟩
    exact inputAndFault_change (g := fun d => d.raise 0x49 .input i (s.dev.halfOfInp i))
      (told := fun d => d.hasFault 0x49 .input i (s.dev.halfOfInp i) = true) (outcome.trans (if_pos past))
      (Dev.inp_listed_of_defd defd) (fun _ => rfl) (Dev.hasFault_raise 0x49 .input i _ _ 0xFFFF)
  · have outcome := exec_resetInputReleased runs ignored off
    rw [ite_iff_imp_and_imp]
    refine ⟨fun past => ?_, fun early => outcome.trans (if_neg early)⟩
    exact inputAndFault_change (g := fun d => d.clearF 0x49 .input i (s.dev.halfOfInp i))
      (told := fun d => d.hasFault 0x49 .input i (s.dev.halfOfInp i) = false) (outcome.trans (if_pos past))
      (Dev.inp_listed_of_ignored ignored) (fun _ => rfl) (Dev.hasFault_clearF 0x49 .input i _ _)

end Sys2Proof.Proofs
end

section
/-! The gate drives (R118, R131, R217): what enables either gate of an output. -/
namespace Sys2Proof.Machine

section
variable (permit : Bool) (o : Output)

theorem Output.drive_gateHi_iff : (o.drive permit).gateHi = true
    ↔ o.appHi = true ∧ o.nHi = false ∧ permit = true ∧ ¬ ∃ p, o.pulse = some p ∧ p.low = false := by
  cases pulse : o.pulse with
  | none => simp [Output.drive, pulse, and_assoc]
  | some p => simp [Output.drive, pulse, and_assoc]

theorem Output.drive_gateLo_iff : (o.drive permit).gateLo = true
    ↔ o.appLo = true ∧ o.nLo = false ∧ permit = true ∧ ¬ ∃ p, o.pulse = some p ∧ p.low = true := by
  cases pulse : o.pulse with
  | none => simp [Output.drive, pulse, and_assoc]
  | some p => simp [Output.drive, pulse, and_assoc]

end

theorem Output.drive_of_denied (o : Output) : (o.drive false).gateHi = false ∧ (o.drive false).gateLo = false := by
  simp [Output.drive]

/-- What both gates of an output need beyond its own state: control permitted, its half out of the safe state, no internal
reset. -/
def Dev.gateFree (d : Dev) (h : Half) : Bool := d.gatePermit h && !(d.node h).safe && !d.inReset

theorem Dev.gateFree_iff (d : Dev) (h : Half) : d.gateFree h = true
    ↔ d.gatePermit h = true ∧ (d.node h).safe = false ∧ d.inReset = false := by
  simp [Dev.gateFree, and_assoc]

theorem Dev.gateFree_of_safe {d : Dev} {h : Half} (safe : (d.node h).safe = true) : d.gateFree h = false := by
  simp [Dev.gateFree, safe]

theorem Dev.driveGates_outputs (d : Dev) :
    d.driveGates.outputs = d.outputs.map fun o => o.drive (d.gateFree (d.halfOfOut o.id)) := rfl

theorem Dev.driveGates_out {d : Dev} {n : Nat} (listed : n < d.outputs.length) :
    d.driveGates.out n = (d.out n).drive (d.gateFree (d.halfOfOut (d.out n).id)) := by
  simp [Dev.out, Dev.driveGates_outputs, List.getD_eq_getElem?_getD, listed]

end Sys2Proof.Machine
end

section
/-! A cause of one half (R124, R126, R132): without split mode the whole device stops, in split mode that half alone. -/
namespace Sys2Proof.Machine

theorem Dev.evaluates_live {d : Dev} {h : Half} (runs : d.evaluates h = true) : h ∈ d.halves ∧ (d.node h).safe = false := by
  simp only [Dev.evaluates, Bool.and_eq_true, List.contains_iff_mem, Bool.not_eq_true'] at runs
  obtain ⟨⟨⟨mem, -⟩, live⟩, -⟩ := runs
  exact ⟨mem, live⟩

theorem Dev.halves_of_whole {d : Dev} (whole : d.split = false) : d.halves = [.a] := by simp [Dev.halves, whole]

/-- A device without split mode has one half, so one that runs is the whole device. -/
theorem Dev.allLive_of_whole {d : Dev} {h : Half} (whole : d.split = false) (mem : h ∈ d.halves) (live : (d.node h).safe = false) :
    d.AllLive := by
  rw [Dev.halves_of_whole whole, List.mem_singleton] at mem
  intro g running
  rw [Dev.halves_of_whole whole, List.mem_singleton] at running
  rw [running, ← mem]
  exact live

theorem Dev.foldl_safeStep_node_of_not_mem {g : Half} {hs : List Half} (other : g ∉ hs) (d : Dev) :
    (hs.foldl Dev.safeStep d).node g = d.node g := by
  induction hs generalizing d with
  | nil => rfl
  | cons h hs ih =>
    rw [List.mem_cons, not_or] at other
    obtain ⟨ne, rest⟩ := other
    exact (ih rest (d.safeStep h)).trans (Dev.safeStep_node_ne ne)

theorem Dev.enterSafe_node_of_not_mem {g : Half} {hs : List Half} (other : g ∉ hs) (code cyc : Nat) (d : Dev) :
    (d.enterSafe code true hs cyc).node g = d.node g := by
  obtain ⟨e, steps, -, node, -⟩ := d.enterSafe_eq_foldl code hs cyc
  rw [steps, Dev.foldl_safeStep_node_of_not_mem other, node]

theorem Dev.safeOf_of_whole {d : Dev} (whole : d.split = false) (code : Nat) (h : Half) (cyc : Nat) :
    d.safeOf code h cyc = d.safeAll code cyc := by
  rw [Dev.safeOf, Dev.safeAll, if_neg (by simp [whole]), Dev.halves_of_whole whole]

theorem Dev.safeOf_of_split {d : Dev} (split : d.split = true) (code : Nat) (h : Half) (cyc : Nat) :
    d.safeOf code h cyc = d.enterSafe code true [h] cyc := by
  rw [Dev.safeOf, if_pos split]

/-- `e` is `d` stopped by fault `code` of half `h` at cycle `cyc` (R132). -/
structure Dev.StoppedIn (d : Dev) (h : Half) (code cyc : Nat) (e : Dev) : Prop where
  active : e.codeActive code = true
  whole : d.split = false → e.EnteredSafe code cyc d
  alone : d.split = true → d.HeldAlone h e

theorem Dev.safeOf_stops {d : Dev} {h : Half} (runs : d.evaluates h = true) (code cyc : Nat) :
    d.StoppedIn h code cyc (d.safeOf code h cyc) := by
  obtain ⟨mem, live⟩ := Dev.evaluates_live runs
  refine { active := Dev.enterSafe_codeActive code _ cyc d, whole := fun whole => ?_, alone := fun split => ?_ }
  · rw [Dev.safeOf_of_whole whole]
    exact Dev.safeAll_entered code cyc d (Dev.allLive_of_whole whole mem live)
  · rw [Dev.safeOf_of_split split]
    exact ⟨Dev.enterSafe_held List.mem_cons_self code cyc live,
      fun g other => Dev.enterSafe_node_of_not_mem (by simpa using other) code cyc d⟩

/-- A command that answers with the entry of its half. -/
theorem exec_stops {c : Instr} {s : State} {f : Dev → Dev} {h : Half} {code cyc : Nat} (answer : exec c s = up f s)
    (out : s.dev.inReset = false) (runs : s.dev.evaluates h = true) (stops : f s.dev = s.dev.safeOf code h cyc) :
    ∃ t, exec c s = .next t ∧ t = { s with dev := t.dev } ∧ t.dev.codeActive code = true
      ∧ (s.dev.split = false → t.dev.EnteredSafe code cyc s.dev) ∧ (s.dev.split = true → s.dev.HeldAlone h t.dev) := by
  obtain ⟨active, whole, alone⟩ := Dev.safeOf_stops runs code cyc
  rw [← stops] at active whole alone
  exact ⟨s.lift f, answer.trans (up_next f out), rfl, active, whole, alone⟩

/-- A command whose change does not take place. -/
theorem exec_idles {c : Instr} {s : State} {f : Dev → Dev} (answer : exec c s = up f s) (out : s.dev.inReset = false)
    (idle : f s.dev = s.dev) : exec c s = .next s := by
  rw [answer, up_next f out, State.lift, idle]

/-- What FRAME_WORK_DEADLINE and COMMIT_DEADLINE do with a device (R124). -/
def Dev.deadline (h : Half) (code cyc : Nat) (d : Dev) : Dev := if d.evaluates h && !d.worked h then d.safeOf code h cyc else d

theorem exec_frameWorkDeadline (h : Half) (s : State) : exec (.frameWorkDeadline h) s = up (Dev.deadline h 0xB0 44160) s := rfl

theorem exec_commitDeadline (h : Half) (s : State) : exec (.commitDeadline h) s = up (Dev.deadline h 0xB1 47616) s := rfl

theorem Dev.deadline_of_due {d : Dev} {h : Half} (runs : d.evaluates h = true) (due : d.worked h = false) (code cyc : Nat) :
    d.deadline h code cyc = d.safeOf code h cyc := if_pos (by simp [runs, due])

theorem Dev.deadline_of_worked {d : Dev} {h : Half} (worked : d.worked h = true) (code cyc : Nat) :
    d.deadline h code cyc = d := if_neg (by simp [worked])

end Sys2Proof.Machine
end

section
/-! CORE_RESYNC (R125, R126, R288): when it is one too many, and what one resync changes. -/
namespace Sys2Proof.Machine

theorem Dev.resyncExceeded_iff (d : Dev) (h : Half) (restoring : Bool) : d.resyncExceeded h restoring = true
    ↔ restoring = true ∨ (d.node h).cores.reran = true
      ∨ 3 ≤ ((d.node h).cores.resyncFrames.filter fun f => since d.frame f ≤ 20000).length := by
  rw [Dev.resyncExceeded, Bool.or_eq_true, Bool.or_eq_true, decide_eq_true_iff, or_assoc]
  rfl

/-- What CORE_RESYNC does with a device (R125, R126). -/
def Dev.coreResync (h : Half) (restoring : Bool) (cyc : Nat) (d : Dev) : Dev :=
  if !d.evaluates h then d else if d.resyncExceeded h restoring then d.safeOf 0x23 h cyc else d.resync h

theorem exec_coreResync (h : Half) (restoring : Bool) (cyc : Nat) (s : State) :
    exec (.coreResync h restoring cyc) s = up (Dev.coreResync h restoring cyc) s := rfl

section
variable {d : Dev} {h : Half} {restoring : Bool} (runs : d.evaluates h = true)
include runs

theorem Dev.coreResync_of_exceeded (exceeded : d.resyncExceeded h restoring = true) (cyc : Nat) :
    d.coreResync h restoring cyc = d.safeOf 0x23 h cyc := by
  rw [Dev.coreResync, if_neg (by simp [runs]), if_pos exceeded]

theorem Dev.coreResync_of_within (within : ¬ d.resyncExceeded h restoring = true) (cyc : Nat) :
    d.coreResync h restoring cyc = d.resync h := by
  rw [Dev.coreResync, if_neg (by simp [runs]), if_neg within]

end

/-- Fault 0x22 is active, and the resync of half `h` counts. -/
def Dev.countResync (h : Half) (d : Dev) : Dev :=
  (d.raise 0x22 d.coreKind (d.coreObj h) h).onNode h fun n => { n with cores := n.cores.resynced d.frame }

/-- The commit of the re-run, of a half whose work had committed. -/
def Dev.commitRerun (h : Half) (d : Dev) : Dev := (d.replayDone h).clearF 0x22 d.coreKind (d.coreObj h) h

theorem Dev.resync_of_due {d : Dev} {h : Half} (due : d.worked h = false) : d.resync h = d.countResync h := by
  have still : (d.countResync h).worked h = false := by cases h <;> exact due
  exact if_neg (Bool.not_eq_true _ ▸ still)

theorem Dev.resync_of_worked {d : Dev} {h : Half} (worked : d.worked h = true) : d.resync h = (d.countResync h).commitRerun h := by
  have still : (d.countResync h).worked h = true := by cases h <;> exact worked
  exact if_pos still

theorem Dev.commitRerun_node (h g : Half) (d : Dev) : (d.commitRerun h).node g = d.node g := by cases g <;> rfl

theorem Dev.countResync_cores (h : Half) (d : Dev) : ((d.countResync h).node h).cores = (d.node h).cores.resynced d.frame := by
  rw [Dev.countResync, Dev.node_onNode, Dev.node_raise]

theorem Dev.resync_cores (h : Half) (d : Dev) : ((d.resync h).node h).cores = (d.node h).cores.resynced d.frame := by
  cases worked : d.worked h with
  | false => rw [Dev.resync_of_due worked, Dev.countResync_cores]
  | true => rw [Dev.resync_of_worked worked, Dev.commitRerun_node, Dev.countResync_cores]

theorem Dev.resync_raises {d : Dev} {h : Half} (due : d.worked h = false) :
    (d.resync h).hasFault 0x22 d.coreKind (d.coreObj h) h = true := by
  rw [Dev.resync_of_due due, Dev.countResync, Dev.hasFault, Dev.onNode_faults]
  exact Dev.hasFault_raise 0x22 d.coreKind (d.coreObj h) d h 0xFFFF

theorem Dev.resync_clears {d : Dev} {h : Half} (worked : d.worked h = true) :
    (d.resync h).hasFault 0x22 d.coreKind (d.coreObj h) h = false := by
  have kind : (d.countResync h).coreKind = d.coreKind := by cases h <;> rfl
  have obj : (d.countResync h).coreObj h = d.coreObj h := by cases h <;> rfl
  rw [Dev.resync_of_worked worked, Dev.commitRerun, kind, obj]
  exact Dev.hasFault_clearF 0x22 d.coreKind (d.coreObj h) _ h

/-- A view that a change keeps is the same for every list of changed entries. -/
theorem map_mapIf_of_keeps {α β : Type} {view : α → β} {f : α → α} (keep : ∀ x, view (f x) = view x) (p : α → Bool) (l : List α) :
    (mapIf p f l).map view = l.map view := by
  rw [mapIf, List.map_map]
  refine List.map_congr_left fun x _ => ?_
  rw [Function.comp_apply, apply_ite view, keep, ite_self]

/-- What a completion tells besides REPLAYED: its port, operation, tag, status and data (R288). -/
def Completion.told (c : Fin 2 × Completion) : Fin 2 × Nat × Nat × Status × Word := (c.1, c.2.opc, c.2.tag, c.2.status, c.2.data)

theorem Dev.commitRerun_told (h : Half) (d : Dev) : (d.commitRerun h).done.map Completion.told = d.done.map Completion.told :=
  map_mapIf_of_keeps (f := fun c => (c.1, { c.2 with replayed := true })) (fun _ => rfl) _ d.done

theorem Dev.resync_told (h : Half) (d : Dev) : (d.resync h).done.map Completion.told = d.done.map Completion.told := by
  have counted : (d.countResync h).done = d.done := by cases h <;> rfl
  cases worked : d.worked h with
  | false => rw [Dev.resync_of_due worked, counted]
  | true => rw [Dev.resync_of_worked worked, Dev.commitRerun_told, counted]

/-- Of the device at most the faults, the completions, the ports' journals and the counts of the cores differ. -/
def Dev.OnlyRerun (d e : Dev) : Prop := e = { d with
  faults := e.faults, done := e.done
  port0 := { d.port0 with journal := e.port0.journal }, port1 := { d.port1 with journal := e.port1.journal }
  nodeA := { d.nodeA with cores := e.nodeA.cores }, nodeB := { d.nodeB with cores := e.nodeB.cores } }

theorem Dev.resync_onlyRerun (h : Half) (d : Dev) : d.OnlyRerun (d.resync h) := by
  cases worked : d.worked h with
  | false =>
    rw [Dev.resync_of_due worked]
    cases h <;> rfl
  | true =>
    rw [Dev.resync_of_worked worked]
    cases h <;> rfl

end Sys2Proof.Machine
end

section
/-! The obligations of 07, Evaluation core pair. -/
namespace Sys2Proof.Proofs
open Sys2Proof Sys2Proof.Machine

/-- Settles O29: every listed output is driven by `Output.drive`, with `Dev.gateFree` of its half. -/
theorem gatesNeedRequestPermissionAndNoPulse : Obligations.GatesNeedRequestPermissionAndNoPulse := by
  unfold Obligations.GatesNeedRequestPermissionAndNoPulse
  refine fun d => ⟨fun n listed => ?_, fun o driven safe => ?_, rfl, List.length_map _⟩
  · rw [Dev.driveGates_out listed]
    simp only [← Dev.gateFree_iff]
    exact ⟨Output.drive_gateHi_iff _ _, Output.drive_gateLo_iff _ _, rfl⟩
  · rw [Dev.driveGates_outputs, List.mem_map] at driven
    obtain ⟨before, -, rfl⟩ := driven
    have denied : d.gateFree (d.halfOfOut before.id) = false := Dev.gateFree_of_safe safe
    rw [denied]
    exact before.drive_of_denied

/-- Settles O41: late work and a resync too many stop the half (`exec_stops`); any other resync is `Dev.resync`. -/
theorem deadlinesAndResyncsOfTheCores : Obligations.DeadlinesAndResyncsOfTheCores := by
  unfold Obligations.DeadlinesAndResyncsOfTheCores
  intro s h out runs
  refine ⟨fun due => ⟨?_, ?_⟩, fun worked => ⟨?_, ?_⟩, fun restoring cyc => ?_⟩
  · exact exec_stops (exec_frameWorkDeadline h s) out runs (Dev.deadline_of_due runs due _ _)
  · exact exec_stops (exec_commitDeadline h s) out runs (Dev.deadline_of_due runs due _ _)
  · exact exec_idles (exec_frameWorkDeadline h s) out (Dev.deadline_of_worked worked _ _)
  · exact exec_idles (exec_commitDeadline h s) out (Dev.deadline_of_worked worked _ _)
  · have answer := exec_coreResync h restoring cyc s
    rw [ite_iff_imp_and_imp, ← Dev.resyncExceeded_iff]
    refine ⟨fun exceeded => exec_stops answer out runs (Dev.coreResync_of_exceeded runs exceeded cyc), fun within => ?_⟩
    have resynced : exec (.coreResync h restoring cyc) s = .next (s.lift (Dev.resync h)) := by
      rw [answer, up_next _ out, State.lift, Dev.coreResync_of_within runs within]
      rfl
    have counts := Dev.resync_cores h s.dev
    exact ⟨_, resynced, congrArg Cores.resyncTotal counts, congrArg Cores.reran counts, congrArg Cores.resyncFrames counts,
      Dev.resync_raises, Dev.resync_clears, Dev.resync_told h s.dev,
      congrArg (fun d => { s with dev := d }) (Dev.resync_onlyRerun h s.dev)⟩

end Sys2Proof.Proofs
end

section
/-! Outputs by number, and the answer of a command of one half that runs. -/
namespace Sys2Proof.Machine

theorem ite_of_iff {α : Type} {p q : Prop} [Decidable p] [Decidable q] {a b : α} (same : p ↔ q) :
    (if p then a else b) = if q then a else b :=
  ite_congr (propext same) (fun _ => rfl) fun _ => rfl

theorem Dev.onOut_onlyAt (n : Nat) (f : Output → Output) (d : Dev) : OnlyAt n d.outputs (d.onOut n f).outputs :=
  fun _ other => getElem?_modify_ne d.outputs f other

/-- An output of which anything differs from the one of an empty place is listed. -/
theorem Dev.out_listed {α : Type} (view : Output → α) {d : Dev} {n : Nat} (differs : view (d.out n) ≠ view { id := n }) :
    n < d.outputs.length :=
  lt_of_getD_ne fun empty : d.out n = { id := n } => differs (congrArg view empty)

theorem Dev.out_listed_of_defd {d : Dev} {n : Nat} (defd : (d.out n).defd = true) : n < d.outputs.length :=
  Dev.out_listed Output.defd (by simp [defd])

theorem Dev.out_listed_of_state {d : Dev} {n : Nat} (notOff : (d.out n).state ≠ .off) : n < d.outputs.length :=
  Dev.out_listed Output.state notOff

theorem Dev.out_listed_of_pulse {d : Dev} {n : Nat} {p : Pulse} (pulse : (d.out n).pulse = some p) : n < d.outputs.length :=
  Dev.out_listed Output.pulse (by simp [pulse])

theorem Dev.onOut_length (n : Nat) (f : Output → Output) (d : Dev) : (d.onOut n f).outputs.length = d.outputs.length :=
  List.length_modify f d.outputs n

theorem Dev.out_onOut_ne {d : Dev} {i n : Nat} (other : n ≠ i) (f : Output → Output) : (d.onOut i f).out n = d.out n := by
  rw [Dev.out, Dev.out, List.getD_eq_getElem?_getD, List.getD_eq_getElem?_getD, Dev.onOut_onlyAt i f d n other]

/-- What a command of the whole device does with it, where that is known as `e`. -/
theorem exec_up_as {c : Instr} {s : State} {f : Dev → Dev} {e : Dev} (answer : exec c s = up f s) (out : s.dev.inReset = false)
    (does : f s.dev = e) : exec c s = .next { s with dev := e } := by
  rw [answer, up_next f out, State.lift, does]

section
variable {c : Instr} {s : State} {h : Dev → Half} {f : Dev → Dev} (answer : exec c s = upIn h f s) (runs : s.Runs (h s.dev))
include answer runs

theorem exec_runs : exec c s = .next (s.lift f) := by
  obtain ⟨out, running⟩ := runs
  exact answer.trans (upIn_next _ _ out running)

/-- What a running half does with its device, where that is known as `e`. -/
theorem exec_runs_as {e : Dev} (does : f s.dev = e) : exec c s = .next { s with dev := e } := by
  rw [exec_runs answer runs, State.lift, does]

theorem exec_runs_idle (same : f s.dev = s.dev) : exec c s = .next s := exec_runs_as answer runs same

end

end Sys2Proof.Machine
end

section
/-! Step 6 of a frame's work for one output (R137, R138, R152): what it decides on, and what the decision makes of it. -/
namespace Sys2Proof.Machine

/-- R137: the sections that an output decided on names are CLEAR, and its half drives it. -/
theorem Dev.clear_of_decideOn {d : Dev} {o : Output} (on : d.decideOn o = true) :
    o.cfg.sections ≠ [] ∧ (∀ i ∈ o.cfg.sections, ∃ x, (d.node (d.halfOfOut o.id)).sect i = some x ∧ x.state = .clear)
      ∧ d.inService (d.halfOfOut o.id) = true ∧ d.shuttingOff (d.halfOfOut o.id) = false ∧ o.state ≠ .fault := by
  simp only [Dev.decideOn, Bool.and_eq_true, List.all_eq_true, Bool.not_eq_true', List.isEmpty_eq_false_iff, decide_eq_true_eq] at on
  obtain ⟨⟨⟨⟨named, clear⟩, service⟩, faultless⟩, driving⟩ := on
  refine ⟨named, fun i mem => ?_, service, driving, faultless⟩
  have clearHere := clear i mem
  split at clearHere
  next x found => exact ⟨x, found, of_decide_eq_true clearHere⟩
  next => exact absurd clearHere Bool.false_ne_true

/-- What comes before the decision for output `n`: the waits may end and the output may fault, but no wait begins. -/
structure Dev.Prepares (n : Nat) (d e : Dev) : Prop where
  frame : e = { d with outputs := e.outputs, faults := e.faults }
  length : e.outputs.length = d.outputs.length
  id : (e.out n).id = (d.out n).id
  onWait : (e.out n).state = .onWait → (d.out n).state = .onWait
  offWait : (e.out n).state = .offWait → (d.out n).state = .offWait

namespace Dev.Prepares
variable {n : Nat} {d e f : Dev}

theorem refl (n : Nat) (d : Dev) : d.Prepares n d := ⟨rfl, rfl, rfl, fun waits => waits, fun waits => waits⟩

theorem trans (first : d.Prepares n e) (next : e.Prepares n f) : d.Prepares n f where
  frame := by rw [next.frame, first.frame]
  length := next.length.trans first.length
  id := next.id.trans first.id
  onWait waits := first.onWait (next.onWait waits)
  offWait waits := first.offWait (next.offWait waits)

theorem decideOn (prepares : d.Prepares n e) (o : Output) : e.decideOn o = d.decideOn o := by
  rw [prepares.frame]
  rfl

/-- A change of the output that keeps its number and begins no wait. -/
theorem onOut {g : Output → Output} (listed : n < d.outputs.length) (id : (g (d.out n)).id = (d.out n).id)
    (onWait : (g (d.out n)).state = .onWait → (d.out n).state = .onWait)
    (offWait : (g (d.out n)).state = .offWait → (d.out n).state = .offWait) : d.Prepares n (d.onOut n g) where
  frame := rfl
  length := Dev.onOut_length n g d
  id := by rw [Dev.out_onOut listed, id]
  onWait := by rwa [Dev.out_onOut listed]
  offWait := by rwa [Dev.out_onOut listed]

theorem clearF (code : Nat) (kind : Kind) (obj : Nat) (d : Dev) (h : Half) : d.Prepares n (d.clearF code kind obj h) :=
  ⟨rfl, rfl, rfl, fun waits => waits, fun waits => waits⟩

theorem ite {c : Prop} [Decidable c] (yes : d.Prepares n e) (no : d.Prepares n f) : d.Prepares n (if c then e else f) := by
  split
  · exact yes
  · exact no

end Dev.Prepares

theorem Output.toFault_id (code : Nat) (frame : Word) (o : Output) : (o.toFault code frame).id = o.id := by
  rw [Output.toFault, apply_ite Output.id, ite_self]

theorem Output.toFault_state (code : Nat) (frame : Word) (o : Output) : (o.toFault code frame).state = .fault := by
  unfold Output.toFault
  split
  · assumption
  · rfl

theorem Output.reach_eq (frame : Word) (seen : Bool) (o : Output) : o.reach frame seen = { o with
    levelOk := o.levelOk || seen, levelFrame := if seen && !o.levelOk then frame else o.levelFrame } := by
  cases level : o.levelOk <;> cases seen <;> simp [Output.reach, level] <;> rw [← level]

theorem Output.confirmed_id (frame : Word) (o : Output) : (o.confirmed frame).id = o.id := by
  rw [Output.confirmed, apply_ite Output.id, ite_self]

/-- The wait of output `n` ends in the standing state `st` (R138, R144). -/
def Dev.endWait (n : Nat) (st : OutState) (d : Dev) : Dev :=
  let e := d.onOut n fun o => { (o.confirmed d.frame) with state := st }
  if (d.out n).cfg.edm then e.clearF 0x57 .output n (e.halfOfOut n) else e

theorem Dev.endWait_prepares {n : Nat} {st : OutState} {d : Dev} (listed : n < d.outputs.length) (onWait : st ≠ .onWait)
    (offWait : st ≠ .offWait) : d.Prepares n (d.endWait n st) := by
  have ends : d.Prepares n (d.onOut n fun o => { (o.confirmed d.frame) with state := st }) :=
    .onOut listed (Output.confirmed_id _ _) (fun waits => absurd waits onWait) (fun waits => absurd waits offWait)
  exact .ite (ends.trans (.clearF ..)) ends

theorem Dev.outSettle_prepares {n : Nat} {d : Dev} (listed : n < d.outputs.length) : d.Prepares n (d.outSettle n) := by
  have reached : d.Prepares n (d.onOut n fun o => o.reach d.frame (decide (1 ≤ d.gateAge o) && o.waitLevel o.hiLast o.loLast)) :=
    .onOut listed (by rw [Output.reach_eq]) (by rw [Output.reach_eq]; exact id) (by rw [Output.reach_eq]; exact id)
  have toOn := Dev.endWait_prepares (st := .on) (reached.length ▸ listed) nofun nofun
  have toOff := Dev.endWait_prepares (st := .off) (reached.length ▸ listed) nofun nofun
  unfold Dev.outSettle
  refine reached.trans ?_
  dsimp only
  split
  · exact .ite toOn (.refl n _)
  · exact .ite toOn (.refl n _)
  · exact .ite toOff (.refl n _)
  · exact .refl n _

/-- The fault of its EDM input or of that input's source that puts output `n` into FAULT (R143, R152). -/
def Dev.edmInputFault (n : Nat) (d : Dev) : Option Nat :=
  if (d.out n).cfg.edm && decide ((d.out n).state ≠ .fault) then
    if d.inpFault (12 + n) 0x58 then some 0x58 else if d.inpFault (12 + n) 0x59 then some 0x59
    else if d.srcFault (d.out n).cfg.edmSrc then some 0x5A else none
  else none

def Dev.beforeDecision (n : Nat) (d : Dev) : Dev :=
  match d.edmInputFault n with
  | some c => d.onOut n fun o => o.toFault c d.frame
  | none => d.outSettle n

/-- Table SIO-2: what the decision makes of an output. -/
def Output.follow (dec : Bool) (frame : Word) (o : Output) : Output :=
  let o := { o with decided := dec }
  match o.state with
  | .off => if dec then o.toWait true frame else { o with pendingMark := false }
  | .onWait | .on | .adopt => if dec then o else o.toWait false frame
  | .offWait => if dec then { o with pendingMark := true } else o
  | .fault => { o with reqHi := false, reqLo := false, decided := false }

def Dev.decision (n : Nat) (d : Dev) : Bool := d.decideOn (d.out n) && !(d.out n).hold

def Dev.decideOut (n : Nat) (d : Dev) : Dev :=
  d.onOut n fun o => Output.stand d.tpsRun (d.stamp (500 * 96)) (o.follow (d.decision n) d.frame)

theorem Dev.outFrame_of_defd {n : Nat} {d : Dev} (defd : (d.out n).defd = true) : d.outFrame n = (d.beforeDecision n).decideOut n :=
  if_neg (by simp [defd])

theorem Dev.beforeDecision_prepares {n : Nat} {d : Dev} (listed : n < d.outputs.length) : d.Prepares n (d.beforeDecision n) := by
  unfold Dev.beforeDecision
  split
  next c _ =>
    have faults := Output.toFault_state c d.frame (d.out n)
    exact .onOut listed (Output.toFault_id ..) (fun waits => nomatch faults.symm.trans waits) (fun waits => nomatch faults.symm.trans waits)
  next => exact Dev.outSettle_prepares listed

/-- What the decision `dec` makes of output `o`, as far as its consequences go. -/
structure Output.Follows (dec : Bool) (o q : Output) : Prop where
  cfg : q.cfg = o.cfg
  faulty : q.state = .fault ↔ o.state = .fault
  decided : q.decided = true → dec = true
  fault : q.state = .fault → q.reqHi = false ∧ q.reqLo = false ∧ q.decided = false
  onWait : q.state = .onWait → o.state ≠ .onWait → q.decided = true ∧ q.reqHi = true ∧ q.reqLo = true
  offWait : q.state = .offWait → o.state ≠ .offWait → q.decided = false ∧ q.reqHi = false ∧ q.reqLo = false

namespace Output.Follows
variable {dec : Bool} {o q : Output} (sound : o.state ≠ .fault)
include sound

theorem of_sameState (cfg : q.cfg = o.cfg) (state : q.state = o.state) (decided : q.decided = dec) : o.Follows dec q where
  cfg := cfg
  faulty := by rw [state]
  decided on := decided.symm.trans on
  fault faults := absurd (state.symm.trans faults) sound
  onWait waits fresh := absurd (state.symm.trans waits) fresh
  offWait waits fresh := absurd (state.symm.trans waits) fresh

theorem of_toWait (frame : Word) : o.Follows dec ({ o with decided := dec }.toWait dec frame) := by
  cases dec with
  | true => constructor <;> simp [Output.toWait, sound]
  | false => constructor <;> simp [Output.toWait, sound]

end Output.Follows

theorem Output.follow_follows (dec : Bool) (frame : Word) (o : Output) : o.Follows dec (o.follow dec frame) := by
  unfold Output.follow
  cases state : o.state with
  | off =>
    have sound : o.state ≠ .fault := by simp [state]
    cases dec with
    | true => exact .of_toWait sound frame
    | false => exact .of_sameState sound rfl state.symm rfl
  | onWait | on | adopt =>
    have sound : o.state ≠ .fault := by simp [state]
    cases dec with
    | true => exact .of_sameState sound rfl state.symm rfl
    | false => exact .of_toWait sound frame
  | offWait =>
    have sound : o.state ≠ .fault := by simp [state]
    cases dec with
    | true => exact .of_sameState sound rfl state.symm rfl
    | false => exact .of_sameState sound rfl state.symm rfl
  | fault => constructor <;> simp [state]

theorem Dev.decideOut_follows {n : Nat} {d : Dev} (listed : n < d.outputs.length) :
    (d.out n).Follows (d.decision n) ((d.decideOut n).out n) := by
  rw [Dev.decideOut, Dev.out_onOut listed]
  exact { Output.follow_follows (d.decision n) d.frame (d.out n) with }

end Sys2Proof.Machine
end

section
/-! Faults of an output that latch (Table SIO-5, R138, R139, R143, R153). -/
namespace Sys2Proof.Machine

theorem Faults.mem_raise_of_mem {k x : FaultKey} {f : Faults} (mem : x ∈ f.active) : x ∈ (f.raise k).active := by
  unfold Faults.raise
  split
  · exact mem
  · exact List.mem_cons_of_mem k mem

/-- Raising a fault clears no other. -/
theorem Dev.raise_keeps_fault {d : Dev} {code obj : Nat} {kind : Kind} {h : Half} (active : d.hasFault code kind obj h = true)
    (code' obj' : Nat) (kind' : Kind) (h' : Half) (p : Nat) : (d.raise code' kind' obj' h' p).hasFault code kind obj h = true := by
  rw [Dev.hasFault, List.any_eq_true] at active ⊢
  obtain ⟨k, mem, same⟩ := active
  exact ⟨k, Faults.mem_raise_of_mem mem, same⟩

theorem Output.toFault_of_other {o : Output} (other : o.state ≠ .fault) (code : Nat) (frame : Word) : o.toFault code frame
    = { o with state := .fault, first := code, reqHi := false, reqLo := false, decided := false, pendingMark := false
               gateFrame := frame + 1, standAt := none } := if_neg other

/-- Output `n` is in FAULT with `code` active; where it was in no fault before, it is decided off and `code` is its first. -/
structure Dev.LatchesOut (n code : Nat) (d e : Dev) : Prop where
  raised : e.hasFault code .output n (d.halfOfOut n) = true
  state : (e.out n).state = .fault
  first : (d.out n).state ≠ .fault → (e.out n).first = code ∧ (e.out n).reqHi = false ∧ (e.out n).reqLo = false ∧ (e.out n).decided = false
  frame : e = { d with outputs := e.outputs, faults := e.faults }

theorem Dev.outFault_latches {n : Nat} {d : Dev} (listed : n < d.outputs.length) (code partner : Nat) :
    d.LatchesOut n code (d.outFault n code partner) := by
  have out : (d.outFault n code partner).out n
      = { (d.out n).toFault code d.frame with partner := if code = 0x55 then some partner else (d.out n).partner } := Dev.out_onOut listed
  refine ⟨Dev.hasFault_raise code .output n d _ partner, ?_, fun other => ?_, rfl⟩
  · rw [out]
    exact Output.toFault_state code d.frame (d.out n)
  · rw [out, Output.toFault_of_other other]
    exact ⟨rfl, rfl, rfl, rfl⟩

theorem Dev.LatchesOut.then_other {n code x : Nat} {d e : Dev} (latched : d.LatchesOut n code e) (other : x ≠ n) (code' partner : Nat) :
    d.LatchesOut n code (e.outFault x code' partner) := by
  have out : (e.outFault x code' partner).out n = e.out n := Dev.out_onOut_ne other.symm _
  exact {
    raised := Dev.raise_keeps_fault latched.raised ..
    state := by rw [out, latched.state]
    first := by rw [out]; exact latched.first
    frame := by rw [Dev.outFault, latched.frame]; rfl }

/-- The outcome of a command whose output latches a fault. -/
theorem latches_of {c : Instr} {s : State} {f : Dev → Dev} {n code : Nat} (outcome : exec c s = .next (s.lift f))
    (latched : s.dev.LatchesOut n code (f s.dev)) : ∃ t, exec c s = .next t
      ∧ t.dev.hasFault code .output n (s.dev.halfOfOut n) = true ∧ (t.dev.out n).state = .fault
      ∧ ((s.dev.out n).state ≠ .fault → (t.dev.out n).first = code ∧ (t.dev.out n).reqHi = false ∧ (t.dev.out n).reqLo = false ∧ (t.dev.out n).decided = false)
      ∧ t = { s with dev := { s.dev with outputs := t.dev.outputs, faults := t.dev.faults } } :=
  ⟨s.lift f, outcome, latched.raised, latched.state, latched.first, congrArg (fun d => { s with dev := d }) latched.frame⟩

/-- The level an output needs has held before: ON, or an on level reached while EDM is awaited (log 118). -/
def Output.HoldsOn (o : Output) : Prop := o.state = .on ∨ ((o.state = .onWait ∨ o.state = .adopt) ∧ o.levelOk = true)

theorem Output.holdsOn_iff (o : Output) :
    (decide (o.state = .on) || ((decide (o.state = .onWait) || decide (o.state = .adopt)) && o.levelOk)) = true ↔ o.HoldsOn := by
  simp [Output.HoldsOn]

theorem Output.HoldsOn.notOff {o : Output} (holds : o.HoldsOn) : o.state ≠ .off := by
  rintro off
  simp [Output.HoldsOn, off] at holds

def Output.Waits (o : Output) : Prop := o.state = .onWait ∨ o.state = .adopt ∨ o.state = .offWait

theorem Output.Waits.notOff {o : Output} (waits : o.Waits) : o.state ≠ .off := by
  rintro off
  simp [Output.Waits, off] at waits

theorem longerThan_iff (us t : Nat) (was : Option Nat) : longerThan us t was = true ↔ ∃ f, was = some f ∧ f + us * 96 < t := by
  cases was <;> simp [longerThan]

/-- An off-pulse of another output of the half runs (R153). -/
def Dev.Pulsing (n : Nat) (d : Dev) : Prop :=
  ∃ x ∈ d.outputs, x.id ≠ n ∧ d.halfOfOut x.id = d.halfOfOut n ∧ x.pulse.isSome = true

/-- R153: what the loss of the level raises. -/
def Dev.loseLevel (n : Nat) (d : Dev) : Dev :=
  match d.outputs.find? fun x => x.id ≠ n && decide (d.halfOfOut x.id = d.halfOfOut n) && x.pulse.isSome with
  | some x => (d.outFault n 0x55 x.id).outFault x.id 0x55 n
  | none => d.outFault n 0x52

theorem Dev.loseLevel_latches_alone {n : Nat} {d : Dev} (listed : n < d.outputs.length) (alone : ¬ d.Pulsing n) :
    d.LatchesOut n 0x52 (d.loseLevel n) := by
  unfold Dev.loseLevel
  split
  next x found =>
    have pulsing := List.find?_some found
    simp only [Bool.and_eq_true, decide_eq_true_eq] at pulsing
    obtain ⟨⟨other, half⟩, pulse⟩ := pulsing
    exact absurd ⟨x, List.mem_of_find?_eq_some found, other, half, pulse⟩ alone
  next => exact Dev.outFault_latches listed ..

theorem Dev.loseLevel_latches_within {n : Nat} {d : Dev} (listed : n < d.outputs.length) (pulsing : d.Pulsing n) :
    d.LatchesOut n 0x55 (d.loseLevel n) := by
  unfold Dev.loseLevel
  split
  next x found =>
    have pulsing := List.find?_some found
    simp only [Bool.and_eq_true, decide_eq_true_eq] at pulsing
    obtain ⟨⟨other, -⟩, -⟩ := pulsing
    exact (Dev.outFault_latches listed ..).then_other other ..
  next none =>
    obtain ⟨x, mem, other, half, pulse⟩ := pulsing
    exact absurd (List.find?_eq_none.mp none x mem) (by simp [other, half, pulse])

section
variable {s : State} {n : Fin 8} (runs : s.Runs (s.dev.halfOfOut n)) (claims : s.dev.observes = false)
include runs claims

theorem exec_outputLevelTimeout (waits : (s.dev.out n).Waits) : exec (.outputLevelTimeout n) s = if (s.dev.out n).levelOk = false ∧ 4 ≤ s.dev.gateAge (s.dev.out n)
    then .next (s.lift fun d => d.outFault n (if (s.dev.out n).state = .offWait then 0x53 else 0x52)) else .next s := by
  rw [← State.lift_ite]
  refine exec_runs_as rfl runs ?_
  rcases waits with state | state | state <;> simp [state, claims]

theorem exec_outputLevelLost {cyc : Nat} (holds : (s.dev.out n).HoldsOn) (still : (s.dev.out n).pulse = none)
    (lost : longerThan 100 (s.dev.stamp cyc) (s.dev.out n).leftAt = true) :
    exec (.outputLevelLost n cyc) s = .next (s.lift (Dev.loseLevel n)) := by
  refine exec_runs_as rfl runs (if_neg ?_)
  simp only [(Output.holdsOn_iff _).mpr holds, claims, still, lost]
  decide

omit claims in
theorem exec_outputLevelLost_idle {cyc : Nat} (idle : ¬ (s.dev.out n).HoldsOn ∨ (s.dev.out n).pulse ≠ none
    ∨ ¬ longerThan 100 (s.dev.stamp cyc) (s.dev.out n).leftAt = true) : exec (.outputLevelLost n cyc) s = .next s := by
  refine exec_runs_idle rfl runs (if_pos ?_)
  rcases idle with loose | pulses | early
  · simp only [Bool.eq_false_iff.mpr (mt (Output.holdsOn_iff _).mp loose)]
    simp
  · simp [Option.isSome_iff_ne_none.mpr pulses]
  · simp [early]

theorem exec_outputOffNodeTimeout {cyc : Nat} (defd : (s.dev.out n).defd = true) (off : (s.dev.out n).state = .off ∨ (s.dev.out n).state = .fault) :
    exec (.outputOffNodeTimeout n cyc) s = if longerThan 2000 (s.dev.stamp cyc + 1) (s.dev.out n).highAt = true ∧ 4 ≤ s.dev.gateAge (s.dev.out n)
      then .next (s.lift fun d => d.outFault n 0x54) else .next s := by
  rw [← State.lift_ite]
  refine exec_runs_as rfl runs ?_
  simp [claims, defd, off]

theorem exec_edmTimeout (defd : (s.dev.out n).defd = true) :
    exec (.edmTimeout n) s = if s.dev.edmLate (s.dev.out n) = true then .next (s.lift fun d => d.outFault n 0x56) else .next s := by
  rw [← State.lift_ite]
  refine exec_runs_as rfl runs ?_
  simp [claims, defd]

end

end Sys2Proof.Machine
end

section
/-! The classes of an output's nodes as they are seen (R136, R138). -/
namespace Sys2Proof.Machine

/-- The outcome of a command that changes one listed output. -/
theorem output_change {c : Instr} {s : State} {n : Nat} {f : Output → Output} (outcome : exec c s = .next (s.lift (Dev.onOut n f)))
    (listed : n < s.dev.outputs.length) : ∃ t, exec c s = .next t ∧ t.dev.out n = f (s.dev.out n)
      ∧ OnlyAt n s.dev.outputs t.dev.outputs ∧ t = { s with dev := { s.dev with outputs := t.dev.outputs } } :=
  ⟨s.lift (Dev.onOut n f), outcome, Dev.out_onOut listed, Dev.onOut_onlyAt n f s.dev, rfl⟩

theorem Output.waitLevel_iff (hi lo : NodeClass) (o : Output) : o.waitLevel hi lo = true
    ↔ ((o.state = .onWait ∨ o.state = .adopt) ∧ hi = .high ∧ lo = .low) ∨ (o.state = .offWait ∧ hi = .low ∧ lo = .low) := by
  cases state : o.state <;> simp [Output.waitLevel, state, onLevel, offLevel]

/-- One node of an output shows class `cls` at stamp `t` of frame `frame`. -/
def Output.classChange (high : Bool) (cls : NodeClass) (t : Nat) (frame : Word) (o : Output) : Output :=
  let o := (if high then { o with hiCls := cls } else { o with loCls := cls }).classed t
  o.reach frame (o.waitLevel o.hiCls o.loCls)

theorem Output.classChange_eq (high : Bool) (cls : NodeClass) (t : Nat) (frame : Word) (o : Output) :
    let hi := if high then cls else o.hiCls
    let lo := if high then o.loCls else cls
    o.classChange high cls t frame = { o with
      hiCls := hi, loCls := lo, levelOk := o.levelOk || o.waitLevel hi lo
      levelFrame := if o.waitLevel hi lo && !o.levelOk then frame else o.levelFrame
      nonLow := o.nonLow || !offLevel hi lo, leftAt := notSince (onLevel hi lo || o.pulse.isSome) t o.leftAt
      highAt := notSince (offLevel hi lo) t o.highAt } := by
  cases high <;> rw [Output.classChange, Output.reach_eq] <;> rfl

theorem exec_outputNodeClassChange {s : State} (n : Fin 8) (high : Bool) (cls : NodeClass) (cyc : Nat) (out : s.dev.inReset = false) :
    exec (.outputNodeClassChange n high cls cyc) s
    = .next (s.lift (Dev.onOut n (Output.classChange high cls (s.dev.stamp cyc) s.dev.frame))) := up_next _ out

end Sys2Proof.Machine
end

section
/-! Off-pulses in their slots (R140, R153, R234). -/
namespace Sys2Proof.Machine

/-- Failed checks that the next frame's work takes up. -/
def Dev.handOn (faults : List (Nat × Nat × Nat)) (d : Dev) : Dev :=
  { d with capOpen := { d.capOpen with outFaults := d.capOpen.outFaults ++ faults } }

theorem Dev.handOn_nil (d : Dev) : d.handOn [] = d := by
  rw [Dev.handOn, List.append_nil]

theorem Dev.handOn_handOn (first next : List (Nat × Nat × Nat)) (d : Dev) : (d.handOn first).handOn next = d.handOn (first ++ next) := by
  simp only [Dev.handOn, List.append_assoc]

theorem Dev.pulseFail_observing {d : Dev} (observes : d.observes = true) (n code partner : Nat) : d.pulseFail n code partner = d := if_pos observes

theorem Dev.pulseFail_claiming {d : Dev} (claims : d.observes = false) (n code partner : Nat) :
    d.pulseFail n code partner = d.handOn [(n, code, partner)] := if_neg (by simp [claims])

/-- A check of the own nodes of output `n` at its off-pulse: one that is not `ok` is handed on (R140). -/
def Dev.checkPulse (n : Nat) (low ok : Bool) (d : Dev) : Dev := if ok then d else d.pulseFail n (pulseCode low) 0xFFFF

theorem Dev.checkPulse_eq (n : Nat) (low ok : Bool) (d : Dev) : d.checkPulse n low ok = { d with
    capOpen := { d.capOpen with outFaults := if ok = true ∨ d.observes = true then d.capOpen.outFaults
      else d.capOpen.outFaults ++ [(n, pulseCode low, 0xFFFF)] } } := by
  cases ok with
  | true => rfl
  | false =>
    cases observes : d.observes with
    | true => exact Dev.pulseFail_observing observes ..
    | false => exact Dev.pulseFail_claiming observes ..

/-- The checks at the pulse of output `n` and of the outputs that it moved (R153). -/
def Dev.foreignFails (n : Nat) (moved : List Nat) (d : Dev) : Dev :=
  moved.foldl (fun d y => (d.pulseFail n 0x55 y).pulseFail y 0x55 n) d

theorem Dev.foreignFails_claiming {d : Dev} (claims : d.observes = false) (n : Nat) (moved : List Nat) :
    d.foreignFails n moved = d.handOn (moved.flatMap fun y => [(n, 0x55, y), (y, 0x55, n)]) := by
  induction moved generalizing d with
  | nil => exact d.handOn_nil.symm
  | cons y moved ih =>
    have both : (d.pulseFail n 0x55 y).pulseFail y 0x55 n = d.handOn [(n, 0x55, y), (y, 0x55, n)] := by
      rw [Dev.pulseFail_claiming claims, Dev.pulseFail_claiming (d := d.handOn _) claims, Dev.handOn_handOn]
      rfl
    rw [List.flatMap_cons, ← Dev.handOn_handOn, ← both]
    refine ih ?_
    show ((d.pulseFail n 0x55 y).pulseFail y 0x55 n).observes = false
    rwa [both]

theorem Dev.mem_foreignFails {n y : Nat} {moved : List Nat} {d : Dev} (claims : d.observes = false) (mem : y ∈ moved) :
    (n, 0x55, y) ∈ (d.foreignFails n moved).capOpen.outFaults ∧ (y, 0x55, n) ∈ (d.foreignFails n moved).capOpen.outFaults := by
  rw [Dev.foreignFails_claiming claims]
  exact ⟨List.mem_append_right _ (List.mem_flatMap.mpr ⟨y, mem, List.mem_cons_self⟩),
    List.mem_append_right _ (List.mem_flatMap.mpr ⟨y, mem, List.mem_cons_of_mem _ List.mem_cons_self⟩)⟩

/-- No node of another output changed class. -/
theorem Dev.foreign_of_still {n : Nat} {before after : List (NodeClass × NodeClass)} (still : ∀ k, k ≠ n → before[k]? = after[k]?) (d : Dev) :
    d.foreign n before after = [] := by
  rw [Dev.foreign, List.map_eq_nil_iff, List.filter_eq_nil_iff]
  intro o _ moved
  simp only [Bool.and_eq_true, decide_eq_true_eq, and_assoc] at moved
  obtain ⟨other, -, -, -, -, -, -, changed⟩ := moved
  exact changed (still o.id other)

theorem Dev.mem_foreign {n : Nat} {before after : List (NodeClass × NodeClass)} {d : Dev} {y : Output} (mem : y ∈ d.outputs) (other : y.id ≠ n)
    (half : d.halfOfOut y.id = d.halfOfOut n) (defd : y.defd = true) (steady : y.state = .on ∨ y.state = .off ∨ y.state = .fault)
    (old : 4 ≤ d.gateAge y) (moved : before[y.id]? ≠ after[y.id]?) : y.id ∈ d.foreign n before after := by
  refine List.mem_map_of_mem (List.mem_filter.mpr ⟨mem, ?_⟩)
  rcases steady with state | state | state <;> simp [other, half, defd, state, old, moved]

/-- The slot of a side of output `n` is not skipped (R140, R234). -/
def Dev.InSlot (n : Nat) (low : Bool) (d : Dev) : Prop :=
  d.dpx.handover = false ∧ d.dpx.hold = false ∧ (d.out n).slotOn = true ∧ d.frame.toNat % 2000 = 250 * n + (if low then 125 else 0)

theorem Dev.inSlot_iff (n : Nat) (low : Bool) (d : Dev) :
    (d.mayPulse && (d.out n).slotOn && slotOf d.frame n low) = true ↔ d.InSlot n low := by
  simp [Dev.InSlot, Dev.mayPulse, slotOf, phase, and_assoc]

theorem Dev.InSlot.listed {n : Nat} {low : Bool} {d : Dev} (slot : d.InSlot n low) : n < d.outputs.length := by
  obtain ⟨-, -, slotOn, -⟩ := slot
  exact Dev.out_listed Output.slotOn (by simp [slotOn])

/-- The gates after a change of one output that keeps its number. -/
theorem Dev.driveGates_onOut_out {n : Nat} {d : Dev} {f : Output → Output} (listed : n < d.outputs.length) (id : (f (d.out n)).id = (d.out n).id) :
    (d.onOut n f).driveGates.out n = (f (d.out n)).drive (d.gateFree (d.halfOfOut (d.out n).id)) := by
  rw [Dev.driveGates_out ((Dev.onOut_length ..).symm ▸ listed), Dev.out_onOut listed, id]
  rfl

/-- The off-pulse of a side begins, its own checks passed or `failed` (R14, R140). -/
def Output.pulseStarted (low failed : Bool) (o : Output) : Output :=
  { o with pulse := some { low, framesLeft := framesTouched o.cfg.pulse - 1, failed } }

/-- The off-pulse of output `n` begins: one gate is off, and its own nodes are checked. -/
def Dev.startPulse (n : Nat) (low follows : Bool) (d : Dev) : Dev :=
  (d.onOut n (Output.pulseStarted low (!follows))).driveGates.checkPulse n low follows

theorem Dev.startPulse_eq (n : Nat) (low follows : Bool) (d : Dev) : d.startPulse n low follows = { d with
    outputs := (d.onOut n (Output.pulseStarted low (!follows))).driveGates.outputs
    capOpen := { d.capOpen with outFaults := if follows = true ∨ d.observes = true then d.capOpen.outFaults
      else d.capOpen.outFaults ++ [(n, pulseCode low, 0xFFFF)] } } := by
  rw [Dev.startPulse, Dev.checkPulse_eq]
  rfl

theorem Dev.startPulse_frame (n : Nat) (low follows : Bool) (d : Dev) : d.startPulse n low follows = { d with
    outputs := (d.startPulse n low follows).outputs
    capOpen := { d.capOpen with outFaults := (d.startPulse n low follows).capOpen.outFaults } } := by
  rw [Dev.startPulse_eq]

theorem Dev.startPulse_observes (n : Nat) (low follows : Bool) (d : Dev) : (d.startPulse n low follows).observes = d.observes := by
  rw [Dev.startPulse_eq]
  rfl

section
variable {n : Nat} {low follows : Bool} {d : Dev} (listed : n < d.outputs.length)
include listed

theorem Dev.startPulse_out : (d.startPulse n low follows).out n
    = ((d.out n).pulseStarted low (!follows)).drive (d.gateFree (d.halfOfOut (d.out n).id)) := by
  rw [Dev.startPulse_eq]
  exact Dev.driveGates_onOut_out listed (f := Output.pulseStarted low (!follows)) rfl

theorem Dev.startPulse_pulse : ((d.startPulse n low follows).out n).pulse
    = some { low, framesLeft := (515 + (d.out n).cfg.pulse) / 500 - 1, failed := !follows } := by
  have touched : framesTouched (d.out n).cfg.pulse = (515 + (d.out n).cfg.pulse) / 500 := by
    rw [framesTouched, Nat.add_right_comm]
  rw [Dev.startPulse_out listed, ← touched]
  rfl

theorem Dev.startPulse_gate : if low then ((d.startPulse n low follows).out n).gateLo = false else ((d.startPulse n low follows).out n).gateHi = false := by
  rw [Dev.startPulse_out listed]
  cases low with
  | true =>
    refine Bool.eq_false_iff.mpr fun driven => ?_
    obtain ⟨-, -, -, pulseless⟩ := (Output.drive_gateLo_iff ..).mp driven
    exact pulseless ⟨_, rfl, rfl⟩
  | false =>
    refine Bool.eq_false_iff.mpr fun driven => ?_
    obtain ⟨-, -, -, pulseless⟩ := (Output.drive_gateHi_iff ..).mp driven
    exact pulseless ⟨_, rfl, rfl⟩

end

/-- The off-pulse of output `n` is over, and its checks were `passed` or not (R140). -/
def Output.pulseEnded (low passed : Bool) (o : Output) : Output := { o with
  pulse := none
  pulsesHi := if passed && !low then satAdd 16 o.pulsesHi 1 else o.pulsesHi
  pulsesLo := if passed && low then satAdd 16 o.pulsesLo 1 else o.pulsesLo }

/-- A unit that merely observes shows SHADOW whether the pulse `passed` (R151). -/
def Dev.observePulse (n : Nat) (passed : Bool) (d : Dev) : Dev :=
  if d.observes then { d with dpx := { d.dpx with obs := d.dpx.obs ++ [(n, passed)] } } else d

theorem Dev.observePulse_eq (n : Nat) (passed : Bool) (d : Dev) : d.observePulse n passed = { d with
    dpx := { d.dpx with obs := if d.observes then d.dpx.obs ++ [(n, passed)] else d.dpx.obs } } := by
  unfold Dev.observePulse
  split <;> rfl

/-- The off-pulse of output `n` ends with its levels `good` at the last check. -/
def Dev.endPulse (n : Nat) (low good passed : Bool) (d : Dev) : Dev :=
  ((d.onOut n (Output.pulseEnded low passed)).driveGates.observePulse n passed).checkPulse n low (good || decide ((d.out n).state ≠ .on))

theorem Dev.endPulse_eq (n : Nat) (low good passed : Bool) (d : Dev) : d.endPulse n low good passed = { d with
    outputs := (d.onOut n (Output.pulseEnded low passed)).driveGates.outputs
    capOpen := { d.capOpen with outFaults := if (good || decide ((d.out n).state ≠ .on)) = true ∨ d.observes = true then d.capOpen.outFaults
      else d.capOpen.outFaults ++ [(n, pulseCode low, 0xFFFF)] }
    dpx := { d.dpx with obs := if d.observes then d.dpx.obs ++ [(n, passed)] else d.dpx.obs } } := by
  rw [Dev.endPulse, Dev.checkPulse_eq, Dev.observePulse_eq]
  rfl

theorem Dev.endPulse_frame (n : Nat) (low good passed : Bool) (d : Dev) : d.endPulse n low good passed = { d with
    outputs := (d.endPulse n low good passed).outputs
    capOpen := { d.capOpen with outFaults := (d.endPulse n low good passed).capOpen.outFaults }
    dpx := { d.dpx with obs := (d.endPulse n low good passed).dpx.obs } } := by
  rw [Dev.endPulse_eq]

theorem Dev.endPulse_out {n : Nat} {d : Dev} (listed : n < d.outputs.length) (low good passed : Bool) :
    (d.endPulse n low good passed).out n = ((d.out n).pulseEnded low passed).drive (d.gateFree (d.halfOfOut (d.out n).id)) := by
  rw [Dev.endPulse_eq]
  exact Dev.driveGates_onOut_out listed (f := Output.pulseEnded low passed) rfl

section
variable {s : State} {n : Fin 8} (runs : s.Runs (s.dev.halfOfOut n)) {low : Bool}
include runs

theorem exec_offPulseStart_skipped (skipped : ¬ s.dev.InSlot n low) (before after : List (NodeClass × NodeClass)) (stayed : Bool) :
    exec (.offPulseStart n low before after stayed) s = .next s := by
  refine exec_runs_idle rfl runs (if_pos ?_)
  rw [Bool.not_eq_true', Bool.eq_false_iff]
  exact mt (Dev.inSlot_iff ..).mp skipped

theorem exec_offPulseStart (slot : s.dev.InSlot n low) {before after : List (NodeClass × NodeClass)} {stayed follows : Bool}
    (own : follows = ((if low then decide ((after.getD n (.mid, .mid)).2 = .high) else decide ((after.getD n (.mid, .mid)).1 = .low)) && stayed)) :
    exec (.offPulseStart n low before after stayed) s
    = .next (s.lift fun d => (d.startPulse n low follows).foreignFails n (d.foreign n before after)) := by
  refine exec_runs_as rfl runs ?_
  refine (if_neg ?_).trans ?_
  · rw [Bool.not_eq_true', Bool.not_eq_false]
    exact (Dev.inSlot_iff ..).mpr slot
  · rw [own]
    rfl

theorem exec_offPulseEnd {p : Pulse} (pulse : (s.dev.out n).pulse = some p) (side : p.low = low) (stayed : Bool) (hi lo : NodeClass) :
    exec (.offPulseEnd n low stayed hi lo) s
    = .next (s.lift (Dev.endPulse n low (stayed && onLevel hi lo) (stayed && onLevel hi lo && !p.failed))) := by
  refine exec_runs_as rfl runs ?_
  simp only [pulse]
  exact if_neg fun differs => differs side

theorem exec_offPulseEnd_idle (still : (s.dev.out n).pulse = none) (stayed : Bool) (hi lo : NodeClass) :
    exec (.offPulseEnd n low stayed hi lo) s = .next s := by
  refine exec_runs_idle rfl runs ?_
  simp only [still]

end

end Sys2Proof.Machine
end

section
/-! The proof interval (R144). -/
namespace Sys2Proof.Machine

/-- The interval of an output with contactor feedback. -/
theorem Output.proofFrames_of_feedback {o : Output} (feedback : o.cfg.mode ≠ .offpulse) : o.proofFrames = o.cfg.proof * 7200000 :=
  if_pos (by simp [OutputRec.edm, feedback])

/-- Of an output with feedback and an interval, the condition of either command of the interval is the one on the time. -/
theorem Output.proves_iff {o : Output} (defd : o.defd = true) (feedback : o.cfg.mode ≠ .offpulse) (proved : 0 < o.cfg.proof)
    (due : Prop) [Decidable due] : (o.defd && decide (o.proofFrames ≠ 0) && decide due) = true ↔ due := by
  have positive : o.proofFrames ≠ 0 := by
    rw [Output.proofFrames_of_feedback feedback]
    omega
  simp [defd, positive]

def Output.warned (o : Output) : Output := { o with proofDue := true }

/-- A forced proof cycle of output `n` begins (R144). -/
def Dev.forceProof (n : Nat) (d : Dev) : Dev := (d.onOut n fun o => o.toWait false d.frame).countProof (d.halfOfOut n)

theorem Dev.forceProof_frame (n : Nat) (d : Dev) : d.forceProof n = { d with
    outputs := (d.onOut n fun o => o.toWait false d.frame).outputs
    proofCycles := if d.halfOfOut n = .a then min (d.proofCycles + 1) 65535 else d.proofCycles
    proofCyclesB := if d.halfOfOut n = .b then min (d.proofCyclesB + 1) 65535 else d.proofCyclesB } := by
  unfold Dev.forceProof
  cases d.halfOfOut n <;> rfl

section
variable {s : State} {n : Fin 8} (runs : s.Runs (s.dev.halfOfOut n)) (defd : (s.dev.out n).defd = true)
  (feedback : (s.dev.out n).cfg.mode ≠ .offpulse) (proved : 0 < (s.dev.out n).cfg.proof)
include runs defd feedback proved

theorem exec_proofDueWarning : exec (.proofDueWarning n) s
    = if 9 * ((s.dev.out n).cfg.proof * 7200000) ≤ 10 * since s.dev.frame (s.dev.out n).proofStart
      then .next (s.lift (Dev.onOut n Output.warned)) else .next s := by
  rw [← State.lift_ite, ← Output.proofFrames_of_feedback feedback]
  refine exec_runs_as rfl runs ?_
  exact ite_of_iff (Output.proves_iff defd feedback proved _)

theorem exec_proofIntervalExpiry_early (early : since s.dev.frame (s.dev.out n).proofStart < (s.dev.out n).cfg.proof * 7200000) :
    exec (.proofIntervalExpiry n) s = .next s := by
  rw [← Output.proofFrames_of_feedback feedback] at early
  refine exec_runs_idle rfl runs (if_pos ?_)
  rw [Bool.not_eq_true', Bool.eq_false_iff]
  exact mt (Output.proves_iff defd feedback proved _).mp (Nat.not_le.mpr early)

variable (expired : (s.dev.out n).cfg.proof * 7200000 ≤ since s.dev.frame (s.dev.out n).proofStart)
include expired

/-- The interval is over: WARN raises 0x57 once, FORCE begins a cycle of an output in ON. -/
theorem exec_proofIntervalExpiry : exec (.proofIntervalExpiry n) s = .next { s with
    dev := if (s.dev.out n).cfg.force = false then
      (if s.dev.hasFault 0x57 .output n (s.dev.halfOfOut n) = true then s.dev else s.dev.raiseOut n 0x57)
    else if (s.dev.out n).state = .on then s.dev.forceProof n else s.dev } := by
  rw [← Output.proofFrames_of_feedback feedback] at expired
  refine exec_runs_as rfl runs ?_
  refine (if_neg ?_).trans (ite_of_iff (iff_of_eq (Bool.not_eq_true' _)))
  rw [Bool.not_eq_true', Bool.not_eq_false]
  exact (Output.proves_iff defd feedback proved _).mpr expired

end

end Sys2Proof.Machine
end

section
/-! Safe inputs: the filtered level and the presses (R109, R147, R149). -/
namespace Sys2Proof.Machine

/-- The outcome of a command that changes one listed input. -/
theorem input_change {c : Instr} {s : State} {i : Nat} {f : Input → Input} (outcome : exec c s = .next { s with dev := s.dev.onInp i f })
    (listed : i < s.dev.inputs.length) : ∃ t, exec c s = .next t ∧ t.dev.inp i = f (s.dev.inp i)
      ∧ OnlyAt i s.dev.inputs t.dev.inputs ∧ t = { s with dev := { s.dev with inputs := t.dev.inputs } } :=
  ⟨_, outcome, Dev.inp_onInp listed, Dev.onInp_onlyAt i f s.dev, rfl⟩

theorem inSpan_iff (frame : Word) (k cyc : Nat) : inSpan frame k cyc = true ↔ frame.toNat % 8 = 2 * k ∧ 28800 ≤ cyc ∧ cyc ≤ 46080 := by
  simp [inSpan, pulseFrame, and_assoc]

section
variable {x : Input} (shown : x.raw = x.lvl)
include shown

/-- No span hides a change. -/
theorem Input.settleSpan_of_shown (t : Nat) : x.settleSpan t = x := if_neg (by simp [shown])

theorem Input.rawEdge_of_shown (on : Bool) (t : Nat) : x.rawEdge on t none
    = if x.lvl = on then x else { x with raw := on, lvl := on, rawSince := t } := by
  rw [Input.rawEdge, Input.settleSpan_of_shown shown]
  refine ite_congr rfl (fun same => ?_) (fun _ => rfl)
  rw [show on = x.raw from same.symm.trans shown.symm]

theorem Input.rawEdge_of_ignored (on : Bool) (t e : Nat) : x.rawEdge on t (some e) = { x with raw := on, spanEnd := e } := by
  rw [Input.rawEdge, Input.settleSpan_of_shown shown]

end

theorem exec_safeInputEdge {s : State} (i : Fin 20) (on : Bool) (cyc : Nat) (out : s.dev.inReset = false) : exec (.safeInputEdge i on cyc) s
    = .next { s with
        dev := s.dev.onInp i fun x =>
          x.rawEdge on (s.dev.stamp cyc) (if inSpan s.dev.frame x.cfg.src cyc then some (s.dev.stamp (480 * 96)) else none) } :=
  up_next _ out

/-- The filtered level follows the one that the filter sees (R147). -/
def Input.filtered (frame : Word) (x : Input) : Input := { x with
  filt := x.lvl, filtAt := x.rawSince, onFrame := if x.lvl then frame else x.onFrame, offFrame := if x.lvl then x.offFrame else frame }

theorem Input.filtered_on {x : Input} (on : x.lvl = true) (frame : Word) :
    x.filtered frame = { x with filt := true, filtAt := x.rawSince, onFrame := frame } := by
  simp [Input.filtered, on]

theorem Input.filtered_off {x : Input} (off : x.lvl = false) (frame : Word) :
    x.filtered frame = { x with filt := false, filtAt := x.rawSince, offFrame := frame } := by
  simp [Input.filtered, off]

/-- Input `x` with the press that begins, unless it is ignored; a fault or its enable input may break the press at once (R109, R110). -/
def Dev.beginPress (i : Nat) (x : Input) (d : Dev) : Input :=
  if x.ignored then x else { x with
    pressing := true, pressAt := x.filtAt, pressBad := if !d.faultFree i x.filtAt || !d.enabledSince x x.filtAt then some x.filtAt else none }

/-- What the uses of input `i` make of its new filtered level, as `x` holds it (R109, R149). -/
def Dev.useEdge (i : Nat) (x : Input) (d : Dev) : Dev :=
  if !x.cfg.use.presses || 12 ≤ i then
    let e := d.onInp i fun _ => x
    if x.filt then e else e.breakPresses i x.filtAt
  else if x.filt then d.onInp i fun _ => d.beginPress i x
  else if x.pressing then
    let e := d.onInp i fun _ => (x.endPress x.filtAt).1
    match (x.endPress x.filtAt).2 with
    | some q => { e with capOpen := { e.capOpen with inputs := e.capOpen.inputs ++ [q] } }
    | none => e
  else d.onInp i fun _ => x

section
variable {i : Nat} {d : Dev} (shown : (d.inp i).raw = (d.inp i).lvl)
include shown

theorem Dev.filteredEdge_idle (idle : (d.inp i).lvl = (d.inp i).filt ∨ d.stamp 48000 < (d.inp i).rawSince + 480000) : d.filteredEdge i = d := by
  rw [Dev.filteredEdge, Input.settleSpan_of_shown shown]
  exact if_pos (by simpa using idle)

theorem Dev.filteredEdge_due (changed : (d.inp i).lvl ≠ (d.inp i).filt) (stable : (d.inp i).rawSince + 480000 ≤ d.stamp 48000) :
    d.filteredEdge i = d.useEdge i ((d.inp i).filtered d.frame) := by
  rw [Dev.filteredEdge, Input.settleSpan_of_shown shown]
  refine (if_neg ?_).trans rfl
  simpa [changed] using stable

end

/-- Input `x` as its filtered level goes ON: a press begins where presses count (R149). -/
def Dev.pressed (i : Nat) (x : Input) (d : Dev) : Input := if !x.cfg.use.presses || 12 ≤ i then x else d.beginPress i x

theorem Dev.useEdge_on {i : Nat} {x : Input} {d : Dev} (on : x.filt = true) : d.useEdge i x = d.onInp i fun _ => d.pressed i x := by
  unfold Dev.useEdge Dev.pressed
  by_cases unused : (!x.cfg.use.presses || decide (12 ≤ i)) = true
  · rw [if_pos unused, if_pos unused]
    exact if_pos on
  · rw [if_neg unused, if_neg unused]
    exact if_pos on

theorem Dev.pressed_of_status {i : Nat} {x : Input} (d : Dev) (status : x.cfg.use = .status) : d.pressed i x = x :=
  if_pos (by simp [status, InputUse.presses])

/-- A RESET input without enable and without a fault since the edge begins a press that nothing has broken. -/
theorem Dev.pressed_of_reset {i : Nat} {x : Input} {d : Dev} (reset : x.cfg.use = .reset) (safeInput : i < 12) (heeded : x.ignored = false)
    (free : x.cfg.enable = none) (faultless : d.faultFree i x.filtAt = true) :
    d.pressed i x = { x with pressing := true, pressAt := x.filtAt, pressBad := none } := by
  have enabled : d.enabledSince x x.filtAt = true := by simp [Dev.enabledSince, free]
  refine (if_neg (by simp [reset, InputUse.presses, safeInput])).trans ?_
  simp [Dev.beginPress, heeded, faultless, enabled]

theorem Dev.faultFree_of {i t : Nat} {d : Dev} (sound : d.inpFaulty i = false) (cleared : ∀ f, (d.inp i).faultEnd = some f → f < t) :
    d.faultFree i t = true := by
  unfold Dev.faultFree
  cases ended : (d.inp i).faultEnd with
  | none => simp [sound]
  | some f => simp [sound, cleared f ended]

/-- The end of a press that nothing broke, `ms` milliseconds long (R109). -/
def Input.released (ms : Nat) (x : Input) : Input := { x with
  pressing := false, lastPress := min 65535 ms
  result := if ms < 50 then 2 else if 3000 < ms then 3 else 1
  tooShort := if ms < 50 then min 255 (x.tooShort + 1) else x.tooShort
  tooLong := if 3000 < ms then min 255 (x.tooLong + 1) else x.tooLong
  accepted := if 50 ≤ ms ∧ ms ≤ 3000 then min 65535 (x.accepted + 1) else x.accepted }

theorem Input.endPress_of_unbroken {x : Input} (unbroken : x.pressBad = none) (reset : x.cfg.use = .reset) (t : Nat) : x.endPress t
    = (x.released ((t - x.pressAt) / 96000), if 50 ≤ (t - x.pressAt) / 96000 ∧ (t - x.pressAt) / 96000 ≤ 3000
        then some (.reset x.id x.cfg.sect x.cfg.direct) else none) := by
  unfold Input.endPress Input.released
  generalize (t - x.pressAt) / 96000 = ms
  rcases Nat.lt_or_ge ms 50 with short | enough
  · have notLong : ¬ 3000 < ms := by omega
    have notOk : ¬ (50 ≤ ms ∧ ms ≤ 3000) := by omega
    simp [short, notLong, notOk, satAdd, Nat.min_comm]
  · have notShort : ¬ ms < 50 := Nat.not_lt.mpr enough
    rcases Nat.lt_or_ge 3000 ms with long | fits
    · have notOk : ¬ (50 ≤ ms ∧ ms ≤ 3000) := by omega
      simp [notShort, long, notOk, satAdd, Nat.min_comm]
    · have notLong : ¬ 3000 < ms := Nat.not_lt.mpr fits
      simp [notShort, notLong, enough, fits, satAdd, Nat.min_comm, Input.spoilt, unbroken, Input.request, reset]

/-- The press of a RESET input ends unbroken: one of 50 to 3 000 ms is accepted and makes a reset request. -/
theorem Dev.useEdge_release {i : Nat} {x : Input} {d : Dev} (off : x.filt = false) (reset : x.cfg.use = .reset) (safeInput : i < 12)
    (pressing : x.pressing = true) (unbroken : x.pressBad = none) :
    let ms := (x.filtAt - x.pressAt) / 96000
    d.useEdge i x = { (d.onInp i fun _ => x.released ms) with
      capOpen := { d.capOpen with inputs := if 50 ≤ ms ∧ ms ≤ 3000 then d.capOpen.inputs ++ [.reset x.id x.cfg.sect x.cfg.direct] else d.capOpen.inputs } } := by
  intro ms
  unfold Dev.useEdge
  rw [if_neg (by simp [reset, InputUse.presses, safeInput]), if_neg (by simp [off]), if_pos pressing, Input.endPress_of_unbroken unbroken reset]
  by_cases ok : 50 ≤ ms ∧ ms ≤ 3000
  · rw [if_pos ok, if_pos ok]
    rfl
  · rw [if_neg ok, if_neg ok]
    rfl

theorem exec_inputFilteredEdge {s : State} {i : Fin 20} (runs : s.Runs (s.dev.halfOfInp i)) (defd : (s.dev.inp i).defd = true) :
    exec (.inputFilteredEdge i) s = .next { s with dev := s.dev.filteredEdge i } := by
  refine exec_runs_as rfl runs ?_
  exact if_pos defd

end Sys2Proof.Machine
end

section
/-! Test-pulse sources and their checks (R146, R148). -/
namespace Sys2Proof.Machine

/-- Source `k` runs, and the frame is one of its pulse frames. -/
def Dev.Pulses (k : Nat) (d : Dev) : Prop := d.tpsOn k = true ∧ d.frame.toNat % 8 = 2 * k

theorem Dev.pulses_iff (k : Nat) (d : Dev) : (d.tpsOn k && pulseFrame d.frame k) = true ↔ d.Pulses k := by
  simp [Dev.Pulses, pulseFrame]

theorem count3_take_true_cons (l : List Bool) : count3 ((true :: l).take 16) = true ↔ 2 ≤ (l.take 15).count true := by
  rw [count3, List.take_succ_cons, List.filter_cons_of_pos rfl, List.length_cons, decide_eq_true_eq, List.count, List.countP_eq_length_filter]
  exact Nat.succ_le_succ_iff

/-- The node of source `k` at its pulse is `good` or not; a third bad one in 16 is handed to the next frame's work. -/
def Dev.checkSource (k : Nat) (good : Bool) (d : Dev) : Dev :=
  let hist := ((!good) :: (d.src k).failHist).take 16
  let e := d.onSrc k fun t => { t with on := true, failHist := hist, cleanRun := if !good then 0 else t.cleanRun + 1 }
  if !good && count3 hist then
    { e with capOpen := { e.capOpen with hwFaults := e.capOpen.hwFaults ++ [{ code := 0x5A, kind := .tps, obj := k, half := e.halfOfSrc k }] } }
  else e

theorem Dev.checkSource_frame (k : Nat) (good : Bool) (d : Dev) : d.checkSource k good = { d with
    tps := (d.checkSource k good).tps, capOpen := { d.capOpen with hwFaults := (d.checkSource k good).capOpen.hwFaults } } := by
  unfold Dev.checkSource
  dsimp only
  split <;> rfl

theorem Dev.checkSource_tps (k : Nat) (good : Bool) (d : Dev) : (d.checkSource k good).tps = d.tps.modify k fun x => { x with
    on := true, failHist := ((!good) :: (d.src k).failHist).take 16, cleanRun := if good then x.cleanRun + 1 else 0 } := by
  unfold Dev.checkSource
  dsimp only
  cases good with
  | true => rfl
  | false => split <;> rfl

theorem Dev.checkSource_good (k : Nat) (d : Dev) : (d.checkSource k true).capOpen = d.capOpen := rfl

theorem Dev.checkSource_third {k : Nat} {d : Dev} (twice : 2 ≤ ((d.src k).failHist.take 15).count true) :
    { code := 0x5A, kind := .tps, obj := k, half := d.halfOfSrc k } ∈ (d.checkSource k false).capOpen.hwFaults := by
  unfold Dev.checkSource
  dsimp only
  rw [if_pos (by rw [Bool.not_false, Bool.true_and]; exact (count3_take_true_cons _).mpr twice)]
  exact List.mem_append_right _ List.mem_cons_self

/-! ## The inputs at a pulse -/

theorem Dev.inp_onInp_ne {i j : Nat} (other : i ≠ j) (f : Input → Input) (d : Dev) : (d.onInp j f).inp i = d.inp i := by
  rw [Dev.inp, Dev.inp, List.getD_eq_getElem?_getD, List.getD_eq_getElem?_getD, Dev.onInp_onlyAt j f d i other]

section
variable {k : Nat} {x : Input}

theorem Input.pulseCheck_code {raw : Bool} {c : Nat × Nat} (mem : c ∈ (x.pulseCheck k raw).2) : c.1 = 0x58 ∨ c.1 = 0x59 := by
  unfold Input.pulseCheck at mem
  dsimp only at mem
  split at mem
  · dsimp only at mem
    split at mem <;> simp_all
  · dsimp only at mem
    split at mem <;> simp_all

/-- A third pulse in 16 that an ON input does not follow. -/
theorem Input.pulseCheck_miss (own : x.cfg.src = k) (on : x.filt = true) (twice : 2 ≤ (x.missHist.take 15).count true) :
    (0x58, 0xFFFF) ∈ (x.pulseCheck k true).2 := by
  have third := (count3_take_true_cons x.missHist).mpr twice
  rw [Input.pulseCheck, if_pos own]
  dsimp only
  rw [on, Bool.true_and, third]
  exact List.mem_cons_self

/-- A second pulse of another source running that an ON input follows. -/
theorem Input.pulseCheck_excess (other : x.cfg.src ≠ k) (on : x.filt = true) {n : Nat} (once : x.excRun.find? (·.1 == k) = some (k, n + 1)) :
    (0x59, k) ∈ (x.pulseCheck k false).2 := by
  rw [Input.pulseCheck, if_neg other]
  dsimp only
  rw [on, once]
  simp

end

/-- Checks of inputs alone: the inputs change, and no fault of a source is handed on. -/
structure Dev.ChecksInputs (d e : Dev) : Prop where
  frame : e = { d with inputs := e.inputs, capOpen := { d.capOpen with hwFaults := e.capOpen.hwFaults } }
  keeps : ∀ c ∈ d.capOpen.hwFaults, c ∈ e.capOpen.hwFaults
  adds : ∀ c ∈ e.capOpen.hwFaults, c.code = 0x5A → c ∈ d.capOpen.hwFaults

namespace Dev.ChecksInputs

theorem refl (d : Dev) : d.ChecksInputs d := ⟨rfl, fun _ mem => mem, fun _ mem _ => mem⟩

theorem trans {d e f : Dev} (first : d.ChecksInputs e) (next : e.ChecksInputs f) : d.ChecksInputs f where
  frame := by rw [next.frame, first.frame]
  keeps c mem := next.keeps c (first.keeps c mem)
  adds c mem code := first.adds c (next.adds c mem code) code

theorem halfOfInp {d e : Dev} (checks : d.ChecksInputs e) (i : Nat) : e.halfOfInp i = d.halfOfInp i := by
  rw [checks.frame]
  rfl

end Dev.ChecksInputs

/-- The checks of the inputs `is` at a pulse of source `k`, in turn. -/
def Dev.pulseInputs (k : Nat) (raw : BitVec 20) (is : List Nat) (d : Dev) : Dev := is.foldl (fun d i => d.pulseInput k raw i) d

section
variable (k : Nat) (raw : BitVec 20)

theorem Dev.pulseInput_checks (i : Nat) (d : Dev) : d.ChecksInputs (d.pulseInput k raw i) := by
  unfold Dev.pulseInput
  dsimp only
  split
  · exact .refl d
  · refine ⟨rfl, fun c mem => List.mem_append_left _ mem, fun c mem code => ?_⟩
    rcases List.mem_append.mp mem with before | added
    · exact before
    · obtain ⟨found, listed, rfl⟩ := List.mem_map.mp added
      rcases Input.pulseCheck_code listed with miss | excess
      · exact absurd (miss.symm.trans code) (by decide)
      · exact absurd (excess.symm.trans code) (by decide)

theorem Dev.pulseInputs_checks (is : List Nat) (d : Dev) : d.ChecksInputs (d.pulseInputs k raw is) := by
  induction is generalizing d with
  | nil => exact .refl d
  | cons i is ih => exact (Dev.pulseInput_checks k raw i d).trans (ih _)

theorem Dev.pulseInput_inp_ne {i j : Nat} (other : i ≠ j) (d : Dev) : (d.pulseInput k raw j).inp i = d.inp i := by
  unfold Dev.pulseInput
  dsimp only
  split
  · rfl
  · exact Dev.inp_onInp_ne other _ d

theorem Dev.pulseInputs_inp {i : Nat} {is : List Nat} (none : i ∉ is) (d : Dev) : (d.pulseInputs k raw is).inp i = d.inp i := by
  induction is generalizing d with
  | nil => rfl
  | cons j is ih =>
    rw [List.mem_cons, not_or] at none
    obtain ⟨other, rest⟩ := none
    exact (ih rest _).trans (Dev.pulseInput_inp_ne k raw other d)

/-- What the check of an input finds is handed on. -/
theorem Dev.pulseInput_hands {i : Nat} {d : Dev} (defd : (d.inp i).defd = true) {code partner : Nat}
    (found : (code, partner) ∈ ((d.inp i).pulseCheck k (raw.getLsbD i)).2) :
    { code, kind := .input, obj := i, half := d.halfOfInp i, partner } ∈ (d.pulseInput k raw i).capOpen.hwFaults := by
  unfold Dev.pulseInput
  dsimp only
  rw [if_neg (by simp [defd])]
  exact List.mem_append_right _ (List.mem_map.mpr ⟨_, found, rfl⟩)

/-- Every input is checked as it stood before the pulse. -/
theorem Dev.pulseInputs_hands {i : Nat} {is : List Nat} (mem : i ∈ is) {d : Dev} (defd : (d.inp i).defd = true) {code partner : Nat}
    (found : (code, partner) ∈ ((d.inp i).pulseCheck k (raw.getLsbD i)).2) :
    { code, kind := .input, obj := i, half := d.halfOfInp i, partner } ∈ (d.pulseInputs k raw is).capOpen.hwFaults := by
  obtain ⟨before, after, rfl, first⟩ := List.eq_append_cons_of_mem mem
  have same := Dev.pulseInputs_inp k raw first d
  have half := (Dev.pulseInputs_checks k raw before d).halfOfInp i
  have handed := Dev.pulseInput_hands k raw (d := d.pulseInputs k raw before) (by rwa [same]) (by rwa [same])
  rw [half] at handed
  rw [Dev.pulseInputs, List.foldl_append]
  exact (Dev.pulseInputs_checks k raw after _).keeps _ handed

end

/-- The end of a pulse of source `k`, `good` at its node, with the checks of the inputs `is`. -/
def Dev.endSourcePulse (k : Nat) (good : Bool) (raw : BitVec 20) (is : List Nat) (d : Dev) : Dev := (d.checkSource k good).pulseInputs k raw is

section
variable (k : Nat) (good : Bool) (raw : BitVec 20) (is : List Nat) (d : Dev)

theorem Dev.endSourcePulse_checks : (d.checkSource k good).ChecksInputs (d.endSourcePulse k good raw is) :=
  Dev.pulseInputs_checks k raw is (d.checkSource k good)

theorem Dev.endSourcePulse_frame : d.endSourcePulse k good raw is = { d with
    tps := (d.endSourcePulse k good raw is).tps, inputs := (d.endSourcePulse k good raw is).inputs
    capOpen := { d.capOpen with hwFaults := (d.endSourcePulse k good raw is).capOpen.hwFaults } } := by
  rw [(Dev.endSourcePulse_checks k good raw is d).frame, Dev.checkSource_frame]

theorem Dev.endSourcePulse_tps : (d.endSourcePulse k good raw is).tps = (d.checkSource k good).tps := by
  rw [(Dev.endSourcePulse_checks k good raw is d).frame]

end

/-- What the check of a listed input finds at the end of a pulse. -/
theorem Dev.endSourcePulse_hands {k i : Nat} {good : Bool} {raw : BitVec 20} {is : List Nat} {d : Dev} (mem : i ∈ is)
    (defd : (d.inp i).defd = true) {code partner : Nat} (found : (code, partner) ∈ ((d.inp i).pulseCheck k (raw.getLsbD i)).2) :
    { code, kind := .input, obj := i, half := d.halfOfInp i, partner } ∈ (d.endSourcePulse k good raw is).capOpen.hwFaults := by
  have same : (d.checkSource k good).inp i = d.inp i := by
    rw [Dev.checkSource_frame]
    rfl
  have half : (d.checkSource k good).halfOfInp i = d.halfOfInp i := by
    rw [Dev.checkSource_frame]
    rfl
  rw [← half]
  exact Dev.pulseInputs_hands k raw mem (by rwa [same]) (by rwa [same])

section
variable {s : State} {k : Fin 4} (out : s.dev.inReset = false)
include out

theorem exec_tpsPulseStart (pulses : s.dev.Pulses k) : exec (.tpsPulseStart k) s
    = .next { s with dev := s.dev.onSrc k fun x => { x with on := false } } := by
  refine exec_up_as rfl out ?_
  exact if_pos ((Dev.pulses_iff ..).mpr pulses)

theorem exec_tpsPulseStart_idle (idle : ¬ s.dev.Pulses k) : exec (.tpsPulseStart k) s = .next s := by
  refine exec_idles rfl out ?_
  exact if_neg (mt (Dev.pulses_iff ..).mp idle)

theorem exec_tpsPulseEnd (pulses : s.dev.Pulses k) (high low : Bool) (raw : BitVec 20) : exec (.tpsPulseEnd k high low raw) s
    = .next { s with dev := s.dev.endSourcePulse k (high && low) raw (List.range 20) } := by
  refine exec_up_as rfl out ?_
  exact if_pos ((Dev.pulses_iff ..).mpr pulses)

theorem exec_tpsPulseEnd_idle (idle : ¬ s.dev.Pulses k) (high low : Bool) (raw : BitVec 20) : exec (.tpsPulseEnd k high low raw) s = .next s := by
  refine exec_idles rfl out ?_
  exact if_neg (mt (Dev.pulses_iff ..).mp idle)

end

/-! ## Recovery (R109) -/

/-- 0x5A of source `k` clears, and with it that fault of the inputs the source feeds. -/
def Dev.recoverSource (k : Nat) (d : Dev) : Dev :=
  { d.clearF 0x5A .tps k (d.halfOfSrc k) with inputs := mapIf (fun x => x.cfg.src == k) (Input.faultsEnd (d.stamp 0)) d.inputs }

theorem Dev.recoverSource_frame (k : Nat) (d : Dev) : d.recoverSource k = { d with
    faults := (d.recoverSource k).faults
    inputs := d.inputs.map fun x => if x.cfg.src = k then { x with faultEnd := some (d.dt.toNat * 96) } else x } := by
  have inputs : mapIf (fun x => x.cfg.src == k) (Input.faultsEnd (d.stamp 0)) d.inputs
      = d.inputs.map fun x => if x.cfg.src = k then { x with faultEnd := some (d.dt.toNat * 96) } else x :=
    List.map_congr_left fun x _ => ite_of_iff beq_iff_eq
  rw [← inputs]
  rfl

theorem Dev.recoverSource_clears (k : Nat) (d : Dev) : (d.recoverSource k).hasFault 0x5A .tps k (d.halfOfSrc k) = false :=
  Dev.hasFault_clearF 0x5A .tps k d (d.halfOfSrc k)

/-- 0x58 and 0x59 of input `i` clear. -/
def Dev.recoverInput (i : Nat) (d : Dev) : Dev :=
  ((d.clearF 0x58 .input i (d.halfOfInp i)).clearF 0x59 .input i (d.halfOfInp i)).onInp i (Input.faultsEnd (d.stamp 0))

theorem Dev.recoverInput_frame (i : Nat) (d : Dev) : d.recoverInput i = { d with
    faults := (d.recoverInput i).faults, inputs := d.inputs.modify i fun x => { x with faultEnd := some (d.dt.toNat * 96) } } := rfl

theorem Dev.recoverInput_clears (i : Nat) (d : Dev) : (d.recoverInput i).hasFault 0x58 .input i (d.halfOfInp i) = false
    ∧ (d.recoverInput i).hasFault 0x59 .input i (d.halfOfInp i) = false :=
  ⟨Dev.clearF_keeps_clear (Dev.hasFault_clearF 0x58 .input i d (d.halfOfInp i)) 0x59 i .input (d.halfOfInp i),
    Dev.hasFault_clearF 0x59 .input i (d.clearF 0x58 .input i (d.halfOfInp i)) (d.halfOfInp i)⟩

theorem exec_inputFaultRecovery_source {s : State} {i : Fin 20} (runs : s.Runs (s.dev.halfOfSrc i)) : exec (.inputFaultRecovery true i) s
    = if 16 ≤ (s.dev.src i).cleanRun then .next (s.lift (Dev.recoverSource i)) else .next s := by
  rw [← State.lift_ite]
  refine exec_runs_as rfl runs ?_
  rfl

theorem exec_inputFaultRecovery_input {s : State} {i : Fin 20} (runs : s.Runs (s.dev.halfOfInp i)) : exec (.inputFaultRecovery false i) s
    = if 16 ≤ (s.dev.inp i).cleanRun then .next (s.lift (Dev.recoverInput i)) else .next s := by
  rw [← State.lift_ite]
  refine exec_runs_as rfl runs ?_
  rfl

end Sys2Proof.Machine
end

section
/-! The obligations of 08, Safe outputs and inputs. -/
namespace Sys2Proof.Proofs
open Sys2Proof Sys2Proof.Machine

/-- Settles O30: no wait begins before the decision (`Dev.beforeDecision_prepares`), and the output follows it (`Output.follow_follows`). -/
theorem decidedOnlyWithEverySectionClear : Obligations.DecidedOnlyWithEverySectionClear := by
  unfold Obligations.DecidedOnlyWithEverySectionClear
  intro d n defd own
  have listed := Dev.out_listed_of_defd defd
  have prepares := Dev.beforeDecision_prepares listed
  have follows := Dev.decideOut_follows (prepares.length ▸ listed)
  rw [Dev.outFrame_of_defd defd]
  refine ⟨fun on => ?_, follows.fault, fun waits fresh => ?_, fun waits fresh => ?_, ?_⟩
  · have decided : d.decideOn ((d.beforeDecision n).out n) = true := by
      rw [← prepares.decideOn]
      exact (Bool.and_eq_true_iff.mp (follows.decided on)).left
    obtain ⟨named, clear, service, driving, faultless⟩ := Dev.clear_of_decideOn decided
    rw [prepares.id, own] at clear service driving
    rw [follows.cfg]
    exact ⟨named, clear, service, driving, mt follows.faulty.mp faultless⟩
  · exact follows.onWait waits (mt prepares.onWait fresh)
  · exact follows.offWait waits (mt prepares.offWait fresh)
  · rw [Dev.decideOut, prepares.frame]
    rfl

/-- Settles O31: each command either latches its code (`Dev.outFault_latches`) or changes nothing. -/
theorem outputFaultsLatch : Obligations.OutputFaultsLatch := by
  unfold Obligations.OutputFaultsLatch
  intro s n runs claims o age latches lost holds pulsing
  have latched {c : Instr} {f : Dev → Dev} {code : Nat} (outcome : exec c s = .next (s.lift f)) (latched : s.dev.LatchesOut n code (f s.dev)) :
      latches c code := latches_of outcome latched
  have lost_iff (was : Option Nat) (us cyc : Nat) : lost was us cyc ↔ longerThan us (s.dev.stamp cyc) was = true := (longerThan_iff ..).symm
  refine ⟨fun waits => ?_, fun cyc => ⟨fun holds still late alone => ?_, fun holds still late within => ?_, fun idle => ?_⟩,
    fun cyc defd off => ⟨fun late old => ?_, fun idle => ?_⟩, fun defd => ?_⟩
  · have listed := Dev.out_listed_of_state (Output.Waits.notOff waits)
    have outcome := exec_outputLevelTimeout runs claims waits
    rw [ite_iff_imp_and_imp]
    exact ⟨fun late => latched (outcome.trans (if_pos late)) (Dev.outFault_latches listed ..), fun early => outcome.trans (if_neg early)⟩
  · rw [lost_iff] at late
    exact latched (exec_outputLevelLost runs claims holds still late)
      (Dev.loseLevel_latches_alone (Dev.out_listed_of_state (Output.HoldsOn.notOff holds)) alone)
  · rw [lost_iff] at late
    exact latched (exec_outputLevelLost runs claims holds still late)
      (Dev.loseLevel_latches_within (Dev.out_listed_of_state (Output.HoldsOn.notOff holds)) within)
  · rw [lost_iff] at idle
    exact exec_outputLevelLost_idle runs idle
  · rw [lost_iff] at late
    exact latched ((exec_outputOffNodeTimeout runs claims defd off).trans (if_pos ⟨late, old⟩))
      (Dev.outFault_latches (Dev.out_listed_of_defd defd) ..)
  · rw [lost_iff] at idle
    refine (exec_outputOffNodeTimeout runs claims defd off).trans (if_neg ?_)
    rintro ⟨late, old⟩
    rcases idle with early | young
    · exact early late
    · exact Nat.not_lt.mpr old young
  · have outcome := exec_edmTimeout runs claims defd
    rw [ite_iff_imp_and_imp]
    exact ⟨fun late => latched (outcome.trans (if_pos late)) (Dev.outFault_latches (Dev.out_listed_of_defd defd) ..),
      fun early => outcome.trans (if_neg early)⟩

/-- Settles O32, by the one equation of a class change (`Output.classChange_eq`). -/
theorem nodeClassesAreTakenAsSeen : Obligations.NodeClassesAreTakenAsSeen := by
  unfold Obligations.NodeClassesAreTakenAsSeen
  intro s n high cls cyc out defd o hi lo t0 seen
  obtain ⟨t, run, changed, only, frame⟩ := output_change (exec_outputNodeClassChange n high cls cyc out) (Dev.out_listed_of_defd defd)
  have seen_iff : o.waitLevel hi lo = true ↔ seen := Output.waitLevel_iff hi lo o
  rw [Output.classChange_eq] at changed
  refine ⟨t, run, ?_, ?_, ?_, only, frame⟩
  · rw [changed]
    simp only [notSince, onLevel, offLevel, Bool.or_eq_true, Bool.and_eq_true, decide_eq_true_eq, Bool.decide_and]
    rfl
  · rw [changed, Bool.or_eq_true]
    exact or_congr_right seen_iff
  · rw [changed]
    refine ite_of_iff ?_
    rw [Bool.and_eq_true, Bool.not_eq_true', and_comm]
    exact and_congr_right' seen_iff

/-- Settles O33: out of the slot nothing happens; in it the pulse begins (`Dev.startPulse`), ends (`Dev.endPulse`) and is checked. -/
theorem offPulsesRunInTheirSlotsAndAreChecked : Obligations.OffPulsesRunInTheirSlotsAndAreChecked := by
  unfold Obligations.OffPulsesRunInTheirSlotsAndAreChecked
  intro s n low runs o slot code
  refine ⟨fun before after stayed => ⟨fun skipped => exec_offPulseStart_skipped runs skipped before after stayed,
    fun inSlot still => ?_, fun inSlot claims y mem other half defd steady old moved => ?_⟩,
    fun p stayed hi lo pulse side => ?_, fun still stayed hi lo => exec_offPulseEnd_idle runs still stayed hi lo⟩
  · intro follows
    have own : decide follows = ((if low then decide ((after.getD n (.mid, .mid)).2 = .high) else decide ((after.getD n (.mid, .mid)).1 = .low)) && stayed) := by
      cases low <;> simp [follows, Bool.and_comm]
    have listed := Dev.InSlot.listed inSlot
    have begins := exec_offPulseStart (before := before) runs inSlot own
    rw [State.lift, Dev.foreign_of_still still] at begins
    refine ⟨_, begins, Dev.startPulse_pulse listed, Dev.startPulse_gate listed, ?_, congrArg (fun d => { s with dev := d }) ?_⟩
    · refine (congrArg (fun d => d.capOpen.outFaults) (Dev.startPulse_eq n low (decide follows) s.dev)).trans ?_
      refine ite_of_iff ?_
      rw [decide_eq_true_iff]
    · exact Dev.startPulse_frame n low (decide follows) s.dev
  · have checked (follows : Bool) := (Dev.startPulse_observes n low follows s.dev).trans claims
    exact ⟨_, exec_offPulseStart runs inSlot rfl, Dev.mem_foreignFails (checked _) (Dev.mem_foreign mem other half defd steady old moved)⟩
  · intro good
    have listed := Dev.out_listed_of_pulse pulse
    have level : (stayed && onLevel hi lo) = true ↔ good := by simp [good, onLevel]
    have ended := Dev.endPulse_out listed low (stayed && onLevel hi lo) (stayed && onLevel hi lo && !p.failed)
    refine ⟨_, exec_offPulseEnd runs pulse side stayed hi lo, congrArg Output.pulse ended, ?_, ?_, ?_, congrArg (fun d => { s with dev := d }) ?_⟩
    · refine (congrArg Output.pulsesHi ended).trans (ite_of_iff ?_)
      rw [Bool.and_eq_true, Bool.and_eq_true, level, Bool.not_eq_true', Bool.not_eq_true', and_assoc]
    · refine (congrArg Output.pulsesLo ended).trans (ite_of_iff ?_)
      rw [Bool.and_eq_true, Bool.and_eq_true, level, Bool.not_eq_true', and_assoc]
    · refine (congrArg (fun d => d.capOpen.outFaults) (Dev.endPulse_eq n low _ _ s.dev)).trans ?_
      refine ite_of_iff ?_
      rw [Bool.or_eq_true, level, decide_eq_true_iff, or_assoc]
    · exact Dev.endPulse_frame n low _ _ s.dev

/-- Settles O34: the warning by its time, the expiry by the action of the output's record and by its state. -/
theorem proofIntervalWarnsAndActs : Obligations.ProofIntervalWarnsAndActs := by
  unfold Obligations.ProofIntervalWarnsAndActs
  intro s n runs defd feedback proved o ran full
  have listed := Dev.out_listed_of_defd defd
  have warning := exec_proofDueWarning runs defd feedback proved
  have expiry := exec_proofIntervalExpiry runs defd feedback proved
  refine ⟨?_, exec_proofIntervalExpiry_early runs defd feedback proved, fun expired warns => ?_, fun expired forces on => ?_, fun expired forces other => ?_⟩
  · rw [ite_iff_imp_and_imp]
    exact ⟨fun due => output_change (warning.trans (if_pos due)) listed, fun early => warning.trans (if_neg early)⟩
  · refine ⟨_, expiry expired, ?_⟩
    rw [if_pos warns]
    split
    next raised => exact ⟨raised, rfl⟩
    next => exact ⟨Dev.hasFault_raise 0x57 .output n s.dev _ 0xFFFF, rfl⟩
  · refine ⟨_, expiry expired, ?_⟩
    rw [if_neg (ne_false_of_eq_true forces), if_pos on, Dev.forceProof_frame]
    exact ⟨Dev.out_onOut listed, Dev.onOut_onlyAt n _ s.dev, rfl⟩
  · rw [expiry expired, if_neg (ne_false_of_eq_true forces), if_neg other]

/-- Settles O35: a raw edge by its span, a filtered edge by its level and what its use makes of it (`Dev.useEdge`). -/
theorem inputsFilterAndPressesCount : Obligations.InputsFilterAndPressesCount := by
  unfold Obligations.InputsFilterAndPressesCount
  intro s i runs defd shown x late
  have listed := Dev.inp_listed_of_defd defd
  have answer := exec_inputFilteredEdge runs defd
  refine ⟨fun on cyc => ?_, fun idle => ?_, fun on was stable => ?_, fun off was stable safeInput reset pressing unbroken => ?_⟩
  · intro ignored
    obtain ⟨t, run, edge, only, frame⟩ := input_change (exec_safeInputEdge i on cyc runs.left) listed
    refine ⟨t, run, edge.trans ?_, only, frame⟩
    have span : inSpan s.dev.frame x.cfg.src cyc = true ↔ ignored := inSpan_iff ..
    by_cases hidden : ignored
    · rw [if_pos hidden, if_pos (span.mpr hidden), Input.rawEdge_of_ignored shown]
      rfl
    · rw [if_neg hidden, if_neg (mt span.mp hidden), Input.rawEdge_of_shown shown]
      rfl
  · rw [answer, Dev.filteredEdge_idle shown idle]
  · intro y
    have changed : x.lvl ≠ x.filt := by rw [on, was]; decide
    rw [Dev.filteredEdge_due shown changed stable, Input.filtered_on on, Dev.useEdge_on rfl] at answer
    obtain ⟨t, run, edge, only, frame⟩ := input_change answer listed
    refine ⟨t, run, only, frame, fun status => ?_, fun reset safeInput free heeded sound cleared => ?_⟩
    · exact edge.trans (Dev.pressed_of_status s.dev status)
    · exact edge.trans (Dev.pressed_of_reset reset safeInput heeded free (Dev.faultFree_of sound cleared))
  · intro ms ok
    have changed : x.lvl ≠ x.filt := by rw [off, was]; decide
    have released := Dev.useEdge_release (d := s.dev) (x := x.filtered s.dev.frame) off reset safeInput pressing unbroken
    rw [Dev.filteredEdge_due shown changed stable, released] at answer
    refine ⟨_, answer, (Dev.inp_onInp listed).trans ?_, rfl, Dev.onInp_onlyAt i _ s.dev, rfl⟩
    rw [Input.filtered_off off]
    rfl

/-- Settles O37: the source and every input are checked in turn (`Dev.checkSource`, `Dev.pulseInputs`); a recovery by its clean run. -/
theorem testPulsesCheckSourcesAndInputs : Obligations.TestPulsesCheckSourcesAndInputs := by
  unfold Obligations.TestPulsesCheckSourcesAndInputs
  refine ⟨fun s k out => ?_, fun s i => ⟨fun runs => ?_, fun runs => ?_⟩⟩
  · intro now
    refine ⟨fun pulses => exec_tpsPulseStart out pulses,
      fun idle => ⟨exec_tpsPulseStart_idle out idle, fun high low raw => exec_tpsPulseEnd_idle out idle high low raw⟩, fun pulses high low raw => ?_⟩
    have answer := exec_tpsPulseEnd out pulses high low raw
    have covers (i : Nat) (small : i < 20) := List.mem_range.mpr small
    generalize List.range 20 = inputs at answer covers
    have checks := Dev.endSourcePulse_checks k (high && low) raw inputs s.dev
    refine ⟨_, answer, ?_, fun up down c mem code => ?_, fun bad twice => ?_, fun i small => ?_, ?_⟩
    · exact (Dev.endSourcePulse_tps ..).trans (Dev.checkSource_tps k (high && low) s.dev)
    · have before := checks.adds c mem code
      rwa [up, down, Bool.and_self, Dev.checkSource_good] at before
    · refine checks.keeps _ ?_
      rw [bad]
      exact Dev.checkSource_third twice
    · intro x defd on
      refine ⟨fun own level twice => Dev.endSourcePulse_hands (covers i small) defd ?_, fun other level once => ?_⟩
      · rw [level]
        exact Input.pulseCheck_miss own on twice
      · obtain ⟨n, once⟩ := once
        refine Dev.endSourcePulse_hands (covers i small) defd ?_
        rw [level]
        exact Input.pulseCheck_excess other on once
    · exact congrArg (fun d => { s with dev := d }) (Dev.endSourcePulse_frame k (high && low) raw inputs s.dev)
  · have outcome := exec_inputFaultRecovery_source runs
    rw [ite_iff_imp_and_imp]
    exact ⟨fun clean => ⟨_, outcome.trans (if_pos clean), Dev.recoverSource_clears i s.dev,
      congrArg (fun d => { s with dev := d }) (Dev.recoverSource_frame i s.dev)⟩, fun dirty => outcome.trans (if_neg dirty)⟩
  · have outcome := exec_inputFaultRecovery_input runs
    obtain ⟨miss, excess⟩ := Dev.recoverInput_clears i s.dev
    rw [ite_iff_imp_and_imp]
    exact ⟨fun clean => ⟨_, outcome.trans (if_pos clean), miss, excess,
      congrArg (fun d => { s with dev := d }) (Dev.recoverInput_frame i s.dev)⟩, fun dirty => outcome.trans (if_neg dirty)⟩

end Sys2Proof.Proofs
end

section
/-! The commands of the latency probe (R163, R166): what each answers with on a device without split mode. -/
namespace Sys2Proof.Machine

theorem Dev.probeTurn_of_whole {d : Dev} (whole : d.split = false) : d.probeTurn = d := if_neg (by simp [whole])

/-! ## PROBE_RUN_START (R163, R166) -/

theorem Dev.probeDue_of_interval {d : Dev} {p : Probe} (serves : d.inService p.half = true)
    (passed : d.probeInterval p.half ≤ since d.frame p.lastStart) : d.probeDue p = true := by
  simp [Dev.probeDue, Dev.ago, serves, passed]

theorem Dev.probeDue_of_early {d : Dev} {p : Probe} (early : since d.frame p.lastStart < d.probeInterval p.half)
    (sound : p.failRun = 0) (ran : p.k ≠ 0) : d.probeDue p = false := by
  simp [Dev.probeDue, Dev.ago, Nat.not_le.mpr early, sound, ran]

section
variable {s : State} (out : s.dev.inReset = false)
include out

/-- A run in progress or a faulty S32 keeps PROBE_RUN_START from acting. -/
theorem exec_probeRunStart_barred (barred : s.dev.probe.run.isSome = true ∨ s.dev.probeFaulty = true) : exec .probeRunStart s = .next s :=
  exec_idles rfl out (if_pos (by simpa using barred))

variable (whole : s.dev.split = false)
include whole

/-- No run in progress and S32 sound: `Dev.probeDue` decides whether the next run starts. -/
theorem exec_probeRunStart_free (idle : s.dev.probe.run = none) (sound : s.dev.probeFaulty = false) :
    exec .probeRunStart s = .next (s.lift fun d => if d.probeDue d.probe then d.startProbe else d) := by
  refine exec_up_as rfl out ?_
  simp [idle, sound, Dev.probeTurn_of_whole whole]

theorem exec_probeRunStart_due (idle : s.dev.probe.run = none) (sound : s.dev.probeFaulty = false)
    (due : s.dev.probeDue s.dev.probe = true) : exec .probeRunStart s = .next (s.lift Dev.startProbe) := by
  rw [exec_probeRunStart_free out whole idle sound, State.lift, if_pos due, State.lift]

theorem exec_probeRunStart_early (early : s.dev.probeDue s.dev.probe = false) : exec .probeRunStart s = .next s := by
  by_cases barred : s.dev.probe.run.isSome = true ∨ s.dev.probeFaulty = true
  · exact exec_probeRunStart_barred out barred
  · rw [not_or, Option.not_isSome_iff_eq_none, Bool.not_eq_true] at barred
    obtain ⟨idle, sound⟩ := barred
    rw [exec_probeRunStart_free out whole idle sound, State.lift, if_neg (by simp [early])]

end

/-! ## PROBE_RAMP_START (R163) -/

/-- The next ramp of run `r` rises or falls as `rising` says and starts at cycle `cyc` of the running frame. -/
def Dev.RampDue (d : Dev) (rising : Bool) (cyc : Nat) (r : ProbeRun) : Prop :=
  d.probe.ramps < 4 ∧ (rising = true ↔ d.probe.ramps % 2 = 0)
  ∧ d.stamp cyc = r.t0 + 96 * crossings.getD d.probe.ramps 0 - (if d.probe.ramps % 2 = 0 then 1311 else 1926)

theorem ProbeRun.rampAt_eq (n : Nat) (r : ProbeRun) :
    r.rampAt n = r.t0 + 96 * crossings.getD n 0 - (if n % 2 = 0 then 1311 else 1926) := by
  simp [ProbeRun.rampAt, rampLead]

/-- The guard of PROBE_RAMP_START. -/
theorem Dev.rampDue_iff (d : Dev) (rising : Bool) (cyc : Nat) (r : ProbeRun) :
    (d.probe.ramps < 4 && (rising == (d.probe.ramps % 2 == 0)) && d.stamp cyc == r.rampAt d.probe.ramps) = true ↔ d.RampDue rising cyc r := by
  rw [Bool.and_eq_true, Bool.and_eq_true, decide_eq_true_eq, beq_iff_eq, beq_iff_eq, Bool.eq_iff_iff, beq_iff_eq, ProbeRun.rampAt_eq,
    and_assoc, Dev.RampDue]

section
variable {s : State} {rising : Bool} {cyc : Nat} (runs : s.Runs s.dev.probe.half)
include runs

theorem exec_probeRampStart_due {r : ProbeRun} (going : s.dev.probe.run = some r) (due : s.dev.RampDue rising cyc r) :
    exec (.probeRampStart rising cyc) s = .next { s with dev := { s.dev with
      probe := { s.dev.probe with ramps := s.dev.probe.ramps + 1, rampStart := some (s.dev.stamp cyc) } } } := by
  refine exec_runs_as rfl runs ?_
  simp only [going]
  exact if_pos ((Dev.rampDue_iff s.dev rising cyc r).mpr due)

theorem exec_probeRampStart_idle (idle : ∀ r, s.dev.probe.run = some r → ¬ s.dev.RampDue rising cyc r) :
    exec (.probeRampStart rising cyc) s = .next s := by
  refine exec_runs_idle rfl runs ?_
  cases run : s.dev.probe.run with
  | none => rfl
  | some r => exact if_neg (mt (Dev.rampDue_iff s.dev rising cyc r).mp (idle r run))

end

/-! ## PROBE_STARVED (R166) -/

theorem Dev.starved_of_due {d : Dev} {p : Probe} (serves : d.inService p.half = true)
    (late : 3 * d.probeInterval p.half ≤ since d.frame p.lastPass) : d.starved p = d.safeOf 0xB8 p.half 0 :=
  if_pos (by simp [Dev.ago, serves, late])

theorem Dev.starved_idle {d : Dev} {p : Probe} (idle : d.inService p.half = false ∨ since d.frame p.lastPass < 3 * d.probeInterval p.half) :
    d.starved p = d :=
  if_neg (by
    rcases idle with out | early
    · simp [out]
    · simp [Dev.ago, Nat.not_le.mpr early])

theorem Dev.SameTime.split {d e : Dev} (same : d.SameTime e) : e.split = d.split := by
  obtain ⟨-, -, -, straps⟩ := same
  rw [Dev.split, Dev.split, straps]

theorem Dev.starved_sameTime (p : Probe) (d : Dev) : d.SameTime (d.starved p) := by
  unfold Dev.starved
  split
  · exact Dev.enterSafe_sameTime ..
  · exact .of_timebase rfl

/-- Without split mode PROBE_STARVED looks at the one probe alone. -/
theorem exec_probeStarved_of_whole {s : State} (out : s.dev.inReset = false) (whole : s.dev.split = false) :
    exec .probeStarved s = .next (s.lift fun d => d.starved d.probe) := by
  have still : (s.dev.starved s.dev.probe).split = false := (Dev.starved_sameTime _ _).split.trans whole
  exact exec_up_as rfl out (if_neg (by simp [still]))

end Sys2Proof.Machine
end

section
/-! The obligation of 09, Reaction time. -/
namespace Sys2Proof.Proofs
open Sys2Proof Sys2Proof.Machine

/-- Settles O38: a run and a ramp start where their guards say (`Dev.probeDue`, `Dev.RampDue`), and starvation is an entry. -/
theorem probeRunsStartOnTimeAndStarvationIsSafe : Obligations.ProbeRunsStartOnTimeAndStarvationIsSafe := by
  unfold Obligations.ProbeRunsStartOnTimeAndStarvationIsSafe
  intro s out whole
  refine ⟨fun barred => exec_probeRunStart_barred out barred, fun idle sound serves passed => ?_, fun _ early passes ran => ?_,
    fun rising cyc live => ⟨fun r going due => ?_, fun idle => ?_⟩, fun live serves late => ?_, fun idle => ?_⟩
  · exact exec_probeRunStart_due out whole idle sound (Dev.probeDue_of_interval serves passed)
  · exact exec_probeRunStart_early out whole (Dev.probeDue_of_early early passes ran)
  · exact exec_probeRampStart_due ⟨out, live⟩ going due
  · exact exec_probeRampStart_idle ⟨out, live⟩ idle
  · have enters := (Dev.starved_of_due serves late).trans (Dev.safeOf_of_whole whole 0xB8 _ 0)
    exact ⟨_, exec_probeStarved_of_whole out whole, State.lift_entersSafe enters live rfl rfl, rfl⟩
  · rw [exec_probeStarved_of_whole out whole, State.lift, Dev.starved_idle idle]

end Sys2Proof.Proofs
end

section
/-! The line node of a half (10, R178, R179): how a change of it reads back, what it leaves of the device, and when both of its
lines are suspended. -/
namespace Sys2Proof.Machine

/-! ## Reading back -/

@[simp] theorem Dev.line_onLine (h : Half) (f : LineNode → LineNode) (d : Dev) : (d.onLine h f).line h = f (d.line h) := by cases h <;> rfl
@[simp] theorem Dev.line_raise (code : Nat) (k : Kind) (obj : Nat) (d : Dev) (g : Half) (p : Nat) (h : Half) :
    (d.raise code k obj g p).line h = d.line h := by cases h <;> rfl
@[simp] theorem Dev.line_clearF (code : Nat) (k : Kind) (obj : Nat) (d : Dev) (g h : Half) : (d.clearF code k obj g).line h = d.line h := by
  cases h <;> rfl
@[simp] theorem Dev.onLine_faults (h : Half) (f : LineNode → LineNode) (d : Dev) : (d.onLine h f).faults = d.faults := by cases h <;> rfl

theorem Dev.hasFault_onLine (code : Nat) (k : Kind) (obj : Nat) (g h : Half) (f : LineNode → LineNode) (d : Dev) :
    (d.onLine h f).hasFault code k obj g = d.hasFault code k obj g := by rw [Dev.hasFault, Dev.onLine_faults, Dev.hasFault]

theorem Dev.node_onLine_ne {h g : Half} (other : g ≠ h) (f : LineNode → LineNode) (d : Dev) : (d.onLine h f).node g = d.node g :=
  Dev.node_onNode_ne other _ d

def Line.other : Line → Line
  | .a => .b
  | .b => .a

@[simp] theorem LineNode.phys_onPhys (x : Line) (f : LinePhys → LinePhys) (l : LineNode) : (l.onPhys x f).phys x = f (l.phys x) := by
  cases x <;> rfl
@[simp] theorem LineNode.phys_other_onPhys (x : Line) (f : LinePhys → LinePhys) (l : LineNode) :
    (l.onPhys x f).phys x.other = l.phys x.other := by cases x <;> rfl

theorem LineNode.bothSuspended_eq (x : Line) (l : LineNode) :
    l.bothSuspended = ((l.phys x).suspended && (l.phys x.other).suspended) := by
  cases x with
  | a => rfl
  | b => exact Bool.and_comm _ _

/-! ## What a change of the line node leaves -/

/-- The device without the line node of half `h`, the fault system and the count of free values. -/
def Dev.offLine (h : Half) (d : Dev) : Dev := { d with faults := {}, freeCtr := 0 }.onLine h fun _ => {}

@[simp] theorem Dev.onLine_offLine (h : Half) (f : LineNode → LineNode) (d : Dev) : (d.onLine h f).offLine h = d.offLine h := by
  cases h <;> rfl
@[simp] theorem Dev.raise_offLine (code : Nat) (k : Kind) (obj : Nat) (d : Dev) (g : Half) (p : Nat) (h : Half) :
    (d.raise code k obj g p).offLine h = d.offLine h := (rfl)
@[simp] theorem Dev.raiseLine_offLine (g : Half) (x : Line) (code : Nat) (d : Dev) (h : Half) :
    (d.raiseLine g x code).offLine h = d.offLine h := (rfl)
@[simp] theorem Dev.clearF_offLine (code : Nat) (k : Kind) (obj : Nat) (d : Dev) (g h : Half) :
    (d.clearF code k obj g).offLine h = d.offLine h := (rfl)
@[simp] theorem Dev.startJoin_offLine (h : Half) (reason : Nat) (d : Dev) : (d.startJoin h reason).offLine h = d.offLine h := by
  rw [Dev.startJoin, Dev.onLine_offLine, Dev.fresh]
  rfl
@[simp] theorem Dev.offLine_ite (h : Half) (c : Prop) [Decidable c] (a b : Dev) :
    (if c then a else b).offLine h = if c then a.offLine h else b.offLine h := apply_ite (Dev.offLine h) c a b

theorem Dev.node_of_offLine {d e : Dev} {h g : Half} (same : e.offLine h = d.offLine h) (other : g ≠ h) : e.node g = d.node g := by
  have read (d : Dev) : (d.offLine h).node g = d.node g :=
    (Dev.node_onLine_ne other _ _).trans (by cases g <;> rfl)
  rw [← read e, same, read d]

/-- Of the state at most the line node of half `h`, the faults and the count of free values differ. -/
def State.OnlyLine (h : Half) (s t : State) : Prop :=
  t = { s with dev := { s.dev with
    faults := t.dev.faults, freeCtr := t.dev.freeCtr
    nodeA := { s.dev.nodeA with line := t.dev.nodeA.line }, nodeB := { s.dev.nodeB with line := t.dev.nodeB.line } } }
  ∧ ∀ g, g ≠ h → t.dev.node g = s.dev.node g

theorem State.lift_onlyLine {h : Half} {f : Dev → Dev} {s : State} (same : (f s.dev).offLine h = s.dev.offLine h) :
    s.OnlyLine h (s.lift f) := by
  have rest := congrArg (fun d : Dev => { s with dev := { d with
    faults := (f s.dev).faults, freeCtr := (f s.dev).freeCtr
    nodeA := { d.nodeA with line := (f s.dev).nodeA.line }, nodeB := { d.nodeB with line := (f s.dev).nodeB.line } } }) same
  refine ⟨?_, fun g other => Dev.node_of_offLine same other⟩
  cases h <;> exact rest

/-! ## Both lines suspended: fault 0x66 (Table LIN-4, log 35) -/

section
variable (h : Half) (d : Dev)

@[simp] theorem Dev.checkUnusable_line : (d.checkUnusable h).line h = d.line h := by
  unfold Dev.checkUnusable
  split
  · exact Dev.line_raise ..
  · rfl

@[simp] theorem Dev.checkUnusable_offLine : (d.checkUnusable h).offLine h = d.offLine h := by
  simp only [Dev.checkUnusable, Dev.offLine_ite, Dev.raise_offLine, ite_self]

theorem Dev.checkUnusable_raises (unusable : (d.line h).bothSuspended = true) : (d.checkUnusable h).hasFault 0x66 .lineNode 0 h = true := by
  rw [Dev.checkUnusable]
  cases active : d.hasFault 0x66 .lineNode 0 h with
  | true => rw [if_neg (by simp), active]
  | false =>
    rw [if_pos (by simp [unusable])]
    exact Dev.hasFault_raise 0x66 .lineNode 0 d h 0xFFFF

theorem Dev.checkUnusable_keeps_fault {d : Dev} {h g : Half} {code obj : Nat} {k : Kind} (active : d.hasFault code k obj g = true) :
    (d.checkUnusable h).hasFault code k obj g = true := by
  unfold Dev.checkUnusable
  split
  · exact Dev.raise_keeps_fault active ..
  · exact active

theorem Dev.startJoin_phys (reason : Nat) (x : Line) : ((d.startJoin h reason).line h).phys x = (d.line h).phys x := by
  cases h <;> cases x <;> rfl

theorem Dev.startJoin_faults (reason : Nat) : (d.startJoin h reason).faults = d.faults := by cases h <;> rfl

@[simp] theorem Dev.usableAgain_phys (x : Line) : ((d.usableAgain h).line h).phys x = (d.line h).phys x := by
  unfold Dev.usableAgain
  split
  · rw [Dev.startJoin_phys, Dev.line_clearF]
  · rfl

@[simp] theorem Dev.usableAgain_offLine : (d.usableAgain h).offLine h = d.offLine h := by
  simp only [Dev.usableAgain, Dev.offLine_ite, Dev.startJoin_offLine, Dev.clearF_offLine, ite_self]

theorem Dev.usableAgain_clears (usable : (d.line h).bothSuspended = false) : (d.usableAgain h).hasFault 0x66 .lineNode 0 h = false := by
  rw [Dev.usableAgain]
  cases active : d.hasFault 0x66 .lineNode 0 h with
  | false => rw [if_neg (by simp), active]
  | true =>
    rw [if_pos (by simp [usable]), Dev.hasFault, Dev.startJoin_faults]
    exact Dev.hasFault_clearF 0x66 .lineNode 0 d h

end

end Sys2Proof.Machine
end

section
/-! SLOT_GATE_CLOSE, BIAS_CHECK, COMMON_MODE_FAULT and LINE_SUSPENSION_END (Table LIN-4, R178, R179). -/
namespace Sys2Proof.Machine

/-! ## SLOT_GATE_CLOSE -/

def LineNode.gatesClosed (t : Nat) (l : LineNode) : LineNode := { l with lineA := l.lineA.gateClose t, lineB := l.lineB.gateClose t }

theorem LineNode.gatesClosed_phys (t : Nat) (x : Line) (l : LineNode) : (l.gatesClosed t).phys x = (l.phys x).gateClose t := by
  cases x <;> rfl

/-- A closed gate drives nothing but a wake burst. -/
theorem LinePhys.gateClose_released {p : LinePhys} (noWake : ∀ y, p.drive = some y → y.wake = false) {t later : Nat} (past : t ≤ later) :
    (p.gateClose t).de later = false := by
  cases drive : p.drive with
  | none => simp [LinePhys.gateClose, LinePhys.de, drive]
  | some y =>
    simp only [LinePhys.gateClose, LinePhys.de, drive, Option.map_some, noWake y drive, Bool.false_eq_true, if_false,
      Bool.and_eq_false_iff, decide_eq_false_iff_not, Nat.not_lt]
    exact .inr ((Nat.min_le_right _ _).trans past)

theorem exec_slotGateClose {s : State} (out : s.dev.inReset = false) (h : Half) (cyc : Nat) :
    exec (.slotGateClose h cyc) s = .next (s.lift (Dev.onLine h (LineNode.gatesClosed (s.dev.stamp cyc)))) :=
  exec_up_as rfl out rfl

/-! ## BIAS_CHECK -/

def LinePhys.checkBias (high : Bool) (p : LinePhys) : LinePhys :=
  { p with biasFails := if high then 0 else p.biasFails + 1, biasGood := if high then p.biasGood + 1 else 0 }

theorem LinePhys.checkBias_biasFails (high : Bool) (p : LinePhys) :
    (p.checkBias high).biasFails = if high then 0 else p.biasFails + 1 := rfl

def Dev.countBias (h : Half) (x : Line) (high : Bool) (d : Dev) : Dev := d.onLine h (LineNode.onPhys x (LinePhys.checkBias high))

/-- What BIAS_CHECK does with a line node. -/
def Dev.checkBias (h : Half) (x : Line) (high : Bool) (d : Dev) : Dev :=
  if 4 ≤ (((d.countBias h x high).line h).phys x).biasFails && !(d.countBias h x high).lineFault h x 0x60
  then (d.countBias h x high).raiseLine h x 0x60 else d.countBias h x high

section
variable (h : Half) (x : Line) (high : Bool) (d : Dev)

theorem Dev.countBias_phys : ((d.countBias h x high).line h).phys x = ((d.line h).phys x).checkBias high := by
  rw [Dev.countBias, Dev.line_onLine, LineNode.phys_onPhys]

theorem Dev.checkBias_phys : ((d.checkBias h x high).line h).phys x = ((d.line h).phys x).checkBias high := by
  unfold Dev.checkBias
  split
  · rw [Dev.raiseLine, Dev.line_raise, Dev.countBias_phys]
  · exact Dev.countBias_phys h x high d

theorem Dev.checkBias_offLine : (d.checkBias h x high).offLine h = d.offLine h := by
  rw [Dev.checkBias, Dev.offLine_ite, Dev.raiseLine_offLine, ite_self, Dev.countBias, Dev.onLine_offLine]

/-- The fourth failure running has 0x60 active. -/
theorem Dev.checkBias_raises (fourth : 3 ≤ ((d.line h).phys x).biasFails) : (d.checkBias h x false).lineFault h x 0x60 = true := by
  have count : 4 ≤ (((d.countBias h x false).line h).phys x).biasFails := by
    rw [Dev.countBias_phys]
    exact Nat.succ_le_succ fourth
  rw [Dev.checkBias]
  cases active : (d.countBias h x false).lineFault h x 0x60 with
  | true => rw [if_neg (by simp), active]
  | false =>
    rw [if_pos (by simp [count])]
    exact Dev.hasFault_raise 0x60 .line x.num _ h 0xFFFF

theorem Dev.checkBias_quiet (few : high = true ∨ ((d.line h).phys x).biasFails < 3) : (d.checkBias h x high).faults = d.faults := by
  have count : ¬ 4 ≤ (((d.countBias h x high).line h).phys x).biasFails := by
    rw [Dev.countBias_phys, LinePhys.checkBias_biasFails]
    rcases few with rfl | fails
    · simp
    · split <;> omega
  rw [Dev.checkBias, if_neg (by simp [count]), Dev.countBias, Dev.onLine_faults]

end

theorem exec_biasCheck {s : State} {h : Half} (out : s.dev.inReset = false) (node : s.dev.hasLine h = true) (x : Line) (high : Bool) :
    exec (.biasCheck h x high) s = .next (s.lift (Dev.checkBias h x high)) :=
  exec_up_as rfl out (if_neg (by simp [node]))

/-! ## COMMON_MODE_FAULT -/

def LinePhys.suspend62 (frame : Word) (p : LinePhys) : LinePhys := { p with susp62 := true, suspFrame := frame }

theorem LinePhys.suspend62_suspended (frame : Word) (p : LinePhys) : (p.suspend62 frame).suspended = true := by
  simp [LinePhys.suspend62, LinePhys.suspended]

/-- Line `x` is suspended, with 0x62 active. -/
def Dev.suspend62 (h : Half) (x : Line) (d : Dev) : Dev :=
  (d.onLine h (LineNode.onPhys x (LinePhys.suspend62 d.frame))).raiseLine h x 0x62

/-- What COMMON_MODE_FAULT does with a line that is not suspended for 0x62. -/
def Dev.commonMode (h : Half) (x : Line) (d : Dev) : Dev := (d.suspend62 h x).checkUnusable h

section
variable (h : Half) (x : Line) (d : Dev)

theorem Dev.suspend62_line : (d.suspend62 h x).line h = (d.line h).onPhys x (LinePhys.suspend62 d.frame) := by
  rw [Dev.suspend62, Dev.raiseLine, Dev.line_raise, Dev.line_onLine]

theorem Dev.commonMode_phys : ((d.commonMode h x).line h).phys x = ((d.line h).phys x).suspend62 d.frame := by
  rw [Dev.commonMode, Dev.checkUnusable_line, Dev.suspend62_line, LineNode.phys_onPhys]

theorem Dev.commonMode_raises : (d.commonMode h x).lineFault h x 0x62 = true :=
  Dev.checkUnusable_keeps_fault (Dev.hasFault_raise 0x62 .line x.num _ h 0xFFFF)

theorem Dev.commonMode_unusable (other : ((d.line h).phys x.other).suspended = true) :
    (d.commonMode h x).hasFault 0x66 .lineNode 0 h = true := by
  refine Dev.checkUnusable_raises h _ ?_
  rw [Dev.suspend62_line, LineNode.bothSuspended_eq x, LineNode.phys_onPhys, LineNode.phys_other_onPhys, other,
    LinePhys.suspend62_suspended, Bool.and_self]

theorem Dev.commonMode_offLine : (d.commonMode h x).offLine h = d.offLine h := by
  rw [Dev.commonMode, Dev.checkUnusable_offLine, Dev.suspend62, Dev.raiseLine_offLine, Dev.onLine_offLine]

end

section
variable {s : State} {h : Half} {x : Line} (out : s.dev.inReset = false)
include out

theorem exec_commonModeFault (node : s.dev.hasLine h = true) (fresh : ((s.dev.line h).phys x).susp62 = false) :
    exec (.commonModeFault h x) s = .next (s.lift (Dev.commonMode h x)) :=
  exec_up_as rfl out (if_neg (by simp [node, fresh]))

theorem exec_commonModeFault_again (already : ((s.dev.line h).phys x).susp62 = true) : exec (.commonModeFault h x) s = .next s :=
  exec_idles rfl out (if_pos (by simp [already]))

end

/-! ## LINE_SUSPENSION_END -/

def LinePhys.endSuspension (p : LinePhys) : LinePhys := { p with suspCycles := 0 }

theorem LinePhys.endSuspension_suspended (p : LinePhys) : p.endSuspension.suspended = p.susp62 := by
  simp [LinePhys.endSuspension, LinePhys.suspended]

/-- What LINE_SUSPENSION_END does with a line whose last cycle is over. -/
def Dev.endSuspension (h : Half) (x : Line) (d : Dev) : Dev := (d.onLine h (LineNode.onPhys x LinePhys.endSuspension)).usableAgain h

section
variable (h : Half) (x : Line) (d : Dev)

theorem Dev.endSuspension_phys : ((d.endSuspension h x).line h).phys x = ((d.line h).phys x).endSuspension := by
  rw [Dev.endSuspension, Dev.usableAgain_phys, Dev.line_onLine, LineNode.phys_onPhys]

theorem Dev.endSuspension_clears (fresh : ((d.line h).phys x).susp62 = false) :
    (d.endSuspension h x).hasFault 0x66 .lineNode 0 h = false := by
  refine Dev.usableAgain_clears h _ ?_
  rw [Dev.line_onLine, LineNode.bothSuspended_eq x, LineNode.phys_onPhys, LinePhys.endSuspension_suspended, fresh, Bool.false_and]

theorem Dev.endSuspension_offLine : (d.endSuspension h x).offLine h = d.offLine h := by
  rw [Dev.endSuspension, Dev.usableAgain_offLine, Dev.onLine_offLine]

end

section
variable {s : State} {h : Half} {x : Line} (runs : s.Runs h)
include runs

theorem exec_lineSuspensionEnd_last (last : ((s.dev.line h).phys x).suspCycles = 1) :
    exec (.lineSuspensionEnd h x) s = .next (s.lift (Dev.endSuspension h x)) :=
  exec_runs_as (h := fun _ => h) rfl runs (if_pos last)

theorem exec_lineSuspensionEnd_early (early : ¬ ((s.dev.line h).phys x).suspCycles = 1) : exec (.lineSuspensionEnd h x) s = .next s :=
  exec_runs_idle (h := fun _ => h) rfl runs (if_neg early)

end

end Sys2Proof.Machine
end

section
/-! INVALID_COPY (R179, R188): when a copy is invalid, and what counting it leaves. -/
namespace Sys2Proof.Machine

theorem Copy.begun_of_reception {tb : Nat} {c : Copy} {r : List Byte × Nat} (received : c.reception tb = some r) : c.begun tb = true := by
  unfold Copy.reception at received
  cases main : c.main? tb with
  | none => simp [main] at received
  | some _ => simp [Copy.begun, main]

/-- A copy is invalid where a line in use began a telegram and none is read from it. -/
theorem Dev.readCopy_invalid_iff (d : Dev) (h : Half) (x : Line) (c : Copy) : d.readCopy h x (some c) = .invalid
    ↔ ((d.line h).phys x).suspended = false ∧ c.begun (bitCycles (d.lineRec h).rate) = true
      ∧ ∀ r, c.reception (bitCycles (d.lineRec h).rate) = some r → telegramIn (d.lineRec h).key (d.line h).cycle r.1 = none := by
  unfold Dev.readCopy
  cases suspended : ((d.line h).phys x).suspended with
  | true => simp
  | false =>
    cases received : c.reception (bitCycles (d.lineRec h).rate) with
    | none => simp [received]
    | some r =>
      cases read : telegramIn (d.lineRec h).key (d.line h).cycle r.1 <;> simp [received, read, Copy.begun_of_reception received]

def LinePhys.checkDecoders (agree : Bool) (p : LinePhys) : LinePhys :=
  { p with decHist := ((!agree) :: p.decHist).take 64, decGood := if agree then p.decGood + 1 else 0
           decDis := if agree then p.decDis else satAdd 16 p.decDis 1 }

def Dev.countDecoders (h : Half) (x : Line) (agree : Bool) (d : Dev) : Dev := d.onLine h (LineNode.onPhys x (LinePhys.checkDecoders agree))

section
variable (h : Half) (x : Line) (agree : Bool) (d : Dev)

/-- The agreement is counted, and a disagreement may raise 0x63. -/
theorem Dev.decoderCheck_cases : d.decoderCheck h x agree = d.countDecoders h x agree
    ∨ agree = false ∧ d.decoderCheck h x agree = (d.countDecoders h x agree).raiseLine h x 0x63 := by
  have check : d.decoderCheck h x agree =
      if !agree && 3 ≤ ((((d.countDecoders h x agree).line h).phys x).decHist.filter (· == true)).length
      then (d.countDecoders h x agree).raiseLine h x 0x63 else d.countDecoders h x agree := rfl
  rw [check]
  split
  next raises =>
    rw [Bool.and_eq_true, Bool.not_eq_true'] at raises
    exact .inr ⟨raises.left, rfl⟩
  next => exact .inl rfl

theorem Dev.countDecoders_line : (d.countDecoders h x agree).line h = (d.line h).onPhys x (LinePhys.checkDecoders agree) :=
  Dev.line_onLine h _ d

theorem Dev.decoderCheck_line : (d.decoderCheck h x agree).line h = (d.line h).onPhys x (LinePhys.checkDecoders agree) := by
  rcases Dev.decoderCheck_cases h x agree d with counted | ⟨-, raised⟩
  · rw [counted, Dev.countDecoders_line]
  · rw [raised, Dev.raiseLine, Dev.line_raise, Dev.countDecoders_line]

theorem Dev.decoderCheck_offLine : (d.decoderCheck h x agree).offLine h = d.offLine h := by
  rcases Dev.decoderCheck_cases h x agree d with counted | ⟨-, raised⟩
  · rw [counted, Dev.countDecoders, Dev.onLine_offLine]
  · rw [raised, Dev.raiseLine_offLine, Dev.countDecoders, Dev.onLine_offLine]

theorem Dev.decoderCheck_agreed : (d.decoderCheck h x true).faults = d.faults := by
  rcases Dev.decoderCheck_cases h x true d with counted | ⟨disagree, -⟩
  · rw [counted, Dev.countDecoders, Dev.onLine_faults]
  · exact Bool.noConfusion disagree

end

/-- An invalid copy on line `x` is counted, with the agreement of its decoders. -/
def Dev.countInvalid (h : Half) (x : Line) (agree : Bool) (d : Dev) : Dev :=
  (d.decoderCheck h x agree).onLine h (LineNode.onPhys x LinePhys.countInvalid)

section
variable (h : Half) (x : Line) (agree : Bool) (d : Dev)

theorem Dev.countInvalid_phys :
    ((d.countInvalid h x agree).line h).phys x = (((d.line h).phys x).checkDecoders agree).countInvalid := by
  rw [Dev.countInvalid, Dev.line_onLine, LineNode.phys_onPhys, Dev.decoderCheck_line, LineNode.phys_onPhys]

theorem Dev.countInvalid_offLine : (d.countInvalid h x agree).offLine h = d.offLine h := by
  rw [Dev.countInvalid, Dev.onLine_offLine, Dev.decoderCheck_offLine]

theorem Dev.countInvalid_agreed : (d.countInvalid h x true).faults = d.faults := by
  rw [Dev.countInvalid, Dev.onLine_faults, Dev.decoderCheck_agreed]

end

section
variable {s : State} {h : Half} {x : Line} {c : Copy} (out : s.dev.inReset = false)
include out

theorem exec_invalidCopy (node : s.dev.hasLine h = true) (invalid : s.dev.readCopy h x (some c) = .invalid) :
    exec (.invalidCopy h x c) s = .next (s.lift (Dev.countInvalid h x (c.agree (bitCycles (s.dev.lineRec h).rate)))) :=
  exec_up_as rfl out (if_pos ⟨node, invalid⟩)

theorem exec_invalidCopy_other (other : s.dev.readCopy h x (some c) ≠ .invalid) : exec (.invalidCopy h x c) s = .next s :=
  exec_idles rfl out (if_neg fun both => other both.right)

end

end Sys2Proof.Machine
end

section
/-! WAKE_DETECTED, WAKE_RETRY and REEF_QUIET_TIMEOUT (R183, R206, R208 to R210). -/
namespace Sys2Proof.Machine

/-- A change of one line node is all that differs. -/
theorem State.lift_onLine_frame (h : Half) (f : LineNode → LineNode) (s : State) : s.lift (Dev.onLine h f) = { s with dev := { s.dev with
    nodeA := { s.dev.nodeA with line := (s.dev.onLine h f).nodeA.line }, nodeB := { s.dev.nodeB with line := (s.dev.onLine h f).nodeB.line } } } := by
  cases h <;> rfl

/-! ## WAKE_DETECTED -/

def LineNode.ignoreWake (l : LineNode) : LineNode := { l with wakesIgnored := satAdd 16 l.wakesIgnored 1 }

/-- The master of a line in reef has taken a wake: its next BEACON is NORMAL, at `e0` (R208, R210). -/
def LineNode.takeWake (e0 : DTime) (l : LineNode) : LineNode := { l with wakeReq := false, wakePending := true, e0 := e0, e0Next := 0 }

theorem Dev.masterWake_reef {d : Dev} {h : Half} (reef : (d.line h).mode = .reef) (first : (d.line h).wakePending = false) (lead : Nat) :
    d.masterWake h lead = d.onLine h (LineNode.takeWake (d.dt + BitVec.ofNat 48 lead)) := by
  unfold Dev.masterWake
  rw [reef]
  exact if_neg (by simp [first])

theorem Dev.nextMode_of_wakePending {d : Dev} {h : Half} (pending : (d.line h).wakePending = true) : d.nextMode h = (.normal, 0) :=
  if_pos pending

/-- The guard of WAKE_DETECTED, where a wake has been seen. -/
theorem wakeDetected_taken {d : Dev} {h : Half} {onA onB : Bool} (node : d.hasLine h = true) (seen : onA = true ∨ onB = true) :
    ¬ (!d.hasLine h || !(onA || onB)) = true := by
  rcases seen with onA | onB
  · simp [node, onA]
  · simp [node, onB]

section
variable {s : State} {h : Half} {a b : List Nat} {cyc : Nat} (out : s.dev.inReset = false)
include out

theorem exec_wakeDetected_unseen (onA : wakeSeen (s.dev.stamp cyc) a = false) (onB : wakeSeen (s.dev.stamp cyc) b = false) :
    exec (.wakeDetected h a b cyc) s = .next s :=
  exec_idles rfl out (if_pos (by simp [onA, onB]))

variable (node : s.dev.hasLine h = true) (seen : wakeSeen (s.dev.stamp cyc) a = true ∨ wakeSeen (s.dev.stamp cyc) b = true)
include node seen

theorem exec_wakeDetected_outsideReef (outside : (s.dev.line h).inReef = false) :
    exec (.wakeDetected h a b cyc) s = .next (s.lift (Dev.onLine h LineNode.ignoreWake)) :=
  exec_up_as rfl out ((if_neg (wakeDetected_taken node seen)).trans (if_pos (by simp [outside])))

theorem exec_wakeDetected_inReef (inReef : (s.dev.line h).inReef = true) :
    exec (.wakeDetected h a b cyc) s = .next (s.lift fun d => if d.isMaster h then d.masterWake h 1500 else d) :=
  exec_up_as rfl out ((if_neg (wakeDetected_taken node seen)).trans (if_neg (by simp [inReef])))

theorem exec_wakeDetected_slave (inReef : (s.dev.line h).inReef = true) (slave : s.dev.isMaster h = false) :
    exec (.wakeDetected h a b cyc) s = .next s := by
  rw [exec_wakeDetected_inReef out node seen inReef, State.lift, if_neg (by simp [slave])]

theorem exec_wakeDetected_master (inReef : (s.dev.line h).inReef = true) (reef : (s.dev.line h).mode = .reef)
    (first : (s.dev.line h).wakePending = false) (master : s.dev.isMaster h = true) :
    exec (.wakeDetected h a b cyc) s = .next (s.lift (Dev.onLine h (LineNode.takeWake (s.dev.dt + 1500)))) := by
  rw [exec_wakeDetected_inReef out node seen inReef, State.lift, if_pos master, Dev.masterWake_reef reef first]
  rfl

end

/-! ## WAKE_RETRY -/

/-- The next burst of the course is due at `now` (R209). -/
def Dev.RetryDue (d : Dev) (h : Half) (now : Nat) : Prop :=
  (d.line h).inReef = true ∧ 1 ≤ (d.line h).wakeBursts ∧ (d.line h).wakeEnd + (30000 + 220 * d.lineAddress h) * 96 ≤ now

/-- One burst of a course from `t` on (R182). -/
def LineNode.burst (t : Nat) (l : LineNode) : LineNode :=
  { (l.driven { start := t, stop := t + wakeCycles, wave := wakeWave t, wake := true }) with
    wakeReq := false, wakeBursts := l.wakeBursts + 1, wakeEnd := t + wakeCycles, wakesSent := satAdd 16 l.wakesSent 1 }

/-- A fault that is raised unless it is active. -/
def Dev.raiseOnce (code : Nat) (k : Kind) (obj : Nat) (h : Half) (d : Dev) : Dev :=
  if d.hasFault code k obj h then d else d.raise code k obj h

section
variable (code : Nat) (k : Kind) (obj : Nat) (h : Half) (d : Dev)

theorem Dev.raiseOnce_active : (d.raiseOnce code k obj h).hasFault code k obj h = true := by
  unfold Dev.raiseOnce
  split
  next active => exact active
  next => exact Dev.hasFault_raise code k obj d h 0xFFFF

theorem Dev.raiseOnce_frame : d.raiseOnce code k obj h = { d with faults := (d.raiseOnce code k obj h).faults } := by
  unfold Dev.raiseOnce
  split <;> rfl

theorem Dev.raiseOnce_node (g : Half) : (d.raiseOnce code k obj h).node g = d.node g := by
  rw [Dev.raiseOnce_frame]
  cases g <;> rfl

end

/-- The course has ended without an answer (R209, log 122). -/
def Dev.endCourse (h : Half) (d : Dev) : Dev := (d.raiseOnce 0x6B .lineNode 0 h).onLine h fun l => { l with wakeBursts := 0 }

section
variable (h : Half) (d : Dev)

theorem Dev.endCourse_active : (d.endCourse h).hasFault 0x6B .lineNode 0 h = true := by
  rw [Dev.endCourse, Dev.hasFault_onLine, Dev.raiseOnce_active]

theorem Dev.endCourse_line : (d.endCourse h).line h = { d.line h with wakeBursts := 0 } := by
  rw [Dev.endCourse, Dev.line_onLine, Dev.line, Dev.raiseOnce_node]
  rfl

theorem Dev.endCourse_node_ne {g : Half} (other : g ≠ h) : (d.endCourse h).node g = d.node g := by
  rw [Dev.endCourse, Dev.node_onLine_ne other, Dev.raiseOnce_node]

theorem Dev.endCourse_frame : d.endCourse h = { d with
    faults := (d.endCourse h).faults
    nodeA := { d.nodeA with line := (d.endCourse h).nodeA.line }, nodeB := { d.nodeB with line := (d.endCourse h).nodeB.line } } := by
  rw [Dev.endCourse, Dev.raiseOnce_frame]
  cases h <;> rfl

end

section
variable {s : State} {h : Half} {cyc : Nat} (out : s.dev.inReset = false)
include out

theorem exec_wakeRetry_early (early : ¬ s.dev.RetryDue h (s.dev.stamp cyc)) : exec (.wakeRetry h cyc) s = .next s := by
  refine exec_idles rfl out (if_pos ?_)
  by_contra due
  refine early ?_
  simp only [Bool.or_eq_true, Bool.not_eq_true', decide_eq_true_eq, not_or, Bool.not_eq_false, Nat.not_lt] at due
  obtain ⟨⟨⟨-, inReef⟩, course⟩, past⟩ := due
  exact ⟨inReef, Nat.pos_of_ne_zero course, past⟩

variable (node : s.dev.hasLine h = true) (due : s.dev.RetryDue h (s.dev.stamp cyc))
include node due

theorem exec_wakeRetry_due : exec (.wakeRetry h cyc) s
    = .next (s.lift fun d => if (d.line h).wakeBursts < 8 then d.onLine h (LineNode.burst (d.stamp cyc)) else d.endCourse h) := by
  obtain ⟨inReef, course, past⟩ := due
  exact exec_up_as rfl out (if_neg (by simp [node, inReef, Nat.ne_of_gt course, past]))

theorem exec_wakeRetry_burst (more : (s.dev.line h).wakeBursts < 8) :
    exec (.wakeRetry h cyc) s = .next (s.lift (Dev.onLine h (LineNode.burst (s.dev.stamp cyc)))) := by
  rw [exec_wakeRetry_due out node due, State.lift, if_pos more, State.lift]

theorem exec_wakeRetry_last (last : 8 ≤ (s.dev.line h).wakeBursts) : exec (.wakeRetry h cyc) s = .next (s.lift (Dev.endCourse h)) := by
  rw [exec_wakeRetry_due out node due, State.lift, if_neg (Nat.not_lt.mpr last), State.lift]

end

/-! ## REEF_QUIET_TIMEOUT -/

def LineNode.askReef (l : LineNode) : LineNode := { l with proposeReq := true }

section
variable {s : State} {h : Half} (out : s.dev.inReset = false)
include out

theorem exec_reefQuietTimeout_early (early : ¬ 2000 * (s.dev.lineRec h).quiet ≤ since s.dev.frame (s.dev.line h).quietFrame) :
    exec (.reefQuietTimeout h) s = .next s :=
  exec_idles rfl out (if_neg (by simp [Dev.ago, early]))

theorem exec_reefQuietTimeout_quiet (node : s.dev.hasLine h = true) (master : s.dev.isMaster h = true)
    (allowed : (s.dev.lineRec h).reef = true) (outside : (s.dev.line h).inReef = false)
    (quiet : 2000 * (s.dev.lineRec h).quiet ≤ since s.dev.frame (s.dev.line h).quietFrame) :
    exec (.reefQuietTimeout h) s = .next (s.lift (Dev.onLine h LineNode.askReef)) :=
  exec_up_as rfl out (if_pos (by simp [Dev.ago, node, master, allowed, outside, quiet]))

end

end Sys2Proof.Machine
end

section
/-! The end of a cycle (R202 to R204) and MISSED_BEACON_TIMEOUT. -/
namespace Sys2Proof.Machine

/-- A view that every step of a fold keeps is the same at its end. -/
theorem foldl_keeps {α β γ : Type} {view : β → γ} {f : β → α → β} (keep : ∀ b a, view (f b a) = view b) (l : List α) (b : β) :
    view (l.foldl f b) = view b := by
  induction l generalizing b with
  | nil => rfl
  | cons a l ih => exact (ih (f b a)).trans (keep b a)

/-! ## Owners that became unheard -/

/-- The device without the line node and the points of half `h`, the fault system and the ports' journals. -/
def Dev.offCycle (h : Half) (d : Dev) : Dev :=
  { d with faults := {}, port0 := { d.port0 with journal := [] }, port1 := { d.port1 with journal := [] } }.onNode h
    fun n => { n with line := {}, points := [] }

theorem Dev.onLine_offCycle (h : Half) (f : LineNode → LineNode) (d : Dev) : (d.onLine h f).offCycle h = d.offCycle h := by
  cases h <;> rfl

theorem Dev.raise_offCycle (code : Nat) (k : Kind) (obj : Nat) (d : Dev) (g h : Half) :
    (d.raise code k obj g).offCycle h = d.offCycle h := (rfl)

theorem Dev.onPoints_offCycle (h : Half) (f : Node → List Point) (d : Dev) :
    (d.onNode h fun n => { n with points := f n }).offCycle h = d.offCycle h := by cases h <;> rfl

theorem Dev.pointOps_offCycle (g h : Half) (pts : List Nat) (d : Dev) : (d.pointOps g pts).offCycle h = d.offCycle h := by
  have marked (c : Prop) [Decidable c] (p : Port) (j : List HostCmd) :
      { (if c then { p with journal := j } else p) with journal := [] } = { p with journal := [] } := by split <;> rfl
  cases h <;> simp only [Dev.pointOps, Dev.offCycle, marked]

theorem Dev.ownerUnheard_offCycle (h : Half) (a : Nat) (d : Dev) : (d.ownerUnheard h a).offCycle h = d.offCycle h := by
  rw [Dev.ownerUnheard, Dev.pointOps_offCycle,
    foldl_keeps (view := Dev.offCycle h) fun (d : Dev) (p : Point) => Dev.raise_offCycle 0x44 .point p.cfg.index d h h]
  exact Dev.onPoints_offCycle h _ d

theorem Dev.ownerUnheard_line (h : Half) (a : Nat) (d : Dev) : (d.ownerUnheard h a).line h = d.line h := by
  have marked (pts : List Nat) (d : Dev) : (d.pointOps h pts).line h = d.line h := by cases h <;> rfl
  have offline (f : Node → List Point) : (d.onNode h fun n => { n with points := f n }).line h = d.line h := by cases h <;> rfl
  rw [Dev.ownerUnheard, marked,
    foldl_keeps (view := (Dev.line · h)) fun (d : Dev) (p : Point) => Dev.line_raise 0x44 .point p.cfg.index d h 0xFFFF h]
  exact offline _

/-! ## The end of a cycle -/

/-- What the end of a cycle leaves of a line node. -/
def LineNode.endCycle (l : LineNode) : LineNode :=
  let peers := l.peers.map (Peer.endCycle (l.sinceBeacon == 0))
  { l with
    peers := peers.map fun p => if p.nowUnheard then { p with heard := false, s := 0, last := [] } else p
    lineA := l.lineA.endCycle, lineB := l.lineB.endCycle
    silent64 := false, s64Cycles := l.s64Cycles + 1, ownSlots := 0, failedTx := [], statusSent := 0
    clean65 := !l.sixtyFive, sixtyFive := false
    diffCycles := l.diffCycles + 1, dupCycles := l.dupCycles + 1
    voteWait := l.voteWait - 1 }

section
variable (h : Half) (d : Dev)

theorem Dev.endCycle_line : (d.endCycle h).line h = (d.line h).endCycle := by
  rw [Dev.endCycle, foldl_keeps (view := (Dev.line · h)) fun (d : Dev) (p : Peer) => Dev.ownerUnheard_line h p.cfg.address d]
  exact Dev.line_onLine h _ d

theorem Dev.endCycle_offCycle : (d.endCycle h).offCycle h = d.offCycle h := by
  rw [Dev.endCycle, foldl_keeps (view := Dev.offCycle h) fun (d : Dev) (p : Peer) => Dev.ownerUnheard_offCycle h p.cfg.address d]
  exact Dev.onLine_offCycle h _ d

end

theorem Dev.node_of_offCycle {d e : Dev} {h g : Half} (same : e.offCycle h = d.offCycle h) (other : g ≠ h) : e.node g = d.node g := by
  have read (d : Dev) : (d.offCycle h).node g = d.node g :=
    (Dev.node_onNode_ne other _ _).trans (by cases g <;> rfl)
  rw [← read e, same, read d]

/-- Of the device at most the line nodes, the points, the faults and the ports' journals differ. -/
theorem Dev.onlyCycle_of_offCycle {d e : Dev} {h : Half} (same : e.offCycle h = d.offCycle h) : e = { d with
      faults := e.faults, port0 := { d.port0 with journal := e.port0.journal }, port1 := { d.port1 with journal := e.port1.journal }
      nodeA := { d.nodeA with line := e.nodeA.line, points := e.nodeA.points }
      nodeB := { d.nodeB with line := e.nodeB.line, points := e.nodeB.points } } := by
  have rest := congrArg (fun d : Dev => { d with
    faults := e.faults
    port0 := { d.port0 with journal := e.port0.journal }, port1 := { d.port1 with journal := e.port1.journal }
    nodeA := { d.nodeA with line := e.nodeA.line, points := e.nodeA.points }
    nodeB := { d.nodeB with line := e.nodeB.line, points := e.nodeB.points } }) same
  cases h <;> exact rest

/-! ## MISSED_BEACON_TIMEOUT -/

/-- A cycle has ended without a BEACON: the slot clock goes on at `ref`, and after the 16th such cycle the node holds no number
(R202, log 121). -/
def LineNode.missBeacon (ref : Nat) (l : LineNode) : LineNode :=
  { l with cycle := if 16 ≤ l.sinceBeacon then none else l.cycle.map (· + 1), sinceBeacon := l.sinceBeacon + 1, slotRef := some ref }

def Dev.missBeacon (h : Half) (ref : Nat) (d : Dev) : Dev := (d.endCycle h).onLine h (LineNode.missBeacon ref)

section
variable (h : Half) (ref : Nat) (d : Dev)

theorem Dev.missBeacon_line : (d.missBeacon h ref).line h = (d.line h).endCycle.missBeacon ref := by
  rw [Dev.missBeacon, Dev.line_onLine, Dev.endCycle_line]

theorem LineNode.missBeacon_cycle (l : LineNode) :
    (l.missBeacon ref).cycle = if l.sinceBeacon < 16 then l.cycle.map (· + 1) else none := by
  unfold LineNode.missBeacon
  dsimp only
  rw [← ite_not]
  exact ite_of_iff Nat.not_le

theorem Dev.missBeacon_offCycle : (d.missBeacon h ref).offCycle h = d.offCycle h := by
  rw [Dev.missBeacon, Dev.onLine_offCycle, Dev.endCycle_offCycle]

end

section
variable {s : State} {h : Half} {cyc : Nat} (out : s.dev.inReset = false)
include out

theorem exec_missedBeaconTimeout_clockless (clockless : (s.dev.line h).slotRef = none) : exec (.missedBeaconTimeout h cyc) s = .next s := by
  refine exec_idles rfl out ?_
  simp only [clockless]

variable {ref : Nat} (clock : (s.dev.line h).slotRef = some ref)
include clock

theorem exec_missedBeaconTimeout_early (early : s.dev.stamp cyc < s.dev.beaconLimit h ref) : exec (.missedBeaconTimeout h cyc) s = .next s := by
  refine exec_idles rfl out ?_
  simp only [clock]
  exact if_pos (by simp [early])

theorem exec_missedBeaconTimeout_due (node : s.dev.hasLine h = true) (due : s.dev.beaconLimit h ref ≤ s.dev.stamp cyc) :
    exec (.missedBeaconTimeout h cyc) s = .next (s.lift (Dev.missBeacon h (ref + (s.dev.line h).period (s.dev.lineRec h)))) := by
  refine exec_up_as rfl out ?_
  simp only [clock]
  exact if_neg (by simp [node, due])

end

end Sys2Proof.Machine
end

section
/-! An own transmission (R172, R179): what goes out on the lines in use, and what the check of its echoes leaves. -/
namespace Sys2Proof.Machine

/-! ## The echo check -/

/-- A line without what the echo checks count and suspend. -/
def LinePhys.offEcho (p : LinePhys) : LinePhys := { p with suspCycles := 0, echoHist := [], cleanTx := 0, echoErr := 0 }
def LineNode.offEcho (l : LineNode) : LineNode := { l with lineA := l.lineA.offEcho, lineB := l.lineB.offEcho }

theorem LineNode.onPhys_offEcho {f : LinePhys → LinePhys} (keep : ∀ p, (f p).offEcho = p.offEcho) (x : Line) (l : LineNode) :
    (l.onPhys x f).offEcho = l.offEcho := by
  cases x with
  | a => exact congrArg (fun p => { l.offEcho with lineA := p }) (keep l.lineA)
  | b => exact congrArg (fun p => { l.offEcho with lineB := p }) (keep l.lineB)

/-- What the echo check counts on a line. -/
def LinePhys.countEcho (ok : Bool) (p : LinePhys) : LinePhys :=
  { p with echoHist := ((!ok) :: p.echoHist).take 8, cleanTx := if ok then p.cleanTx + 1 else 0
           echoErr := if ok then p.echoErr else satAdd 16 p.echoErr 1 }

/-- The suspension for 0x61. -/
def LinePhys.suspend61 (p : LinePhys) : LinePhys := { p with suspCycles := 257, cleanTx := 0, echoHist := [] }

def Dev.countEcho (h : Half) (x : Line) (ok : Bool) (d : Dev) : Dev := d.onLine h (LineNode.onPhys x (LinePhys.countEcho ok))

def Dev.suspend61 (h : Half) (x : Line) (d : Dev) : Dev :=
  ((d.onLine h (LineNode.onPhys x LinePhys.suspend61)).raiseLine h x 0x61).checkUnusable h

section
variable (h : Half) (x : Line) (ok : Bool) (d : Dev)

/-- The check is left out on a suspended line, is counted, and a failure may suspend the line. -/
theorem Dev.echoCheck_cases : d.echoCheck h x ok = d ∨ d.echoCheck h x ok = d.countEcho h x ok
    ∨ ok = false ∧ d.echoCheck h x ok = (d.countEcho h x ok).suspend61 h x := by
  have check : d.echoCheck h x ok = if ((d.line h).phys x).suspended then d
      else if !ok && 2 ≤ ((((d.countEcho h x ok).line h).phys x).echoHist.filter (· == true)).length
        then (d.countEcho h x ok).suspend61 h x else d.countEcho h x ok := rfl
  rw [check]
  split
  next => exact .inl rfl
  next =>
    split
    next fails =>
      rw [Bool.and_eq_true, Bool.not_eq_true'] at fails
      exact .inr (.inr ⟨fails.left, rfl⟩)
    next => exact .inr (.inl rfl)

theorem Dev.countEcho_offEcho : ((d.countEcho h x ok).line h).offEcho = (d.line h).offEcho := by
  rw [Dev.countEcho, Dev.line_onLine, LineNode.onPhys_offEcho (f := LinePhys.countEcho ok) fun _ => rfl]

theorem Dev.suspend61_offEcho : ((d.suspend61 h x).line h).offEcho = (d.line h).offEcho := by
  rw [Dev.suspend61, Dev.checkUnusable_line, Dev.raiseLine, Dev.line_raise, Dev.line_onLine,
    LineNode.onPhys_offEcho (f := LinePhys.suspend61) fun _ => rfl]

theorem Dev.suspend61_offLine : (d.suspend61 h x).offLine h = d.offLine h := by
  rw [Dev.suspend61, Dev.checkUnusable_offLine, Dev.raiseLine_offLine, Dev.onLine_offLine]

theorem Dev.echoCheck_offEcho : ((d.echoCheck h x ok).line h).offEcho = (d.line h).offEcho := by
  rcases Dev.echoCheck_cases h x ok d with same | counted | ⟨-, suspended⟩
  · rw [same]
  · rw [counted, Dev.countEcho_offEcho]
  · rw [suspended, Dev.suspend61_offEcho, Dev.countEcho_offEcho]

theorem Dev.echoCheck_offLine : (d.echoCheck h x ok).offLine h = d.offLine h := by
  rcases Dev.echoCheck_cases h x ok d with same | counted | ⟨-, suspended⟩
  · rw [same]
  · rw [counted, Dev.countEcho, Dev.onLine_offLine]
  · rw [suspended, Dev.suspend61_offLine, Dev.countEcho, Dev.onLine_offLine]

theorem Dev.echoCheck_reproduced : (d.echoCheck h x true).faults = d.faults := by
  rcases Dev.echoCheck_cases h x true d with same | counted | ⟨failed, -⟩
  · rw [same]
  · rw [counted, Dev.countEcho, Dev.onLine_faults]
  · exact Bool.noConfusion failed

end

/-! ## Driving a telegram -/

/-- What a line in use is driven with for telegram `m` from `start` on (R172). -/
def LineRec.driveOf (r : LineRec) (m : Telegram) (start : Nat) : Drive :=
  { start, stop := start + envelope r.rate r.preamble (m.bytes r.key).length, wave := telegramWave r.rate r.preamble start (m.bytes r.key) }

/-- In `after`, telegram `m` goes out from `start` on, on every line that is in use in `l`. -/
def LineNode.Sends (r : LineRec) (l : LineNode) (m : Telegram) (start : Nat) (after : LineNode) : Prop :=
  after.txTel = some m ∧ ∀ x, (l.phys x).suspended = false → (after.phys x).drive = some (r.driveOf m start)

theorem LineNode.driven_drive {l : LineNode} {x : Line} (inUse : (l.phys x).suspended = false) (y : Drive) :
    ((l.driven y).phys x).drive = some y := by
  have put : (l.driven y).phys x = if (l.phys x).suspended then l.phys x else { l.phys x with drive := some y } := by cases x <;> rfl
  rw [put, if_neg (by simp [inUse])]

/-- The line node that a telegram is put on. -/
def LineNode.put (r : LineRec) (m : Telegram) (start : Nat) (l : LineNode) : LineNode := { l.driven (r.driveOf m start) with txTel := some m }

theorem LineNode.put_sends (r : LineRec) (m : Telegram) (start : Nat) (l : LineNode) : LineNode.Sends r l m start (l.put r m start) := by
  refine ⟨rfl, fun x inUse => ?_⟩
  have drive : ((l.put r m start).phys x).drive = ((l.driven (r.driveOf m start)).phys x).drive := by cases x <;> rfl
  rw [drive, LineNode.driven_drive inUse]

section
variable {r : LineRec} {l a b : LineNode} {m : Telegram} {start : Nat} (sends : LineNode.Sends r l m start a)
include sends

/-- What goes out rests on the telegram and the two drives alone. -/
theorem LineNode.Sends.congr (tel : b.txTel = a.txTel) (driveA : b.lineA.drive = a.lineA.drive) (driveB : b.lineB.drive = a.lineB.drive) :
    LineNode.Sends r l m start b := by
  obtain ⟨telegram, driven⟩ := sends
  refine ⟨tel.trans telegram, fun x inUse => Eq.trans ?_ (driven x inUse)⟩
  cases x with
  | a => exact driveA
  | b => exact driveB

theorem LineNode.Sends.of_offEcho (same : b.offEcho = a.offEcho) : LineNode.Sends r l m start b :=
  sends.congr (congrArg LineNode.txTel same :) (congrArg (fun l : LineNode => l.lineA.drive) same :)
    (congrArg (fun l : LineNode => l.lineB.drive) same :)

end

section
variable (h : Half) (m : Telegram) (e : CopyPair) (start : Nat) (d : Dev)

theorem Dev.drive_offEcho : ((d.drive h m e start).line h).offEcho = ((d.line h).put (d.lineRec h) m start).offEcho := by
  rw [Dev.drive, Dev.echoCheck_offEcho, Dev.echoCheck_offEcho, Dev.line_onLine]
  rfl

theorem Dev.drive_offLine : (d.drive h m e start).offLine h = d.offLine h := by
  rw [Dev.drive, Dev.echoCheck_offLine, Dev.echoCheck_offLine, Dev.onLine_offLine]

theorem Dev.lineRec_onLine (f : LineNode → LineNode) : (d.onLine h f).lineRec h = d.lineRec h := by cases h <;> rfl

theorem Dev.echoOk_congr {d d' : Dev} {h : Half} (same : d'.lineRec h = d.lineRec h) (x : Line) (m : Telegram) (e : CopyPair) :
    d'.echoOk h x m e = d.echoOk h x m e := by
  rw [Dev.echoOk, Dev.cellsOf, same, Dev.echoOk, Dev.cellsOf]

theorem Dev.echoOk_onLine (f : LineNode → LineNode) (x : Line) : (d.onLine h f).echoOk h x m e = d.echoOk h x m e :=
  Dev.echoOk_congr (Dev.lineRec_onLine h d f) x m e

theorem Dev.drive_reproduced (ok : ∀ x, d.echoOk h x m e = true) : (d.drive h m e start).faults = d.faults := by
  rw [Dev.drive, Dev.echoOk_onLine, Dev.echoOk_onLine, ok, ok, Dev.echoCheck_reproduced, Dev.echoCheck_reproduced, Dev.onLine_faults]

/-! ## A new telegram -/

/-- The device as a new telegram takes its TSEQ. -/
def Dev.numbered (h : Half) (m : Telegram) (d : Dev) : Dev :=
  ({ d with dpx := { d.dpx with skipTx := false } } : Dev).onLine h fun l => { l with tseq := m.tseq }

theorem Dev.transmit_eq : d.transmit h m e start = (d.numbered h m).drive h m e start := rfl

theorem Dev.numbered_line : (d.numbered h m).line h = { d.line h with tseq := m.tseq } := by cases h <;> rfl

theorem Dev.numbered_lineRec : (d.numbered h m).lineRec h = d.lineRec h := by cases h <;> rfl

theorem Dev.transmit_offEcho : ((d.transmit h m e start).line h).offEcho
    = (({ d.line h with tseq := m.tseq } : LineNode).put (d.lineRec h) m start).offEcho := by
  rw [Dev.transmit_eq, Dev.drive_offEcho, Dev.numbered_line, Dev.numbered_lineRec]

/-- A line node without what a transmission changes. -/
def LineNode.offTx (l : LineNode) : LineNode := { l with tseq := 0, txTel := none, lineA := {}, lineB := {} }

theorem Dev.transmit_offTx : ((d.transmit h m e start).line h).offTx = (d.line h).offTx := by
  have echo (l : LineNode) : l.offEcho.offTx = l.offTx := rfl
  have numbered (l : LineNode) (r : LineRec) : (({ l with tseq := m.tseq } : LineNode).put r m start).offTx = l.offTx := rfl
  rw [← echo, Dev.transmit_offEcho, echo, numbered]

theorem Dev.transmit_tseq : ((d.transmit h m e start).line h).tseq = m.tseq :=
  (congrArg LineNode.tseq (Dev.transmit_offEcho h m e start d) :)

theorem Dev.transmit_node_ne {g : Half} (other : g ≠ h) : (d.transmit h m e start).node g = d.node g := by
  rw [Dev.transmit_eq, Dev.node_of_offLine (Dev.drive_offLine h m e start _) other, Dev.numbered, Dev.node_onLine_ne other]
  cases g <;> rfl

theorem Dev.transmit_reproduced (ok : ∀ x, d.echoOk h x m e = true) : (d.transmit h m e start).faults = d.faults := by
  have okNumbered (x : Line) : (d.numbered h m).echoOk h x m e = true :=
    (Dev.echoOk_congr (Dev.numbered_lineRec h m d) x m e).trans (ok x)
  rw [Dev.transmit_eq, Dev.drive_reproduced h m e start _ okNumbered, Dev.numbered, Dev.onLine_faults]

/-- A new telegram goes out on the lines in use, also as an earlier state `l` of the node shows them. -/
theorem Dev.transmit_sends {l : LineNode} (inUse : ∀ x, ((d.line h).phys x).suspended = (l.phys x).suspended) :
    LineNode.Sends (d.lineRec h) l m start ((d.transmit h m e start).line h) := by
  obtain ⟨telegram, driven⟩ := (LineNode.put_sends (d.lineRec h) m start { d.line h with tseq := m.tseq }).of_offEcho
    (Dev.transmit_offEcho h m e start d)
  refine ⟨telegram, fun x usable => driven x (Eq.trans ?_ ((inUse x).trans usable))⟩
  cases x <;> rfl

end

end Sys2Proof.Machine
end

section
/-! SLOT_START (R172, R178, R197, R198): the windows of a slot, composing a DATA, and a request outside the windows. -/
namespace Sys2Proof.Machine

/-! ## The windows of a slot -/

theorem envelope_mono (rate p : Nat) {len len' : Nat} (le : len ≤ len') : envelope rate p len ≤ envelope rate p len' :=
  Nat.mul_le_mul_right _ (Nat.add_le_add_left (Nat.mul_le_mul_left 8 le) _)

/-- A shorter telegram ends by the close of the slot too. -/
theorem Dev.inGate_of_le {d : Dev} {h : Half} {x : Slot} {t len len' : Nat} (le : len ≤ len') (gate : d.inGate h x t len' = true) :
    d.inGate h x t len = true := by
  simp only [Dev.inGate, Bool.and_eq_true, decide_eq_true_eq] at gate ⊢
  obtain ⟨opened, closes⟩ := gate
  exact ⟨opened, (Nat.add_le_add_left (envelope_mono _ _ le) t).trans closes⟩

/-! ## Composing a DATA (R198) -/

/-- A line node without what sending an entry changes: the queue, the status groups, the vote. -/
def LineNode.offQueue (l : LineNode) : LineNode :=
  { l with acks := [], voteDue := none, changedPts := [], changedSecs := [], lru := [], statusSent := 0, vote := none }

theorem Node.sent_offQueue (own : Nat) (e : Entry) (n : Node) : (n.sent own e).line.offQueue = n.line.offQueue := by
  have onLine (f : LineNode → LineNode) : (n.onLine f).line = f n.line := rfl
  cases e with
  | pointStatus | sectionState | ack | reefVote => rw [Node.sent, onLine]; rfl
  | pointEvent | beacon | join => rfl

section
variable (h : Half) (room : Nat) (first : Bool) (view : Dev) (cyc : Half16) (d : Dev)

theorem Dev.compose_telegram : ∃ es, es.length ≤ room ∧ (Dev.compose h room first view cyc d).1 = d.header h 2 cyc view.dt es :=
  ⟨_, List.length_take_le _ _, rfl⟩

theorem Dev.compose_line : ((Dev.compose h room first view cyc d).2.line h).offQueue = (d.line h).offQueue := by
  rw [Dev.compose, Dev.line, Dev.node_onNode]
  exact foldl_keeps (view := fun n : Node => n.line.offQueue) (fun n e => Node.sent_offQueue (d.lineAddress h) e n) _ _

end

/-! ## A DATA in an own slot -/

/-- A telegram of an own slot counts; one whose echo fails waits for a retry slot (R199). -/
def LineNode.countOwn (failed : Bool) (m : Telegram) (l : LineNode) : LineNode :=
  { l with ownSlots := l.ownSlots + 1, failedTx := if failed then l.failedTx ++ [m] else l.failedTx }

/-- What half `h` composes for a slot of class `lclass`, and the device after it. -/
def Dev.composed (h : Half) (lclass : Nat) (d view : Dev) : Telegram × Dev :=
  Dev.compose h ((lclass - 24) / 8) ((d.line h).ownSlots == 0) view ((d.line h).cycle.getD 0) d

/-- The DATA that half `h` sends in a slot of class `lclass`, requested at `at_`. -/
def Dev.sendData (h : Half) (lclass : Nat) (e : CopyPair) (at_ : Nat) (d view : Dev) : Dev :=
  ((d.composed h lclass view).2.transmit h (d.composed h lclass view).1 e at_).onLine h
    (LineNode.countOwn (d.echoFails h (d.composed h lclass view).1 e) (d.composed h lclass view).1)

section
variable {h : Half} {x : Slot} {at_ : Nat} {d : Dev} (fits : 24 ≤ x.lclass)
include fits

theorem Dev.composed_fits (view : Dev) : 24 + 8 * (d.composed h x.lclass view).1.entries.length ≤ x.lclass := by
  obtain ⟨es, few, telegram⟩ := Dev.compose_telegram h ((x.lclass - 24) / 8) ((d.line h).ownSlots == 0) view ((d.line h).cycle.getD 0) d
  have entries : (d.composed h x.lclass view).1.entries = es := congrArg Telegram.entries telegram
  rw [entries]
  omega

/-- With no JOIN left to send, an own slot carries a DATA. -/
theorem Dev.useSlot_sends (own : x.kind.retries = false) (noJoin : (d.line h).joinsLeft = 0 ∨ (d.line h).ownSlots ≠ 0)
    (gate : d.inGate h x at_ x.lclass = true) (e : CopyPair) (view : Dev) : Dev.useSlot h x e at_ view d = d.sendData h x.lclass e at_ view := by
  have joined : ¬ ((d.line h).ownSlots == 0 && decide ((d.line h).joinsLeft ≠ 0)) = true := by
    rcases noJoin with none | later
    · simp [none]
    · simp [later]
  have within := Dev.inGate_of_le (Dev.composed_fits (h := h) (d := d) fits view) gate
  unfold Dev.useSlot
  simp only [own, Bool.false_eq_true, if_false, Bool.not_false, Bool.and_true]
  rw [if_neg joined]
  exact if_pos within

end

section
variable (h : Half) (lclass : Nat) (e : CopyPair) (at_ : Nat) (d view : Dev)

theorem Dev.composed_offQueue : ((d.composed h lclass view).2.line h).offQueue = (d.line h).offQueue :=
  Dev.compose_line h _ _ view _ d

theorem Dev.composed_lineRec : (d.composed h lclass view).2.lineRec h = d.lineRec h := by cases h <;> rfl

theorem Dev.sendData_line : (d.sendData h lclass e at_ view).line h
    = (((d.composed h lclass view).2.transmit h (d.composed h lclass view).1 e at_).line h).countOwn
        (d.echoFails h (d.composed h lclass view).1 e) (d.composed h lclass view).1 := Dev.line_onLine h _ _

theorem Dev.sendData_sends : LineNode.Sends (d.lineRec h) (d.line h) (d.composed h lclass view).1 at_ ((d.sendData h lclass e at_ view).line h) := by
  have queue := Dev.composed_offQueue h lclass d view
  have inUse (x : Line) : (((d.composed h lclass view).2.line h).phys x).suspended = ((d.line h).phys x).suspended := by
    cases x with
    | a => exact (congrArg (fun l : LineNode => l.lineA.suspended) queue :)
    | b => exact (congrArg (fun l : LineNode => l.lineB.suspended) queue :)
  have sends := Dev.transmit_sends h (d.composed h lclass view).1 e at_ (d.composed h lclass view).2 inUse
  rw [Dev.composed_lineRec] at sends
  rw [Dev.sendData_line]
  exact sends.congr rfl rfl rfl

theorem Dev.sendData_tseq : ((d.sendData h lclass e at_ view).line h).tseq = (d.composed h lclass view).1.tseq := by
  rw [Dev.sendData_line]
  exact Dev.transmit_tseq h _ e at_ _

theorem Dev.sendData_ownSlots : ((d.sendData h lclass e at_ view).line h).ownSlots = (d.line h).ownSlots + 1 := by
  have sent := congrArg LineNode.ownSlots (Dev.transmit_offTx h (d.composed h lclass view).1 e at_ (d.composed h lclass view).2)
  have queue := congrArg LineNode.ownSlots (Dev.composed_offQueue h lclass d view)
  rw [Dev.sendData_line]
  exact congrArg (· + 1) (sent.trans queue)

theorem Dev.sendData_reproduced (ok : ∀ x, d.echoOk h x (d.composed h lclass view).1 e = true) :
    (d.sendData h lclass e at_ view).faults = d.faults := by
  have okComposed (x : Line) : (d.composed h lclass view).2.echoOk h x (d.composed h lclass view).1 e = true :=
    (Dev.echoOk_congr (Dev.composed_lineRec h lclass d view) x _ e).trans (ok x)
  rw [Dev.sendData, Dev.onLine_faults, Dev.transmit_reproduced h _ e at_ _ okComposed]
  exact Dev.onNode_faults ..

theorem Dev.sendData_node_ne {g : Half} (other : g ≠ h) : (d.sendData h lclass e at_ view).node g = d.node g := by
  rw [Dev.sendData, Dev.node_onLine_ne other, Dev.transmit_node_ne h _ e at_ _ other]
  exact Dev.node_onNode_ne other _ d

end

/-! ## A request outside the windows (Table LIN-4) -/

def LineNode.silence64 (l : LineNode) : LineNode := { l with silent64 := true, s64Cycles := 0 }

/-- 0x64 arises and silences the node. -/
def Dev.raise64 (h : Half) (d : Dev) : Dev := (d.raise 0x64 .lineNode 0 h).onLine h LineNode.silence64

section
variable (h : Half) (d : Dev)

theorem Dev.raise64_active : (d.raise64 h).hasFault 0x64 .lineNode 0 h = true := by
  rw [Dev.raise64, Dev.hasFault_onLine, Dev.hasFault_raise]

theorem Dev.raise64_line : (d.raise64 h).line h = (d.line h).silence64 := by
  rw [Dev.raise64, Dev.line_onLine, Dev.line_raise]

theorem Dev.raise64_node_ne {g : Half} (other : g ≠ h) : (d.raise64 h).node g = d.node g := by
  rw [Dev.raise64, Dev.node_onLine_ne other, Dev.node_raise]

theorem Dev.raise64_frame : d.raise64 h = { d with
    faults := (d.raise64 h).faults
    nodeA := { d.nodeA with line := (d.raise64 h).nodeA.line }, nodeB := { d.nodeB with line := (d.raise64 h).nodeB.line } } := by
  cases h <;> rfl

end

/-- A half that runs enters its safe state. -/
theorem Dev.safeOf_held {d : Dev} {h : Half} (mem : h ∈ d.halves) (live : (d.node h).safe = false) (code cyc : Nat) :
    (d.safeOf code h cyc).Held h := by
  refine Dev.enterSafe_held ?_ code cyc live
  unfold Dev.halves at mem
  split
  · exact List.mem_singleton_self h
  next whole => rwa [if_neg whole] at mem

/-! ## SLOT_START -/

section
variable {s : State} {h : Half} {n cyc : Nat} {e : CopyPair} (out : s.dev.inReset = false)
include out

theorem exec_slotStart_barred (barred : s.dev.mayRequest h = false ∨ (s.dev.slots h)[n]? = none) : exec (.slotStart h n e cyc) s = .next s := by
  refine exec_idles rfl out ?_
  cases slot : (s.dev.slots h)[n]? with
  | none => rfl
  | some x =>
    rcases barred with may | empty
    · exact if_pos (by simp [may])
    · exact absurd (slot.symm.trans empty) (Option.some_ne_none x)

variable {x : Slot} (may : s.dev.mayRequest h = true) (slot : (s.dev.slots h)[n]? = some x)
include may slot

theorem exec_slotStart_outside (outside : s.dev.inGate h x (s.dev.stamp cyc) 24 = false) :
    exec (.slotStart h n e cyc) s = .next (s.lift (Dev.outsideWindow h)) := by
  refine exec_up_as rfl out ?_
  simp only [slot]
  rw [if_neg (by simp [may]), if_pos (by simp [outside])]

theorem exec_slotStart_outside_first (outside : s.dev.inGate h x (s.dev.stamp cyc) 24 = false)
    (fresh : s.dev.hasFault 0x64 .lineNode 0 h = false) : exec (.slotStart h n e cyc) s = .next (s.lift (Dev.raise64 h)) := by
  rw [exec_slotStart_outside out may slot outside, State.lift, Dev.outsideWindow, if_neg (by simp [fresh])]
  rfl

theorem exec_slotStart_outside_again (outside : s.dev.inGate h x (s.dev.stamp cyc) 24 = false)
    (active : s.dev.hasFault 0x64 .lineNode 0 h = true) : exec (.slotStart h n e cyc) s = .next (s.lift fun d => d.safeOf 0x6D h 0) := by
  rw [exec_slotStart_outside out may slot outside, State.lift, Dev.outsideWindow, if_pos active]
  rfl

theorem exec_slotStart_sends (gate : s.dev.inGate h x (s.dev.stamp cyc) x.lclass = true) (own : x.kind.retries = false) (fits : 24 ≤ x.lclass)
    (speaks : (s.dev.line h).silent = false) (full : (s.dev.line h).mode ≠ .reef)
    (noJoin : (s.dev.line h).joinsLeft = 0 ∨ (s.dev.line h).ownSlots ≠ 0) : exec (.slotStart h n e cyc) s
    = .next (s.lift fun d => d.sendData h x.lclass e (s.dev.stamp cyc) (Dev.viewAt s.bank s.prev s.dev (s.dev.slotAt h x))) := by
  refine exec_up_as rfl out ?_
  simp only [slot]
  rw [if_neg (by simp [may]), if_neg (by simp [Dev.inGate_of_le fits gate]), if_neg (by simp [speaks, full]),
    Dev.useSlot_sends fits own noJoin gate]

end

theorem Dev.mayRequest_live {d : Dev} {h : Half} (may : d.mayRequest h = true) : (d.node h).safe = false := by
  simp only [Dev.mayRequest, Dev.inService, Bool.and_eq_true, Bool.not_eq_true'] at may
  obtain ⟨⟨⟨⟨-, -, live⟩, -⟩, -⟩, -⟩ := may
  exact live

theorem Dev.mayRequest_cycle {d : Dev} {h : Half} (may : d.mayRequest h = true) : ∃ c, (d.line h).cycle = some c := by
  simp only [Dev.mayRequest, Bool.and_eq_true] at may
  obtain ⟨⟨-, numbered⟩, -⟩ := may
  exact Option.isSome_iff_exists.mp numbered

end Sys2Proof.Machine
end

section
/-! BEACON_SEND (R175, R196, R206 to R208, R210): the cycle that opens, and the course of the reef that the BEACON carries. -/
namespace Sys2Proof.Machine

/-! ## The cycle opens -/

theorem LinePhys.endCycle_suspended (p : LinePhys) : p.endCycle.suspended = p.suspended := by
  have counts : (if 1 < p.suspCycles then p.suspCycles - 1 else p.suspCycles) = 0 ↔ p.suspCycles = 0 := by split <;> omega
  simp only [LinePhys.endCycle, LinePhys.suspended, ne_eq, counts]

/-- A cycle opens with number `cyc` and reference `ref`; one that had a number ends. -/
def LineNode.openCycle (cyc : Half16) (ref : Nat) (l : LineNode) : LineNode :=
  { (if l.cycle.isSome then l.endCycle else l) with cycle := some cyc, sinceBeacon := 0, slotRef := some ref, muted := [] }

/-- The last cycle of a suspension for 0x61 is LINE_SUSPENSION_END's, so a cycle's end brings no line back into use. -/
theorem LineNode.openCycle_suspended (cyc : Half16) (ref : Nat) (x : Line) (l : LineNode) :
    ((l.openCycle cyc ref).phys x).suspended = (l.phys x).suspended := by
  have opened : (l.openCycle cyc ref).phys x = if l.cycle.isSome then (l.phys x).endCycle else l.phys x := by
    unfold LineNode.openCycle
    cases x <;> split <;> rfl
  rw [opened]
  split
  · exact LinePhys.endCycle_suspended _
  · rfl

section
variable (h : Half) (cyc : Half16) (ref : Nat) (d : Dev)

theorem Dev.openCycle_line : (d.openCycle h cyc ref).line h = (d.line h).openCycle cyc ref := by
  rw [Dev.openCycle, Dev.line_onLine, LineNode.openCycle]
  split
  · rw [Dev.endCycle_line]
  · rfl

theorem Dev.openCycle_offCycle : (d.openCycle h cyc ref).offCycle h = d.offCycle h := by
  rw [Dev.openCycle, Dev.onLine_offCycle]
  split
  · exact Dev.endCycle_offCycle h d
  · rfl

theorem Dev.openCycle_lineRec : (d.openCycle h cyc ref).lineRec h = d.lineRec h := by
  have read (d : Dev) : (d.offCycle h).lineRec h = d.lineRec h := by cases h <;> rfl
  rw [← read, Dev.openCycle_offCycle, read]

end

/-! ## What MODE and ROUND leave of a line node -/

/-- A line node without the course of reef, votes and wakes (R206 to R210) and the offset of the next BEACON. -/
def LineNode.offCourse (l : LineNode) : LineNode :=
  { l with
    round := 0, inReef := false, fullFrom := none, peers := [], voteDue := none, wakeBursts := 0, wakeReq := false, reefs := 0
    e0Next := 0, wakePending := false, vote := none, voteWait := 0, proposeReq := false, zeroReef := false, zeroReefs := 0 }

theorem LineNode.beaconDone_offCourse (r : LineRec) (m : ReefMode) (round : Nat) (cyc : Half16) (l : LineNode) :
    (l.beaconDone r m round cyc).offCourse = { l with beaconCycle := some cyc }.offCourse := by cases m <;> rfl

theorem Dev.onNode_line {f : Node → Node} (keep : ∀ n, (f n).line = n.line) (h : Half) (d : Dev) : (d.onNode h f).line h = d.line h := by
  rw [Dev.line, Dev.node_onNode, keep, Dev.line]

/-- The device as MODE and ROUND of a BEACON are taken, with the full cycle restored where a reef ends (R104, R208). -/
def Dev.takeMode (h : Half) (m : ReefMode) (round : Nat) (d : Dev) : Dev :=
  let was := (d.line h).mode
  let d := d.onLine h fun l => { l with mode := m, round }
  if (decide (was = .reef) || decide (was = .commit)) && (decide (m = .normal) || decide (m = .propose)) then
    (d.onLine h fun l => { l with fullFrom := l.cycle, peers := l.peers.map fun p => { p with missed := 0 } }).onNode h Node.startRejoin
  else d

/-- What a MODE does at a node that has taken it; `was` is the MODE before. -/
def Dev.actMode (h : Half) (was m : ReefMode) (d : Dev) : Dev :=
  match m with
  | .normal => (d.onLine h fun l => { l with inReef := false, voteDue := none, wakeBursts := 0, wakeReq := false }).clearF 0x6B .lineNode 0 h
  | .propose => d.onLine h fun l => { l with inReef := true, voteDue := l.cycle }
  | .commit => (d.onNode h (Node.rest d.frame)).onLine h fun l => { l with inReef := true, voteDue := none, reefs := satAdd 16 l.reefs 1 }
  | .reef =>
    (if was = .reef ∨ was = .commit then d
      else (d.onNode h (Node.rest d.frame)).onLine h fun l => { l with reefs := satAdd 16 l.reefs 1 }).onLine h
      fun l => { l with inReef := true, voteDue := none }

section
variable (h : Half) (m : ReefMode) (round : Nat) (d : Dev)

theorem Dev.applyMode_eq : d.applyMode h m round = (d.takeMode h m round).actMode h (d.line h).mode m := by cases m <;> rfl

theorem Dev.takeMode_offCourse : ((d.takeMode h m round).line h).offCourse = { d.line h with mode := m }.offCourse := by
  unfold Dev.takeMode
  dsimp only
  split
  · rw [Dev.onNode_line (f := Node.startRejoin) fun _ => rfl, Dev.line_onLine, Dev.line_onLine]
    rfl
  · rw [Dev.line_onLine]
    rfl

theorem Dev.actMode_offCourse (was : ReefMode) : ((d.actMode h was m).line h).offCourse = (d.line h).offCourse := by
  have rested : ((d.onNode h (Node.rest d.frame)).line h) = d.line h := Dev.onNode_line (f := Node.rest d.frame) (fun _ => rfl) h d
  cases m with
  | normal => rw [Dev.actMode, Dev.line_clearF, Dev.line_onLine]; rfl
  | propose => rw [Dev.actMode, Dev.line_onLine]; rfl
  | commit => rw [Dev.actMode, Dev.line_onLine, rested]; rfl
  | reef =>
    rw [Dev.actMode, Dev.line_onLine]
    split
    · rfl
    · rw [Dev.line_onLine, rested]; rfl

theorem Dev.takeMode_node_ne {g : Half} (other : g ≠ h) : (d.takeMode h m round).node g = d.node g := by
  unfold Dev.takeMode
  dsimp only
  split
  · rw [Dev.node_onNode_ne other, Dev.node_onLine_ne other, Dev.node_onLine_ne other]
  · rw [Dev.node_onLine_ne other]

theorem Dev.actMode_node_ne {g : Half} (other : g ≠ h) (was : ReefMode) : (d.actMode h was m).node g = d.node g := by
  have cleared (d : Dev) : (d.clearF 0x6B .lineNode 0 h).node g = d.node g := by cases g <;> rfl
  cases m with
  | normal => rw [Dev.actMode, cleared, Dev.node_onLine_ne other]
  | propose => rw [Dev.actMode, Dev.node_onLine_ne other]
  | commit => rw [Dev.actMode, Dev.node_onLine_ne other, Dev.node_onNode_ne other]
  | reef =>
    rw [Dev.actMode, Dev.node_onLine_ne other]
    split
    · rfl
    · rw [Dev.node_onLine_ne other, Dev.node_onNode_ne other]

theorem Dev.applyMode_offCourse : ((d.applyMode h m round).line h).offCourse = { d.line h with mode := m }.offCourse := by
  rw [Dev.applyMode_eq, Dev.actMode_offCourse, Dev.takeMode_offCourse]

theorem Dev.applyMode_node_ne {g : Half} (other : g ≠ h) : (d.applyMode h m round).node g = d.node g := by
  rw [Dev.applyMode_eq, Dev.actMode_node_ne h m _ other, Dev.takeMode_node_ne h m round d other]

end

/-! ## BEACON_SEND -/

/-- CYCLE of the next BEACON of a line master (R196). -/
def LineNode.nextCycle (l : LineNode) : Half16 := match l.beaconCycle with | some c => c + 1 | none => 0

/-- E_0 and the offset of the next BEACON from it, in SYSCLK cycles. -/
def LineNode.beaconDue (l : LineNode) : Nat := (l.e0.toNat + l.e0Next) * 96

/-- The line master's next BEACON, composed at device time `dt`. -/
def Dev.nextBeacon (h : Half) (dt : DTime) (d : Dev) : Telegram :=
  d.header h 1 (d.line h).nextCycle dt [.beacon (d.nextMode h).1 (d.nextMode h).2 (d.schedId h)]

/-- The slot clock that a BEACON starts: of its echo, or of its nominal instant (R175, log 35). -/
def Dev.beaconRef (h : Half) (t : Telegram) (e : CopyPair) (d : Dev) : Nat :=
  (d.beaconEcho h t e).getD ((d.line h).beaconDue + (d.lineRec h).bitTimes (10 + (d.lineRec h).preamble))

/-- BEACON `t` goes out and opens its cycle. -/
def Dev.putBeacon (h : Half) (t : Telegram) (e : CopyPair) (d : Dev) : Dev :=
  (d.openCycle h t.cycle (d.beaconRef h t e)).transmit h t e (d.line h).beaconDue

/-- A BEACON with MODE and ROUND `m` and CYCLE `cyc` acts at the line master. -/
def Dev.followBeacon (h : Half) (r : LineRec) (m : ReefMode × Nat) (cyc : Half16) (d : Dev) : Dev :=
  (d.onLine h (LineNode.beaconDone r m.1 m.2 cyc)).applyMode h m.1 m.2

/-- A BEACON without an echo is none that the master has heard (R175). -/
def LineNode.hearBeacon (heard : Bool) (l : LineNode) : LineNode := if heard then l else { l with sinceBeacon := 1 }

def Node.hearBeacon (heard : Bool) (n : Node) : Node := { n with joinBeacon := n.joinBeacon || heard }

/-- What BEACON_SEND does at a line master whose BEACON `t` with MODE and ROUND `m` is due. -/
def Dev.sendBeacon (h : Half) (t : Telegram) (m : ReefMode × Nat) (e : CopyPair) (d : Dev) : Dev :=
  (((d.putBeacon h t e).followBeacon h (d.lineRec h) m t.cycle).onLine h (LineNode.hearBeacon (d.beaconEcho h t e).isSome)).onNode h
    (Node.hearBeacon (d.beaconEcho h t e).isSome)

section
variable (h : Half) (t : Telegram) (m : ReefMode × Nat) (e : CopyPair) (d : Dev)

theorem Dev.followBeacon_offCourse (r : LineRec) (cyc : Half16) :
    ((d.followBeacon h r m cyc).line h).offCourse = { d.line h with beaconCycle := some cyc, mode := m.1 }.offCourse := by
  rw [Dev.followBeacon, Dev.applyMode_offCourse, Dev.line_onLine]
  exact congrArg (fun l : LineNode => { l with mode := m.1 }) (LineNode.beaconDone_offCourse r m.1 m.2 cyc (d.line h))

theorem Dev.putBeacon_offTx : ((d.putBeacon h t e).line h).offTx = ((d.line h).openCycle t.cycle (d.beaconRef h t e)).offTx := by
  rw [Dev.putBeacon, Dev.transmit_offTx, Dev.openCycle_line]

theorem Dev.putBeacon_sends : LineNode.Sends (d.lineRec h) (d.line h) t (d.line h).beaconDue ((d.putBeacon h t e).line h) := by
  rw [Dev.putBeacon, ← Dev.openCycle_lineRec h t.cycle (d.beaconRef h t e) d]
  refine Dev.transmit_sends h t e _ _ fun x => ?_
  rw [Dev.openCycle_line, LineNode.openCycle_suspended]

theorem Dev.sendBeacon_line : (d.sendBeacon h t m e).line h
    = (((d.putBeacon h t e).followBeacon h (d.lineRec h) m t.cycle).line h).hearBeacon (d.beaconEcho h t e).isSome := by
  rw [Dev.sendBeacon, Dev.onNode_line (f := Node.hearBeacon _) fun _ => rfl, Dev.line_onLine]

/-- The line node of a master that has sent its BEACON, but for the course of reef, votes and wakes. -/
theorem Dev.sendBeacon_offCourse : ((d.sendBeacon h t m e).line h).offCourse
    = { (d.putBeacon h t e).line h with
        beaconCycle := some t.cycle, mode := m.1
        sinceBeacon := if (d.beaconEcho h t e).isSome then ((d.putBeacon h t e).line h).sinceBeacon else 1 }.offCourse := by
  have follow := Dev.followBeacon_offCourse h m (d.putBeacon h t e) (d.lineRec h) t.cycle
  rw [Dev.sendBeacon_line]
  cases (d.beaconEcho h t e).isSome with
  | true => exact follow
  | false => exact congrArg (fun l : LineNode => { l with sinceBeacon := 1 }) follow

theorem Dev.sendBeacon_sends : LineNode.Sends (d.lineRec h) (d.line h) t (d.line h).beaconDue ((d.sendBeacon h t m e).line h) := by
  have course := Dev.sendBeacon_offCourse h t m e d
  exact (Dev.putBeacon_sends h t e d).congr (congrArg LineNode.txTel course :) (congrArg (fun l : LineNode => l.lineA.drive) course :)
    (congrArg (fun l : LineNode => l.lineB.drive) course :)

theorem Dev.sendBeacon_beaconCycle : ((d.sendBeacon h t m e).line h).beaconCycle = some t.cycle :=
  (congrArg LineNode.beaconCycle (Dev.sendBeacon_offCourse h t m e d) :)

theorem Dev.sendBeacon_mode : ((d.sendBeacon h t m e).line h).mode = m.1 :=
  (congrArg LineNode.mode (Dev.sendBeacon_offCourse h t m e d) :)

theorem Dev.sendBeacon_cycle : ((d.sendBeacon h t m e).line h).cycle = some t.cycle :=
  (congrArg LineNode.cycle (Dev.sendBeacon_offCourse h t m e d)).trans (congrArg LineNode.cycle (Dev.putBeacon_offTx h t e d))

theorem Dev.sendBeacon_slotRef : ((d.sendBeacon h t m e).line h).slotRef = some (d.beaconRef h t e) :=
  (congrArg LineNode.slotRef (Dev.sendBeacon_offCourse h t m e d)).trans (congrArg LineNode.slotRef (Dev.putBeacon_offTx h t e d))

theorem Dev.sendBeacon_sinceBeacon :
    ((d.sendBeacon h t m e).line h).sinceBeacon = if (d.beaconEcho h t e).isSome then 0 else 1 := by
  have opened : ((d.putBeacon h t e).line h).sinceBeacon = 0 := (congrArg LineNode.sinceBeacon (Dev.putBeacon_offTx h t e d) :)
  rw [← opened]
  exact (congrArg LineNode.sinceBeacon (Dev.sendBeacon_offCourse h t m e d) :)

theorem Dev.sendBeacon_joinBeacon (heard : (d.beaconEcho h t e).isSome = true) : ((d.sendBeacon h t m e).node h).joinBeacon = true := by
  rw [Dev.sendBeacon, Dev.node_onNode, heard]
  exact Bool.or_true _

theorem Dev.sendBeacon_node_ne {g : Half} (other : g ≠ h) : (d.sendBeacon h t m e).node g = d.node g := by
  rw [Dev.sendBeacon, Dev.node_onNode_ne other, Dev.node_onLine_ne other, Dev.followBeacon, Dev.applyMode_node_ne h _ _ _ other,
    Dev.node_onLine_ne other, Dev.putBeacon, Dev.transmit_node_ne h _ _ _ _ other]
  exact Dev.node_of_offCycle (Dev.openCycle_offCycle h _ _ d) other

end

theorem Dev.beaconRef_of_echo {d : Dev} {h : Half} {t : Telegram} {e : CopyPair} {sd : Nat} (echo : d.beaconEcho h t e = some sd) :
    d.beaconRef h t e = sd := by rw [Dev.beaconRef, echo, Option.getD_some]

theorem Dev.beaconRef_of_silence {d : Dev} {h : Half} {t : Telegram} {e : CopyPair} (silence : d.beaconEcho h t e = none) :
    d.beaconRef h t e = (d.line h).beaconDue + (d.lineRec h).bitTimes (10 + (d.lineRec h).preamble) := by
  rw [Dev.beaconRef, silence, Option.getD_none]

section
variable {s : State} {h : Half} {e : CopyPair} (out : s.dev.inReset = false)
include out

theorem exec_beaconSend_early (early : s.dev.sendsBeacon h = false
    ∨ s.dev.dt.toNat + 500 ≤ (s.dev.line h).e0.toNat + (s.dev.line h).e0Next) : exec (.beaconSend h e) s = .next s :=
  exec_idles rfl out (if_pos (by simpa using early))

theorem exec_beaconSend_due (sends : s.dev.sendsBeacon h = true)
    (due : (s.dev.line h).e0.toNat + (s.dev.line h).e0Next < s.dev.dt.toNat + 500) : exec (.beaconSend h e) s = .next (s.lift fun d =>
      d.sendBeacon h (s.dev.nextBeacon h (Dev.viewAt s.bank s.prev s.dev (s.dev.line h).beaconDue).dt) (s.dev.nextMode h) e) :=
  exec_up_as rfl out (if_neg (by simp [sends, due]))

end

end Sys2Proof.Machine
end

section
/-! The obligations of 10, Enain line signalling. -/
namespace Sys2Proof.Proofs
open Sys2Proof Sys2Proof.Machine

/-- Settles O45: each command is its change of the one line (`Dev.checkBias`, `Dev.commonMode`, …) under its guard. -/
theorem lineChecksCountAndSuspend : Obligations.LineChecksCountAndSuspend := by
  unfold Obligations.LineChecksCountAndSuspend
  intro s h x runs node l p other tb only
  have ⟨out, _⟩ := runs
  refine ⟨fun cyc => ?_, fun high => ?_, fun fresh => ?_, fun already => exec_commonModeFault_again out already, ?_, fun c absent => ?_,
    fun c r m received read => ?_, fun c inUse begun unread => ?_⟩
  · have phys := LineNode.gatesClosed_phys (s.dev.stamp cyc) x (s.dev.line h)
    refine ⟨_, exec_slotGateClose out h cyc, State.lift_onlyLine (Dev.onLine_offLine h _ s.dev), Dev.onLine_faults h _ s.dev, ?_,
      fun later past noWake => ?_⟩
    · rw [State.lift_dev, Dev.line_onLine, phys]
      rfl
    · rw [State.lift_dev, Dev.line_onLine, phys]
      exact LinePhys.gateClose_released noWake past
  · refine ⟨_, exec_biasCheck out node x high, Dev.checkBias_phys h x high s.dev, fun low fourth => ?_,
      Dev.checkBias_quiet h x high s.dev, State.lift_onlyLine (Dev.checkBias_offLine h x high s.dev)⟩
    subst low
    exact Dev.checkBias_raises h x s.dev fourth
  · exact ⟨_, exec_commonModeFault out node fresh, Dev.commonMode_phys h x s.dev, Dev.commonMode_raises h x s.dev,
      Dev.commonMode_unusable h x s.dev, State.lift_onlyLine (Dev.commonMode_offLine h x s.dev)⟩
  · split
    next last =>
      exact ⟨_, exec_lineSuspensionEnd_last runs last, Dev.endSuspension_phys h x s.dev, Dev.endSuspension_clears h x s.dev,
        State.lift_onlyLine (Dev.endSuspension_offLine h x s.dev)⟩
    next early => exact exec_lineSuspensionEnd_early runs early
  · refine exec_invalidCopy_other out fun invalid => ?_
    obtain ⟨inUse, begun, -⟩ := (Dev.readCopy_invalid_iff s.dev h x c).mp invalid
    rcases absent with suspended | unbegun
    · exact Bool.noConfusion (suspended.symm.trans inUse)
    · exact Bool.noConfusion (begun.symm.trans unbegun)
  · refine exec_invalidCopy_other out fun invalid => ?_
    obtain ⟨-, -, unread⟩ := (Dev.readCopy_invalid_iff s.dev h x c).mp invalid
    exact Option.some_ne_none m (read.symm.trans (unread r received))
  · have invalid := (Dev.readCopy_invalid_iff s.dev h x c).mpr ⟨inUse, begun, unread⟩
    refine ⟨_, exec_invalidCopy out node invalid, ?_, fun agreed => ?_, State.lift_onlyLine (Dev.countInvalid_offLine h x _ s.dev)⟩
    · rw [State.lift_dev, Dev.countInvalid_phys]
      cases c.agree (bitCycles (s.dev.lineRec h).rate) <;> rfl
    · rw [Bool.not_eq_false'] at agreed
      rw [agreed]
      exact Dev.countInvalid_agreed h x s.dev

/-- Settles O47: each command is a change of its line node under its guard; a missed BEACON ends the cycle as `Dev.missBeacon`. -/
theorem wakeQuietAndMissedBeacons : Obligations.WakeQuietAndMissedBeacons := by
  unfold Obligations.WakeQuietAndMissedBeacons
  intro s h cyc out node l r now lines
  have onlyLine (f : LineNode → LineNode) : lines (s.lift (Dev.onLine h f)) :=
    ⟨State.lift_onLine_frame h f s, fun g other => Dev.node_onLine_ne other f s.dev⟩
  have line (f : LineNode → LineNode) : (s.lift (Dev.onLine h f)).dev.line h = f l := Dev.line_onLine h f s.dev
  refine ⟨fun a b => exec_wakeDetected_unseen out, fun a b seen => ⟨fun outside => ?_, exec_wakeDetected_slave out node seen,
    fun inReef reef first master => ?_⟩, ⟨fun due more => ?_, fun due last => ?_, exec_wakeRetry_early out⟩,
    fun master allowed outside => ?_, fun ref clock => ?_, exec_missedBeaconTimeout_clockless out⟩
  · exact ⟨_, exec_wakeDetected_outsideReef out node seen outside, line _, onlyLine _⟩
  · refine ⟨_, exec_wakeDetected_master out node seen inReef reef first master, line _, Dev.nextMode_of_wakePending ?_, onlyLine _⟩
    rw [line]
    rfl
  · exact ⟨_, exec_wakeRetry_burst out node due more, onlyLine _, line _⟩
  · exact ⟨_, exec_wakeRetry_last out node due last, Dev.endCourse_active h s.dev, Dev.endCourse_line h s.dev,
      fun g other => Dev.endCourse_node_ne h s.dev other, congrArg (fun d => { s with dev := d }) (Dev.endCourse_frame h s.dev)⟩
  · rw [ite_iff_imp_and_imp]
    exact ⟨fun quiet => ⟨_, exec_reefQuietTimeout_quiet out node master allowed outside quiet, line _, onlyLine _⟩,
      exec_reefQuietTimeout_early out⟩
  · rw [ite_iff_imp_and_imp]
    refine ⟨fun due => ?_, fun early => exec_missedBeaconTimeout_early out clock (Nat.not_le.mp early)⟩
    have missed := Dev.missBeacon_line h (ref + l.period r) s.dev
    have frame := Dev.missBeacon_offCycle h (ref + l.period r) s.dev
    refine ⟨_, exec_missedBeaconTimeout_due out clock node due, congrArg LineNode.sinceBeacon missed, congrArg LineNode.slotRef missed,
      (congrArg LineNode.cycle missed).trans (LineNode.missBeacon_cycle _ l.endCycle), fun g other => Dev.node_of_offCycle frame other,
      congrArg (fun d => { s with dev := d }) (Dev.onlyCycle_of_offCycle frame)⟩

/-- Settles O49: an own slot carries the DATA of `Dev.sendData`, a BEACON goes out as `Dev.sendBeacon`; a request outside the windows
is `Dev.raise64` or, with 0x64 active, an entry into the safe state. -/
theorem slotsAndBeaconsAreSentInTurn : Obligations.SlotsAndBeaconsAreSentInTurn := by
  unfold Obligations.SlotsAndBeaconsAreSentInTurn
  intro s h out l r sends
  refine ⟨fun n e cyc => exec_slotStart_barred out, fun n x e cyc may slot => ⟨?_, ?_, ?_⟩, fun e => exec_beaconSend_early out,
    fun e master due => ?_⟩
  · intro gate kind fits speaks full noJoin
    have own : x.kind.retries = false := by rcases kind with kind | kind <;> rw [kind] <;> rfl
    obtain ⟨c, cycle⟩ := Dev.mayRequest_cycle may
    refine ⟨_, _, exec_slotStart_sends out may slot gate own fits speaks full noJoin, Dev.sendData_sends h x.lclass e _ s.dev _, rfl, rfl, rfl,
      ?_, rfl, Dev.composed_fits fits _, Dev.sendData_tseq h x.lclass e _ s.dev _, Dev.sendData_ownSlots h x.lclass e _ s.dev _,
      Dev.sendData_reproduced h x.lclass e _ s.dev _, fun g other => Dev.sendData_node_ne h x.lclass e _ s.dev _ other⟩
    show some (l.cycle.getD 0) = l.cycle
    rw [show l.cycle = some c from cycle, Option.getD_some]
  · intro outside fresh
    exact ⟨_, exec_slotStart_outside_first out may slot outside fresh, Dev.raise64_active h s.dev, Dev.raise64_line h s.dev,
      fun g other => Dev.raise64_node_ne h s.dev other, congrArg (fun d => { s with dev := d }) (Dev.raise64_frame h s.dev)⟩
  · intro outside active mem
    exact ⟨_, exec_slotStart_outside_again out may slot outside active, Dev.safeOf_held mem (Dev.mayRequest_live may) 0x6D 0,
      Dev.enterSafe_codeActive 0x6D _ 0 s.dev⟩
  · intro cyc at_
    refine ⟨_, _, exec_beaconSend_due out master due, Dev.sendBeacon_sends h _ _ e s.dev, rfl, rfl, rfl, rfl,
      Dev.sendBeacon_beaconCycle h _ _ e s.dev, Dev.sendBeacon_cycle h _ _ e s.dev, Dev.sendBeacon_mode h _ _ e s.dev,
      fun sd echo => ⟨(Dev.sendBeacon_slotRef h _ _ e s.dev).trans ?_, (Dev.sendBeacon_sinceBeacon h _ _ e s.dev).trans ?_,
        Dev.sendBeacon_joinBeacon h _ _ e s.dev ?_⟩,
      fun silence => ⟨(Dev.sendBeacon_slotRef h _ _ e s.dev).trans ?_, (Dev.sendBeacon_sinceBeacon h _ _ e s.dev).trans ?_⟩,
      fun g other => Dev.sendBeacon_node_ne h _ _ e s.dev other⟩
    · rw [Dev.beaconRef_of_echo echo]
    · rw [echo]
      rfl
    · rw [echo]
      rfl
    · rw [Dev.beaconRef_of_silence silence]
      rfl
    · rw [silence]
      rfl

end Sys2Proof.Proofs
end

section
/-! Byte strings (R3): the number that bytes spell, and what a field at a place of a string reads. -/
namespace Sys2Proof

@[simp] theorem length_toBytes (k v : Nat) : (toBytes k v).length = k := by
  induction k with
  | zero => rfl
  | succ k ih => exact congrArg (· + 1) ih

theorem ofBytes_foldl (bs : List Byte) (acc : Nat) :
    bs.foldl (fun acc b => acc * 256 + b.toNat) acc = acc * 256 ^ bs.length + ofBytes bs := by
  induction bs generalizing acc with
  | nil => simp [ofBytes]
  | cons b bs ih =>
    rw [ofBytes, List.foldl_cons, List.foldl_cons, ih, ih, List.length_cons]
    ring

theorem ofBytes_cons (b : Byte) (bs : List Byte) : ofBytes (b :: bs) = b.toNat * 256 ^ bs.length + ofBytes bs := by
  rw [ofBytes, List.foldl_cons, ofBytes_foldl, Nat.zero_mul, Nat.zero_add]

/-- `k` bytes hold a number modulo `256 ^ k`. -/
@[simp] theorem ofBytes_toBytes (k v : Nat) : ofBytes (toBytes k v) = v % 256 ^ k := by
  induction k with
  | zero => simp [toBytes, ofBytes, Nat.mod_one]
  | succ k ih =>
    rw [toBytes, ofBytes_cons, ih, length_toBytes, BitVec.toNat_ofNat, show 2 ^ 8 = 256 from rfl, Nat.mod_pow_succ]
    ring

/-! A word and a 16-bit number fill their bytes. -/

@[simp] theorem ofNat_toNat_mod_word (w : Word) : BitVec.ofNat 32 (w.toNat % 4294967296) = w := by
  rw [Nat.mod_eq_of_lt w.isLt, BitVec.ofNat_toNat, BitVec.setWidth_eq]
@[simp] theorem ofNat_toNat_mod_half16 (w : Half16) : BitVec.ofNat 16 (w.toNat % 65536) = w := by
  rw [Nat.mod_eq_of_lt w.isLt, BitVec.ofNat_toNat, BitVec.setWidth_eq]

section
variable (b : Byte) (bs xs : List Byte) (k v : Nat) {off : Nat} (len : Nat)

@[simp] theorem fieldAt_cons_zero : fieldAt (b :: bs) 0 1 = b.toNat := by simp [fieldAt, slice, ofBytes]

@[simp] theorem fieldAt_cons_succ : fieldAt (b :: bs) (off + 1) len = fieldAt bs off len := (rfl)

@[simp] theorem fieldAt_toBytes : fieldAt (toBytes k v) 0 k = v % 256 ^ k := by
  rw [fieldAt, slice, List.drop_zero, List.take_of_length_le (length_toBytes k v).le, ofBytes_toBytes]

@[simp] theorem fieldAt_toBytes_append : fieldAt (toBytes k v ++ xs) 0 k = v % 256 ^ k := by
  rw [fieldAt, slice, List.drop_zero, List.take_left' (length_toBytes k v), ofBytes_toBytes]

@[simp] theorem fieldAt_past_toBytes (past : k ≤ off) : fieldAt (toBytes k v ++ xs) off len = fieldAt xs (off - k) len := by
  rw [fieldAt, slice, List.drop_append, List.drop_of_length_le ((length_toBytes k v).le.trans past), length_toBytes, List.nil_append,
    fieldAt, slice]

end

end Sys2Proof
end

section
/-! The entries of a telegram as bytes (Table TEL-3): each is read back from the 8 bytes it is sent as. -/
namespace Sys2Proof.Machine

/-! ## Codes -/

theorem Verdict.ofCode_code (v : Verdict) : Verdict.ofCode v.code = v := by cases v <;> rfl
theorem Verdict.code_lt (v : Verdict) : v.code < 4 := by cases v <;> decide
theorem ReefMode.ofCode_code (m : ReefMode) : ReefMode.ofCode m.code = some m := by cases m <;> rfl
theorem ReefMode.code_lt (m : ReefMode) : m.code < 4 := by cases m <;> decide
theorem b2n_lt_two (b : Bool) : b2n b < 2 := by cases b <;> decide
theorem b2n_beq_one (b : Bool) : (b2n b == 1) = b := by cases b <;> rfl

/-- A flag packed at bit `i` is read there. -/
theorem testBit_of_b2n {n i : Nat} {b : Bool} (packed : n / 2 ^ i % 2 = b2n b) : n.testBit i = b := by
  rw [Nat.testBit_eq_decide_div_mod_eq, packed]
  exact b2n_beq_one b

section
variable (w : Nat) (codes : List Nat) (acc : Nat)

/-- Codes that are packed behind `acc` leave it in the places above theirs. -/
theorem packCodes_div : codes.foldl (fun acc c => acc * 2 ^ w + c % 2 ^ w) acc / 2 ^ (w * codes.length) = acc := by
  induction codes generalizing acc with
  | nil => simp
  | cons c codes ih =>
    rw [List.foldl_cons, List.length_cons, Nat.mul_succ, Nat.pow_add, ← Nat.div_div_eq_div_mul, ih, Nat.mul_comm acc,
      Nat.mul_add_div (Nat.two_pow_pos w), Nat.div_eq_of_lt (Nat.mod_lt c (Nat.two_pow_pos w)), Nat.add_zero]

theorem packCodes_lt : packCodes w codes < 2 ^ (w * codes.length) :=
  (Nat.div_eq_zero_iff_lt (Nat.two_pow_pos _)).mp (packCodes_div w codes 0)

variable {w codes} (fit : ∀ c ∈ codes, c < 2 ^ w)
include fit

theorem unpackCodes_foldl :
    unpackCodes w codes.length (codes.foldl (fun acc c => acc * 2 ^ w + c % 2 ^ w) acc) = codes := by
  induction codes generalizing acc with
  | nil => rfl
  | cons c codes ih =>
    obtain ⟨first, rest⟩ := List.forall_mem_cons.mp fit
    rw [List.length_cons, unpackCodes, List.foldl_cons, ih _ rest, packCodes_div, Nat.mul_add_mod_self_right, Nat.mod_mod,
      Nat.mod_eq_of_lt first]

theorem unpackCodes_packCodes : unpackCodes w codes.length (packCodes w codes) = codes := unpackCodes_foldl 0 fit

end

/-! ## Entries -/

@[simp] theorem Entry.length_bytes (e : Entry) : e.bytes.length = 8 := by cases e <;> simp [Entry.bytes]

/-- An entry whose fields lie in their bits is read back from its bytes. -/
theorem parseEntry_bytes {e : Entry} (fits : e.fits) : parseEntry e.bytes = some e := by
  cases e with
  | beacon m round sid =>
    have mode := m.code_lt
    simp only [Entry.fits] at fits
    simp [parseEntry, Entry.bytes, Nat.mod_eq_of_lt fits, Nat.mod_eq_of_lt (show m.code < 256 by omega), ReefMode.ofCode_code]
  | pointEvent v ba res replay pt eseq =>
    simp only [Entry.fits] at fits
    have verdict := v.code_lt
    have flagBa := b2n_lt_two ba
    have flagRes := b2n_lt_two res
    have flagReplay := b2n_lt_two replay
    generalize word : v.code * 64 + b2n ba * 32 + b2n res * 16 + b2n replay * 8 + pt / 256 % 4 = n
    have small : n < 256 := by omega
    have point : n % 4 * 256 + pt % 256 = pt := by omega
    simp [parseEntry, Entry.bytes, word, Nat.mod_eq_of_lt small, point, show n / 64 = v.code by omega, Verdict.ofCode_code,
      testBit_of_b2n (show n / 2 ^ 5 % 2 = b2n ba by omega), testBit_of_b2n (show n / 2 ^ 4 % 2 = b2n res by omega),
      testBit_of_b2n (show n / 2 ^ 3 % 2 = b2n replay by omega)]
  | pointStatus g codes =>
    obtain ⟨group, count, fit⟩ := fits
    have bound : packCodes 2 codes < 4294967296 := (packCodes_lt 2 codes).trans_eq (by simp [count])
    have read : unpackCodes 2 16 (packCodes 2 codes) = codes := count ▸ unpackCodes_packCodes (w := 2) fit
    simp [parseEntry, Entry.bytes, Nat.mod_eq_of_lt group, Nat.mod_eq_of_lt bound, read]
  | sectionState g codes =>
    obtain ⟨group, count, fit⟩ := fits
    have bound : packCodes 3 codes < 16777216 := (packCodes_lt 3 codes).trans_eq (by simp [count])
    have read : unpackCodes 3 8 (packCodes 3 codes) = codes := count ▸ unpackCodes_packCodes (w := 3) fit
    simp [parseEntry, Entry.bytes, Nat.mod_eq_of_lt group, Nat.mod_eq_of_lt bound, read]
  | ack owner eseq =>
    simp only [Entry.fits] at fits
    simp [parseEntry, Entry.bytes, show owner % 65536 % 1024 = owner by omega]
  | reefVote yes cyc =>
    have flag := b2n_lt_two yes
    simp [parseEntry, Entry.bytes, Nat.mod_eq_of_lt (show b2n yes < 256 by omega), b2n_beq_one]
  | join reason sess =>
    simp only [Entry.fits] at fits
    simp [parseEntry, Entry.bytes, Nat.mod_eq_of_lt fits]

theorem parseEntries_flatMap {es : List Entry} (fits : ∀ e ∈ es, e.fits) :
    parseEntries es.length (es.flatMap Entry.bytes) = some es := by
  induction es with
  | nil => rfl
  | cons e es ih =>
    obtain ⟨first, rest⟩ := List.forall_mem_cons.mp fits
    rw [List.length_cons, List.flatMap_cons, parseEntries, List.take_left' e.length_bytes, List.drop_left' e.length_bytes,
      parseEntry_bytes first, ih rest]

theorem length_flatMap_bytes (es : List Entry) : (es.flatMap Entry.bytes).length = 8 * es.length := by
  induction es with
  | nil => rfl
  | cons e es ih =>
    rw [List.flatMap_cons, List.length_append, e.length_bytes, ih, List.length_cons]
    omega

end Sys2Proof.Machine
end

section
/-! Telegrams as bytes (Table TEL-1, R187, R188, R190): a telegram is read back from its bytes, and nothing else is read as it. -/
namespace Sys2Proof.Machine

/-- The 16 bytes of a telegram before its entries. -/
def Telegram.head (t : Telegram) : List Byte :=
  toBytes 1 (24 + 8 * t.entries.length) ++ toBytes 1 t.type
    ++ toBytes 2 (b2n t.dup * 2 ^ 15 + b2n t.dpos * 2 ^ 14 + t.src % 1024) ++ toBytes 2 (t.dst % 1024)
    ++ toBytes 2 t.cycle.toNat ++ toBytes 4 t.tseq.toNat ++ toBytes 4 t.dtime.toNat

section
variable (key : Word) (t : Telegram)

theorem Telegram.bytes_eq : t.bytes key = t.head ++ (t.entries.flatMap Entry.bytes ++ safetyCodes key t.body) :=
  List.append_assoc ..

theorem Telegram.length_head : t.head.length = 16 := by simp [Telegram.head]

theorem Telegram.length_bytes : (t.bytes key).length = 24 + 8 * t.entries.length := by
  rw [Telegram.bytes_eq, List.length_append, List.length_append, Telegram.length_head, length_flatMap_bytes, safetyCodes,
    List.length_append, length_toBytes, length_toBytes]
  omega

/-- The bytes from 16 on, as many as the length byte says, are the entries. -/
theorem Telegram.slice_entries : slice (t.bytes key) 16 (8 * t.entries.length) = t.entries.flatMap Entry.bytes := by
  rw [Telegram.bytes_eq, slice, List.drop_left' t.length_head, List.take_left' (length_flatMap_bytes _)]

end

/-- Table TEL-2: the TYPEs are 1 to 3, and no TYPE carries more than five entries. -/
theorem Telegram.type_and_count_of_allowed {t : Telegram} (allowed : t.allowed = true) : t.type < 4 ∧ t.entries.length ≤ 5 := by
  unfold Telegram.allowed at allowed
  split at allowed
  next type entries => simp [type, entries]
  next type =>
    obtain ⟨count, -⟩ := Bool.and_eq_true_iff.mp allowed
    exact ⟨by simp [type], of_decide_eq_true count⟩
  next type entries => simp [type, entries]
  next => exact Bool.noConfusion allowed

section
variable {t : Telegram} (fits : t.fits) (key : Word)
include fits

theorem Telegram.fieldAt_length : fieldAt (t.bytes key) 0 1 = 24 + 8 * t.entries.length := by
  obtain ⟨allowed, -, -, -, -⟩ := fits
  obtain ⟨-, count⟩ := Telegram.type_and_count_of_allowed allowed
  simp [Telegram.bytes_eq, Telegram.head, Nat.mod_eq_of_lt (show 24 + 8 * t.entries.length < 256 by omega)]

/-- The fields of the header, each at its place of Table TEL-1. -/
theorem Telegram.fieldAt_head : fieldAt (t.bytes key) 1 1 = t.type
    ∧ fieldAt (t.bytes key) 2 2 = b2n t.dup * 2 ^ 15 + b2n t.dpos * 2 ^ 14 + t.src ∧ fieldAt (t.bytes key) 4 2 = t.dst
    ∧ fieldAt (t.bytes key) 6 2 = t.cycle.toNat ∧ fieldAt (t.bytes key) 8 4 = t.tseq.toNat
    ∧ fieldAt (t.bytes key) 12 4 = t.dtime.toNat := by
  obtain ⟨allowed, -, src, dst, -⟩ := fits
  obtain ⟨type, -⟩ := Telegram.type_and_count_of_allowed allowed
  have flagDup := b2n_lt_two t.dup
  have flagDpos := b2n_lt_two t.dpos
  refine ⟨?_, ?_, ?_, ?_, ?_, ?_⟩ <;> simp [Telegram.bytes_eq, Telegram.head] <;> omega

/-- A telegram whose fields lie in their bits is read back from its bytes. -/
theorem parseTelegram_bytes : parseTelegram (t.bytes key) = some t := by
  have length := Telegram.fieldAt_length fits key
  obtain ⟨type, word, dst, cycle, tseq, dtime⟩ := Telegram.fieldAt_head fits key
  obtain ⟨-, -, srcFits, dstFits, entriesFit⟩ := fits
  have flagDup := b2n_lt_two t.dup
  have flagDpos := b2n_lt_two t.dpos
  have dup := testBit_of_b2n (i := 15) (b := t.dup) (show fieldAt (t.bytes key) 2 2 / 2 ^ 15 % 2 = _ by omega)
  have dpos := testBit_of_b2n (i := 14) (b := t.dpos) (show fieldAt (t.bytes key) 2 2 / 2 ^ 14 % 2 = _ by omega)
  have src : fieldAt (t.bytes key) 2 2 % 1024 = t.src := by omega
  have size : 24 + 8 * t.entries.length - 24 = 8 * t.entries.length := by omega
  simp only [parseTelegram, length, size, Nat.mul_div_cancel_left _ (show 0 < 8 by decide), t.slice_entries key,
    parseEntries_flatMap entriesFit, type, dup, dpos, src, dst, Nat.mod_eq_of_lt dstFits, cycle, tseq, dtime, BitVec.ofNat_toNat,
    BitVec.setWidth_eq]

theorem telegramOf_bytes : telegramOf key (t.bytes key) = some t := by
  have parsed := parseTelegram_bytes fits key
  have length := Telegram.fieldAt_length fits key
  obtain ⟨allowed, src, -, -, -⟩ := fits
  obtain ⟨-, count⟩ := Telegram.type_and_count_of_allowed allowed
  have listed : telegramLengths.contains (24 + 8 * t.entries.length) = true := by
    interval_cases t.entries.length <;> rfl
  rw [telegramOf, Telegram.length_bytes, length, listed, parsed]
  simp [allowed, src.ne']

end

/-- SRC and DST are read from ten bits each. -/
theorem parseTelegram_addresses {bs : List Byte} {t : Telegram} (parsed : parseTelegram bs = some t) : t.src < 1024 ∧ t.dst < 1024 := by
  unfold parseTelegram at parsed
  dsimp only at parsed
  split at parsed
  next =>
    obtain rfl := Option.some.inj parsed
    exact ⟨Nat.mod_lt _ (by decide), Nat.mod_lt _ (by decide)⟩
  next => exact absurd parsed.symm (Option.some_ne_none t)

/-- Only a telegram's own bytes are read as it. -/
theorem bytes_of_telegramOf {key : Word} {bs : List Byte} {t : Telegram} (read : telegramOf key bs = some t) :
    bs = t.bytes key ∧ bs.length ∈ telegramLengths ∧ t.allowed = true ∧ 0 < t.src ∧ t.src < 1024 ∧ t.dst < 1024 := by
  unfold telegramOf at read
  split at read
  next shape =>
    obtain ⟨listed, -⟩ := Bool.and_eq_true_iff.mp shape
    split at read
    next t' parsed =>
      obtain ⟨valid, ⟨⟩⟩ := Option.ite_none_right_eq_some.mp read
      simp only [Bool.and_eq_true, decide_eq_true_eq, beq_iff_eq] at valid
      obtain ⟨⟨allowed, src⟩, same⟩ := valid
      obtain ⟨srcFits, dstFits⟩ := parseTelegram_addresses parsed
      exact ⟨same.symm, List.contains_iff_mem.mp listed, allowed, Nat.pos_of_ne_zero src, srcFits, dstFits⟩
    next => exact absurd read.symm (Option.some_ne_none t)
  next => exact absurd read.symm (Option.some_ne_none t)

end Sys2Proof.Machine
end

section
/-! A telegram that both lines bring (R188, R192): both copies are read as it, both are kept, and the pair is accepted. -/
namespace Sys2Proof.Machine

theorem Dev.onLine_onLine (h : Half) (f g : LineNode → LineNode) (d : Dev) : (d.onLine h f).onLine h g = d.onLine h fun l => g (f l) := by
  cases h <;> rfl

/-! ## One copy -/

/-- The bytes of a telegram are read as it by a node with its cycle number; a BEACON by every node (R188). -/
theorem telegramIn_bytes {m : Telegram} (fits : m.fits) (key : Word) {cyc : Option Half16} (current : m.type = 1 ∨ cyc = some m.cycle) :
    telegramIn key cyc (m.bytes key) = some m := by
  simp only [telegramIn, telegramOf_bytes fits key]
  exact if_pos (by simpa using current)

theorem Dev.readCopy_valid {d : Dev} {h : Half} {x : Line} {c : Copy} {m : Telegram} {bs : List Byte} {sd : Nat}
    (inUse : ((d.line h).phys x).suspended = false) (received : c.reception (bitCycles (d.lineRec h).rate) = some (bs, sd))
    (read : telegramIn (d.lineRec h).key (d.line h).cycle bs = some m) : d.readCopy h x (some c) = .valid m bs sd := by
  simp [Dev.readCopy, inUse, received, read]

/-- Two equal instants lie in one window (R192). -/
theorem Dev.sameWindow_self (d : Dev) (h : Half) (sd : Nat) : d.sameWindow h sd sd = true := by
  unfold Dev.sameWindow
  split
  · simp only [Bool.and_self, Bool.or_self]
    cases (d.slots h).any fun s => d.inWindow h _ sd s <;> simp
  · rfl

section
variable {d : Dev} {h : Half} {m : Telegram} {sd : Nat} (other : m.src ≠ d.lineAddress h)
include other

/-- R180, R203: a telegram of a peer in its slot is kept, where its source is not silenced. -/
theorem Dev.judge_peer {p : Peer} (type : m.type ≠ 1) (inSlot : d.inSlot h m.src sd = true) (heard : d.mutedSource h m.src = false)
    (peer : (d.line h).peer m.src = some p) : d.judge h m sd = .keep := by
  have timely : d.timely h m sd = true := (if_neg fun both => type both.left).trans inSlot
  have known : ((d.line h).peers.any fun p => p.cfg.address == m.src) = true := by
    rw [LineNode.peer] at peer
    exact List.any_eq_true.mpr ⟨p, List.mem_of_find?_eq_some peer, List.find?_some (p := fun p : Peer => p.cfg.address == m.src) peer⟩
  simp [Dev.judge, other, timely, type, heard, known]

/-- R181: the line master's BEACON in its window is kept. -/
theorem Dev.judge_beacon (type : m.type = 1) (master : m.src = (d.lineRec h).master) (inSlot : d.beaconInSlot h m.beaconMode sd = true) :
    d.judge h m sd = .keep := by
  have timely : d.timely h m sd = true := (if_pos ⟨type, master⟩).trans inSlot
  rw [Dev.judge, if_neg other, timely, Bool.not_true, if_neg Bool.false_ne_true, if_pos type, if_pos master]

end

/-! ## The pair -/

/-- Both lines bring telegram `m` as the bytes `bs`, its start delimiters ending at `sd`. -/
def Dev.BothBring (d : Dev) (h : Half) (cp : CopyPair) (m : Telegram) (bs : List Byte) (sd : Nat) : Prop :=
  d.readCopy h .a cp.a = .valid m bs sd ∧ d.readCopy h .b cp.b = .valid m bs sd

/-- A line that brought its copy is counted as such (R192). -/
def LinePhys.countPresent (p : LinePhys) : LinePhys := { p with singleHist := (false :: p.singleHist).take 64 }

/-- What an accepted pair leaves of its two lines, the decoders of both agreeing (R179, R192). -/
def LineNode.countCopies (l : LineNode) : LineNode :=
  (((l.onPhys .a (LinePhys.checkDecoders true)).onPhys .b (LinePhys.checkDecoders true)).onPhys .a LinePhys.countPresent).onPhys .b
    LinePhys.countPresent

def LineNode.countPair (l : LineNode) : LineNode := { l.countCopies with bothRun := l.countCopies.bothRun + 1 }

/-- A line node without its lines and their counts. -/
def LineNode.offCopies (l : LineNode) : LineNode := { l with lineA := {}, lineB := {}, bothRun := 0 }

theorem LineNode.onPhys_offCopies (x : Line) (f : LinePhys → LinePhys) (l : LineNode) : (l.onPhys x f).offCopies = l.offCopies := by
  cases x <;> rfl

theorem LineNode.countPair_offCopies (l : LineNode) : l.countPair.offCopies = l.offCopies := by
  have lines : l.countCopies.offCopies = l.offCopies := by rw [LineNode.countCopies, onPhys_offCopies, onPhys_offCopies, onPhys_offCopies,
    onPhys_offCopies]
  exact lines

theorem Dev.decoderCheck_true (h : Half) (x : Line) (d : Dev) : d.decoderCheck h x true = d.countDecoders h x true := by
  rcases Dev.decoderCheck_cases h x true d with counted | ⟨disagree, -⟩
  · exact counted
  · exact Bool.noConfusion disagree

/-- The counts of a copy that is kept: that of its line's decoders. -/
theorem Dev.noteCopy_kept {d : Dev} {h : Half} {m : Telegram} {sd : Nat} (keep : d.judge h m sd = .keep) (x : Line) (c : Option Copy)
    (bs : List Byte) : d.noteCopy h x c (.valid m bs sd) = d.countDecoders h x true := by
  simp only [Dev.noteCopy, keep, Dev.decoderCheck_true]

/-- What is judged of a telegram does not rest on the counts of the decoders. -/
theorem Dev.judge_countDecoders (h : Half) (x : Line) (agree : Bool) (d : Dev) (m : Telegram) (sd : Nat) :
    (d.countDecoders h x agree).judge h m sd = d.judge h m sd := by cases h <;> cases x <;> rfl

theorem Dev.singleCopy_present (h : Half) (x : Line) (d : Dev) :
    d.singleCopy h x false = d.onLine h (LineNode.onPhys x LinePhys.countPresent) := (rfl)

section
variable {d : Dev} {h : Half} {cp : CopyPair} {m : Telegram} {bs : List Byte} {sd : Nat} (both : d.BothBring h cp m bs sd)
include both

theorem Dev.foreignType_own : d.foreignType h cp m.type = false := by
  obtain ⟨readA, -⟩ := both
  simp [Dev.foreignType, Dev.pairType, readA, Received.telegram]

theorem Dev.pairUp_both : d.pairUp h cp = cp := by
  obtain ⟨readA, readB⟩ := both
  simp only [Dev.pairUp, readA, readB, Dev.sameWindow_self, if_true]

/-- R192: a telegram that is kept on both lines is accepted. -/
theorem Dev.receive_both (keep : d.judge h m sd = .keep) :
    d.receive h cp = (some ({ tel := m, onA := true, onB := true }, sd), d.onLine h LineNode.countPair) := by
  have whole := Dev.pairUp_both both
  obtain ⟨readA, readB⟩ := both
  have keepB : (d.countDecoders h .a true).judge h m sd = .keep := (Dev.judge_countDecoders h .a true d m sd).trans keep
  have decision : decidePair (d.kept h (.valid m bs sd)) (d.kept h (.valid m bs sd)) = .accept m sd true true := by
    simp [Dev.kept, keep, decidePair]
  have counted : (((d.noteCopy h .a cp.a (.valid m bs sd)).noteCopy h .b cp.b (.valid m bs sd)).singleCopy h .a false).singleCopy h .b false
      = d.onLine h LineNode.countCopies := by
    rw [Dev.noteCopy_kept keep, Dev.noteCopy_kept keepB, Dev.singleCopy_present, Dev.singleCopy_present, Dev.countDecoders,
      Dev.countDecoders, Dev.onLine_onLine, Dev.onLine_onLine, Dev.onLine_onLine]
    rfl
  simp only [Dev.receive, whole, readA, readB, decision, Bool.not_true, counted, Dev.onLine_onLine, Bool.and_self, if_true]
  rfl

end

end Sys2Proof.Machine
end

section
/-! The peers of a line node (R193, R205): what is noted of one whose telegram is taken, is a duplicate, or joins. -/
namespace Sys2Proof.Machine

/-! ## One peer -/

def LineNode.onPeer (a : Nat) (f : Peer → Peer) (l : LineNode) : LineNode :=
  { l with peers := mapIf (fun p => p.cfg.address == a) f l.peers }

theorem Dev.onPeer_eq (h : Half) (a : Nat) (f : Peer → Peer) (d : Dev) : d.onPeer h a f = d.onLine h (LineNode.onPeer a f) := rfl

/-- A change that keeps the peer's record changes the peer that is found. -/
theorem LineNode.peer_onPeer {f : Peer → Peer} (keep : ∀ p, (f p).cfg = p.cfg) (a : Nat) (l : LineNode) :
    (l.onPeer a f).peer a = (l.peer a).map f := by
  rw [LineNode.peer, LineNode.peer, LineNode.onPeer]
  dsimp only
  induction l.peers with
  | nil => rfl
  | cons p ps ih =>
    rw [mapIf, List.map_cons, ← mapIf]
    cases named : p.cfg.address == a with
    | true =>
      rw [if_pos rfl, List.find?_cons_of_pos (by rw [keep, named]),
        List.find?_cons_of_pos (p := fun p : Peer => p.cfg.address == a) named, Option.map_some]
    | false => rw [if_neg Bool.false_ne_true, List.find?_cons_of_neg (by simp [named]), List.find?_cons_of_neg (by simp [named]), ih]

/-- A peer of which telegram `m` is taken (R193). -/
def Peer.note (m : Telegram) (p : Peer) : Peer := { p.hear with s := m.tseq, last := m.entries }

/-- A peer that joins with telegram `m`, or rejoins (R95, R205). -/
def Peer.rejoin (m : Telegram) (p : Peer) : Peer :=
  { p.hear with s := m.tseq, last := m.entries, dropped := false, hi := none, applied := [], verdicted := [] }

theorem Peer.taking_taken_iff {p : Peer} {m : Telegram} : p.taking m = .taken ↔ p.heard = false ∨ newer p.s m.tseq = true := by
  unfold Peer.taking
  split
  next fresh => simpa using fresh
  next stale => split <;> simpa using stale

/-! ## A telegram of a peer (R193) -/

/-- A duplicate of `src` whose entries differ is named (0x69). -/
def Dev.nameDuplicate (h : Half) (src : Nat) (d : Dev) : Dev :=
  (d.raise 0x69 .linePair 0 h src).onLine h fun l => { l with dupCycles := 0, namedSrc := src, namedCode := 0x69 }

section
variable {d : Dev} {h : Half} {m : Telegram} {p : Peer} (peer : (d.line h).peer m.src = some p)
include peer

theorem Dev.takeFrom_taken (taken : p.taking m = .taken) (kept : p.dropped = false) :
    d.takeFrom h m = (true, d.onLine h (LineNode.onPeer m.src (Peer.note m))) := by
  simp only [Dev.takeFrom, peer, taken, kept, Bool.false_eq_true, if_false]
  rfl

/-- A telegram that is not newer is discarded, and a duplicate with other entries named. -/
theorem Dev.takeFrom_discarded (heard : p.heard = true) (old : newer p.s m.tseq = false) :
    d.takeFrom h m = (false, if m.tseq = p.s ∧ p.last ≠ m.entries then (d.onLine h (LineNode.onPeer m.src Peer.hear)).nameDuplicate h m.src
      else d.onLine h (LineNode.onPeer m.src Peer.hear)) := by
  have taking : p.taking m = if m.tseq = p.s then .duplicate (decide (p.last ≠ m.entries)) else .stale := by simp [Peer.taking, heard, old]
  by_cases same : m.tseq = p.s
  · rw [if_pos same] at taking
    by_cases differ : p.last ≠ m.entries <;> simp [Dev.takeFrom, peer, taking, same, differ, Dev.onPeer_eq, Dev.nameDuplicate]
  · rw [if_neg same] at taking
    simp [Dev.takeFrom, peer, taking, same, Dev.onPeer_eq]

end

end Sys2Proof.Machine
end

section
/-! DATA_TELEGRAM (R192, R193): an accepted DATA of a peer is taken, or it is a duplicate or stale and adds nothing. -/
namespace Sys2Proof.Machine

theorem LineNode.countPair_peer (a : Nat) (l : LineNode) : l.countPair.peer a = l.peer a := by
  have peers : l.countPair.peers = l.peers := (congrArg LineNode.peers l.countPair_offCopies :)
  rw [LineNode.peer, peers, LineNode.peer]

/-- An axle event that is reported for the first time ends the quiet of the line pair (R206). -/
def LineNode.noteReport (frame : Word) (m : Telegram) (l : LineNode) : LineNode := if m.reports then { l with quietFrame := frame } else l

theorem LineNode.noteReport_peer (frame : Word) (m : Telegram) (a : Nat) (l : LineNode) : (l.noteReport frame m).peer a = l.peer a := by
  unfold LineNode.noteReport
  split <;> rfl

/-- Telegram `m`, which both lines brought, enters the open capture set. -/
def Dev.captureTelegram (h : Half) (m : Telegram) (d : Dev) : Dev :=
  { d with capOpen := { d.capOpen with telegrams := d.capOpen.telegrams ++ [(h, { tel := m, onA := true, onB := true })] } }

/-- What DATA_TELEGRAM does with a DATA that is accepted on both lines. -/
def Dev.acceptData (h : Half) (m : Telegram) (d : Dev) : Dev :=
  let r := (d.onLine h fun l => l.countPair.noteReport d.frame m).takeFrom h m
  if r.1 then r.2.captureTelegram h m else r.2

theorem exec_dataTelegram {s : State} {h : Half} {cp : CopyPair} {m : Telegram} {bs : List Byte} {sd : Nat} (out : s.dev.inReset = false)
    (node : s.dev.hasLine h = true) (type : m.type = 2) (both : s.dev.BothBring h cp m bs sd) (keep : s.dev.judge h m sd = .keep) :
    exec (.dataTelegram h cp) s = .next (s.lift (Dev.acceptData h m)) := by
  have own := Dev.foreignType_own both
  rw [type] at own
  have noted : (if m.reports then (s.dev.onLine h LineNode.countPair).onLine h fun l => { l with quietFrame := s.dev.frame }
      else s.dev.onLine h LineNode.countPair) = s.dev.onLine h fun l => l.countPair.noteReport s.dev.frame m := by
    cases reports : m.reports <;> simp [LineNode.noteReport, reports, Dev.onLine_onLine]
  have frame : (s.dev.onLine h LineNode.countPair).frame = s.dev.frame := Dev.onNode_frame h _ s.dev
  refine exec_up_as rfl out ?_
  simp only [node, own, Dev.receive_both both keep, frame, noted, Bool.not_true, Bool.or_self, Bool.false_eq_true, if_false]
  rfl

/-! ## What a DATA leaves of the device -/

/-- The device without the line node of half `h`, the fault system and the open capture set. -/
def Dev.offData (h : Half) (d : Dev) : Dev := { d with faults := {}, capOpen := {} }.onLine h fun _ => {}

theorem Dev.onLine_offData (h : Half) (f : LineNode → LineNode) (d : Dev) : (d.onLine h f).offData h = d.offData h := by
  cases h <;> rfl

theorem Dev.nameDuplicate_offData (h : Half) (src : Nat) (d : Dev) : (d.nameDuplicate h src).offData h = d.offData h :=
  Dev.onLine_offData h _ _

/-- Of the state at most the line node of half `h`, the faults and the open capture set differ. -/
theorem State.lift_onlyData {h : Half} {f : Dev → Dev} {s : State} (same : (f s.dev).offData h = s.dev.offData h) :
    (∀ g, g ≠ h → (s.lift f).dev.node g = s.dev.node g)
    ∧ s.lift f = { s with dev := { s.dev with
        capOpen := (f s.dev).capOpen, faults := (f s.dev).faults
        nodeA := { s.dev.nodeA with line := (f s.dev).nodeA.line }, nodeB := { s.dev.nodeB with line := (f s.dev).nodeB.line } } } := by
  have read (g : Half) (other : g ≠ h) (d : Dev) : (d.offData h).node g = d.node g :=
    (Dev.node_onLine_ne other _ _).trans (by cases g <;> rfl)
  have rest := congrArg (fun d : Dev => { s with dev := { d with
    capOpen := (f s.dev).capOpen, faults := (f s.dev).faults
    nodeA := { d.nodeA with line := (f s.dev).nodeA.line }, nodeB := { d.nodeB with line := (f s.dev).nodeB.line } } }) same
  refine ⟨fun g other => ?_, ?_⟩
  · rw [State.lift_dev, ← read g other (f s.dev), same, read g other]
  · cases h <;> exact rest

/-! ## Taken or discarded -/

section
variable {d : Dev} {h : Half} {m : Telegram} {p : Peer} (peer : (d.line h).peer m.src = some p)
include peer

/-- The counts of a pair leave the peers as they are. -/
theorem Dev.peer_before_data : ((d.onLine h fun l => l.countPair.noteReport d.frame m).line h).peer m.src = some p := by
  rw [Dev.line_onLine, LineNode.noteReport_peer, LineNode.countPair_peer, peer]

theorem Dev.acceptData_taken (fresh : p.heard = false ∨ newer p.s m.tseq = true) (kept : p.dropped = false) : d.acceptData h m
    = (d.onLine h fun l => (l.countPair.noteReport d.frame m).onPeer m.src (Peer.note m)).captureTelegram h m := by
  rw [Dev.acceptData, Dev.takeFrom_taken (Dev.peer_before_data peer) (Peer.taking_taken_iff.mpr fresh) kept, Dev.onLine_onLine]
  rfl

theorem Dev.acceptData_discarded (heard : p.heard = true) (old : newer p.s m.tseq = false) : d.acceptData h m
    = if m.tseq = p.s ∧ p.last ≠ m.entries
      then (d.onLine h fun l => (l.countPair.noteReport d.frame m).onPeer m.src Peer.hear).nameDuplicate h m.src
      else d.onLine h fun l => (l.countPair.noteReport d.frame m).onPeer m.src Peer.hear := by
  rw [Dev.acceptData, Dev.takeFrom_discarded (Dev.peer_before_data peer) heard old, Dev.onLine_onLine]
  rfl

theorem Dev.acceptData_offData (kept : p.dropped = false) : (d.acceptData h m).offData h = d.offData h := by
  by_cases fresh : p.heard = false ∨ newer p.s m.tseq = true
  · rw [Dev.acceptData_taken peer fresh kept]
    exact Dev.onLine_offData h _ d
  · simp only [not_or, Bool.not_eq_false, Bool.not_eq_true] at fresh
    obtain ⟨heard, old⟩ := fresh
    rw [Dev.acceptData_discarded peer heard old]
    split
    · rw [Dev.nameDuplicate_offData, Dev.onLine_offData]
    · exact Dev.onLine_offData h _ d

/-- A change of the peer alone is found in it, whatever is counted with it. -/
theorem Dev.peer_after_data {f : Peer → Peer} (keep : ∀ p, (f p).cfg = p.cfg) :
    ((d.onLine h fun l => (l.countPair.noteReport d.frame m).onPeer m.src f).line h).peer m.src = some (f p) := by
  rw [Dev.line_onLine, LineNode.peer_onPeer keep, LineNode.noteReport_peer, LineNode.countPair_peer, peer, Option.map_some]

/-- A fresh DATA is in the open capture set, and its TSEQ and entries are noted. -/
theorem Dev.acceptData_of_fresh (fresh : p.heard = false ∨ newer p.s m.tseq = true) (kept : p.dropped = false) :
    (d.acceptData h m).capOpen
      = { d.capOpen with telegrams := d.capOpen.telegrams ++ [(h, { tel := m, onA := true, onB := true })] }
    ∧ ((d.acceptData h m).line h).peer m.src = some (p.note m) := by
  rw [Dev.acceptData_taken peer fresh kept]
  refine ⟨?_, Eq.trans ?_ (Dev.peer_after_data peer (f := Peer.note m) fun _ => rfl)⟩
  · cases h <;> rfl
  · cases h <;> rfl

/-- A DATA that is not newer hears its peer alone, and one with other entries under the TSEQ last taken has 0x69 active. -/
theorem Dev.acceptData_of_old (heard : p.heard = true) (old : newer p.s m.tseq = false) :
    (d.acceptData h m).capOpen = d.capOpen ∧ ((d.acceptData h m).line h).peer m.src = some p.hear
    ∧ (m.tseq = p.s → p.last ≠ m.entries → (d.acceptData h m).hasFault 0x69 .linePair 0 h = true) := by
  have found := Dev.peer_after_data peer (f := Peer.hear) fun _ => rfl
  rw [Dev.acceptData_discarded peer heard old]
  split
  next =>
    refine ⟨?_, Eq.trans ?_ found, fun _ _ => ?_⟩
    · cases h <;> rfl
    · rw [Dev.nameDuplicate, Dev.line_onLine, Dev.line_raise]
      rfl
    · rw [Dev.nameDuplicate, Dev.hasFault_onLine, Dev.hasFault_raise]
  next same => exact ⟨Dev.onNode_capOpen h _ d, found, fun tseq entries => absurd ⟨tseq, entries⟩ same⟩

end

end Sys2Proof.Machine
end

section
/-! JOIN_TELEGRAM (R205): what a node that joins, or rejoins, loses and keeps. -/
namespace Sys2Proof.Machine

/-! ## Points of an owner -/

/-- A remote point of owner `a`; where `onlyOffline`, one that is OFFLINE. -/
def Point.awaits (a : Nat) (onlyOffline : Bool) (p : Point) : Bool :=
  Node.ownedBy a p && (!onlyOffline || decide (p.state = .offline))

/-- DISTURBED until its owner reports it (R91, R205). -/
def Point.await (p : Point) : Point := { p.disturb with reported := false, heardOnce := true }

def Node.disturbOwned (a : Nat) (onlyOffline : Bool) (n : Node) : Node :=
  { n with points := mapIf (Point.awaits a onlyOffline) Point.await n.points }

theorem Dev.clearOffline_frame (h : Half) (ps : List Point) (d : Dev) :
    ps.foldl (fun (d : Dev) p => d.clearF 0x44 .point p.cfg.index h) d
      = { d with faults := (ps.foldl (fun (d : Dev) p => d.clearF 0x44 .point p.cfg.index h) d).faults } := by
  induction ps generalizing d with
  | nil => rfl
  | cons p ps ih => exact ih (d.clearF 0x44 .point p.cfg.index h)

section
variable (h : Half) (a : Nat) (onlyOffline : Bool) (d : Dev)

theorem Dev.ownerDisturbed_eq : d.ownerDisturbed h a onlyOffline
    = { d.onNode h (Node.disturbOwned a onlyOffline) with faults := (d.ownerDisturbed h a onlyOffline).faults } :=
  Dev.clearOffline_frame h _ _

theorem Dev.ownerDisturbed_node : (d.ownerDisturbed h a onlyOffline).node h = (d.node h).disturbOwned a onlyOffline := by
  rw [Dev.ownerDisturbed_eq]
  cases h <;> rfl

theorem Dev.ownerDisturbed_capOpen : (d.ownerDisturbed h a onlyOffline).capOpen = d.capOpen := by
  rw [Dev.ownerDisturbed_eq]
  cases h <;> rfl

end

theorem Node.disturbOwned_state {n : Node} {a : Nat} {q : Point} (mem : q ∈ (n.disturbOwned a false).points) (remote : q.cfg.kind = .remote)
    (owner : q.cfg.owner = a) : q.state = .disturbed := by
  obtain ⟨p, -, rfl⟩ := List.mem_map.mp mem
  split at remote
  next owned => rw [if_pos owned]; rfl
  next other =>
    rw [if_neg other] at owner
    exact absurd (by simp [Point.awaits, Node.ownedBy, remote, owner]) other

/-! ## A node that joins -/

def Peer.openSession (session : Word) (p : Peer) : Peer := { p with session := some session }

/-- A half as a node joins or rejoins with telegram `m` (R95, R205). -/
def Node.rejoin (m : Telegram) (n : Node) : Node :=
  { n with line := n.line.onPeer m.src (Peer.rejoin m), journal := n.journal.dropConsumer m.src }.disturbOwned m.src false

section
variable (h : Half) (m : Telegram) (d : Dev)

theorem Dev.rejoinOf_node : (d.rejoinOf h m).node h = (d.node h).rejoin m := by
  rw [Dev.rejoinOf, Dev.ownerDisturbed_node, Dev.node_onNode, Dev.onPeer_eq, Dev.onLine, Dev.node_onNode]
  rfl

theorem Dev.rejoinOf_capOpen : (d.rejoinOf h m).capOpen = d.capOpen := by
  rw [Dev.rejoinOf, Dev.ownerDisturbed_capOpen, Dev.onNode_capOpen, Dev.onPeer, Dev.onLine, Dev.onNode_capOpen]

end

theorem Journal.not_mem_consumers {j : Journal} {a : Nat} {e : JEntry} (mem : e ∈ (j.dropConsumer a).entries) : a ∉ e.consumers := by
  obtain ⟨e, -, rfl⟩ := List.mem_map.mp mem
  simp

/-! ## The command -/

/-- What JOIN_TELEGRAM does with a JOIN that is accepted on both lines. -/
def Dev.hearJoin (h : Half) (m : Telegram) (session : Word) (d : Dev) : Dev := (d.onLine h LineNode.countPair).acceptJoin h m session

theorem exec_joinTelegram {s : State} {h : Half} {cp : CopyPair} {m : Telegram} {bs : List Byte} {sd reason : Nat} {session : Word}
    (out : s.dev.inReset = false) (node : s.dev.hasLine h = true) (type : m.type = 3) (entries : m.entries = [.join reason session])
    (both : s.dev.BothBring h cp m bs sd) (keep : s.dev.judge h m sd = .keep) :
    exec (.joinTelegram h cp) s = .next (s.lift (Dev.hearJoin h m session)) := by
  have own := Dev.foreignType_own both
  rw [type] at own
  refine exec_up_as rfl out ?_
  simp only [node, own, Dev.receive_both both keep, entries, Bool.not_true, Bool.or_self, Bool.false_eq_true, if_false]
  rfl

section
variable {d : Dev} {h : Half} {m : Telegram} {p : Peer} {session : Word} (peer : (d.line h).peer m.src = some p)
  (fresh : p.session ≠ some session)
include peer fresh

theorem Dev.hearJoin_eq : d.hearJoin h m session
    = ((d.onLine h LineNode.countPair).rejoinOf h m).onLine h (LineNode.onPeer m.src (Peer.openSession session)) := by
  have known : ((d.onLine h LineNode.countPair).line h).peer m.src = some p := by
    rw [Dev.line_onLine, LineNode.countPair_peer, peer]
  simp only [Dev.hearJoin, Dev.acceptJoin, known, if_neg fresh, Dev.onPeer_eq]
  rfl

/-- The half of a node that hears a new SESSION. -/
theorem Dev.hearJoin_node : (d.hearJoin h m session).node h
    = (((d.node h).onLine LineNode.countPair).rejoin m).onLine (LineNode.onPeer m.src (Peer.openSession session)) := by
  rw [Dev.hearJoin_eq peer fresh, Dev.onLine, Dev.node_onNode, Dev.rejoinOf_node, Dev.onLine, Dev.node_onNode]

theorem Dev.hearJoin_peer : ((d.hearJoin h m session).line h).peer m.src = some ((p.rejoin m).openSession session) := by
  rw [Dev.line, Dev.hearJoin_node peer fresh]
  refine (LineNode.peer_onPeer (f := Peer.openSession session) (fun _ => rfl) m.src _).trans ?_
  have noted : (((d.line h).countPair).onPeer m.src (Peer.rejoin m)).peer m.src = some (p.rejoin m) := by
    rw [LineNode.peer_onPeer (f := Peer.rejoin m) fun _ => rfl, LineNode.countPair_peer, peer, Option.map_some]
  exact congrArg (Option.map _) noted

theorem Dev.hearJoin_capOpen : (d.hearJoin h m session).capOpen = d.capOpen := by
  rw [Dev.hearJoin_eq peer fresh, Dev.onLine, Dev.onNode_capOpen, Dev.rejoinOf_capOpen, Dev.onLine, Dev.onNode_capOpen]

theorem Dev.hearJoin_consumers {e : JEntry} (mem : e ∈ ((d.hearJoin h m session).node h).journal.entries) : m.src ∉ e.consumers := by
  rw [Dev.hearJoin_node peer fresh] at mem
  exact Journal.not_mem_consumers mem

theorem Dev.hearJoin_points {q : Point} (mem : q ∈ ((d.hearJoin h m session).node h).points) (remote : q.cfg.kind = .remote)
    (owner : q.cfg.owner = m.src) : q.state = .disturbed := by
  rw [Dev.hearJoin_node peer fresh] at mem
  exact Node.disturbOwned_state mem remote owner

end

end Sys2Proof.Machine
end

section
/-! BEACON (R196, R202, R206 to R208): the accepted BEACON of the line master opens its cycle and brings MODE, ROUND and SCHED_ID. -/
namespace Sys2Proof.Machine

/-! ## What a reception leaves of the other half and of the rig -/

/-- The device without the half `h`, the fault system and the ports' journals. -/
def Dev.offHalf (h : Half) (d : Dev) : Dev :=
  { d with faults := {}, port0 := { d.port0 with journal := [] }, port1 := { d.port1 with journal := [] } }.onNode h fun _ => {}

section
variable (h : Half) (d : Dev)

@[simp] theorem Dev.onNode_offHalf (f : Node → Node) : (d.onNode h f).offHalf h = d.offHalf h := by cases h <;> rfl
@[simp] theorem Dev.onLine_offHalf (f : LineNode → LineNode) : (d.onLine h f).offHalf h = d.offHalf h := Dev.onNode_offHalf h d _
@[simp] theorem Dev.raise_offHalf (code : Nat) (k : Kind) (obj : Nat) (g : Half) (p : Nat) :
    (d.raise code k obj g p).offHalf h = d.offHalf h := (rfl)
@[simp] theorem Dev.clearF_offHalf (code : Nat) (k : Kind) (obj : Nat) (g : Half) : (d.clearF code k obj g).offHalf h = d.offHalf h := (rfl)

theorem Dev.openCycle_offHalf (cyc : Half16) (ref : Nat) : (d.openCycle h cyc ref).offHalf h = d.offHalf h := by
  have read (d : Dev) : (d.offCycle h).offHalf h = d.offHalf h := by cases h <;> rfl
  rw [← read, Dev.openCycle_offCycle, read]

theorem Dev.ownerDisturbed_offHalf (a : Nat) (onlyOffline : Bool) : (d.ownerDisturbed h a onlyOffline).offHalf h = d.offHalf h := by
  rw [Dev.ownerDisturbed_eq]
  exact Dev.onNode_offHalf h d _

theorem Dev.rejoinOf_offHalf (m : Telegram) : (d.rejoinOf h m).offHalf h = d.offHalf h := by
  rw [Dev.rejoinOf, Dev.ownerDisturbed_offHalf, Dev.onNode_offHalf, Dev.onPeer_eq, Dev.onLine_offHalf]

theorem Dev.rig_of_offHalf {d e : Dev} {h : Half} (same : e.offHalf h = d.offHalf h) : e.rig = d.rig := by
  have read (d : Dev) : (d.offHalf h).rig = d.rig := Dev.onNode_rig h _ _
  rw [← read, same, read]

theorem Dev.node_of_offHalf {d e : Dev} {h g : Half} (same : e.offHalf h = d.offHalf h) (other : g ≠ h) : e.node g = d.node g := by
  have read (d : Dev) : (d.offHalf h).node g = d.node g := (Dev.node_onNode_ne other _ _).trans (by cases g <;> rfl)
  rw [← read, same, read]

end

theorem Dev.rigPart_of_rig {d e : Dev} (same : e.rig = d.rig) (h : Half) : e.rigPart h = d.rigPart h := by
  unfold Dev.rigPart
  rw [same]

theorem Dev.schedId_of_rig {d e : Dev} (same : e.rig = d.rig) (h : Half) : e.schedId h = d.schedId h := by
  rw [Dev.schedId, Dev.schedule, Dev.rigPart_of_rig same, Dev.schedId, Dev.schedule]

theorem Dev.lineAddress_of_rig {d e : Dev} (same : e.rig = d.rig) (h : Half) : e.lineAddress h = d.lineAddress h := by
  rw [Dev.lineAddress, Dev.rigPart_of_rig same, Dev.lineAddress]

/-! ## The source of a BEACON is taken (R193) -/

/-- The three things that become of a peer's telegram: it is noted, or the peer rejoins, or it is discarded. -/
theorem Dev.takeFrom_cases (h : Half) (m : Telegram) (d : Dev) : (d.takeFrom h m).2 = d ∨ (d.takeFrom h m).2 = d.rejoinOf h m
    ∨ (∃ f, (d.takeFrom h m).2 = d.onLine h (LineNode.onPeer m.src f))
    ∨ (d.takeFrom h m).2 = (d.onLine h (LineNode.onPeer m.src Peer.hear)).nameDuplicate h m.src := by
  unfold Dev.takeFrom
  split
  next => exact .inl rfl
  next p _ =>
    split
    next =>
      cases p.dropped with
      | true => exact .inr (.inl rfl)
      | false => exact .inr (.inr (.inl ⟨_, rfl⟩))
    next differs _ =>
      cases differs with
      | true => exact .inr (.inr (.inr rfl))
      | false => exact .inr (.inr (.inl ⟨_, rfl⟩))
    next => exact .inr (.inr (.inl ⟨_, rfl⟩))

/-- A line node without its peers and what is noted of duplicates. -/
def LineNode.offPeers (l : LineNode) : LineNode := { l with peers := [], dupCycles := 0, namedSrc := 0, namedCode := 0 }

section
variable (h : Half) (m : Telegram) (d : Dev)

theorem Dev.nameDuplicate_offPeers (src : Nat) : ((d.nameDuplicate h src).line h).offPeers = (d.line h).offPeers := by
  rw [Dev.nameDuplicate, Dev.line_onLine, Dev.line_raise]
  rfl

theorem Dev.rejoinOf_offPeers : ((d.rejoinOf h m).line h).offPeers = (d.line h).offPeers := by
  rw [Dev.line, Dev.rejoinOf_node]
  rfl

theorem Dev.takeFrom_offPeers : ((d.takeFrom h m).2.line h).offPeers = (d.line h).offPeers := by
  rcases Dev.takeFrom_cases h m d with same | rejoins | ⟨f, noted⟩ | named
  · rw [same]
  · rw [rejoins, Dev.rejoinOf_offPeers]
  · rw [noted, Dev.line_onLine]
    rfl
  · rw [named, Dev.nameDuplicate_offPeers, Dev.line_onLine]
    rfl

theorem Dev.takeFrom_offHalf : (d.takeFrom h m).2.offHalf h = d.offHalf h := by
  rcases Dev.takeFrom_cases h m d with same | rejoins | ⟨f, noted⟩ | named
  · rw [same]
  · rw [rejoins, Dev.rejoinOf_offHalf]
  · rw [noted, Dev.onLine_offHalf]
  · rw [named, Dev.nameDuplicate, Dev.onLine_offHalf, Dev.raise_offHalf, Dev.onLine_offHalf]

end

/-! ## The cycle that a BEACON opens (R196, R202, R203) -/

/-- The device as BEACON `m` has opened its cycle with reference `sd`, and its source is heard. -/
def Dev.hearMaster (h : Half) (m : Telegram) (sd : Nat) (d : Dev) : Dev :=
  ((d.openCycle h m.cycle sd).takeFrom h m).2.ownerDisturbed h m.src true

section
variable (h : Half) (m : Telegram) (sd : Nat) (d : Dev)

theorem Dev.hearMaster_offPeers : ((d.hearMaster h m sd).line h).offPeers = ((d.line h).openCycle m.cycle sd).offPeers := by
  rw [Dev.hearMaster, Dev.line, Dev.ownerDisturbed_node]
  exact (Dev.takeFrom_offPeers h m _).trans (congrArg LineNode.offPeers (Dev.openCycle_line h m.cycle sd d))

theorem Dev.hearMaster_offHalf : (d.hearMaster h m sd).offHalf h = d.offHalf h := by
  rw [Dev.hearMaster, Dev.ownerDisturbed_offHalf, Dev.takeFrom_offHalf, Dev.openCycle_offHalf]

end

/-! ## SCHED_ID (Table TEL-4, 0x6A) -/

/-- The node is silent with 0x6A while the BEACON's SCHED_ID is not the rig's. -/
def Dev.checkSched (h : Half) (sid : Word) (d : Dev) : Dev :=
  if sid = d.schedId h then (d.clearF 0x6A .lineNode 0 h).onLine h fun l => { l with silent6A := false }
  else (d.raiseOnce 0x6A .lineNode 0 h).onLine h fun l => { l with silent6A := true }

section
variable (h : Half) (sid : Word) (d : Dev)

theorem Dev.checkSched_line : (d.checkSched h sid).line h = { d.line h with silent6A := decide (sid ≠ d.schedId h) } := by
  unfold Dev.checkSched
  split
  next same => rw [Dev.line_onLine, Dev.line_clearF, decide_eq_false (not_not.mpr same)]
  next differ => rw [Dev.line_onLine, Dev.line, Dev.raiseOnce_node, decide_eq_true differ, Dev.line]

theorem Dev.checkSched_active : (d.checkSched h sid).hasFault 0x6A .lineNode 0 h = decide (sid ≠ d.schedId h) := by
  unfold Dev.checkSched
  split
  next same => rw [Dev.hasFault_onLine, Dev.hasFault_clearF, decide_eq_false (not_not.mpr same)]
  next differ => rw [Dev.hasFault_onLine, Dev.raiseOnce_active, decide_eq_true differ]

theorem Dev.checkSched_offHalf : (d.checkSched h sid).offHalf h = d.offHalf h := by
  unfold Dev.checkSched
  split
  · rw [Dev.onLine_offHalf, Dev.clearF_offHalf]
  · rw [Dev.onLine_offHalf, Dev.raiseOnce_frame]
    rfl

end

/-! ## MODE and ROUND -/

/-- Clearing a fault leaves one of another code as it is. -/
theorem Faults.clear_any_ne {k x : FaultKey} (other : x.code ≠ k.code) (f : Faults) :
    (f.clear k).active.any (FaultKey.same x) = f.active.any (FaultKey.same x) := by
  unfold Faults.clear
  split
  next =>
    rw [List.any_filter]
    refine congrArg f.active.any (funext fun y => ?_)
    cases matched : FaultKey.same x y with
    | false => rw [Bool.and_false]
    | true =>
      obtain ⟨code, -⟩ := (FaultKey.same_iff x y).mp matched
      have distinct : FaultKey.same k y = false := by
        rw [← Bool.not_eq_true, FaultKey.same_iff]
        exact fun same => other (code.trans same.left.symm)
      rw [distinct, Bool.not_false, Bool.and_true]
  next => rfl

theorem Dev.hasFault_clearF_ne {code code' : Nat} (other : code ≠ code') (k k' : Kind) (obj obj' : Nat) (d : Dev) (h h' : Half) :
    (d.clearF code' k' obj' h').hasFault code k obj h = d.hasFault code k obj h :=
  Faults.clear_any_ne other d.faults

section
variable (h : Half) (m : ReefMode) (round : Nat) (d : Dev)

theorem Dev.takeMode_faults : (d.takeMode h m round).faults = d.faults := by
  unfold Dev.takeMode
  dsimp only
  split
  · rw [Dev.onNode_faults, Dev.onLine_faults, Dev.onLine_faults]
  · rw [Dev.onLine_faults]

theorem Dev.takeMode_round : ((d.takeMode h m round).line h).round = round := by
  unfold Dev.takeMode
  dsimp only
  split
  · rw [Dev.onNode_line (f := Node.startRejoin) fun _ => rfl, Dev.line_onLine, Dev.line_onLine]
  · rw [Dev.line_onLine]

/-- A MODE clears 0x6B at most. -/
theorem Dev.actMode_faults (was : ReefMode) : (d.actMode h was m).faults = d.faults
    ∨ (d.actMode h was m).faults = (d.clearF 0x6B .lineNode 0 h).faults := by
  cases m with
  | normal =>
    refine .inr ?_
    rw [Dev.actMode, Dev.clearF, Dev.onLine_faults, Dev.clearF]
  | propose => exact .inl (Dev.onLine_faults h _ d)
  | commit =>
    refine .inl ?_
    rw [Dev.actMode, Dev.onLine_faults, Dev.onNode_faults]
  | reef =>
    refine .inl ?_
    rw [Dev.actMode, Dev.onLine_faults]
    split
    · rfl
    · rw [Dev.onLine_faults, Dev.onNode_faults]

theorem Dev.actMode_round (was : ReefMode) : ((d.actMode h was m).line h).round = (d.line h).round := by
  have rested : ((d.onNode h (Node.rest d.frame)).line h) = d.line h := Dev.onNode_line (f := Node.rest d.frame) (fun _ => rfl) h d
  cases m with
  | normal => rw [Dev.actMode, Dev.line_clearF, Dev.line_onLine]
  | propose => rw [Dev.actMode, Dev.line_onLine]
  | commit => rw [Dev.actMode, Dev.line_onLine, rested]
  | reef =>
    rw [Dev.actMode, Dev.line_onLine]
    split
    · rfl
    · rw [Dev.line_onLine, rested]

theorem Dev.applyMode_round : ((d.applyMode h m round).line h).round = round := by
  rw [Dev.applyMode_eq, Dev.actMode_round, Dev.takeMode_round]

theorem Dev.applyMode_hasFault {code : Nat} (other : code ≠ 0x6B) (k : Kind) (obj : Nat) (g : Half) :
    (d.applyMode h m round).hasFault code k obj g = d.hasFault code k obj g := by
  have taken : (d.takeMode h m round).hasFault code k obj g = d.hasFault code k obj g := by
    rw [Dev.hasFault, Dev.takeMode_faults, Dev.hasFault]
  rw [Dev.applyMode_eq, ← taken]
  rcases Dev.actMode_faults h m (d.takeMode h m round) (d.line h).mode with same | cleared
  · rw [Dev.hasFault, same, Dev.hasFault]
  · rw [Dev.hasFault, cleared]
    exact Dev.hasFault_clearF_ne other k .lineNode obj 0 _ g h

end

/-! ## The BEACON of another node -/

/-- A BEACON whose SCHED_ID is the rig's lets the node join (R268). -/
def Node.joinHeard (n : Node) : Node := { n with joinBeacon := n.joinBeacon || !n.line.silent6A }

/-- What an accepted BEACON of another node does with a device. -/
def Dev.followMaster (h : Half) (m : Telegram) (sd : Nat) (mode : ReefMode) (round : Nat) (sid : Word) (d : Dev) : Dev :=
  (((d.hearMaster h m sd).checkSched h sid).applyMode h mode round).onNode h Node.joinHeard

section
variable {d : Dev} {h : Half} {m : Telegram} {mode : ReefMode} {round : Nat} {sid : Word} (sd : Nat)

theorem Dev.acceptBeacon_eq (entries : m.entries = [.beacon mode round sid]) (fresh : ∀ c, (d.line h).cycle = some c → newer c m.cycle = true)
    (recent : ∀ p, (d.line h).peer m.src = some p → p.heard = false ∨ newer p.s m.tseq = true) (other : m.src ≠ d.lineAddress h) :
    d.acceptBeacon h m sd = d.followMaster h m sd mode round sid := by
  have away : ¬ m.src = (d.hearMaster h m sd).lineAddress h := by
    rwa [Dev.lineAddress_of_rig (Dev.rig_of_offHalf (Dev.hearMaster_offHalf h m sd d))]
  unfold Dev.acceptBeacon
  rw [entries]
  refine (if_neg ?_).trans ((if_neg ?_).trans ?_)
  · cases cycle : (d.line h).cycle with
    | none => simp
    | some c => simp [fresh c cycle]
  · cases peer : (d.line h).peer m.src with
    | none => simp
    | some p => simp [Peer.taking_taken_iff.mpr (recent p peer)]
  · exact congrArg (fun e : Dev => ((e.checkSched h sid).applyMode h mode round).onNode h Node.joinHeard) (if_neg away)

/-- The line node that has followed its master's BEACON, but for the course of reef, votes and wakes. -/
theorem Dev.followMaster_offCourse : ((d.followMaster h m sd mode round sid).line h).offCourse.offPeers
    = { (d.line h).openCycle m.cycle sd with silent6A := decide (sid ≠ d.schedId h), mode := mode }.offCourse.offPeers := by
  have sched : (d.hearMaster h m sd).schedId h = d.schedId h := Dev.schedId_of_rig (Dev.rig_of_offHalf (Dev.hearMaster_offHalf h m sd d)) h
  rw [Dev.followMaster, Dev.onNode_line (f := Node.joinHeard) fun _ => rfl, Dev.applyMode_offCourse, Dev.checkSched_line, sched]
  exact congrArg (fun l : LineNode => { l with silent6A := decide (sid ≠ d.schedId h), mode := mode }.offCourse)
    (Dev.hearMaster_offPeers h m sd d)

theorem Dev.followMaster_round : ((d.followMaster h m sd mode round sid).line h).round = round := by
  rw [Dev.followMaster, Dev.onNode_line (f := Node.joinHeard) fun _ => rfl, Dev.applyMode_round]

/-- What a BEACON says of the cycle: its number, its reference, its MODE; all silencing ends (R180, R196, R202). -/
theorem Dev.followMaster_cycle :
    ((d.followMaster h m sd mode round sid).line h).cycle = some m.cycle
    ∧ ((d.followMaster h m sd mode round sid).line h).slotRef = some sd
    ∧ ((d.followMaster h m sd mode round sid).line h).sinceBeacon = 0
    ∧ ((d.followMaster h m sd mode round sid).line h).mode = mode
    ∧ ((d.followMaster h m sd mode round sid).line h).muted = []
    ∧ ((d.followMaster h m sd mode round sid).line h).silent6A = decide (sid ≠ d.schedId h) := by
  have course := Dev.followMaster_offCourse (d := d) (h := h) (m := m) (mode := mode) (round := round) (sid := sid) sd
  exact ⟨(congrArg LineNode.cycle course :), (congrArg LineNode.slotRef course :), (congrArg LineNode.sinceBeacon course :),
    (congrArg LineNode.mode course :), (congrArg LineNode.muted course :), (congrArg LineNode.silent6A course :)⟩

theorem Dev.followMaster_active : (d.followMaster h m sd mode round sid).hasFault 0x6A .lineNode 0 h = decide (sid ≠ d.schedId h) := by
  have sched : (d.hearMaster h m sd).schedId h = d.schedId h := Dev.schedId_of_rig (Dev.rig_of_offHalf (Dev.hearMaster_offHalf h m sd d)) h
  rw [Dev.followMaster, Dev.hasFault, Dev.onNode_faults, ← Dev.hasFault, Dev.applyMode_hasFault h mode round _ (by decide),
    Dev.checkSched_active, sched]

theorem Dev.followMaster_node_ne {g : Half} (other : g ≠ h) : (d.followMaster h m sd mode round sid).node g = d.node g := by
  have before : ((d.hearMaster h m sd).checkSched h sid).offHalf h = d.offHalf h := by
    rw [Dev.checkSched_offHalf, Dev.hearMaster_offHalf]
  rw [Dev.followMaster, Dev.node_onNode_ne other, Dev.applyMode_node_ne h mode round _ other, Dev.node_of_offHalf before other]

end

/-! ## The command -/

/-- What BEACON does with a BEACON of the line master that is accepted on both lines. -/
def Dev.hearBeacon (h : Half) (m : Telegram) (sd : Nat) (d : Dev) : Dev := (d.onLine h LineNode.countPair).acceptBeacon h m sd

theorem exec_beacon {s : State} {h : Half} {cp : CopyPair} {m : Telegram} {bs : List Byte} {sd : Nat}
    (out : s.dev.inReset = false) (node : s.dev.hasLine h = true) (type : m.type = 1) (master : m.src = (s.dev.lineRec h).master)
    (both : s.dev.BothBring h cp m bs sd) (keep : s.dev.judge h m sd = .keep) :
    exec (.beacon h cp) s = .next (s.lift (Dev.hearBeacon h m sd)) := by
  have own := Dev.foreignType_own both
  rw [type] at own
  refine exec_up_as rfl out ?_
  simp only [node, own, Dev.receive_both both keep, Dev.lineRec_onLine, master, Bool.not_true, Bool.or_self, Bool.false_eq_true, if_false]
  exact if_pos trivial

theorem Dev.hearBeacon_eq {d : Dev} {h : Half} {m : Telegram} {mode : ReefMode} {round : Nat} {sid : Word} (sd : Nat)
    (entries : m.entries = [.beacon mode round sid]) (fresh : ∀ c, (d.line h).cycle = some c → newer c m.cycle = true)
    (recent : ∀ p, (d.line h).peer m.src = some p → p.heard = false ∨ newer p.s m.tseq = true) (other : m.src ≠ d.lineAddress h) :
    d.hearBeacon h m sd = (d.onLine h LineNode.countPair).followMaster h m sd mode round sid := by
  have cycle (l : LineNode) : l.countPair.cycle = l.cycle := (congrArg LineNode.cycle l.countPair_offCopies :)
  have own : (d.onLine h LineNode.countPair).lineAddress h = d.lineAddress h := Dev.lineAddress_of_rig (Dev.onNode_rig h _ d) h
  refine Dev.acceptBeacon_eq sd entries ?_ ?_ (own ▸ other)
  · rwa [Dev.line_onLine, cycle]
  · rwa [Dev.line_onLine, LineNode.countPair_peer]

end Sys2Proof.Machine
end

section
/-! The obligations of 11, Safe telegrams and cycle. -/
namespace Sys2Proof.Proofs
open Sys2Proof Sys2Proof.Machine

/-- Settles O44: `telegramOf_bytes` reads a telegram back from its bytes, `bytes_of_telegramOf` that no other bytes are read as it. -/
theorem telegramsDecodeToWhatWasSent : Obligations.TelegramsDecodeToWhatWasSent := by
  unfold Obligations.TelegramsDecodeToWhatWasSent
  refine ⟨fun key t fits => telegramOf_bytes fits key, fun key bs t read => ?_⟩
  obtain ⟨rfl, listed, allowed, heard, src, dst⟩ := bytes_of_telegramOf read
  have lengths : ∀ n ∈ telegramLengths, 24 ≤ n ∧ n ≤ 64 := by decide
  obtain ⟨least, most⟩ := lengths _ listed
  exact ⟨rfl, least, most, t.length_bytes key, allowed, heard, src, dst⟩

/-- Settles O48: an accepted DATA is taken or discarded as `Dev.acceptData` says, a JOIN makes its source known afresh
(`Dev.hearJoin`), and the master's BEACON is followed (`Dev.followMaster`). -/
theorem receivedTelegramsAreTakenOnce : Obligations.ReceivedTelegramsAreTakenOnce := by
  unfold Obligations.ReceivedTelegramsAreTakenOnce
  intro s h m sd ca cb out node fits inUseA inUseB other l brings cp bringsA bringsB
  have both (current : m.type = 1 ∨ l.cycle = some m.cycle) : s.dev.BothBring h cp m (m.bytes (s.dev.lineRec h).key) sd :=
    have read := telegramIn_bytes fits (s.dev.lineRec h).key current
    ⟨Dev.readCopy_valid inUseA bringsA read, Dev.readCopy_valid inUseB bringsB read⟩
  refine ⟨fun p type cycle inSlot audible peer kept => ?_, fun p reason session type entries cycle inSlot audible peer fresh => ?_,
    fun mode round sid type entries master inSlot fresh recent => ?_⟩
  · have keep := Dev.judge_peer other (by simp [type]) inSlot audible peer
    obtain ⟨nodes, frame⟩ := State.lift_onlyData (s := s) (Dev.acceptData_offData peer kept)
    exact ⟨_, exec_dataTelegram out node type (both (.inr cycle)) keep, nodes, frame,
      fun fresh => Dev.acceptData_of_fresh peer fresh kept, Dev.acceptData_of_old peer⟩
  · have keep := Dev.judge_peer other (by simp [type]) inSlot audible peer
    exact ⟨_, exec_joinTelegram out node type entries (both (.inr cycle)) keep, Dev.hearJoin_peer peer fresh,
      fun e => Dev.hearJoin_consumers peer fresh, Dev.hearJoin_capOpen peer fresh, fun q => Dev.hearJoin_points peer fresh⟩
  · have window : s.dev.beaconInSlot h m.beaconMode sd = true := by
      rwa [Telegram.beaconMode, entries]
    have keep := Dev.judge_beacon other type master window
    have follow := Dev.hearBeacon_eq sd entries fresh recent other
    have sched : (s.dev.onLine h LineNode.countPair).schedId h = s.dev.schedId h := Dev.schedId_of_rig (Dev.onNode_rig h _ s.dev) h
    refine ⟨_, exec_beacon out node type master (both (.inl type)) keep, ?_⟩
    rw [State.lift_dev, follow, ← sched]
    obtain ⟨cycle, slotRef, sinceBeacon, taken, muted, silent⟩ := Dev.followMaster_cycle (d := s.dev.onLine h LineNode.countPair) (h := h)
      (m := m) (mode := mode) (round := round) (sid := sid) sd
    exact ⟨cycle, slotRef, sinceBeacon, taken, Dev.followMaster_round sd, muted, silent, Dev.followMaster_active sd,
      fun g away => (Dev.followMaster_node_ne sd away).trans (Dev.node_onLine_ne away _ s.dev)⟩

end Sys2Proof.Proofs
end

section
/-! What every command keeps of the state besides the device: the queue, and the canonical form of the addressed memories
(95, log 1, log 6). A change of the device alone keeps both; the port operations and the rig commands are taken apart. -/
namespace Sys2Proof.Machine

/-- The queue waits unchanged, and canonical memories stay canonical. -/
structure State.Goes (s t : State) : Prop where
  pending : t.pending = s.pending
  stores : s.StoresCanonical → t.StoresCanonical

theorem State.Goes.refl (s : State) : s.Goes s := ⟨rfl, id⟩

theorem State.Goes.trans {s t u : State} (h : s.Goes t) (k : t.Goes u) : s.Goes u :=
  ⟨k.pending.trans h.pending, fun canonical => k.stores (h.stores canonical)⟩

theorem State.Goes.lift (f : Dev → Dev) (s : State) : s.Goes (s.lift f) := ⟨rfl, id⟩

theorem State.Goes.then_lift {s t : State} {f : Dev → Dev} (h : s.Goes t) : s.Goes (t.lift f) := ⟨h.pending, h.stores⟩

theorem State.Goes.after_lift {s t : State} {f : Dev → Dev} (h : (s.lift f).Goes t) : s.Goes t := ⟨h.pending, h.stores⟩

theorem State.Goes.staged {s : State} {m : List Host.Cell} (wf : Memory.wf stagingZ s.staging = true → Memory.wf stagingZ m = true) :
    s.Goes { s with staging := m } := ⟨rfl, fun ⟨flash, staging⟩ => ⟨flash, wf staging⟩⟩

theorem State.Goes.flashed {s : State} {m : List Host.Cell} (wf : Memory.wf flashZ s.flash = true → Memory.wf flashZ m = true) :
    s.Goes { s with flash := m } := ⟨rfl, fun ⟨flash, staging⟩ => ⟨wf flash, staging⟩⟩

theorem State.Goes.of_keepsTime {s t : State} (h : s.KeepsTime t) : s.Goes t := by
  obtain ⟨d, rfl, -⟩ := h
  exact .lift _ s

/-- The command answers a next state that goes on from the present one. -/
def State.Answers (s : State) (o : Out) : Prop := ∃ t, o = .next t ∧ s.Goes t

theorem State.Answers.next {s t : State} (h : s.Goes t) : s.Answers (.next t) := ⟨t, rfl, h⟩

theorem State.Answers.up (f : Dev → Dev) (s : State) : s.Answers (up f s) := by
  refine .next ?_
  split
  · exact .refl s
  · exact .lift f s

/-! ## The ports -/

theorem State.setSnap_goes (p : Fin 2) (x : Option Dev) (s : State) : s.Goes (s.setSnap p x) := by
  unfold State.setSnap
  split <;> exact ⟨rfl, id⟩

theorem State.freeze_goes (p : Fin 2) (v : Nat) (s : State) : s.Goes (s.freeze p v) :=
  (State.Goes.lift _ s).trans (State.setSnap_goes p none _)

theorem State.crcError_goes (p : Fin 2) (s : State) : s.Goes (s.crcError p) := by
  unfold State.crcError
  dsimp only
  split
  · exact .refl s
  · split
    · exact State.freeze_goes p 1 s
    · exact .lift _ s

/-- A request passes the gate to an operation that goes on, or is answered by its port alone. -/
theorem State.request_goes {act : State → State} (goes : ∀ s : State, s.Goes (act s)) (q : Req) (opc : Nat) (tagged snaprd : Bool)
    (s : State) : s.Goes (s.request q opc tagged snaprd act) := by
  unfold State.request
  split
  · exact .refl s
  · dsimp only
    split
    · exact .lift _ s
    · exact (State.Goes.lift _ s).then_lift
    · exact (State.Goes.lift _ s).then_lift
    · exact (State.Goes.lift _ s).then_lift
    · exact (goes _).after_lift.after_lift

theorem State.direct_goes (q : Req) (opc : Nat) (st : Status) (s : State) : s.Goes (s.direct q opc st) := .lift _ s

theorem State.command_goes (opc : Nat) (q : Req) (s : State) : s.Goes (s.command opc q) :=
  State.request_goes (fun u => .lift _ u) q opc true false s

theorem State.write_goes (q : Req) (s : State) : s.Goes (s.write q) := by
  refine State.request_goes (fun u => ?_) q 0x02 true false s
  dsimp only
  split
  · exact (State.freeze_goes _ _ u).then_lift
  · exact .lift _ u
  · exact .lift _ u

/-- A rig command outside the frame's work: accepted, then its effect (R304). -/
theorem State.rigOp_goes {act : HostCmd → State → State} (goes : ∀ c (s : State), s.Goes (act c s)) (opc : Nat) (q : Req) (s : State) :
    s.Goes (s.rigOp opc q act) := by
  refine State.request_goes (fun u => ?_) q opc true false s
  dsimp only
  split
  · exact (State.Goes.lift _ u).then_lift
  · exact (goes _ _).after_lift

theorem State.stage_goes {m : List Host.Cell} (wf : Memory.wf stagingZ m = true) (p : Fin 2) (w : Word) (s : State) :
    s.Goes (s.stage p w m) := (State.Goes.staged fun _ => wf).then_lift

theorem State.bankImage_wf (bank : Nat) (s : State) : Memory.wf stagingZ (s.bankImage bank) = true :=
  memWriteMany_wf _ _ _ _ (memWriteMany_wf _ _ _ _ rfl)

theorem State.programBank_goes (bank len : Nat) (s : State) : s.Goes (s.programBank bank len) :=
  .flashed fun wf => memWriteMany_wf _ _ _ _ (memWriteMany_wf _ _ _ _ wf)

theorem State.endOpen_goes (j : PwJob) (s : State) : s.Goes (s.endOpen j) := by
  unfold State.endOpen
  dsimp only
  split
  · exact .lift _ s
  · exact .lift _ s
  · split
    · exact ((State.Goes.lift _ s).trans (State.freeze_goes _ _ _)).then_lift
    · exact .lift _ s

/-! ## The boundary and a frame's work -/

theorem State.storeFrame_goes (s : State) : s.Goes s.storeFrame := by
  unfold State.storeFrame
  split
  · split
    · exact .refl s
    · dsimp only
      split
      · exact (State.Goes.flashed fun wf => memErase_wf _ _ _ _ wf).then_lift
      · exact .lift _ s
  · split
    · exact .refl s
    · exact .lift _ s
  · exact .refl s

theorem State.workOf_goes (h : Half) (w : WorkObs) (s : State) : s.Goes (s.workOf h w) := by
  rw [State.workOf_eq]
  have forwarded := State.foldl_keepsTime State.forwarded_keepsTime
  exact (State.Goes.lift _ s).trans ((State.Goes.lift _ _).trans ((State.Goes.of_keepsTime (forwarded _ _)).trans
    ((State.storeFrame_goes _).trans (.lift _ _))))

theorem State.frameWork_goes (w : WorkObs) (s : State) : s.Goes (s.frameWork w) := by
  unfold State.frameWork
  split
  · exact .lift _ s
  · exact State.workOf_goes _ w s

theorem State.freezeBanks_goes (s : State) : s.Goes s.freezeBanks := ⟨rfl, id⟩

theorem State.swap_goes (s : State) : s.Goes s.swap := ⟨rfl, id⟩

theorem State.boundary_goes (obs : FrameObs) (lead : Int) (s : State) : s.Goes (s.boundary obs lead) := by
  unfold State.boundary
  split
  · exact .refl s
  · refine (State.freezeBanks_goes s).trans ?_
    dsimp only
    split
    · exact ⟨rfl, id⟩
    · split
      · exact ⟨rfl, id⟩
      · exact ((State.Goes.lift _ _).trans (.of_keepsTime (State.closePorts_keepsTime _))).trans (State.swap_goes _)

/-! ## Every command -/

/-- The one case split over the commands: those not named change the device alone. -/
theorem exec_answers (c : Instr) (s : State) : s.Answers (exec c s) := by
  cases c with
  | vsupPowerOnReset => exact .next ⟨rfl, fun ⟨flash, _⟩ => ⟨flash, rfl⟩⟩
  | internalResetRelease rails =>
    show s.Answers (execInternalResetRelease rails s)
    unfold execInternalResetRelease
    split
    · exact .next (.lift _ s)
    · exact .next ⟨rfl, id⟩
  | resetNAssert =>
    show s.Answers (execResetNAssert s)
    unfold execResetNAssert
    split
    · exact .next ⟨rfl, id⟩
    · exact .next ⟨rfl, fun ⟨flash, _⟩ => ⟨flash, rfl⟩⟩
  | resetNRelease => exact .next ⟨rfl, id⟩
  | frameBoundary obs lead => exact .next (State.boundary_goes obs lead s)
  | frameWork w =>
    refine .next ?_
    split
    · exact .refl s
    · split
      · exact .lift _ s
      · exact State.frameWork_goes w s
  | halyardExchangeClose =>
    show s.Answers (execHalyardExchangeClose s)
    unfold execHalyardExchangeClose
    split
    · exact .next (.refl s)
    · refine .next ((State.Goes.lift Dev.closeExchange s).trans ?_)
      split
      · split
        · exact State.frameWork_goes _ _
        · exact .refl _
      · exact .refl _
  | bulk block face data last =>
    show s.Answers (execBulk block face data last s)
    unfold execBulk
    dsimp only
    split
    · exact .next (.refl s)
    · refine .next (State.Goes.staged fun wf => memWriteMany_wf _ _ _ _ ?_).then_lift
      split
      · rfl
      · exact wf
  | read q tagged snaprd =>
    refine .next (State.request_goes (fun u => ?_) q _ _ _ s)
    dsimp only
    split <;> exact .lift _ u
  | snap q => exact .next (State.request_goes (fun u =>
      (State.setSnap_goes _ _ u).trans ((State.Goes.lift _ _).trans (State.direct_goes q _ _ _))) q _ _ _ s)
  | snapRelease q => exact .next (State.request_goes (fun u =>
      (State.setSnap_goes _ _ u).trans ((State.Goes.lift _ _).trans (State.direct_goes q _ _ _))) q _ _ _ s)
  | cqPop q =>
    refine .next (State.request_goes (fun u => ?_) q _ _ _ s)
    split <;> exact .lift _ u
  | result q =>
    refine .next (State.request_goes (fun u => ?_) q _ _ _ s)
    split <;> exact .lift _ u
  | recallResult q =>
    refine .next (State.request_goes (fun u => ?_) q _ _ _ s)
    split <;> exact .lift _ u
  | nop q => exact .next (State.request_goes (fun u => .lift _ u) q _ _ _ s)
  | sessionOpen q => exact .next (State.request_goes (fun u => .lift _ u) q _ _ _ s)
  | sessionClose q =>
    refine .next (State.request_goes (fun u => ?_) q _ _ _ s)
    dsimp only
    split
    · exact State.direct_goes q _ _ u
    · exact (State.Goes.lift _ u).trans (State.direct_goes q _ _ _)
  | pwSet q => exact .next (State.request_goes (fun u => .lift _ u) q _ _ _ s)
  | logFetch q => exact .next (State.request_goes (fun u => .lift _ u) q _ _ _ s)
  | hostTransactionCut p => exact .next (State.crcError_goes p s)
  | requestRejected p bytes =>
    show s.Answers (execRequestRejected p bytes s)
    have seen : s.Goes (if s.dev.inReset then s else s.lift fun d => d.onPort p fun x =>
        { x with mosi := bytes.take 10, miso := List.replicate 28 0 }) := by
      split
      · exact .refl s
      · exact .lift _ s
    unfold execRequestRejected
    dsimp only
    generalize (if s.dev.inReset then s else _) = u at seen ⊢
    split
    · exact .next seen
    · split
      · exact .next (seen.trans (.lift _ _))
      · split
        · exact .next (seen.trans ((State.crcError_goes p _).trans (.lift _ _)))
        · split
          · exact .next seen
          · split
            · exact .next (seen.trans (.lift _ _))
            · exact .next (seen.trans ((State.freeze_goes p 3 _).then_lift))
  | passwordCheckComplete p =>
    show s.Answers (execPasswordCheckComplete p s)
    unfold execPasswordCheckComplete
    split
    · exact .next (.refl s)
    · split
      · split
        · exact .next (.refl s)
        · dsimp only
          split
          · exact .next (State.endOpen_goes _ _).after_lift
          · exact .next (State.Goes.lift _ s).then_lift
      · exact .next (.refl s)
  | registerWrite q | irqstatClear q | clearOccurrenceCounters q | clearLinCounters q | clearHalCounters q | clearDpxCounters q
  | clearBgwCounters q | clearResyncCounter q | holdoffSet q | holdoffClear q => exact .next (State.write_goes _ s)
  | resetArm q | resetConfirm q | outClear q | reefPropose q | wake q | switchover q | resync q | shutdown q | unfreeze q
  | splitForbid q | pwRecover q | logAck q | calWrite q | calClear q | otpRead q => exact .next (State.command_goes _ q s)
  | rigBegin q =>
    refine .next (State.rigOp_goes (fun c u => ?_) _ q s)
    split
    · exact .lift _ u
    · exact (State.stage_goes (m := []) rfl _ _ u).then_lift
  | rigWrite q =>
    refine .next (State.rigOp_goes (fun c u => ?_) _ q s)
    dsimp only
    split
    · exact .lift _ u
    · exact (State.Goes.staged fun wf => memWriteMany_wf _ _ _ _ wf).then_lift.then_lift
  | rigCheck q =>
    refine .next (State.rigOp_goes (fun c u => ?_) _ q s)
    split <;> exact .lift _ u
  | rigLoad q =>
    refine .next (State.rigOp_goes (fun c u => ?_) _ q s)
    dsimp only
    split
    · exact .lift _ u
    · exact (State.stage_goes (State.bankImage_wf _ u) _ _ u).then_lift
  | rigDiscard q => exact .next (State.rigOp_goes (fun c u => (State.Goes.staged (m := []) fun _ => rfl).then_lift.then_lift) _ q s)
  | rigStore q =>
    refine .next (State.rigOp_goes (fun c u => ?_) _ q s)
    split <;> exact .lift _ u
  | rigActivate q =>
    refine .next (State.rigOp_goes (fun c u => ?_) _ q s)
    dsimp only
    split
    · exact .lift _ u
    · split
      · exact .lift _ u
      · split
        · exact .lift _ u
        · exact .refl u
  | rigVerificationEnd =>
    show s.Answers (execRigVerificationEnd s)
    unfold execRigVerificationEnd
    split
    · exact .next (.refl s)
    · split
      · split
        · exact .next (.lift _ s)
        · split <;> exact .next (.lift _ s)
      · split
        · split <;> exact .next (.lift _ s)
        · split
          · exact .next (.lift _ s)
          · exact .next (.refl s)
  | bankVerificationTimeout =>
    show s.Answers (execBankVerificationTimeout s)
    unfold execBankVerificationTimeout
    split
    · exact .next (.refl s)
    · split
      · split
        · exact .next (.lift _ s)
        · exact .next (.refl s)
      · split
        · exact .next (.lift _ s)
        · exact .next (.refl s)
      · split
        · exact .next (.lift _ s)
        · exact .next (.refl s)
  | rigStoreComplete =>
    show s.Answers (execRigStoreComplete s)
    unfold execRigStoreComplete
    split
    · exact .next (.refl s)
    · split
      · exact .next (.refl s)
      · dsimp only
        split <;> exact .next (State.programBank_goes _ _ s).then_lift
  | rigActivation =>
    show s.Answers (execRigActivation s)
    unfold execRigActivation
    split
    · exact .next (.refl s)
    · split
      · exact .next (.refl s)
      · exact .next ⟨rfl, id⟩
  | _ => exact .up _ s

/-- A step goes on from the state without the command it takes. -/
theorem step_goes {s t : State} (next : step s = .next t) : t.pending = s.pending.tail ∧ (s.StoresCanonical → t.StoresCanonical) := by
  unfold step at next
  split at next
  · next empty =>
    cases next
    simp [empty]
  · next c rest front =>
    obtain ⟨u, answer, goes⟩ := exec_answers c { s with pending := rest }
    rw [answer] at next
    cases next
    exact ⟨by rw [front]; exact goes.pending, goes.stores⟩

end Sys2Proof.Machine
end

section
/-! The obligations of 95, What each step holds. -/
namespace Sys2Proof.Proofs
open Sys2Proof Sys2Proof.Machine

/-- Settles O1: `step` is a case split on the queue. -/
theorem stepRunsFrontCommand : Obligations.StepRunsFrontCommand := by
  unfold Obligations.StepRunsFrontCommand
  refine ⟨fun c rest s => rfl, fun s empty => ?_⟩
  rw [step, empty]

/-- Settles O2, by the case split of `exec_answers`. -/
theorem everyCommandAnswersNextAndLeavesTheQueue : Obligations.EveryCommandAnswersNextAndLeavesTheQueue := by
  unfold Obligations.EveryCommandAnswersNextAndLeavesTheQueue
  intro c s
  obtain ⟨t, answer, goes⟩ := exec_answers c s
  exact ⟨t, answer, goes.pending⟩

/-- Settles O3: the command at the front goes on, and the queue is no part of the memories. -/
theorem stepKeepsStoresCanonical : Obligations.StepKeepsStoresCanonical := by
  unfold Obligations.StepKeepsStoresCanonical
  intro s t canonical next
  exact (step_goes next).2 canonical

/-- Settles O4: both memories are empty. -/
theorem storesCanonicalAtReset : Obligations.StoresCanonicalAtReset := by
  unfold Obligations.StoresCanonicalAtReset
  exact ⟨rfl, rfl⟩

end Sys2Proof.Proofs
end

section
/-! The safe-state layer (R346, R349): what keeps a device in its safe state is four marks; one lemma per operation that a
safe device still runs, that it leaves them alone. -/
namespace Sys2Proof.Machine

/-- The internal reset, split mode, and the halves' safe-state latches. -/
structure Guard where
  inReset : Bool
  split : Bool
  safeA : Bool
  safeB : Bool

def Dev.guard (d : Dev) : Guard := { inReset := d.inReset, split := d.split, safeA := d.nodeA.safe, safeB := d.nodeB.safe }

/-- Neither the internal reset nor split mode changes, and no half leaves its safe state. -/
structure Dev.Stays (d e : Dev) : Prop where
  inReset : e.inReset = d.inReset
  split : e.split = d.split
  safe : ∀ h, (d.node h).safe = true → (e.node h).safe = true

theorem Dev.Stays.of_guard {d e : Dev} (h : e.guard = d.guard) : d.Stays e :=
  { inReset := congrArg Guard.inReset h
    split := congrArg Guard.split h
    safe := fun g safe => by
      cases g
      · exact (congrArg Guard.safeA h).trans safe
      · exact (congrArg Guard.safeB h).trans safe }

theorem Dev.Stays.refl (d : Dev) : d.Stays d := .of_guard rfl

theorem Dev.Stays.trans {d e f : Dev} (h : d.Stays e) (k : e.Stays f) : d.Stays f :=
  ⟨k.inReset.trans h.inReset, k.split.trans h.split, fun g safe => k.safe g (h.safe g safe)⟩

theorem Dev.Stays.halves {d e : Dev} (h : d.Stays e) : e.halves = d.halves := by
  unfold Dev.halves
  rw [h.split]

theorem Dev.Stays.allSafe {d e : Dev} (h : d.Stays e) (safe : d.allSafe = true) : e.allSafe = true := by
  unfold Dev.allSafe at safe ⊢
  rw [h.halves]
  exact List.all_eq_true.mpr fun g mem => h.safe g (List.all_eq_true.mp safe g mem)

/-! ## The entry into the safe state -/

theorem Dev.safeHalf_stays (h : Half) (d : Dev) : d.Stays (d.safeHalf h) where
  inReset := Dev.safeHalf_inReset h d
  split := by rw [Dev.split, Dev.safeHalf_straps, ← Dev.split]
  safe g safe := by
    by_cases same : g = h
    · subst same
      rw [Dev.safeHalf_node]
    · rw [Dev.safeHalf_node_ne same]
      exact safe

theorem Dev.safeStep_stays (h : Half) (d : Dev) : d.Stays (d.safeStep h) := by
  unfold Dev.safeStep
  split
  · exact .refl d
  · exact Dev.safeHalf_stays h d

theorem Dev.foldl_stays {α : Type} {f : Dev → α → Dev} (stays : ∀ (d : Dev) x, d.Stays (f d x)) (l : List α) (d : Dev) :
    d.Stays (l.foldl f d) := by
  induction l generalizing d with
  | nil => exact .refl d
  | cons x l ih => exact (stays d x).trans (ih _)

theorem Dev.enterSafe_stays (code : Nat) (record : Bool) (hs : List Half) (cyc : Nat) (d : Dev) :
    d.Stays (d.enterSafe code record hs cyc) := by
  have steps (e : Dev) : e.Stays (hs.foldl Dev.safeStep e) := Dev.foldl_stays (fun e h => Dev.safeStep_stays h e) hs e
  show d.Stays (hs.foldl Dev.safeStep _)
  refine Dev.Stays.trans ?_ (steps _)
  exact .of_guard rfl

theorem Dev.safeAll_stays (code cyc : Nat) (d : Dev) : d.Stays (d.safeAll code cyc) := Dev.enterSafe_stays _ _ _ _ d

theorem Dev.safeOf_stays (code : Nat) (h : Half) (cyc : Nat) (d : Dev) : d.Stays (d.safeOf code h cyc) := Dev.enterSafe_stays _ _ _ _ d

/-! ## How the marks pass through branches and folds -/

@[simp] theorem Dev.guard_ite (c : Prop) [Decidable c] (a b : Dev) : (if c then a else b).guard = if c then a.guard else b.guard :=
  apply_ite Dev.guard c a b

@[simp] theorem Dev.snd_guard_ite {β : Type} (c : Prop) [Decidable c] (a b : β × Dev) :
    (if c then a else b).2.guard = if c then a.2.guard else b.2.guard := apply_ite (fun x : β × Dev => x.2.guard) c a b

@[simp] theorem Dev.foldl_guard {α : Type} {f : Dev → α → Dev} (keep : ∀ d x, (f d x).guard = d.guard) (l : List α) (d : Dev) :
    (l.foldl f d).guard = d.guard := by
  induction l generalizing d with
  | nil => rfl
  | cons x l ih => exact (ih (f d x)).trans (keep d x)

/-! ## Updates of one part -/

theorem Dev.onNode_guard {f : Node → Node} (keep : ∀ n, (f n).safe = n.safe) (h : Half) (d : Dev) : (d.onNode h f).guard = d.guard := by
  cases h
  · exact congrArg (fun b => ({ d.guard with safeA := b } : Guard)) (keep d.nodeA)
  · exact congrArg (fun b => ({ d.guard with safeB := b } : Guard)) (keep d.nodeB)

@[simp] theorem Dev.onSys_guard (i : Nat) (f : Sys → Sys) (d : Dev) : (d.onSys i f).guard = d.guard := (rfl)
@[simp] theorem Dev.onInp_guard (i : Nat) (f : Input → Input) (d : Dev) : (d.onInp i f).guard = d.guard := (rfl)
@[simp] theorem Dev.onDpx_guard (f : Dpx → Dpx) (d : Dev) : (d.onDpx f).guard = d.guard := (rfl)
@[simp] theorem Dev.onHal_guard (f : Hal → Hal) (d : Dev) : (d.onHal f).guard = d.guard := (rfl)
@[simp] theorem Dev.onLog_guard (f : ChangeLog → ChangeLog) (d : Dev) : (d.onLog f).guard = d.guard := (rfl)
@[simp] theorem Dev.onStore_guard (f : Store → Store) (d : Dev) : (d.onStore f).guard = d.guard := (rfl)
@[simp] theorem Dev.onRig_guard (f : RigMgr → RigMgr) (d : Dev) : (d.onRig f).guard = d.guard := (rfl)
@[simp] theorem Dev.raise_guard (c : Nat) (k : Kind) (i : Nat) (d : Dev) (h : Half) (p : Nat) : (d.raise c k i h p).guard = d.guard := (rfl)
@[simp] theorem Dev.clearF_guard (c : Nat) (k : Kind) (i : Nat) (d : Dev) (h : Half) : (d.clearF c k i h).guard = d.guard := (rfl)
@[simp] theorem Dev.raiseUnit_guard (c : Nat) (d : Dev) : (d.raiseUnit c).guard = d.guard := (rfl)
@[simp] theorem Dev.raiseLine_guard (h : Half) (x : Line) (c : Nat) (d : Dev) : (d.raiseLine h x c).guard = d.guard := (rfl)
@[simp] theorem Dev.clearLine_guard (h : Half) (x : Line) (c : Nat) (d : Dev) : (d.clearLine h x c).guard = d.guard := (rfl)
@[simp] theorem Dev.clearSys_guard (i c : Nat) (d : Dev) : (d.clearSys i c).guard = d.guard := (rfl)
@[simp] theorem Dev.raiseSys_guard (i c : Nat) (d : Dev) (p : Nat) : (d.raiseSys i c p).guard = d.guard := (rfl)
@[simp] theorem Dev.raiseHed_guard (i c : Nat) (d : Dev) (p : Nat) : (d.raiseHed i c p).guard = d.guard := (rfl)
@[simp] theorem Dev.raisePt_guard (h : Half) (i c : Nat) (d : Dev) : (d.raisePt h i c).guard = d.guard := (rfl)
@[simp] theorem Dev.clearPt_guard (h : Half) (i c : Nat) (d : Dev) : (d.clearPt h i c).guard = d.guard := (rfl)
@[simp] theorem Dev.raiseSect_guard (h : Half) (i c : Nat) (d : Dev) : (d.raiseSect h i c).guard = d.guard := (rfl)
@[simp] theorem Dev.fresh_guard (d : Dev) : d.fresh.2.guard = d.guard := (rfl)
@[simp] theorem Dev.driveGates_guard (d : Dev) : d.driveGates.guard = d.guard := (rfl)
@[simp] theorem Dev.linesOn_guard (h : Half) (d : Dev) : (d.linesOn h).guard = d.guard := (rfl)
@[simp] theorem Dev.linesOff_guard (h : Half) (d : Dev) : (d.linesOff h).guard = d.guard := (rfl)
@[simp] theorem Dev.complete_guard (c : HostCmd) (st : Status) (w : Word) (d : Dev) : (d.complete c st w).guard = d.guard := (rfl)
@[simp] theorem Dev.pointOps_guard (h : Half) (l : List Nat) (d : Dev) : (d.pointOps h l).guard = d.guard := (rfl)
@[simp] theorem Dev.setPort_guard (p : Fin 2) (x : Port) (d : Dev) : (d.setPort p x).guard = d.guard := by
  unfold Dev.setPort
  split <;> rfl
@[simp] theorem Dev.onPort_guard (p : Fin 2) (f : Port → Port) (d : Dev) : (d.onPort p f).guard = d.guard := by
  simp [Dev.onPort]
@[simp] theorem Dev.onLine_guard (h : Half) (f : LineNode → LineNode) (d : Dev) : (d.onLine h f).guard = d.guard :=
  Dev.onNode_guard (by intro _; rfl) h d
@[simp] theorem Dev.onPeer_guard (h : Half) (a : Nat) (f : Peer → Peer) (d : Dev) : (d.onPeer h a f).guard = d.guard := by
  simp [Dev.onPeer]
@[simp] theorem Dev.mapOwn_guard (h : Half) (f : Point → Point) (d : Dev) : (d.mapOwn h f).guard = d.guard := by
  unfold Dev.mapOwn
  split
  · rfl
  · exact Dev.onNode_guard (by intro _; rfl) h d
@[simp] theorem Dev.onOwn_guard (h : Half) (i : Nat) (f : Point → Point) (d : Dev) : (d.onOwn h i f).guard = d.guard := by
  simp [Dev.onOwn]
@[simp] theorem Dev.onHead_guard (i : Nat) (f : Point → Point) (d : Dev) : (d.onHead i f).guard = d.guard := by
  simp [Dev.onHead]
@[simp] theorem Dev.onSect_guard (h : Half) (i : Nat) (f : Sect → Sect) (d : Dev) :
    (d.onNode h fun n => n.onSect i f).guard = d.guard := Dev.onNode_guard (by intro _; rfl) h d
@[simp] theorem Dev.recordNow_guard (d : Dev) : d.recordNow.guard = d.guard := by
  unfold Dev.recordNow
  split <;> rfl
@[simp] theorem Dev.disturbLocal_guard (d : Dev) : d.disturbLocal.guard = d.guard := by
  simp [Dev.disturbLocal]

/-! ## The capture path and the inputs -/

@[simp] theorem Dev.capture_guard (e : EdgeRec) (d : Dev) : (d.capture e).guard = d.guard := by
  unfold Dev.capture
  dsimp only
  split <;> rfl
@[simp] theorem Dev.pullBack_guard (i : Nat) (d : Dev) : (d.pullBack i).guard = d.guard := by
  unfold Dev.pullBack
  split
  · dsimp only
    split <;> rfl
  · rfl
@[simp] theorem Dev.bandRecord_guard (i : Nat) (level : Bool) (t : Nat) (d : Dev) : (d.bandRecord i level t).guard = d.guard := by
  have flagged (a b : Capture) : ({ d with capOpen := a, capClosed := b } : Dev).guard = d.guard := rfl
  simp [Dev.bandRecord, flagged]
@[simp] theorem Dev.report_guard (i : Nat) (k : Comparator) (level : Bool) (lo t : Nat) (r : Bool) (d : Dev) :
    (d.report i k level lo t r).guard = d.guard := by
  cases k <;> simp [Dev.report]
@[simp] theorem Dev.edge_guard (i : Nat) (k : Comparator) (level : Bool) (t : Nat) (d : Dev) : (d.edge i k level t).guard = d.guard := by
  simp [Dev.edge]
@[simp] theorem Dev.resample_guard (i : Nat) (k : Comparator) (t : Nat) (d : Dev) : (d.resample i k t).guard = d.guard := by
  unfold Dev.resample
  dsimp only
  split
  · rfl
  · split <;> simp
@[simp] theorem Dev.resampleAll_guard (i t : Nat) (d : Dev) : (d.resampleAll i t).guard = d.guard := by
  simp [Dev.resampleAll]
@[simp] theorem Dev.endExcursion_guard (i endAt : Nat) (x : Excursion) (d : Dev) : (d.endExcursion i endAt x).guard = d.guard := by
  unfold Dev.endExcursion
  dsimp only
  split
  · exact (Dev.onHead_guard i _ _).trans (Dev.onSys_guard i _ d)
  · rfl
@[simp] theorem Dev.pulseInput_guard (k : Nat) (raw : BitVec 20) (i : Nat) (d : Dev) : (d.pulseInput k raw i).guard = d.guard := by
  unfold Dev.pulseInput
  dsimp only
  split <;> rfl

/-! ## The line node of a half -/

@[simp] theorem Dev.checkUnusable_guard (h : Half) (d : Dev) : (d.checkUnusable h).guard = d.guard := by
  simp [Dev.checkUnusable]
@[simp] theorem Dev.startJoin_guard (h : Half) (r : Nat) (d : Dev) : (d.startJoin h r).guard = d.guard := by
  simp [Dev.startJoin]
@[simp] theorem Dev.usableAgain_guard (h : Half) (d : Dev) : (d.usableAgain h).guard = d.guard := by
  simp [Dev.usableAgain]
@[simp] theorem Dev.echoCheck_guard (h : Half) (x : Line) (ok : Bool) (d : Dev) : (d.echoCheck h x ok).guard = d.guard := by
  simp [Dev.echoCheck]
@[simp] theorem Dev.drive_guard (h : Half) (t : Telegram) (e : CopyPair) (start : Nat) (d : Dev) : (d.drive h t e start).guard = d.guard := by
  simp [Dev.drive]
@[simp] theorem Dev.transmit_guard (h : Half) (t : Telegram) (e : CopyPair) (start : Nat) (d : Dev) :
    (d.transmit h t e start).guard = d.guard := by
  have used (x : Dpx) : ({ d with dpx := x } : Dev).guard = d.guard := rfl
  simp [Dev.transmit, used]
@[simp] theorem Dev.muteSource_guard (h : Half) (a : Nat) (d : Dev) : (d.muteSource h a).guard = d.guard := by
  simp [Dev.muteSource]
@[simp] theorem Dev.outOfSlot_guard (h : Half) (a : Nat) (d : Dev) : (d.outOfSlot h a).guard = d.guard := by
  simp [Dev.outOfSlot]
@[simp] theorem Dev.decoderCheck_guard (h : Half) (x : Line) (b : Bool) (d : Dev) : (d.decoderCheck h x b).guard = d.guard := by
  simp [Dev.decoderCheck]
@[simp] theorem Dev.singleCopy_guard (h : Half) (x : Line) (b : Bool) (d : Dev) : (d.singleCopy h x b).guard = d.guard := by
  simp [Dev.singleCopy]
@[simp] theorem Dev.noteCopy_guard (h : Half) (x : Line) (c : Option Copy) (r : Received) (d : Dev) : (d.noteCopy h x c r).guard = d.guard := by
  unfold Dev.noteCopy
  split
  · rfl
  · simp
  · dsimp only
    split <;> simp
@[simp] theorem Dev.receive_guard (h : Half) (cp : CopyPair) (d : Dev) : (d.receive h cp).2.guard = d.guard := by
  unfold Dev.receive
  dsimp only
  split <;> simp
@[simp] theorem Dev.ownerDisturbed_guard (h : Half) (a : Nat) (b : Bool) (d : Dev) : (d.ownerDisturbed h a b).guard = d.guard := by
  simp [Dev.ownerDisturbed, Dev.onNode_guard]
@[simp] theorem Dev.rejoinOf_guard (h : Half) (t : Telegram) (d : Dev) : (d.rejoinOf h t).guard = d.guard := by
  simp [Dev.rejoinOf, Dev.onNode_guard]
@[simp] theorem Dev.takeFrom_guard (h : Half) (t : Telegram) (d : Dev) : (d.takeFrom h t).2.guard = d.guard := by
  unfold Dev.takeFrom
  split
  · rfl
  · split <;> simp
@[simp] theorem Dev.acceptJoin_guard (h : Half) (t : Telegram) (w : Word) (d : Dev) : (d.acceptJoin h t w).guard = d.guard := by
  unfold Dev.acceptJoin
  split
  · rfl
  · split <;> simp
@[simp] theorem Dev.ownerUnheard_guard (h : Half) (a : Nat) (d : Dev) : (d.ownerUnheard h a).guard = d.guard := by
  simp [Dev.ownerUnheard, Dev.onNode_guard]
@[simp] theorem Dev.endCycle_guard (h : Half) (d : Dev) : (d.endCycle h).guard = d.guard := by
  simp [Dev.endCycle]
@[simp] theorem Dev.openCycle_guard (h : Half) (c : Half16) (sd : Nat) (d : Dev) : (d.openCycle h c sd).guard = d.guard := by
  simp [Dev.openCycle]
@[simp] theorem Dev.rest_guard (h : Half) (w : Word) (d : Dev) : (d.onNode h (Node.rest w)).guard = d.guard :=
  Dev.onNode_guard (by intro _; rfl) h d
@[simp] theorem Dev.startRejoin_guard (h : Half) (d : Dev) : (d.onNode h Node.startRejoin).guard = d.guard :=
  Dev.onNode_guard (by intro _; rfl) h d
@[simp] theorem Dev.applyMode_guard (h : Half) (m : ReefMode) (r : Nat) (d : Dev) : (d.applyMode h m r).guard = d.guard := by
  cases m <;> simp [Dev.applyMode]
@[simp] theorem Dev.acceptBeacon_guard (h : Half) (t : Telegram) (sd : Nat) (d : Dev) : (d.acceptBeacon h t sd).guard = d.guard := by
  unfold Dev.acceptBeacon
  dsimp only
  split
  · simp [Dev.onNode_guard]
  · rfl
theorem Node.sent_safe (own : Nat) (e : Entry) (n : Node) : (n.sent own e).safe = n.safe := by
  cases e <;> rfl
@[simp] theorem Dev.compose_guard (h : Half) (k : Nat) (b : Bool) (view : Dev) (c : Half16) (d : Dev) :
    (Dev.compose h k b view c d).2.guard = d.guard := by
  refine Dev.onNode_guard (fun n => ?_) h d
  generalize List.take _ _ = l
  induction l generalizing n with
  | nil => rfl
  | cons e l ih => exact (ih _).trans (Node.sent_safe _ e n)
@[simp] theorem Dev.masterWake_guard (h : Half) (lead : Nat) (d : Dev) : (d.masterWake h lead).guard = d.guard := by
  unfold Dev.masterWake
  split <;> simp
@[simp] theorem Dev.burst_guard (h : Half) (t : Nat) (d : Dev) : (d.burst h t).guard = d.guard := by
  simp [Dev.burst]

theorem Dev.outsideWindow_stays (h : Half) (d : Dev) : d.Stays (d.outsideWindow h) := by
  unfold Dev.outsideWindow
  split
  · exact Dev.safeOf_stays _ _ _ d
  · exact .of_guard (by simp)

theorem Dev.useSlot_stays (h : Half) (x : Slot) (e : CopyPair) (at_ : Nat) (view d : Dev) : d.Stays (Dev.useSlot h x e at_ view d) := by
  have sent {n : Nat} {next : Dev} (keeps : next.guard = d.guard) : d.Stays (if d.inGate h x at_ n then next else d.outsideWindow h) := by
    split
    · exact .of_guard keeps
    · exact Dev.outsideWindow_stays h d
  unfold Dev.useSlot
  dsimp only
  split
  · split
    · exact sent (by simp)
    · exact sent (by simp)
  · split
    · exact sent (by simp)
    · exact sent (by simp)

/-! ## The duplex unit and the halyard -/

@[simp] theorem Dev.adjustLines_guard (d : Dev) : d.adjustLines.guard = d.guard := by
  simp [Dev.adjustLines]
@[simp] theorem Dev.stopClaim_guard (d : Dev) : d.stopClaim.guard = d.guard := by
  simp [Dev.stopClaim]
@[simp] theorem Dev.endSwitch_guard (st : Status) (d : Dev) : (d.endSwitch st).guard = d.guard := by
  unfold Dev.endSwitch
  split <;> simp
@[simp] theorem Dev.setRole_guard (r : Role) (d : Dev) : (d.setRole r).guard = d.guard := by
  simp [Dev.setRole, Dev.clearUnit]
@[simp] theorem Dev.giveUp_guard (d : Dev) : d.giveUp.guard = d.guard := by
  simp [Dev.giveUp]
@[simp] theorem Dev.closeDirections_guard (d : Dev) : d.closeDirections.guard = d.guard := by
  simp [Dev.closeDirections]

/-! ## The ports, the log and the stores -/

@[simp] theorem Dev.logCapacity_guard (d : Dev) : d.logCapacity.guard = d.guard := by
  simp [Dev.logCapacity]
@[simp] theorem Dev.refuse_guard (c : HostCmd) (st : Status) (d : Dev) : (d.refuse c st).guard = d.guard := by
  simp [Dev.refuse, Dev.release]
@[simp] theorem Dev.loseSession_guard (p : Fin 2) (d : Dev) : (d.loseSession p).guard = d.guard := by
  unfold Dev.loseSession
  split
  · exact Dev.onPort_guard p _ d
  · rfl
@[simp] theorem Dev.abortJournal_guard (p : Fin 2) (d : Dev) : (d.abortJournal p).guard = d.guard := by
  have delivered (e : Dev) (l : List (Fin 2 × Completion)) : ({ e with done := l } : Dev).guard = e.guard := rfl
  simp [Dev.abortJournal, delivered]
@[simp] theorem Dev.freeze_guard (p : Fin 2) (v : Nat) (d : Dev) : (d.freeze p v).guard = d.guard := by
  have owner (e : Dev) : (e.freezeOwner p).guard = e.guard := rfl
  simp [Dev.freeze, owner]
@[simp] theorem Dev.reply_guard (p : Fin 2) (r : Resp) (d : Dev) : (d.reply p r).guard = d.guard := by
  simp [Dev.reply]
@[simp] theorem Dev.replyFree_guard (p : Fin 2) (r : Resp) (d : Dev) : (d.replyFree p r).guard = d.guard := by
  simp [Dev.replyFree]
@[simp] theorem Dev.replyFrozen_guard (p : Fin 2) (opc b1 : Nat) (d : Dev) : (d.replyFrozen p opc b1).guard = d.guard := by
  simp [Dev.replyFrozen]
@[simp] theorem Dev.enqueue_guard (c : HostCmd) (d : Dev) : (d.enqueue c).guard = d.guard := by
  simp [Dev.enqueue]
@[simp] theorem Dev.takeIn_guard (c : HostCmd) (d : Dev) : (d.takeIn c).2.guard = d.guard := by
  simp [Dev.takeIn, Dev.reserve]
@[simp] theorem Dev.acceptCommand_guard (opc : Nat) (q : Req) (d : Dev) : (d.acceptCommand opc q).guard = d.guard := by
  simp [Dev.acceptCommand]
@[simp] theorem Dev.acceptPassword_guard (c : HostCmd) (n : Nat) (d : Dev) : (d.acceptPassword c n).guard = d.guard := by
  simp [Dev.acceptPassword]
@[simp] theorem Dev.writeEntry_guard (e : LogEntry) (d : Dev) : (d.writeEntry e).2.guard = d.guard := by
  simp [Dev.writeEntry]
@[simp] theorem Dev.deviceEntry_guard (e : LogEntry) (d : Dev) : (d.deviceEntry e).guard = d.guard := by
  simp [Dev.deviceEntry]
@[simp] theorem doLogFetch_guard (c : HostCmd) (d : Dev) : (doLogFetch c d).guard = d.guard := by
  unfold doLogFetch
  dsimp only
  split <;> simp
@[simp] theorem Dev.setPassword_guard (j : PwJob) (d : Dev) : (d.setPassword j).guard = d.guard := by
  simp [Dev.setPassword, Dev.logged, Dev.freshSalt]
@[simp] theorem Dev.endPwSet_guard (j : PwJob) (d : Dev) : (d.endPwSet j).guard = d.guard := by
  unfold Dev.endPwSet
  dsimp only
  split
  · simp
  · split <;> simp

/-! ## Start-up -/

@[simp] theorem Dev.toPhase_guard (ph : BootPhase) (st : SysState) (d : Dev) : (d.toPhase ph st).guard = d.guard :=
  Dev.foldl_guard (fun _ h => Dev.onNode_guard (by intro _; rfl) h _) _ _
@[simp] theorem Dev.storeRepair_guard (k : Nat) (a b : List Byte) (d : Dev) : (d.storeRepair k a b).guard = d.guard := by
  simp [Dev.storeRepair]
@[simp] theorem Dev.bootCal_guard (b : Bool) (d : Dev) : (d.bootCal b).guard = d.guard := by
  unfold Dev.bootCal
  dsimp only
  split <;> simp
@[simp] theorem Dev.bootPw_guard (b : Bool) (d : Dev) : (d.bootPw b).guard = d.guard := by
  unfold Dev.bootPw
  dsimp only
  split <;> simp
@[simp] theorem Dev.bootLogw_guard (d : Dev) : d.bootLogw.guard = d.guard := by
  unfold Dev.bootLogw
  dsimp only
  split <;> simp
@[simp] theorem Dev.bootStores_guard (bad : List Nat) (torn : Bool) (d : Dev) : (d.bootStores bad torn).guard = d.guard := by
  simp [Dev.bootStores]
@[simp] theorem Dev.enterService_guard (h : Half) (d : Dev) : (d.enterService h).guard = d.guard := by
  have shown (e : Dev) (b : Bool) : ({ e with faultN := b } : Dev).guard = e.guard := rfl
  have pulsing (e : Dev) (b : Bool) : ({ e with tpsRun := b } : Dev).guard = e.guard := rfl
  have opened (e : Dev) (p q : Probe) (b : Bgw) (l : ChangeLog) :
      ({ e with probe := p, probeOther := q, bgw := b, log := l } : Dev).guard = e.guard := rfl
  have phased (e : Dev) (f : Node → BootPhase) (l : Node → LineNode) :
      (e.onNode h fun n => { n with phase := f n, line := l n }).guard = e.guard := Dev.onNode_guard (by intro _; rfl) h e
  have stated (e : Dev) (st : SysState) : (e.onNode h fun n => { n with sys := st }).guard = e.guard :=
    Dev.onNode_guard (by intro _; rfl) h e
  simp only [Dev.enterService, Dev.driveGates_guard, shown, stated, Dev.guard_ite, Dev.onDpx_guard, opened, Dev.startJoin_guard,
    pulsing, phased, ite_self]

end Sys2Proof.Machine
end

section
/-! The safe state of the whole device under every command (R346, R349): the commands of a device, a half, a pair, a line or a
stack find none that runs; what is left changes none of the marks of `Dev.guard`, or enters the safe state. -/
namespace Sys2Proof.Machine

/-! ## A device whose running halves are all safe -/

section
variable {d : Dev} (safe : d.allSafe = true)
include safe

theorem Dev.safe_of_mem {h : Half} (mem : h ∈ d.halves) : (d.node h).safe = true := List.all_eq_true.mp safe h mem

theorem Dev.nodeA_safe : d.nodeA.safe = true := by
  refine Dev.safe_of_mem (h := .a) safe ?_
  unfold Dev.halves
  split <;> simp

/-- The half that owns an object runs, so it is safe. -/
theorem Dev.halfOf_safe (i n : Nat) : (d.node (d.halfOf i n)).safe = true := by
  refine Dev.safe_of_mem safe ?_
  unfold Dev.halfOf Dev.halves
  cases d.split with
  | false => simp
  | true => cases decide (n ≤ 2 * i) <;> simp

theorem Dev.halfOfInp_safe (i : Nat) : (d.node (d.halfOfInp i)).safe = true := by
  unfold Dev.halfOfInp
  split <;> exact Dev.halfOf_safe safe _ _

theorem Dev.pair_of_safe : d.pair = false := by simp [Dev.pair, Dev.nodeA_safe safe]
theorem Dev.stackMaster_of_safe : d.stackMaster = false := by simp [Dev.stackMaster, Dev.nodeA_safe safe]
theorem Dev.stackMember_of_safe : d.stackMember = false := by simp [Dev.stackMember, Dev.nodeA_safe safe]
theorem Dev.live_of_safe : d.live = [] := by
  simp only [Dev.live, List.filter_eq_nil_iff]
  intro h mem
  simp [Dev.safe_of_mem safe mem]

theorem Dev.evaluates_of_safe (h : Half) : d.evaluates h = false := by
  unfold Dev.evaluates
  by_cases mem : h ∈ d.halves
  · simp [Dev.safe_of_mem safe mem]
  · simp [mem]

end

/-! ## The outcomes -/

/-- The command answers a state in the internal reset, or one in which no half has left its safe state. -/
def State.Stays (s : State) (o : Out) : Prop := ∃ t, o = .next t ∧ (t.dev.inReset = true ∨ s.dev.Stays t.dev)

theorem State.Stays.next {s t : State} (h : s.dev.Stays t.dev) : s.Stays (.next t) := ⟨t, rfl, .inr h⟩

theorem State.Stays.same (s : State) : s.Stays (.next s) := .next (.refl _)

theorem State.Stays.up_of {f : Dev → Dev} {s : State} (h : s.dev.Stays (f s.dev)) : s.Stays (up f s) := by
  refine .next ?_
  split
  · exact .refl _
  · exact h

theorem State.Stays.up {f : Dev → Dev} (h : ∀ d : Dev, d.Stays (f d)) (s : State) : s.Stays (Machine.up f s) := .up_of (h s.dev)

/-- A command of one half, whose half may be one that does not run. -/
theorem State.Stays.upIn {g : Dev → Half} {f : Dev → Dev} (h : ∀ d : Dev, d.Stays (f d)) (s : State) : s.Stays (Machine.upIn g f s) := by
  refine .up (fun d => ?_) s
  split
  · exact .refl d
  · exact h d

theorem State.Stays.upIn_inert {g : Dev → Half} {s : State} (safe : (s.dev.node (g s.dev)).safe = true) (f : Dev → Dev) :
    s.Stays (Machine.upIn g f s) := by
  rw [upIn_safe g f safe]
  exact .same s

theorem State.Stays.upLive_inert {s : State} (safe : s.dev.allSafe = true) (f : Dev → Dev) : s.Stays (upLive f s) := by
  rw [upLive_safe f safe]
  exact .same s

/-! ## The ports -/

theorem State.setSnap_dev (p : Fin 2) (x : Option Dev) (s : State) : (s.setSnap p x).dev = s.dev := by
  unfold State.setSnap
  split <;> rfl

theorem State.freeze_guard (p : Fin 2) (v : Nat) (s : State) : (s.freeze p v).dev.guard = s.dev.guard := by
  simp [State.freeze, State.setSnap_dev]

theorem State.crcError_guard (p : Fin 2) (s : State) : (s.crcError p).dev.guard = s.dev.guard := by
  unfold State.crcError
  dsimp only
  split
  · rfl
  · split
    · exact State.freeze_guard p 1 s
    · simp

theorem State.request_guard {act : State → State} (keep : ∀ s : State, (act s).dev.guard = s.dev.guard) (q : Req) (opc : Nat)
    (tagged snaprd : Bool) (s : State) : (s.request q opc tagged snaprd act).dev.guard = s.dev.guard := by
  unfold State.request
  split
  · rfl
  · dsimp only
    split <;> simp [keep]

theorem State.direct_guard (q : Req) (opc : Nat) (st : Status) (s : State) : (s.direct q opc st).dev.guard = s.dev.guard := by
  simp [State.direct]

theorem State.write_guard (q : Req) (s : State) : (s.write q).dev.guard = s.dev.guard := by
  refine State.request_guard (fun u => ?_) q _ _ _ s
  dsimp only
  split <;> simp [State.freeze_guard]

theorem State.command_guard (opc : Nat) (q : Req) (s : State) : (s.command opc q).dev.guard = s.dev.guard :=
  State.request_guard (fun u => by simp) q _ _ _ s

theorem State.rigOp_guard {act : HostCmd → State → State} (keep : ∀ c (s : State), (act c s).dev.guard = s.dev.guard) (opc : Nat)
    (q : Req) (s : State) : (s.rigOp opc q act).dev.guard = s.dev.guard := by
  refine State.request_guard (fun u => ?_) q _ _ _ s
  dsimp only
  split <;> simp [keep]

theorem State.ends_guard (c : HostCmd) (st : Status) (w : Word) (s : State) : (s.ends c st w).dev.guard = s.dev.guard := (rfl)

theorem State.refused_guard (c : HostCmd) (s : State) : (s.refused c).dev.guard = s.dev.guard := Dev.refuse_guard c _ s.dev

theorem State.endOpen_guard (j : PwJob) (s : State) : (s.endOpen j).dev.guard = s.dev.guard := by
  unfold State.endOpen
  dsimp only
  split
  · simp
  · simp
  · split <;> simp [State.lockOut, State.freeze_guard]

/-! ## The commands -/

section
variable {s : State} (out : s.dev.inReset = false) (safe : s.dev.allSafe = true)

include out in
theorem resetRelease_stays (rails : RailObs) : s.Stays (execInternalResetRelease rails s) := by
  unfold execInternalResetRelease
  split
  · refine .next (.of_guard ?_)
    rw [State.lift_dev]
    unfold Dev.seeLock
    split <;> rfl
  · next may =>
    have held : s.dev.inReset = true := ((Dev.mayRelease_iff rails s.dev).mp (by simpa using may)).1
    simp [held] at out

include safe in
/-- The straps are latched in BOOT, out of the safe state. -/
theorem strapLatch_stays (attempts : List (List Byte)) : s.Stays (execStrapLatch attempts s) := by
  refine .up_of ?_
  rw [if_pos (by simp [Dev.nodeA_safe safe])]
  exact .refl _

theorem strapReread_stays (raw : Byte) : s.Stays (execStrapReread raw s) := by
  refine .up (fun d => ?_) s
  split
  · exact .refl d
  · exact .of_guard rfl

theorem mismatch_stays (f : CoreField) (a b : Word) (cyc : Nat) : s.Stays (execLockstepMismatch f a b cyc s) := by
  refine .up (fun d => ?_) s
  unfold Dev.mismatch
  split
  · exact .refl d
  · refine Dev.Stays.trans ?_ (Dev.safeAll_stays _ _ _)
    exact .of_guard rfl

theorem Dev.uncorrectable_stays (o : SlackObs) (d : Dev) : d.Stays (d.uncorrectable o) := by
  unfold Dev.uncorrectable
  split
  · exact Dev.safeAll_stays _ _ d
  · split
    · exact Dev.safeOf_stays _ _ _ d
    · split
      · exact Dev.safeOf_stays _ _ _ d
      · exact .refl d

include safe in
/-- The slack of a safe device runs no job. -/
theorem backgroundSlack_stays (o : SlackObs) : s.Stays (execBackgroundSlack o s) := by
  have found := Dev.uncorrectable_stays o s.dev
  refine .up_of ?_
  dsimp only
  rw [if_pos (by simp [found.allSafe safe])]
  exact found

include out safe in
theorem frameBoundary_stays (obs : FrameObs) (lead : Int) : s.Stays (execFrameBoundary obs lead s) := by
  refine .next ?_
  rw [State.boundary_of_safe obs lead out safe]
  exact .of_guard rfl

include safe in
theorem frameWork_stays (w : WorkObs) : s.Stays (execFrameWork w s) := by
  refine .next ?_
  rw [if_pos (by simp [Dev.mayWork, Dev.evaluates_of_safe safe])]
  exact .refl _

include safe in
theorem coreResync_stays (h : Half) (r : Bool) (cyc : Nat) : s.Stays (execCoreResync h r cyc s) := by
  refine .up_of ?_
  rw [if_pos (by simp [Dev.evaluates_of_safe safe])]
  exact .refl _

include safe in
theorem frameWorkDeadline_stays (h : Half) : s.Stays (execFrameWorkDeadline h s) := by
  refine .up_of ?_
  rw [if_neg (by simp [Dev.evaluates_of_safe safe])]
  exact .refl _

include safe in
theorem commitDeadline_stays (h : Half) : s.Stays (execCommitDeadline h s) := by
  refine .up_of ?_
  rw [if_neg (by simp [Dev.evaluates_of_safe safe])]
  exact .refl _

include safe in
theorem codePeriodEnd_stays : s.Stays (execCodePeriodEnd s) := by
  refine .up_of ?_
  rw [if_pos (by simp [Dev.live_of_safe safe])]
  exact .refl _

theorem Dev.starved_stays (p : Probe) (d : Dev) : d.Stays (d.starved p) := by
  unfold Dev.starved
  split
  · exact Dev.safeOf_stays _ _ _ d
  · exact .refl d

include safe in
theorem halyardExchangeClose_stays : s.Stays (execHalyardExchangeClose s) := by
  have closed : s.dev.closeExchange = s.dev.onHal fun x => { x with exClosed := true } := by
    have master : (s.dev.onHal fun x => { x with exClosed := true }).stackMaster = false := Dev.stackMaster_of_safe (d := s.dev.onHal _) safe
    have member : (s.dev.onHal fun x => { x with exClosed := true }).stackMember = false := Dev.stackMember_of_safe (d := s.dev.onHal _) safe
    simp [Dev.closeExchange, master, member]
  have stays : s.dev.Stays (s.lift Dev.closeExchange).dev := .of_guard (by simp [closed])
  unfold execHalyardExchangeClose
  split
  · exact .same s
  · refine .next ?_
    split
    · next w _ =>
      have idle : (s.lift Dev.closeExchange).dev.mayWork (Dev.workHalf w (s.lift Dev.closeExchange).dev) = false := by
        unfold Dev.mayWork
        rw [Dev.evaluates_of_safe (stays.allSafe safe)]
        simp only [Bool.and_false, Bool.false_and]
      rw [if_neg (by rw [idle]; exact Bool.false_ne_true)]
      exact stays
    · exact stays

theorem requestRejected_stays (p : Fin 2) (bytes : List Byte) : s.Stays (execRequestRejected p bytes s) := by
  have seen : (if s.dev.inReset then s else s.lift fun d => d.onPort p fun x =>
      { x with mosi := bytes.take 10, miso := List.replicate 28 0 }).dev.guard = s.dev.guard := by
    split <;> simp
  unfold execRequestRejected
  dsimp only
  generalize (if s.dev.inReset then s else _) = u at seen ⊢
  split
  · exact .next (.of_guard seen)
  · split
    · exact .next (.of_guard (by simp [seen]))
    · split
      · refine .next (.of_guard (Eq.trans ?_ seen))
        rw [State.lift_dev]
        split <;> simp [State.crcError_guard]
      · split
        · exact .next (.of_guard seen)
        · split
          · exact .next (.of_guard (by simp [seen]))
          · exact .next (.of_guard (by simp [State.freeze_guard, seen]))

theorem passwordCheck_stays (p : Fin 2) : s.Stays (execPasswordCheckComplete p s) := by
  unfold execPasswordCheckComplete
  split
  · exact .same s
  · split
    · split
      · exact .same s
      · refine .next (.of_guard ?_)
        split <;> simp [State.endOpen_guard]
    · exact .same s

include out safe in
/-- The one case split over the commands; a command that is not named answers its port alone, or has its own lemma above. -/
theorem exec_stays (c : Instr) : s.Stays (exec c s) := by
  have request {act : State → State} (keep : ∀ u : State, (act u).dev.guard = u.dev.guard) (q : Req) (opc : Nat) (tagged snaprd : Bool) :
      s.Stays (.next (s.request q opc tagged snaprd act)) := .next (.of_guard (State.request_guard keep q opc tagged snaprd s))
  have rig {act : HostCmd → State → State} (keep : ∀ c (u : State), (act c u).dev.guard = u.dev.guard) (opc : Nat) (q : Req) :
      s.Stays (.next (s.rigOp opc q act)) := .next (.of_guard (State.rigOp_guard keep opc q s))
  have pair := Dev.pair_of_safe safe
  have master := Dev.stackMaster_of_safe safe
  have member := Dev.stackMember_of_safe safe
  cases c with
  | vsupPowerOnReset => exact ⟨_, rfl, .inl rfl⟩
  | resetNAssert =>
    show s.Stays (execResetNAssert s)
    rw [execResetNAssert, if_neg (by simp [out])]
    exact ⟨_, rfl, .inl rfl⟩
  | resetNRelease => exact .next (.of_guard rfl)
  | internalResetRelease rails => exact resetRelease_stays out rails
  | vsupBrownOut cyc => exact .up (Dev.safeAll_stays 0x10 cyc) s
  | vioBrownOut cyc => exact .up (Dev.safeAll_stays 0x11 cyc) s
  | vfldOvervoltage cyc =>
    refine .up (fun d => Dev.Stays.trans ?_ (Dev.safeAll_stays _ _ _)) s
    exact .of_guard rfl
  | pllLockLost cyc =>
    refine .up (fun d => Dev.Stays.trans ?_ (Dev.safeAll_stays _ _ _)) s
    exact .of_guard rfl
  | vfldUndervoltage =>
    refine .up (fun d => .of_guard ?_) s
    rw [Dev.recordNow_guard, Dev.raise_guard, Dev.disturbLocal_guard]
    rfl
  | vfldUndervoltageRecovery =>
    refine .up (fun d => ?_) s
    split
    · exact .of_guard (Dev.recordNow_guard _)
    · exact .refl d
  | strapLatch attempts => exact strapLatch_stays safe attempts
  | strapReread raw => exact strapReread_stays raw
  | tmodeHighAfterLatch cyc =>
    refine .up (fun d => ?_) s
    split
    · exact Dev.safeAll_stays _ _ d
    · exact .refl d
  | testAccessInstruction ir drive =>
    refine .up (fun d => .of_guard ?_) s
    split
    · split <;> rfl
    · rfl
    · rfl
  | frameBoundary obs lead => exact frameBoundary_stays out safe obs lead
  | frameWork w => exact frameWork_stays safe w
  | frameWorkDeadline h => exact frameWorkDeadline_stays safe h
  | commitDeadline h => exact commitDeadline_stays safe h
  | lockstepMismatch f a b cyc => exact mismatch_stays f a b cyc
  | coreResync h r cyc => exact coreResync_stays safe h r cyc
  | backgroundSlack o => exact backgroundSlack_stays safe o
  -- head supply, window monitors and inputs: the systems, the capture sets and the inputs
  | scheduledBlankingStart =>
    refine .up (fun d => .of_guard ?_) s
    rfl
  | supplyTestPulse =>
    refine .up (fun d => .of_guard ?_) s
    rfl
  | supplyTestPulseEnd =>
    refine .up (fun d => .of_guard ?_) s
    rfl
  | scheduledBlankingEnd i cyc => exact .up (fun d => .of_guard (by simp)) s
  | codePeriodEnd => exact codePeriodEnd_stays safe
  | hsupOverload i =>
    refine .up (fun d => .of_guard ?_) s
    split <;> rfl
  | hsupOverloadRetry i =>
    refine .up (fun d => .of_guard ?_) s
    dsimp only
    split
    · rfl
    · split <;> simp
  | hsupDischargeEnd i =>
    refine .up (fun d => .of_guard ?_) s
    dsimp only
    split <;> simp
  | comparatorEdge i k level cyc => exact .up (fun d => .of_guard (by simp)) s
  | edgeBlankingEnd i k cyc => exact .up (fun d => .of_guard (by simp)) s
  | rewriteMaskEnd i cyc => exact .up (fun d => .of_guard (by simp)) s
  | bandTimeout i short cyc => exact .upIn (fun d => .of_guard (by simp)) s
  | windowFaultRecovery i code => exact .upIn (fun d => .of_guard (by simp)) s
  | baselineFaultRecovery i => exact .upIn (fun d => .of_guard (by simp)) s
  | bandExcursionEnd i cyc =>
    refine .upIn (fun d => .of_guard ?_) s
    split
    · split <;> simp
    · rfl
  | classifierVerdict h i a b cyc =>
    refine .upIn (fun d => .of_guard ?_) s
    split
    · split
      · exact Dev.onOwn_guard h i _ d
      · rfl
    · rfl
  | pointRecovery h i =>
    refine .upIn (fun d => .of_guard ?_) s
    split <;> simp
  | remotePointOfflineTimeout h i =>
    refine .upIn (fun d => .of_guard ?_) s
    split <;> simp
  | verdictOverdue h i =>
    refine .upIn (fun d => .of_guard ?_) s
    split <;> simp
  | resetArmExpiry h i =>
    refine .upIn (fun d => .of_guard ?_) s
    split
    · split <;> simp
    · rfl
  | resetInputStuck i => exact .upIn_inert (Dev.halfOfInp_safe safe _) _
  | resetInputReleased i => exact .upIn_inert (Dev.halfOfInp_safe safe _) _
  | outputNodeClassChange n high cls cyc =>
    refine .up (fun d => .of_guard ?_) s
    rfl
  | outputLevelTimeout n => exact .upIn_inert (Dev.halfOf_safe safe _ _) _
  | outputLevelLost n cyc => exact .upIn_inert (Dev.halfOf_safe safe _ _) _
  | outputOffNodeTimeout n cyc => exact .upIn_inert (Dev.halfOf_safe safe _ _) _
  | edmTimeout n => exact .upIn_inert (Dev.halfOf_safe safe _ _) _
  | offPulseStart n low b a o => exact .upIn_inert (Dev.halfOf_safe safe _ _) _
  | offPulseEnd n low o hi lo => exact .upIn_inert (Dev.halfOf_safe safe _ _) _
  | proofDueWarning n => exact .upIn_inert (Dev.halfOf_safe safe _ _) _
  | proofIntervalExpiry n => exact .upIn_inert (Dev.halfOf_safe safe _ _) _
  | safeInputEdge i on cyc => exact .up (fun d => .of_guard (by simp)) s
  | inputFilteredEdge i => exact .upIn_inert (Dev.halfOfInp_safe safe _) _
  | tpsPulseStart k =>
    refine .up (fun d => .of_guard ?_) s
    split <;> rfl
  | tpsPulseEnd k high low raw =>
    refine .up (fun d => .of_guard ?_) s
    split
    · dsimp only
      rw [Dev.foldl_guard (by simp)]
      split <;> rfl
    · rfl
  | inputFaultRecovery source i =>
    refine .upIn_inert ?_ _
    split
    · exact Dev.halfOf_safe safe _ _
    · exact Dev.halfOfInp_safe safe _
  -- the probe
  | probeRunStart =>
    have turned (d : Dev) : d.probeTurn.guard = d.guard := by
      unfold Dev.probeTurn
      split <;> rfl
    refine .up (fun d => .of_guard ?_) s
    split
    · rfl
    · dsimp only
      split
      · exact turned d
      · exact turned d
  | probeRampStart rising cyc =>
    refine .upIn (fun d => .of_guard ?_) s
    split
    · split <;> rfl
    · rfl
  | probeStarved =>
    refine .up (fun d => ?_) s
    dsimp only
    split
    · exact (Dev.starved_stays _ d).trans (Dev.starved_stays _ _)
    · exact Dev.starved_stays _ d
  -- a line
  | slotStart h slot echo cyc =>
    refine .up_of ?_
    split
    · exact .refl _
    · split
      · exact .refl _
      · split
        · exact Dev.outsideWindow_stays h _
        · split
          · exact .refl _
          · exact Dev.useSlot_stays h _ echo _ _ _
  | slotGateClose h cyc => exact .up (fun d => .of_guard (by simp)) s
  | biasCheck h x high => exact .up (fun d => .of_guard (by simp)) s
  | commonModeFault h x => exact .up (fun d => .of_guard (by simp)) s
  | lineSuspensionEnd h x => exact .upIn (fun d => .of_guard (by simp)) s
  | lineFaultRecovery h code x =>
    refine .upIn (fun d => .of_guard ?_) s
    dsimp only
    split <;> simp
  | telegramFaultRecovery h code x =>
    refine .upIn (fun d => .of_guard ?_) s
    dsimp only
    split <;> simp
  | wakeDetected h a b cyc => exact .up (fun d => .of_guard (by simp)) s
  | wakeRetry h cyc => exact .up (fun d => .of_guard (by simp)) s
  | reefQuietTimeout h => exact .up (fun d => .of_guard (by simp)) s
  | beacon h cp =>
    refine .up (fun d => .of_guard ?_) s
    have heard := Dev.receive_guard h cp d
    split
    · rfl
    · split
      · next received => rw [received] at heard; simp [heard]
      · next received => rw [received] at heard; exact heard
  | dataTelegram h cp =>
    refine .up (fun d => .of_guard ?_) s
    have heard := Dev.receive_guard h cp d
    split
    · rfl
    · split
      · next received =>
        rw [received] at heard
        have captured (u : Dev) (c : Capture) : ({ u with capOpen := c } : Dev).guard = u.guard := rfl
        simp [captured, heard]
      · next received => rw [received] at heard; exact heard
  | joinTelegram h cp =>
    refine .up (fun d => .of_guard ?_) s
    have heard := Dev.receive_guard h cp d
    split
    · rfl
    · split
      · next received =>
        rw [received] at heard
        split <;> simp [heard]
      · next received => rw [received] at heard; exact heard
  | invalidCopy h x c => exact .up (fun d => .of_guard (by simp)) s
  | beaconSend h echo =>
    refine .up_of (.of_guard ?_)
    simp [Dev.onNode_guard]
  | missedBeaconTimeout h cyc =>
    refine .up (fun d => .of_guard ?_) s
    dsimp only
    split <;> simp
  -- the duplex unit: no pair runs, its claim and its lines alone are left
  | shroudValidPair cyc =>
    refine .up_of (.of_guard ?_)
    have claims (t : Nat) (d : Dev) (none : d.pair = false) : (d.partnerClaims t).guard = d.guard := by
      have none' (f : Dpx → Dpx) : (d.onDpx f).pair = false := none
      simp [Dev.partnerClaims, none']
    rw [Dev.guard_ite, claims]
    · exact ite_self _
    · exact pair
  | claimAbsent cyc =>
    refine .up_of (.of_guard ?_)
    have none (f : Dpx → Dpx) : (s.dev.onDpx f).pair = false := pair
    simp [none]
  | claimReadbackFail => exact .up (fun d => .of_guard (by simp)) s
  | arbitrationWaitEnd =>
    refine .up_of ?_
    rw [if_pos (by simp [pair])]
    exact .refl _
  | contentionTimeout =>
    refine .up_of ?_
    split
    · rw [if_neg (by simp [pair])]
      exact .refl _
    · exact .refl _
  | holdStart =>
    refine .up_of ?_
    rw [if_neg (by simp [pair])]
    exact .refl _
  | holdEnd => exact .up (fun d => .of_guard (by simp)) s
  | hello m =>
    refine .up_of ?_
    rw [if_pos (by simp [pair])]
    exact .refl _
  | shadow m =>
    refine .up_of ?_
    rw [if_pos (by simp [Dev.twinTakes, pair])]
    exact .refl _
  | transfer m =>
    refine .up_of ?_
    rw [if_pos (by simp [Dev.twinTakes, pair])]
    exact .refl _
  | twinRecord bytes cyc =>
    refine .up_of ?_
    rw [if_pos (by simp [pair])]
    exact .refl _
  | recordMissing =>
    refine .up_of ?_
    rw [if_pos (by simp [pair])]
    exact .refl _
  | resyncComplete =>
    refine .up_of ?_
    rw [if_neg (by simp [pair])]
    exact .refl _
  | twinLinkLost =>
    refine .up_of ?_
    rw [if_neg (by simp [pair])]
    exact .refl _
  | invalidTwinMessage bytes =>
    refine .up_of ?_
    rw [if_pos (by simp [pair])]
    exact .refl _
  | twinLinkExchange =>
    refine .up_of ?_
    dsimp only
    rw [if_pos (by simp [pair])]
    exact .of_guard rfl
  -- the stack
  | down fwd rev =>
    refine .up_of ?_
    rw [if_pos (by simp [member])]
    exact .refl _
  | up m fwd rev =>
    refine .up_of ?_
    rw [if_pos (by simp [master])]
    exact .refl _
  | joinReq m =>
    refine .up_of ?_
    rw [if_pos (by simp [master])]
    exact .refl _
  | bulk block face data last =>
    show s.Stays (execBulk block face data last s)
    dsimp only [execBulk]
    rw [if_pos (by simp [member])]
    exact .same s
  | halyardExchange =>
    refine .up_of ?_
    rw [if_pos (by simp [master])]
    exact .refl _
  | memberSubSlot =>
    refine .up_of ?_
    rw [if_pos (by simp [member])]
    exact .refl _
  | halyardExchangeClose => exact halyardExchangeClose_stays safe
  | joinGrantTimeout m =>
    refine .up_of ?_
    rw [if_neg (by simp [master])]
    exact .refl _
  -- start-up and shutdown
  | otpLoad obs =>
    refine .up (fun d => ?_) s
    dsimp only
    split
    · exact .refl d
    · split
      · refine Dev.Stays.trans ?_ (Dev.safeAll_stays _ _ _)
        exact .of_guard rfl
      · exact .of_guard (by simp)
  | memoryTest march romA romB =>
    refine .up (fun d => ?_) s
    split
    · exact .refl d
    · split
      · exact Dev.safeAll_stays _ _ d
      · split
        · exact Dev.safeAll_stays _ _ d
        · exact .of_guard (Dev.toPhase_guard _ _ _)
  | frontEndTest l vref gnd holdOk =>
    refine .up (fun d => ?_) s
    split
    · exact .refl d
    · split
      · exact Dev.safeAll_stays _ _ d
      · exact .of_guard (by simp)
  | lockstepComparatorTest flagged spurious =>
    refine .up (fun d => ?_) s
    split
    · exact .refl d
    · split
      · exact .of_guard (by simp)
      · exact Dev.safeAll_stays _ _ d
  | supplySweep frames =>
    refine .up (fun d => ?_) s
    split
    · exact .refl d
    · split
      · exact Dev.safeAll_stays _ _ d
      · exact .of_guard (by simp)
  | startupPhaseTimeout =>
    refine .up (fun d => ?_) s
    dsimp only
    split
    · exact Dev.safeAll_stays _ _ d
    · exact .refl d
  | joinWindowEnd =>
    refine .up (fun d => .of_guard (Dev.foldl_guard (fun d h => ?_) _ d)) s
    have member (e : Dev) (i : Nat) : (e.raiseMember (i + 1) 0x80).guard = e.guard := by simp [Dev.raiseMember]
    simp [member]
  | shutdownOutputsOff =>
    refine .up (fun d => .of_guard ?_) s
    split
    · dsimp only
      split <;> rfl
    · rfl
  | shutdownEventsDrained =>
    refine .up (fun d => ?_) s
    split
    · split
      · exact Dev.Stays.trans (.of_guard (Dev.onPort_guard _ _ d)) (Dev.enterSafe_stays _ _ _ _ _)
      · exact .refl d
    · exact .refl d
  -- the ports
  | read q tagged snaprd =>
    refine request (fun u => ?_) q _ _ _
    dsimp only
    split
    · simp
    · rw [State.lift_dev]
      split <;> simp
  | snap q => exact request (fun u => by simp [State.direct_guard, State.setSnap_dev]) q _ _ _
  | snapRelease q => exact request (fun u => by simp [State.direct_guard, State.setSnap_dev]) q _ _ _
  | cqPop q =>
    refine request (fun u => ?_) q _ _ _
    split <;> simp [State.direct_guard]
  | result q =>
    refine request (fun u => ?_) q _ _ _
    split <;> simp [State.direct_guard]
  | recallResult q =>
    refine request (fun u => ?_) q _ _ _
    split <;> simp [State.direct_guard]
  | nop q => exact request (fun u => State.direct_guard q _ _ u) q _ _ _
  | sessionOpen q => exact request (fun u => by simp) q _ _ _
  | sessionClose q =>
    refine request (fun u => ?_) q _ _ _
    dsimp only
    split <;> simp [State.direct_guard]
  | pwSet q => exact request (fun u => by simp) q _ _ _
  | logFetch q =>
    refine request (fun u => ?_) q _ _ _
    dsimp only [State.lift_dev]
    split
    · simp
    · split <;> simp
  | registerWrite q | irqstatClear q | clearOccurrenceCounters q | clearLinCounters q | clearHalCounters q | clearDpxCounters q
  | clearBgwCounters q | clearResyncCounter q | holdoffSet q | holdoffClear q => exact .next (.of_guard (State.write_guard _ s))
  | resetArm q | resetConfirm q | outClear q | reefPropose q | wake q | switchover q | resync q | shutdown q | unfreeze q
  | splitForbid q | pwRecover q | logAck q | calWrite q | calClear q | otpRead q => exact .next (.of_guard (State.command_guard _ q s))
  | hostTransactionCut p => exact .next (.of_guard (State.crcError_guard p s))
  | requestRejected p bytes => exact requestRejected_stays p bytes
  | passwordCheckComplete p => exact passwordCheck_stays p
  | sessionIdleTimeout p =>
    refine .up (fun d => .of_guard ?_) s
    split <;> simp
  | lockoutEnd p =>
    refine .up (fun d => .of_guard ?_) s
    split <;> simp
  | pwRecoverTimeout =>
    refine .up (fun d => .of_guard ?_) s
    split <;> simp
  -- the rig and background work
  | rigBegin q =>
    refine rig (fun c u => ?_) _ q
    split
    · exact State.refused_guard c u
    · rfl
  | rigWrite q =>
    refine rig (fun c u => ?_) _ q
    dsimp only
    split
    · exact State.refused_guard c u
    · rfl
  | rigCheck q =>
    refine rig (fun c u => ?_) _ q
    split
    · exact State.refused_guard c u
    · rfl
  | rigLoad q =>
    refine rig (fun c u => ?_) _ q
    dsimp only
    split
    · exact State.refused_guard c u
    · rfl
  | rigDiscard q => exact rig (fun c u => by rfl) _ q
  | rigStore q =>
    refine rig (fun c u => ?_) _ q
    split
    · exact State.refused_guard c u
    · rfl
  | rigActivate q =>
    refine rig (fun c u => ?_) _ q
    dsimp only
    split
    · rfl
    · split
      · exact State.refused_guard c u
      · split <;> rfl
  | rigVerificationEnd =>
    show s.Stays (execRigVerificationEnd s)
    rw [execRigVerificationEnd, if_pos (by simp [safe])]
    exact .same s
  | bankVerificationTimeout =>
    show s.Stays (execBankVerificationTimeout s)
    rw [execBankVerificationTimeout, if_pos (by simp [safe])]
    exact .same s
  | rigStoreComplete =>
    show s.Stays (execRigStoreComplete s)
    rw [execRigStoreComplete, if_pos (by simp [safe])]
    exact .same s
  | rigActivation =>
    show s.Stays (execRigActivation s)
    rw [execRigActivation, if_pos (by simp [safe])]
    exact .same s
  | _ => exact .upLive_inert safe _

end

end Sys2Proof.Machine
end

section
namespace Sys2Proof.Proofs
open Sys2Proof Sys2Proof.Machine

/-- Settles O5: no command of a safe device gives a half back, `exec_stays`. -/
theorem safeStateEndsOnlyByInternalReset : Obligations.SafeStateEndsOnlyByInternalReset := by
  unfold Obligations.SafeStateEndsOnlyByInternalReset
  intro s t ⟨out, safe⟩ next
  unfold step at next
  split at next
  · cases next
    exact .inr ⟨out, safe⟩
  · next c rest front =>
    obtain ⟨u, answer, after⟩ := exec_stays (s := { s with pending := rest }) out safe c
    rw [answer] at next
    cases next
    exact after.imp id fun stays => ⟨stays.inReset.trans out, stays.allSafe safe⟩

end Sys2Proof.Proofs
end

section
/-! The obligations of 14, the internal reset, and of 02, VFLD undervoltage; the recoveries of Tables LIN-4 and TEL-4. -/
namespace Sys2Proof.Machine

/-! ## The internal reset (R271) -/

/-- Whatever device is held: without faults, and of the one before only what R271 names. -/
theorem State.holdReset_clearedFrom {s : State} {d : Dev} (cleared : d = { s.dev.afterReset with
    resetN := d.resetN, vfldOver := d.vfldOver, resetCause := d.resetCause, nreset := d.nreset, lastCause := d.lastCause, mm := d.mm }) :
    s.ClearedFrom (s.holdReset d) := by
  unfold State.ClearedFrom State.holdReset
  rw [cleared]
  exact ⟨rfl, rfl, rfl, rfl, rfl, rfl, rfl, rfl, rfl, rfl, rfl, rfl, rfl, rfl, rfl, rfl, rfl, rfl, rfl, rfl, rfl, rfl, rfl, rfl, rfl, rfl, rfl⟩

/-! ## VFLD undervoltage (Table BAL-4) -/

/-- The points of half `h` that the device runs are DISTURBED. -/
def Dev.OwnDisturbed (h : Half) (d : Dev) : Prop := ∀ p ∈ d.ownPoints h, d.runsPoint p.cfg = true → p.state = .disturbed

/-- What the undervoltage makes of one point. -/
def Dev.disturbRun (d : Dev) (p : Point) : Point := if d.runsPoint p.cfg then p.disturb else p

theorem Dev.disturbRun_state (d : Dev) (p : Point) (runs : d.runsPoint (d.disturbRun p).cfg = true) : (d.disturbRun p).state = .disturbed := by
  unfold Dev.disturbRun at runs ⊢
  split
  · rfl
  · next idle =>
    rw [if_neg idle] at runs
    exact absurd runs idle

theorem Dev.mapOwn_runsPoint (h : Half) (f : Point → Point) (d : Dev) : (d.mapOwn h f).runsPoint = d.runsPoint := by
  rw [Dev.mapOwn_frame]
  rfl

theorem Dev.mapOwn_halves (h : Half) (f : Point → Point) (d : Dev) : (d.mapOwn h f).halves = d.halves := by
  rw [Dev.mapOwn_frame]
  rfl

theorem Dev.mapOwn_disturbs (h : Half) (d : Dev) : (d.mapOwn h d.disturbRun).OwnDisturbed h := by
  intro p mem runs
  rw [Dev.mapOwn_ownPoints] at mem
  rw [Dev.mapOwn_runsPoint] at runs
  obtain ⟨q, -, rfl⟩ := List.mem_map.mp mem
  exact d.disturbRun_state q runs

theorem Dev.ownPoints_of_mirrors {d : Dev} (mirrors : d.mirrors = true) (g h : Half) : d.ownPoints g = d.ownPoints h := by
  rw [Dev.ownPoints, if_pos mirrors, Dev.ownPoints, if_pos mirrors]

theorem Dev.mapOwn_keeps_disturbed {g : Half} (h : Half) {d : Dev} (disturbed : d.OwnDisturbed g) : (d.mapOwn h d.disturbRun).OwnDisturbed g := by
  by_cases same : g = h
  · subst same
    exact d.mapOwn_disturbs g
  · cases mirrors : d.mirrors with
    | true =>
      have shared := Dev.ownPoints_of_mirrors ((Dev.mapOwn_mirrors h d.disturbRun d).trans mirrors) g h
      have there := d.mapOwn_disturbs h
      rwa [Dev.OwnDisturbed, ← shared] at there
    | false =>
      have own : (d.mapOwn h d.disturbRun).ownPoints g = d.ownPoints g := by
        simp only [Dev.ownPoints, Dev.mapOwn_mirrors, mirrors, Bool.false_eq_true, if_false, Dev.mapOwn_node_ne same]
      rwa [Dev.OwnDisturbed, own, Dev.mapOwn_runsPoint]

theorem Dev.foldl_mapOwn_keeps_disturbed {g : Half} (hs : List Half) {d : Dev} (disturbed : d.OwnDisturbed g) :
    (hs.foldl (fun (d : Dev) h => d.mapOwn h d.disturbRun) d).OwnDisturbed g := by
  induction hs generalizing d with
  | nil => exact disturbed
  | cons h hs ih => exact ih (Dev.mapOwn_keeps_disturbed h disturbed)

theorem Dev.foldl_mapOwn_disturbs {g : Half} {hs : List Half} (mem : g ∈ hs) (d : Dev) :
    (hs.foldl (fun (d : Dev) h => d.mapOwn h d.disturbRun) d).OwnDisturbed g := by
  induction hs generalizing d with
  | nil => cases mem
  | cons h hs ih =>
    rcases List.mem_cons.mp mem with rfl | rest
    · exact Dev.foldl_mapOwn_keeps_disturbed hs (d.mapOwn_disturbs g)
    · exact ih rest _

theorem Dev.disturbLocal_eq (d : Dev) : d.disturbLocal = d.halves.foldl (fun (d : Dev) h => d.mapOwn h d.disturbRun) d := rfl

theorem Dev.disturbLocal_disturbs {h : Half} (d : Dev) (mem : h ∈ d.halves) : d.disturbLocal.OwnDisturbed h :=
  Dev.foldl_mapOwn_disturbs mem d

/-- Of the device at most the points differ. -/
def Dev.OnlyPoints (d e : Dev) : Prop := ∃ a b l, e = { d with
  nodeA := { d.nodeA with points := a }, nodeB := { d.nodeB with points := b }, dpx := { d.dpx with shadow := l } }

theorem Dev.OnlyPoints.trans {d e f : Dev} (h : d.OnlyPoints e) (k : e.OnlyPoints f) : d.OnlyPoints f := by
  obtain ⟨_, _, _, rfl⟩ := h
  obtain ⟨a, b, l, rfl⟩ := k
  exact ⟨a, b, l, rfl⟩

theorem Dev.foldl_mapOwn_onlyPoints (hs : List Half) (d : Dev) : d.OnlyPoints (hs.foldl (fun (d : Dev) h => d.mapOwn h d.disturbRun) d) := by
  induction hs generalizing d with
  | nil => exact ⟨_, _, _, rfl⟩
  | cons h hs ih => exact Dev.OnlyPoints.trans ⟨_, _, _, Dev.mapOwn_frame h d.disturbRun d⟩ (ih _)

theorem Dev.disturbLocal_onlyPoints (d : Dev) : d.OnlyPoints d.disturbLocal := Dev.foldl_mapOwn_onlyPoints d.halves d

theorem Dev.recordNow_of_live {d : Dev} (live : d.allSafe = false) : d.recordNow = d := if_neg (by simp [live])

theorem Dev.OnlyPoints.allSafe {d e : Dev} (only : d.OnlyPoints e) : e.allSafe = d.allSafe := by
  obtain ⟨a, b, l, rfl⟩ := only
  rw [Dev.allSafe, Dev.allSafe]
  exact congrArg _ (funext fun h => by cases h <;> rfl)

/-- The device in the frame in which VFLD is found low. -/
def Dev.fieldLow (d : Dev) : Dev := { d with vfldUnder := true, vfldLow := d.frame }

theorem exec_vfldUndervoltage {s : State} (out : s.dev.inReset = false) (live : s.dev.allSafe = false) :
    exec .vfldUndervoltage s = .next (s.lift fun d => d.fieldLow.disturbLocal.raise 0x12 .device 0) := by
  have still : (s.dev.fieldLow.disturbLocal.raise 0x12 .device 0).allSafe = false :=
    (Dev.disturbLocal_onlyPoints s.dev.fieldLow).allSafe.trans live
  exact exec_up_as rfl out (Dev.recordNow_of_live still)

theorem exec_vfldUndervoltageRecovery {s : State} (out : s.dev.inReset = false) (live : s.dev.allSafe = false)
    (due : s.dev.vfldUnder = true ∧ 200 ≤ since s.dev.frame s.dev.vfldLow) :
    exec .vfldUndervoltageRecovery s = .next (s.lift fun d => { d with vfldUnder := false }.clearF 0x12 .device 0) := by
  obtain ⟨under, passed⟩ := due
  refine exec_up_as rfl out ?_
  rw [if_pos (by simp [under, Dev.ago, passed])]
  exact Dev.recordNow_of_live live

theorem exec_vfldUndervoltageRecovery_early {s : State} (out : s.dev.inReset = false)
    (early : ¬ (s.dev.vfldUnder = true ∧ 200 ≤ since s.dev.frame s.dev.vfldLow)) : exec .vfldUndervoltageRecovery s = .next s :=
  exec_up_as rfl out (if_neg fun due => early ((Bool.and_eq_true_iff.mp due).imp id of_decide_eq_true))

/-! ## The recoveries of a line and of its telegrams (Tables LIN-4 and TEL-4) -/

/-- A recovery of half `h` that clears one fault when `ok` and does nothing else. -/
theorem upIn_clears {s : State} {h : Half} (runs : s.Runs h) {f : Dev → Dev} {code obj : Nat} {k : Kind} {ok : Bool}
    (does : f s.dev = if ok then s.dev.clearF code k obj h else s.dev) :
    if ok then ∃ t, upIn (fun _ => h) f s = .next t ∧ t.dev.hasFault code k obj h = false
      ∧ t = { s with dev := { s.dev with faults := t.dev.faults } }
    else upIn (fun _ => h) f s = .next s := by
  obtain ⟨out, live⟩ := runs
  rw [upIn_next (fun _ => h) f out live, State.lift, does]
  cases ok with
  | true => exact ⟨_, rfl, Dev.hasFault_clearF code k obj s.dev h, rfl⟩
  | false => rfl

theorem Dev.usableAgain_lineFault (h g : Half) (x : Line) {code : Nat} (other : code ≠ 0x66) (d : Dev) :
    (d.usableAgain h).lineFault g x code = d.lineFault g x code := by
  unfold Dev.usableAgain
  split
  · rw [Dev.lineFault, Dev.hasFault, Dev.startJoin_faults]
    exact Dev.hasFault_clearF_ne other ..
  · rfl

/-- What the recovery of 0x62 does with the device. -/
def Dev.unsuspend62 (h : Half) (x : Line) (d : Dev) : Dev :=
  ((d.onLine h fun l => l.onPhys x fun p => { p with susp62 := false }).clearLine h x 0x62).usableAgain h

theorem Dev.unsuspend62_offLine (h : Half) (x : Line) (d : Dev) : (d.unsuspend62 h x).offLine h = d.offLine h := by
  rw [Dev.unsuspend62, Dev.usableAgain_offLine, Dev.clearLine, Dev.clearF_offLine, Dev.onLine_offLine]

theorem Dev.unsuspend62_phys (h : Half) (x : Line) (d : Dev) :
    ((d.unsuspend62 h x).line h).phys x = { (d.line h).phys x with susp62 := false } := by
  rw [Dev.unsuspend62, Dev.usableAgain_phys, Dev.clearLine, Dev.line_clearF, Dev.line_onLine, LineNode.phys_onPhys]

theorem Dev.unsuspend62_clears (h : Half) (x : Line) (d : Dev) : (d.unsuspend62 h x).lineFault h x 0x62 = false := by
  rw [Dev.unsuspend62, Dev.usableAgain_lineFault h h x (by decide)]
  exact Dev.hasFault_clearF ..

theorem exec_lineFaultRecovery_62 {s : State} {h : Half} (x : Line) (runs : s.Runs h) :
    exec (.lineFaultRecovery h 0x62 x) s = .next (s.lift fun d =>
      if ((d.line h).phys x).susp62 && 2000 ≤ d.ago ((d.line h).phys x).suspFrame then d.unsuspend62 h x else d) :=
  upIn_next (fun _ => h) _ runs.1 runs.2

end Sys2Proof.Machine
end

section
namespace Sys2Proof.Proofs
open Sys2Proof Sys2Proof.Machine

/-- Settles O7: both causes hold a device of `Dev.afterReset`. -/
theorem internalResetClearsAllButTheStores : Obligations.InternalResetClearsAllButTheStores := by
  unfold Obligations.InternalResetClearsAllButTheStores
  refine ⟨fun s => ?_, fun s out => ?_, fun s held => ?_⟩
  · exact ⟨_, rfl, State.holdReset_clearedFrom rfl, rfl, rfl, rfl, rfl, rfl⟩
  · exact ⟨_, if_neg (by simp [out]), State.holdReset_clearedFrom rfl, rfl, rfl, rfl, rfl, rfl⟩
  · exact if_pos held

/-- Settles O10: `Dev.disturbLocal` changes points alone and leaves those that the device runs DISTURBED. -/
theorem fieldUndervoltageDisturbsAndRecovers : Obligations.FieldUndervoltageDisturbsAndRecovers := by
  unfold Obligations.FieldUndervoltageDisturbsAndRecovers
  intro s out live
  refine ⟨?_, ?_⟩
  · obtain ⟨a, b, l, only⟩ := Dev.disturbLocal_onlyPoints s.dev.fieldLow
    refine ⟨_, exec_vfldUndervoltage out live, ?_, ?_, Dev.hasFault_raise .., ?_, ?_⟩
    · exact congrArg Dev.vfldUnder only
    · exact congrArg Dev.vfldLow only
    · exact fun h mem p own runs => Dev.disturbLocal_disturbs s.dev.fieldLow mem p own runs
    · rw [State.lift_dev, State.lift, only]
      rfl
  · split
    · next due =>
      exact ⟨_, exec_vfldUndervoltageRecovery out live due, rfl, Dev.hasFault_clearF .., rfl⟩
    · next early => exact exec_vfldUndervoltageRecovery_early out early

/-- Settles O46: every recovery but that of 0x62 is `upIn_clears`; that one is `Dev.unsuspend62`. -/
theorem linkFaultsClearOnlyWhenRecovered : Obligations.LinkFaultsClearOnlyWhenRecovered := by
  unfold Obligations.LinkFaultsClearOnlyWhenRecovered
  intro s h x runs
  refine ⟨upIn_clears runs ?_, upIn_clears runs ?_, upIn_clears runs ?_, upIn_clears runs ?_, upIn_clears runs ?_,
    upIn_clears runs ?_, upIn_clears runs ?_, upIn_clears runs ?_, upIn_clears runs ?_, upIn_clears runs ?_, upIn_clears runs ?_,
    fun suspended passed => ?_, fun idle => ?_⟩
  case refine_12 =>
    refine ⟨s.lift (Dev.unsuspend62 h x), ?_, s.dev.unsuspend62_clears h x, s.dev.unsuspend62_phys h x, ?_, ?_⟩
    · refine (exec_lineFaultRecovery_62 x runs).trans ?_
      rw [State.lift, if_pos (by simp [suspended, Dev.ago, passed])]
      rfl
    · exact (State.lift_onlyLine (s.dev.unsuspend62_offLine h x)).2
    · exact (State.lift_onlyLine (s.dev.unsuspend62_offLine h x)).1
  case refine_13 =>
    refine (exec_lineFaultRecovery_62 x runs).trans ?_
    rw [State.lift, if_neg]
    rcases idle with idle | early
    · simp [idle]
    · simp [Dev.ago, Nat.not_le.mpr early]
  case refine_9 =>
    cases silent : (s.dev.line h).silent6A <;> simp [silent]
  all_goals simp [Dev.clearLine]

end Sys2Proof.Proofs
end

section
/-! The limits of 18 and of the boot sequence: a job or a phase past its limit enters the safe state, any other changes nothing. -/
namespace Sys2Proof.Machine

/-- A limit of a live device: past it the safe state of its code, before it nothing. -/
theorem up_trips {s : State} {f : Dev → Dev} {code : Nat} (out : s.dev.inReset = false) (live : s.dev.AllLive) {late : Prop} [Decidable late]
    (does : f s.dev = if late then s.dev.safeAll code 0 else s.dev) :
    if late then ∃ t, up f s = .next t ∧ t.dev.EnteredSafe code 0 s.dev ∧ t = { s with dev := t.dev } else up f s = .next s := by
  split
  · next due => exact up_entersSafe out (does.trans (if_pos due)) live rfl rfl
  · next early => rw [up_next f out, State.lift, does, if_neg early]

theorem upLive_trips {s : State} {f : Dev → Dev} {code : Nat} (out : s.dev.inReset = false) (live : s.dev.AllLive) {late : Prop} [Decidable late]
    (does : f s.dev = if late then s.dev.safeAll code 0 else s.dev) :
    if late then ∃ t, upLive f s = .next t ∧ t.dev.EnteredSafe code 0 s.dev ∧ t = { s with dev := t.dev } else upLive f s = .next s := by
  refine up_trips out live ?_
  rw [if_neg (by simp [Dev.allSafe_of_allLive live])]
  exact does

theorem Faults.name_any (code p : Nat) (f : Faults) (c : Nat) : (f.name code p).active.any (·.code == c) = f.active.any (·.code == c) := by
  simp only [Faults.name, List.any_map]
  refine congrArg (f.active.any ·) (funext fun k => ?_)
  simp only [Function.comp]
  split <;> rfl

/-- The entry for an overdue job, whose fault names the job. -/
def Dev.safeForJob (job : Nat) (d : Dev) : Dev := { d.safeAll 0xB5 0 with faults := (d.safeAll 0xB5 0).faults.name 0xB5 job }

theorem Dev.safeForJob_entered (job : Nat) {d : Dev} (live : d.AllLive) : (d.safeForJob job).EnteredSafe 0xB5 0 d := by
  obtain ⟨held, active, faultN, hbeat, code, frame, dt⟩ := Dev.safeAll_entered 0xB5 0 d live
  refine ⟨fun h mem => ?_, (Faults.name_any 0xB5 job _ 0xB5).trans active, faultN, hbeat, code, frame, dt⟩
  obtain ⟨safe, sys, outputs, sources, lines⟩ := held h mem
  cases h <;> exact ⟨safe, sys, outputs, sources, lines⟩

theorem exec_backgroundJobOverdue {s : State} (out : s.dev.inReset = false) (live : s.dev.AllLive) (job : Nat) :
    exec (.backgroundJobOverdue job) s = .next (s.lift fun d => if d.overdueJob job then d.safeForJob job else d) :=
  upLive_next _ out (Dev.allSafe_of_allLive live)

theorem exec_backgroundJobOverdue_trips {s : State} (out : s.dev.inReset = false) (live : s.dev.AllLive) {job : Nat} {late : Prop} [Decidable late]
    (overdue : s.dev.overdueJob job = true ↔ late) :
    if late then ∃ t, exec (.backgroundJobOverdue job) s = .next t ∧ t.dev.EnteredSafe 0xB5 0 s.dev ∧ t = { s with dev := t.dev }
    else exec (.backgroundJobOverdue job) s = .next s := by
  rw [exec_backgroundJobOverdue out live]
  split
  · next due =>
    refine ⟨_, rfl, ?_, rfl⟩
    rw [State.lift_dev, if_pos (overdue.mpr due)]
    exact Dev.safeForJob_entered job live
  · next early => rw [State.lift, if_neg fun due => early (overdue.mp due)]

/-- A half's start-up phase is at its limit when the frame ends (log 68). -/
def Dev.startupLate (d : Dev) (h : Half) : Prop :=
  ((d.node h).sys = .boot ∧ 5000 ≤ d.dt.toNat + 500) ∨ ((d.node h).sys = .selftest ∧ 520000 ≤ d.dt.toNat + 500)

theorem exec_startupPhaseTimeout {s : State} (out : s.dev.inReset = false) (live : s.dev.AllLive) [Decidable (∃ h ∈ s.dev.halves, s.dev.startupLate h)] :
    if ∃ h ∈ s.dev.halves, s.dev.startupLate h then
      ∃ t, exec .startupPhaseTimeout s = .next t ∧ t.dev.EnteredSafe 0xB2 0 s.dev ∧ t = { s with dev := t.dev }
    else exec .startupPhaseTimeout s = .next s := by
  refine up_trips out live ?_
  simp [Dev.startupLate]

end Sys2Proof.Machine
end

section
namespace Sys2Proof.Proofs
open Sys2Proof Sys2Proof.Machine

/-- Settles O42: every limit is one case of `up_trips`, with the job named in the fault of an overdue job. -/
theorem overdueJobsAndPhasesAreSafe : Obligations.OverdueJobsAndPhasesAreSafe := by
  unfold Obligations.OverdueJobsAndPhasesAreSafe
  intro s out live
  refine ⟨upLive_trips out live ?_, upLive_trips out live ?_, exec_backgroundJobOverdue_trips out live ?_,
    exec_backgroundJobOverdue_trips out live ?_, exec_backgroundJobOverdue_trips out live ?_, fun j none => ?_, fun late => ?_, fun early => ?_⟩
  · simp only [Bool.and_eq_true, decide_eq_true_eq]
    rfl
  · simp only [Bool.and_eq_true, decide_eq_true_eq]
    rfl
  · simp only [Dev.overdueJob, Bool.and_eq_true, decide_eq_true_eq]
    rfl
  · simp only [Dev.overdueJob, Bool.and_eq_true, decide_eq_true_eq]
    rfl
  · simp only [Dev.overdueJob, Bool.and_eq_true, decide_eq_true_eq, Bool.not_eq_true', and_assoc]
    rfl
  · have never : s.dev.overdueJob j = false := by
      unfold Dev.overdueJob
      split <;> simp at none ⊢
    rw [exec_backgroundJobOverdue out live, State.lift, if_neg (by simp [never])]
  · classical exact (if_pos late).mp (exec_startupPhaseTimeout out live)
  · classical exact (if_neg early).mp (exec_startupPhaseTimeout out live)

end Sys2Proof.Proofs
end

section
/-! The slack of a frame (R327, R328): what its jobs keep. -/
namespace Sys2Proof.Machine

/-- What a slack notes and what its jobs leave alone. -/
structure SlackMarks where
  dt : DTime
  frame : Word
  codePos : Nat
  straps : Straps
  ran : Bool
  slack : Nat
  least : Nat

def Dev.slackMarks (d : Dev) : SlackMarks :=
  { dt := d.dt, frame := d.frame, codePos := d.codePos, straps := d.straps, ran := d.bgw.slackRan, slack := d.bgw.slack, least := d.bgw.slackMin }

theorem Dev.safeHalf_slackMarks (h : Half) (d : Dev) : (d.safeHalf h).slackMarks = d.slackMarks := by
  unfold Dev.safeHalf
  dsimp only
  split <;> split <;> split <;> cases h <;> rfl

theorem Dev.enterSafe_slackMarks (code : Nat) (hs : List Half) (cyc : Nat) (d : Dev) :
    (d.enterSafe code true hs cyc).slackMarks = d.slackMarks := by
  refine (foldl_keeps (view := Dev.slackMarks) (fun e h => ?_) hs _).trans rfl
  split
  · rfl
  · exact Dev.safeHalf_slackMarks h e

theorem Dev.safeIn_slackMarks (code : Nat) (a b : Bool) (cyc : Nat) (d : Dev) : (d.safeIn code a b cyc).slackMarks = d.slackMarks := by
  unfold Dev.safeIn
  split
  · exact Dev.enterSafe_slackMarks ..
  · split <;> exact Dev.enterSafe_slackMarks ..

/-- What a job without a finding leaves alone: the marks and the halves' safe-state latches. -/
def Dev.slackView (d : Dev) : Guard × SlackMarks := (d.guard, d.slackMarks)

theorem Dev.slice_keeps {γ : Type} {view : Dev → γ} {f : Nat → Dev → Dev}
    (carry : ∀ job budget d, view (d.onBgw fun _ => (d.bgw.work job budget).2.2) = view d) (keep : ∀ k d, view (f k d) = view d)
    (job budget : Nat) (active : Bool) (d : Dev) : view (d.slice job budget active f).2 = view d := by
  unfold Dev.slice
  split
  · rfl
  · exact (keep _ _).trans (carry job budget d)

theorem Dev.work_slackView (job budget : Nat) (d : Dev) : (d.onBgw fun _ => (d.bgw.work job budget).2.2).slackView = d.slackView := rfl

theorem Dev.scrubJob_slackView (o : SlackObs) (k : Nat) (d : Dev) : (d.scrubJob o k).slackView = d.slackView := by
  unfold Dev.scrubJob
  split <;> rfl

theorem Dev.compareStart_slackView (d : Dev) : d.compareStart.slackView = d.slackView := by
  unfold Dev.compareStart
  split <;> rfl

theorem Dev.compareJob_slackMarks (o : SlackObs) (k : Nat) (d : Dev) : (d.compareJob o k).slackMarks = d.slackMarks := by
  unfold Dev.compareJob
  split
  · rfl
  · split
    · exact Dev.safeIn_slackMarks ..
    · dsimp only
      split <;> rfl

theorem Dev.compareJob_slackView {o : SlackObs} (equal : (o.tablesDiffer || o.tablesDifferB) = false) (k : Nat) (d : Dev) :
    (d.compareJob o k).slackView = d.slackView := by
  unfold Dev.compareJob
  split
  · rfl
  · rw [if_neg (by simp [equal])]
    dsimp only
    split <;> rfl

theorem Dev.onSys_slackView (i : Nat) (f : Sys → Sys) (d : Dev) : (d.onSys i f).slackView = d.slackView := rfl
theorem Dev.raise_slackView (code : Nat) (k : Kind) (obj : Nat) (d : Dev) (h : Half) (p : Nat) : (d.raise code k obj h p).slackView = d.slackView := rfl
theorem Dev.raiseSys_slackView (i code : Nat) (d : Dev) : (d.raiseSys i code).slackView = d.slackView := rfl
theorem Dev.slackView_ite (c : Prop) [Decidable c] (a b : Dev) :
    (if c then a else b).slackView = if c then a.slackView else b.slackView := apply_ite Dev.slackView c a b

theorem Dev.onBgw_slackView {f : Bgw → Bgw} (keep : ∀ b, (f b).slackRan = b.slackRan ∧ (f b).slack = b.slack ∧ (f b).slackMin = b.slackMin)
    (d : Dev) : (d.onBgw f).slackView = d.slackView := by
  obtain ⟨ran, slack, least⟩ := keep d.bgw
  exact Prod.ext rfl (by simp [Dev.slackView, Dev.slackMarks, Dev.onBgw, ran, slack, least])

theorem Dev.baselineJob_slackView (i : Nat) (d : Dev) : (d.baselineJob i).slackView = d.slackView := by
  simp only [Dev.baselineJob, Dev.slackView_ite, Dev.onSys_slackView, Dev.raiseSys_slackView, ite_self]

theorem Dev.baselineSlice_slackView (budget : Nat) (d : Dev) : (d.baselineSlice budget).2.slackView = d.slackView := by
  unfold Dev.baselineSlice
  split
  · exact Dev.onBgw_slackView (fun _ => ⟨rfl, rfl, rfl⟩) _
  · generalize List.range 32 = systems
    exact foldl_keeps (view := Dev.slackView) (fun e i => Dev.baselineJob_slackView i e) systems d

theorem Dev.readbackOne_slackView (d : Dev) (r : Nat × Nat) : (d.readbackOne r).slackView = d.slackView := by
  simp only [Dev.readbackOne, Dev.slackView_ite, Dev.onSys_slackView, Dev.raiseSys_slackView, ite_self]
  exact Dev.onBgw_slackView (fun _ => ⟨rfl, rfl, rfl⟩) d

theorem Dev.endCalWindow_slackView (d : Dev) : d.endCalWindow.slackView = d.slackView := by
  simp only [Dev.endCalWindow, Dev.slackView_ite, Dev.raise_slackView]
  split
  · refine (Dev.onBgw_slackView (fun _ => ⟨rfl, rfl, rfl⟩) _).trans ?_
    exact Dev.onBgw_slackView (fun _ => ⟨rfl, rfl, rfl⟩) d
  · exact Dev.onBgw_slackView (fun _ => ⟨rfl, rfl, rfl⟩) d

theorem Dev.calJob_slackView (k : Nat) (d : Dev) : (d.calJob k).slackView = d.slackView := by
  unfold Dev.calJob
  split
  · rfl
  · have reads := foldl_keeps (view := Dev.slackView) Dev.readbackOne_slackView
      (List.zip [d.bgw.dacNext % 99, (d.bgw.dacNext + 1) % 99] d.obs.readback) d
    dsimp only
    split
    · exact (Dev.endCalWindow_slackView _).trans reads
    · exact reads

theorem Dev.wearJob_slackView (k : Nat) (d : Dev) : (d.wearJob k).slackView = d.slackView := by
  unfold Dev.wearJob
  split
  · rfl
  · split
    · rfl
    · split <;> rfl

theorem Dev.romStart_slackView (d : Dev) : d.romStart.slackView = d.slackView := by
  unfold Dev.romStart
  split <;> rfl

theorem Dev.romJob_slackMarks (o : SlackObs) (k : Nat) (d : Dev) : (d.romJob o k).slackMarks = d.slackMarks := by
  unfold Dev.romJob
  split
  · rfl
  · split
    · exact Dev.safeIn_slackMarks ..
    · dsimp only
      split <;> rfl

theorem Dev.romJob_slackView {o : SlackObs} (good : (o.romBad || o.romBadB) = false) (k : Nat) (d : Dev) :
    (d.romJob o k).slackView = d.slackView := by
  unfold Dev.romJob
  split
  · rfl
  · rw [if_neg (by simp [good])]
    dsimp only
    split <;> rfl

theorem Dev.telemetryJob_slackView (budget : Nat) (d : Dev) : (d.telemetryJob budget).2.slackView = d.slackView := by
  unfold Dev.telemetryJob
  split
  · rfl
  · split
    · rfl
    · dsimp only
      split <;> rfl

theorem Dev.chainJob_slackView (o : SlackObs) (k : Nat) (d : Dev) : (d.chainJob o k).slackView = d.slackView := by
  unfold Dev.chainJob
  split
  · rfl
  · split
    · rfl
    · dsimp only
      split <;> rfl

/-! ## The jobs of a slack one after the other -/

/-- Jobs 1 to 8 on the slack of a frame, after it is noted. -/
def Dev.slackJobs (o : SlackObs) (d : Dev) : Dev :=
  let a := d.slice 1 o.cycles true (Dev.scrubJob o)
  let d := a.2.compareStart
  let b := d.slice 2 a.1 d.bgw.cmpRunning (Dev.compareJob o)
  let c := b.2.baselineSlice b.1
  let e := c.2.slice 4 c.1 true Dev.calJob
  let f := e.2.slice 5 e.1 (e.2.log.erasing.isSome || e.2.log.erasable.isSome || !e.2.store.toErase.isEmpty) Dev.wearJob
  let d := f.2.romStart
  let g := d.slice 6 f.1 d.bgw.romRunning (Dev.romJob o)
  let t := g.2.telemetryJob g.1
  (t.2.slice 8 t.1 (t.2.bgw.opened && !t.2.log.chainDone) (Dev.chainJob o)).2

/-- What the two jobs with findings keep, and the others keep in any case, a slack keeps. -/
theorem Dev.slackJobs_keeps {γ : Type} (part : Guard × SlackMarks → γ) {o : SlackObs}
    (compare : ∀ k d, part (Dev.slackView (Dev.compareJob o k d)) = part d.slackView)
    (rom : ∀ k d, part (Dev.slackView (Dev.romJob o k d)) = part d.slackView) (d : Dev) :
    part (d.slackJobs o).slackView = part d.slackView := by
  have keeps {f : Nat → Dev → Dev} (keep : ∀ k d, part (Dev.slackView (f k d)) = part d.slackView) (job budget : Nat) (active : Bool) (d : Dev) :
      part (d.slice job budget active f).2.slackView = part d.slackView :=
    Dev.slice_keeps (view := fun d => part d.slackView) (fun job budget d => congrArg part (Dev.work_slackView job budget d)) keep job budget active d
  have quiet {f : Nat → Dev → Dev} (keep : ∀ k d, Dev.slackView (f k d) = d.slackView) := keeps fun k d => congrArg part (keep k d)
  simp only [Dev.slackJobs, quiet (Dev.scrubJob_slackView o), Dev.compareStart_slackView, keeps compare, Dev.baselineSlice_slackView,
    quiet Dev.calJob_slackView, quiet Dev.wearJob_slackView, Dev.romStart_slackView, keeps rom, Dev.telemetryJob_slackView,
    quiet (Dev.chainJob_slackView o)]

theorem Dev.slackJobs_slackMarks (o : SlackObs) (d : Dev) : (d.slackJobs o).slackMarks = d.slackMarks :=
  Dev.slackJobs_keeps Prod.snd (Dev.compareJob_slackMarks o) (Dev.romJob_slackMarks o) d

theorem Dev.slackJobs_guard {o : SlackObs} (equal : (o.tablesDiffer || o.tablesDifferB) = false) (good : (o.romBad || o.romBadB) = false)
    (d : Dev) : (d.slackJobs o).guard = d.guard :=
  Dev.slackJobs_keeps Prod.fst (fun k d => congrArg Prod.fst (Dev.compareJob_slackView equal k d))
    (fun k d => congrArg Prod.fst (Dev.romJob_slackView good k d)) d

theorem Dev.safe_of_guard {d e : Dev} (same : e.guard = d.guard) (h : Half) : (e.node h).safe = (d.node h).safe := by
  cases h
  · exact congrArg Guard.safeA same
  · exact congrArg Guard.safeB same

/-- R327: background work has started, the device is not wholly safe, no slack has run in the frame and every live half is done. -/
def Dev.maySlack (d : Dev) : Prop :=
  d.bgw.running = true ∧ d.allSafe = false ∧ d.bgw.slackRan = false ∧ ∀ h ∈ d.halves, (d.node h).safe = false → d.worked h = true

/-- The guard of BACKGROUND_SLACK as the model writes it. -/
def Dev.noSlack (d : Dev) : Bool := !d.bgw.running || d.allSafe || d.bgw.slackRan || !d.live.all d.worked

theorem Dev.noSlack_iff (d : Dev) : d.noSlack = false ↔ d.maySlack := by
  have live : d.live.all d.worked = true ↔ ∀ h ∈ d.halves, (d.node h).safe = false → d.worked h = true := by
    simp only [Dev.live, List.all_eq_true, List.mem_filter, Bool.not_eq_true', and_imp]
  simp only [Dev.noSlack, Dev.maySlack, Bool.or_eq_false_iff, Bool.not_eq_false', live, and_assoc]

theorem exec_backgroundSlack {s : State} (out : s.dev.inReset = false) (o : SlackObs) :
    exec (.backgroundSlack o) s = .next (s.lift fun d => if (d.uncorrectable o).noSlack then d.uncorrectable o
      else ((d.uncorrectable o).onBgw (Bgw.noteSlack (min 456 (o.cycles / 96)))).slackJobs o) :=
  up_next _ out

theorem Dev.uncorrectable_of_sound {o : SlackObs} (sound : o.uncorrA = false ∧ o.uncorrB = false ∧ o.uncorrShared = false) (d : Dev) :
    d.uncorrectable o = d := by
  obtain ⟨a, b, shared⟩ := sound
  simp [Dev.uncorrectable, a, b, shared]

theorem Dev.uncorrectable_of_found {o : SlackObs} {d : Dev} (found : o.uncorrShared = true ∨ (o.uncorrA = true ∧ o.uncorrB = true)
    ∨ (d.split = false ∧ (o.uncorrA = true ∨ o.uncorrB = true))) : d.uncorrectable o = d.safeAll 0x21 o.cyc := by
  unfold Dev.uncorrectable
  split
  · rfl
  · next single =>
    rcases found with shared | ⟨a, b⟩ | ⟨whole, a | b⟩
    · exact absurd (by simp [shared]) single
    · exact absurd (by simp [a, b]) single
    · rw [if_pos a]
      exact Dev.safeOf_of_whole whole ..
    · split
      · exact Dev.safeOf_of_whole whole ..
      · exact Dev.safeOf_of_whole whole ..

end Sys2Proof.Machine
end

section
namespace Sys2Proof.Proofs
open Sys2Proof Sys2Proof.Machine

/-- Settles O43: the jobs of a slack keep its marks (`Dev.slackJobs_slackMarks`) and, without a finding, every half's latch. -/
theorem slackJobsReportAndStopOnlyOnFindings : Obligations.SlackJobsReportAndStopOnlyOnFindings := by
  unfold Obligations.SlackJobsReportAndStopOnlyOnFindings
  intro s o out
  refine ⟨fun sound idle => ?_, fun sound may => ?_, fun live found => ?_⟩
  · have none : s.dev.noSlack = true := by simpa using mt s.dev.noSlack_iff.mp idle
    rw [exec_backgroundSlack out, State.lift, Dev.uncorrectable_of_sound sound, if_pos none]
  · have some : s.dev.noSlack = false := s.dev.noSlack_iff.mpr may
    rw [exec_backgroundSlack out]
    refine ⟨_, rfl, ?_⟩
    rw [State.lift_dev, Dev.uncorrectable_of_sound sound, if_neg (by simp [some])]
    have marks := Dev.slackJobs_slackMarks o (s.dev.onBgw (Bgw.noteSlack (min 456 (o.cycles / 96))))
    refine ⟨congrArg SlackMarks.ran marks, congrArg SlackMarks.slack marks, congrArg SlackMarks.least marks,
      ⟨congrArg SlackMarks.dt marks, congrArg SlackMarks.frame marks, congrArg SlackMarks.codePos marks, congrArg SlackMarks.straps marks⟩, ?_, ?_⟩
    · rw [State.lift, Dev.uncorrectable_of_sound sound, if_neg (by simp [some])]
    · intro tablesA tablesB romA romB
      exact Dev.safe_of_guard (Dev.slackJobs_guard (by simp [tablesA, tablesB]) (by simp [romA, romB]) _)
  · have entered := Dev.safeAll_entered 0x21 o.cyc s.dev live
    have safe : (s.dev.safeAll 0x21 o.cyc).allSafe = true := List.all_eq_true.mpr fun h mem => (entered.1 h mem).1
    rw [exec_backgroundSlack out]
    refine ⟨_, rfl, ?_, rfl⟩
    rw [State.lift_dev, Dev.uncorrectable_of_found found, if_pos (by simp [Dev.noSlack, safe])]
    exact entered

end Sys2Proof.Proofs
end

section
/-! Duplex pairs (12): what a role change, the end of what awaits a partner, the claim's stop and a lost partner leave, each
said once as an equation of devices. -/
namespace Sys2Proof.Machine

/-! ## Faults that stay -/

/-- Every fault that is active before and whose code is not among `cleared` is active after. -/
def Dev.FaultsStay (cleared : List Nat) (d e : Dev) : Prop :=
  ∀ (code : Nat) (k : Kind) (obj : Nat) (h : Half), code ∉ cleared → d.hasFault code k obj h = true → e.hasFault code k obj h = true

theorem Dev.FaultsStay.of_eq {cleared : List Nat} {d e : Dev} (same : e.faults = d.faults) : Dev.FaultsStay cleared d e := by
  intro code k obj h _ active
  rw [Dev.hasFault, same]
  exact active

theorem Dev.FaultsStay.trans {cleared : List Nat} {d e f : Dev} (h : Dev.FaultsStay cleared d e) (k : Dev.FaultsStay cleared e f) :
    Dev.FaultsStay cleared d f := fun code kind obj half other active => k code kind obj half other (h code kind obj half other active)

theorem Dev.FaultsStay.raise (cleared : List Nat) (code : Nat) (k : Kind) (obj : Nat) (d : Dev) (h : Half) (p : Nat) :
    Dev.FaultsStay cleared d (d.raise code k obj h p) := fun _ _ _ _ _ active => Dev.raise_keeps_fault active ..

theorem Dev.FaultsStay.clearF {cleared : List Nat} {code : Nat} (listed : code ∈ cleared) (k : Kind) (obj : Nat) (d : Dev) (h : Half) :
    Dev.FaultsStay cleared d (d.clearF code k obj h) := fun _ _ _ _ other active =>
  (Dev.hasFault_clearF_ne (fun same => other (by rwa [same])) ..).trans active

/-! ## Roles and what awaits a partner -/

/-- A role change leaves everything but the role, its stamp and fault 0x78. -/
theorem Dev.setRole_spec (r : Role) (d : Dev) : ∃ off f,
    d.setRole r = { d with dpx := { d.dpx with role := r, offAt := off }, faults := f } ∧ Dev.FaultsStay [0x78] d (d.setRole r) := by
  unfold Dev.setRole
  split
  · next same =>
    refine ⟨d.dpx.offAt, d.faults, ?_, .of_eq rfl⟩
    rw [← same]
  · refine ⟨_, _, rfl, ?_⟩
    exact Dev.FaultsStay.clearF (by decide) _ _ (d.onDpx _) _

theorem Dev.endSwitch_spec (st : Status) (d : Dev) : ∃ l,
    d.endSwitch st = { d with done := d.done ++ l, dpx := { d.dpx with switchCmd := none } } := by
  unfold Dev.endSwitch
  split
  · exact ⟨_, rfl⟩
  · next none =>
    refine ⟨[], ?_⟩
    rw [List.append_nil, ← none]

theorem Dev.endResync_spec (st : Status) (d : Dev) : ∃ l,
    d.endResync st = { d with done := d.done ++ l, dpx := { d.dpx with resyncCmd := none } }
    ∧ ∀ c, d.dpx.resyncCmd = some c → (d.endResync st).Completes c.1 opcResync c.2 st 0 := by
  unfold Dev.endResync
  split
  · next c waits =>
    refine ⟨_, rfl, fun e same => ?_⟩
    cases waits.symm.trans same
    exact ⟨_, List.mem_append_right _ (List.mem_singleton.mpr rfl), rfl, rfl, rfl, rfl, rfl⟩
  · next none =>
    refine ⟨[], ?_, fun e same => ?_⟩
    · rw [List.append_nil, ← none]
    · cases none.symm.trans same

theorem Dev.endPartnerOps_spec (d : Dev) : ∃ l ja jb,
    d.endPartnerOps = { d with
      done := d.done ++ l, dpx := { d.dpx with switchCmd := none, resyncCmd := none }
      port0 := { d.port0 with journal := ja }, port1 := { d.port1 with journal := jb } } := by
  obtain ⟨l, switch⟩ := d.endSwitch_spec .twinLost
  obtain ⟨m, resync, -⟩ := (d.endSwitch .twinLost).endResync_spec .twinLost
  unfold Dev.endPartnerOps
  rw [resync, switch]
  exact ⟨l ++ m, _, _, by rw [List.append_assoc]⟩

/-- The role of a unit that loses its partner. -/
def Role.alone (r : Role) : Role := if r = .active then .solo else r

theorem Dev.partnerGone_spec (d : Dev) : ∃ l ja jb off f,
    d.partnerGone = { d with
      done := d.done ++ l, faults := f
      dpx := { d.dpx with
        prole := none, partnerHo := [], partnerStaged := none, snapshot := none, sentBlocks := 0, switchCmd := none, resyncCmd := none
        role := d.dpx.role.alone, offAt := off }
      port0 := { d.port0 with journal := ja }, port1 := { d.port1 with journal := jb } }
    ∧ Dev.FaultsStay [0x78] d d.partnerGone := by
  unfold Dev.partnerGone
  dsimp only
  generalize heldBy : (d.onDpx fun x => { x with prole := none, partnerHo := [], partnerStaged := none, snapshot := none, sentBlocks := 0 }) = e
  have faults : Dev.FaultsStay [0x78] d e := by
    rw [← heldBy]
    exact .of_eq rfl
  have role : e.dpx.role = d.dpx.role := by rw [← heldBy]; rfl
  split
  · next active =>
    have alone : d.dpx.role.alone = .solo := if_pos (role.symm.trans active)
    obtain ⟨off, f, solo, stay⟩ := e.setRole_spec .solo
    obtain ⟨l, ja, jb, ops⟩ := (e.setRole .solo).endPartnerOps_spec
    refine ⟨l, ja, jb, off, f, ?_, faults.trans (stay.trans (.of_eq ?_))⟩
    · rw [ops, solo, alone, ← heldBy]
      rfl
    · rw [ops]
  · next other =>
    have alone : d.dpx.role.alone = d.dpx.role := if_neg fun same => other (role.trans same)
    obtain ⟨l, switch⟩ := e.endSwitch_spec .twinLost
    obtain ⟨m, resync, -⟩ := (e.endSwitch .twinLost).endResync_spec .twinLost
    refine ⟨l ++ m, d.port0.journal, d.port1.journal, d.dpx.offAt, d.faults, ?_, faults.trans (.of_eq ?_)⟩
    · rw [resync, switch, alone, ← List.append_assoc, ← heldBy]
      rfl
    · rw [resync, switch]

/-! ## The claim -/

/-- No gate of the outputs is driven. -/
def Undriven (outs : List Output) : Prop := ∀ o ∈ outs, o.gateHi = false ∧ o.gateLo = false

/-- Every head supply line is off or discharges. -/
def Dark (lines : List Sys) : Prop := ∀ y ∈ lines, y.id < 32 → y.mode = .off ∨ y.mode = .discharge

theorem Dev.driveGates_undriven {d : Dev} (barred : ∀ h, d.gateFree h = false) : Undriven d.driveGates.outputs := by
  intro o mem
  rw [Dev.driveGates_outputs] at mem
  obtain ⟨y, -, rfl⟩ := List.mem_map.mp mem
  rw [barred]
  simp [Output.drive]

theorem Dev.gateFree_of_unclaimed {d : Dev} (whole : d.split = false) (barred : (d.dpx.claim && !d.dpx.pclaim) = false) (idle : d.dpx.hold = false) (h : Half) :
    d.gateFree h = false := by
  simp [Dev.gateFree, Dev.gatePermit, whole, barred, idle]

theorem Dev.halfOfSys_of_whole {d : Dev} (whole : d.split = false) {i : Nat} (head : i < 32) : d.halfOfSys i = .a := by
  simp [Dev.halfOfSys, Dev.halfOf, whole, head.ne]

theorem Dev.linesOff_dark {d : Dev} (whole : d.split = false) : Dark (d.linesOff .a).systems := by
  intro y mem head
  obtain ⟨x, -, rfl⟩ := List.mem_map.mp mem
  have same : x.id < 32 := by
    split at head
    · rwa [x.switchOff_id] at head
    · exact head
  rw [if_pos (decide_eq_true (Dev.halfOfSys_of_whole whole same))]
  exact x.switchOff_mode

/-- R39: the device whose claim has stopped, before its gates follow; where the partner claims its lines are open. -/
theorem Dev.stopClaim_spec (d : Dev) : ∃ lines,
    d.stopClaim = { d with dpx := { d.dpx with claim := false }, systems := lines }.driveGates
    ∧ (d.dpx.pclaim = true → lines = (d.linesOff .a).systems) := by
  unfold Dev.stopClaim
  by_cases partner : d.dpx.pclaim = true
  · refine ⟨_, congrArg Dev.driveGates (if_pos partner), fun _ => rfl⟩
  · refine ⟨_, congrArg Dev.driveGates (if_neg partner), fun there => absurd there partner⟩

/-- R232: the duplex part of a unit that has no hold and no handover ahead. -/
def Dpx.unheld (x : Dpx) : Dpx := { x with hold := false, handover := false, handNext := false }

/-- R232: the duplex part of a unit that has given up its claim. -/
def Dpx.ceded (off : Nat) (x : Dpx) : Dpx := { x.unheld with claim := false, switchCmd := none, role := .offline, offAt := off }

theorem Dev.stopClaim_unheld {d : Dev} (whole : d.split = false) : ∃ lines outs,
    (d.onDpx Dpx.unheld).stopClaim = { d with dpx := { d.dpx.unheld with claim := false }, systems := lines, outputs := outs }
    ∧ Undriven outs ∧ (d.dpx.pclaim = true → Dark lines) := by
  obtain ⟨lines, stopped, opens⟩ := (d.onDpx Dpx.unheld).stopClaim_spec
  refine ⟨lines, _, stopped, Dev.driveGates_undriven (Dev.gateFree_of_unclaimed whole rfl rfl), fun partner => ?_⟩
  rw [opens partner]
  exact Dev.linesOff_dark whole

theorem Dev.giveUp_eq (d : Dev) : d.giveUp = ((d.onDpx Dpx.unheld).stopClaim.endSwitch .twinLost).setRole .offline := rfl

/-- What a unit that gives up its claim leaves: its gates are undriven, and where the partner claims its lines are open. -/
theorem Dev.giveUp_spec {d : Dev} (whole : d.split = false) : ∃ l off f lines outs,
    d.giveUp = { d with done := d.done ++ l, faults := f, systems := lines, outputs := outs, dpx := d.dpx.ceded off }
    ∧ Undriven outs ∧ (d.dpx.pclaim = true → Dark lines) ∧ Dev.FaultsStay [0x78] d d.giveUp := by
  obtain ⟨lines, outs, stopped, undriven, dark⟩ := Dev.stopClaim_unheld whole
  rw [Dev.giveUp_eq, stopped]
  generalize heldBy : { d with dpx := { d.dpx.unheld with claim := false }, systems := lines, outputs := outs } = e
  obtain ⟨l, switch⟩ := e.endSwitch_spec .twinLost
  rw [switch]
  generalize heldSwitch : { e with done := e.done ++ l, dpx := { e.dpx with switchCmd := none } } = g
  obtain ⟨off, f, role, stay⟩ := g.setRole_spec .offline
  refine ⟨l, off, f, lines, outs, ?_, undriven, dark, Dev.FaultsStay.trans (.of_eq ?_) stay⟩
  · rw [role, ← heldSwitch, ← heldBy]
    rfl
  · rw [← heldSwitch, ← heldBy]

/-! ## Leaving sync -/

/-- The role of a unit that leaves sync. -/
def Role.outOfSync : Role → Role
  | .standby | .syncing => .offline
  | r => r

/-- Of the device at most the point machines, the faults and, in the duplex part, what a role and a mirror are differ; the
claim, its times, the link's state and what awaits a partner stand. -/
structure Dev.LeavesSync (d e : Dev) : Prop where
  claim : e.dpx.claim = d.dpx.claim
  link : (e.dpx.frozen, e.dpx.frozenFrame, e.dpx.bad) = (d.dpx.frozen, d.dpx.frozenFrame, d.dpx.bad)
  role : e.dpx.role = d.dpx.role.outOfSync
  time : d.SameTime e
  faults : Dev.FaultsStay [0x78] d e

theorem Dev.leaveSync_leaves (d : Dev) : d.LeavesSync d.leaveSync := by
  have left : ∀ r : Role, r.outOfSync = .offline → d.dpx.role = r →
      d.LeavesSync ((d.dropMirror.setRole .offline).onDpx fun x => { x with unmirrored := 0 }) := by
    intro r out role
    obtain ⟨off, f, offline, stay⟩ := d.dropMirror.setRole_spec .offline
    refine ⟨?_, ?_, ?_, ?_, Dev.FaultsStay.trans (.of_eq rfl) (stay.trans (.of_eq rfl))⟩
    · rw [offline]
      rfl
    · rw [offline]
      rfl
    · rw [offline, role, out]
      rfl
    · rw [offline]
      exact ⟨rfl, rfl, rfl, rfl⟩
  unfold Dev.leaveSync
  split
  · next role => exact left _ rfl role
  · next role => exact left _ rfl role
  · next notStandby notSyncing =>
    refine ⟨rfl, rfl, ?_, .of_timebase rfl, .of_eq rfl⟩
    cases role : d.dpx.role with
    | standby => exact absurd role notStandby
    | syncing => exact absurd role notSyncing
    | _ => rfl

end Sys2Proof.Machine
end

section
/-! Claims on the shroud (R216 to R222, R232): the pair detector, contention and the end of the own claim. -/
namespace Sys2Proof.Machine

/-- The device is OFFLINE without a claim and may claim no more (R222). -/
structure Dev.LockedOut (d : Dev) : Prop where
  role : d.dpx.role = .offline
  claim : d.dpx.claim = false
  lock : d.dpx.lock7A = true
  fault : d.unitFault 0x7A = true

theorem Dev.positionConflict_locks {d : Dev} (whole : d.split = false) : d.positionConflict.LockedOut := by
  unfold Dev.positionConflict
  dsimp only
  have left : d.leaveSync.split = false := by
    rw [d.leaveSync_leaves.time.split, whole]
  generalize d.leaveSync = e at left
  split
  · obtain ⟨l, off, f, lines, outs, gave, -⟩ := Dev.giveUp_spec left
    rw [gave]
    exact ⟨rfl, rfl, rfl, Dev.hasFault_raise ..⟩
  · next unclaimed =>
    obtain ⟨off, f, role, -⟩ := e.setRole_spec .offline
    rw [role]
    exact ⟨rfl, Bool.eq_false_iff.mpr unclaimed, rfl, Dev.hasFault_raise ..⟩

/-- The pair detector after a valid pair (R216). -/
def Dpx.paired (t : Nat) (x : Dpx) : Dpx := { x with pairRun := min 4 (x.pairRun + 1), pairRef := t, lastPair := t }

/-- A valid pair: 40 µs to 60 µs after the one before. -/
def Dpx.Spaced (t : Nat) (x : Dpx) : Prop := 1 ≤ x.pairRun ∧ x.pairRef + 40 * 96 ≤ t ∧ t ≤ x.pairRef + 60 * 96

/-- What SHROUD_VALID_PAIR does with a device. -/
def Dev.takePair (t : Nat) (d : Dev) : Dev :=
  let x := d.dpx
  let valid := decide (1 ≤ x.pairRun) && decide (x.pairRef + 40 * 96 ≤ t) && decide (t ≤ x.pairRef + 60 * 96)
  let run := if valid then min 4 (x.pairRun + 1) else 1
  let d := d.onDpx fun x => { x with pairRun := run, pairRef := t, lastPair := if valid then t else x.lastPair }
  if 4 ≤ run && !x.pclaim then d.partnerClaims t else d

theorem Dev.takePair_of_unspaced {t : Nat} {d : Dev} (alone : ¬ d.dpx.Spaced t) :
    d.takePair t = { d with dpx := { d.dpx with pairRun := 1, pairRef := t } } := by
  have invalid : (decide (1 ≤ d.dpx.pairRun) && decide (d.dpx.pairRef + 40 * 96 ≤ t) && decide (t ≤ d.dpx.pairRef + 60 * 96)) = false := by
    simpa only [Bool.eq_false_iff, ne_eq, Bool.and_eq_true, decide_eq_true_eq, and_assoc] using (show ¬ (_ ∧ _ ∧ _) from alone)
  unfold Dev.takePair
  simp only [invalid]
  rfl

theorem Dev.takePair_of_spaced {t : Nat} {d : Dev} (spaced : d.dpx.Spaced t) :
    d.takePair t = if 4 ≤ min 4 (d.dpx.pairRun + 1) && !d.dpx.pclaim then (d.onDpx (Dpx.paired t)).partnerClaims t else d.onDpx (Dpx.paired t) := by
  have valid : (decide (1 ≤ d.dpx.pairRun) && decide (d.dpx.pairRef + 40 * 96 ≤ t) && decide (t ≤ d.dpx.pairRef + 60 * 96)) = true := by
    simpa only [Bool.and_eq_true, decide_eq_true_eq, and_assoc] using (show _ ∧ _ ∧ _ from spaced)
  unfold Dev.takePair
  simp only [valid]
  rfl

theorem Dev.takePair_counts {t : Nat} {d : Dev} (spaced : d.dpx.Spaced t) (known : d.dpx.pairRun < 3 ∨ d.dpx.pclaim = true) :
    d.takePair t = d.onDpx (Dpx.paired t) := by
  rw [Dev.takePair_of_spaced spaced, if_neg]
  rcases known with few | partner
  · have short : ¬ 4 ≤ min 4 (d.dpx.pairRun + 1) := by omega
    simp [short]
  · simp [partner]

/-- The duplex part with the partner's claim just seen. -/
def Dpx.partnerSeen (t : Nat) (x : Dpx) : Dpx := { x with pairRun := 4, pairRef := t, lastPair := t, pclaim := true, presAt := t }

/-- What the appearance of the partner's claim does, CLAIM_PRESENT. -/
def Dev.claimPresent (d : Dev) : Dev :=
  if d.dpx.claim && d.pair then d.contention else if d.dpx.hold then (d.endSwitch .ok).adjustLines else d.adjustLines

theorem Dev.takePair_presents {t : Nat} {d : Dev} (spaced : d.dpx.Spaced t) (fourth : 3 ≤ d.dpx.pairRun) (absent : d.dpx.pclaim = false) :
    d.takePair t = (d.onDpx (Dpx.partnerSeen t)).claimPresent := by
  have four : min 4 (d.dpx.pairRun + 1) = 4 := by omega
  rw [Dev.takePair_of_spaced spaced, if_pos (by simp [four, absent])]
  have seen : d.onDpx (fun x => { x.paired t with pclaim := true, presAt := t }) = d.onDpx (Dpx.partnerSeen t) := by
    simp only [Dev.onDpx, Dpx.paired, Dpx.partnerSeen, four]
  rw [← seen]
  rfl

theorem exec_shroudValidPair {s : State} (out : s.dev.inReset = false) (cyc : Nat) :
    exec (.shroudValidPair cyc) s = .next (s.lift (Dev.takePair (s.dev.stamp cyc))) := up_next _ out

theorem Dev.adjustLines_of_foreign {d : Dev} (whole : d.split = false) (partner : d.dpx.pclaim = true) (unclaimed : d.dpx.claim = false) :
    d.adjustLines = d.linesOff .a := if_neg (by simp [Dev.supplies, whole, partner, unclaimed])

/-- Both claims at position 0 (R221): the unit holds its claim with every gate undriven. -/
theorem Dev.contention_holds {d : Dev} (whole : d.split = false) (partner : d.dpx.pclaim = true) (idle : d.dpx.hold = false) (first : d.position = 0) :
    ∃ f outs, d.contention = { d with dpx := { d.dpx with contSince := some (d.dpx.contSince.getD d.frame) }, faults := f, outputs := outs }
      ∧ d.contention.unitFault 0x70 = true ∧ Undriven outs := by
  unfold Dev.contention
  rw [if_pos first]
  exact ⟨_, _, rfl, Dev.hasFault_raise .., Dev.driveGates_undriven (Dev.gateFree_of_unclaimed whole (by simp [Dev.raiseUnit, Dev.raise, Dev.onDpx, partner]) idle)⟩

/-- Both claims at position 1 (R221): the unit gives its claim up. -/
theorem Dev.contention_yields {d : Dev} (whole : d.split = false) (partner : d.dpx.pclaim = true) (second : d.position ≠ 0)
    (first : ∀ f ∈ d.dpx.giveUps, 120000 < since d.frame f) :
    d.contention.dpx.claim = false ∧ d.contention.dpx.role = .offline ∧ d.contention.dpx.contEnd = d.frame ∧ d.contention.dpx.pclaim = true
      ∧ d.contention.unitFault 0x70 = true ∧ Undriven d.contention.outputs ∧ Dark d.contention.systems := by
  have fresh : (d.dpx.giveUps.any fun f => decide (d.ago f ≤ 120000)) = false := by
    simp only [List.any_eq_false, decide_eq_true_eq, Nat.not_le]
    exact first
  obtain ⟨l, off, f, lines, outs, gave, undriven, dark, stay⟩ := Dev.giveUp_spec (d := d.raiseUnit 0x70) whole
  have raised : (d.raiseUnit 0x70).giveUp.unitFault 0x70 = true := stay _ _ _ _ (by decide) (Dev.hasFault_raise ..)
  unfold Dev.contention
  rw [if_neg second]
  dsimp only
  rw [if_neg (by simp [fresh])]
  refine ⟨?_, ?_, rfl, ?_, raised, ?_, ?_⟩
  · rw [gave]
    rfl
  · rw [gave]
    rfl
  · rw [gave]
    exact partner
  · rw [gave]
    exact undriven
  · rw [gave]
    exact dark partner

/-- The end of a contention that has lasted 2 000 frames. -/
def Dev.endContention (d : Dev) : Dev := d.positionConflict.onDpx fun x => { x with contSince := none }

theorem exec_contentionTimeout {s : State} (out : s.dev.inReset = false) {f : Word} (contends : s.dev.dpx.contSince = some f) :
    exec .contentionTimeout s = .next (s.lift fun d => if d.pair && d.position = 0 && 2000 ≤ d.ago f then d.endContention else d) := by
  refine (up_next _ out).trans ?_
  simp only [State.lift, contends]
  rfl

theorem exec_contentionTimeout_idle {s : State} (out : s.dev.inReset = false) (idle : s.dev.dpx.contSince = none) :
    exec .contentionTimeout s = .next s := by
  refine (up_next _ out).trans ?_
  simp only [State.lift, idle]

end Sys2Proof.Machine
end

section
namespace Sys2Proof.Proofs
open Sys2Proof Sys2Proof.Machine

/-- Settles O50: the pair detector is `Dev.takePair`; what a claim that ends leaves is `Dev.giveUp_spec`. -/
theorem claimsAreSeenAndYielded : Obligations.ClaimsAreSeenAndYielded := by
  unfold Obligations.ClaimsAreSeenAndYielded
  intro s cyc out whole
  refine ⟨fun alone => ?_, fun spaced known => ?_, fun spaced fourth absent => ⟨fun unclaimed idle => ?_, fun claims idle paired first => ?_,
    fun claims paired second fresh => ?_⟩, fun unclaimed => ?_, fun claims => ?_, fun f since => ?_, fun none => ?_⟩
  · rw [exec_shroudValidPair out, State.lift, Dev.takePair_of_unspaced (t := s.dev.stamp cyc) alone]
    rfl
  · rw [exec_shroudValidPair out, State.lift, Dev.takePair_counts (t := s.dev.stamp cyc) spaced known]
    rfl
  · have seen : s.dev.takePair (s.dev.stamp cyc) = (s.dev.onDpx (Dpx.partnerSeen (s.dev.stamp cyc))).linesOff .a := by
      rw [Dev.takePair_presents (t := s.dev.stamp cyc) spaced fourth absent, Dev.claimPresent, if_neg (by simp [Dev.onDpx, Dpx.partnerSeen, unclaimed]),
        if_neg (by simp [Dev.onDpx, Dpx.partnerSeen, idle])]
      exact Dev.adjustLines_of_foreign whole rfl unclaimed
    rw [exec_shroudValidPair out, State.lift, seen]
    exact ⟨_, rfl, rfl, Dev.linesOff_dark whole⟩
  · obtain ⟨g, outs, holds, raised, undriven⟩ := Dev.contention_holds (d := s.dev.onDpx (Dpx.partnerSeen (s.dev.stamp cyc))) whole rfl idle first
    have seen : s.dev.takePair (s.dev.stamp cyc) = (s.dev.onDpx (Dpx.partnerSeen (s.dev.stamp cyc))).contention := by
      rw [Dev.takePair_presents (t := s.dev.stamp cyc) spaced fourth absent]
      exact if_pos (Bool.and_eq_true_iff.mpr ⟨claims, paired⟩)
    rw [exec_shroudValidPair out, State.lift, seen]
    refine ⟨_, rfl, ?_, raised, ?_, ?_⟩
    · rw [holds]
      rfl
    · rw [holds]
      exact undriven
    · rw [holds]
      rfl
  · have seen : s.dev.takePair (s.dev.stamp cyc) = (s.dev.onDpx (Dpx.partnerSeen (s.dev.stamp cyc))).contention := by
      rw [Dev.takePair_presents (t := s.dev.stamp cyc) spaced fourth absent]
      exact if_pos (Bool.and_eq_true_iff.mpr ⟨claims, paired⟩)
    rw [exec_shroudValidPair out, State.lift, seen]
    exact ⟨_, rfl, Dev.contention_yields (d := s.dev.onDpx (Dpx.partnerSeen (s.dev.stamp cyc))) whole rfl second fresh⟩
  · exact exec_up_as rfl out (if_neg (by simp [unclaimed]))
  · obtain ⟨l, off, g, lines, outs, gave, undriven, -⟩ := Dev.giveUp_spec whole
    refine ⟨_, exec_up_as rfl out (if_pos claims), ?_⟩
    rw [gave]
    exact ⟨rfl, rfl, rfl, Dev.hasFault_raise .., undriven⟩
  · have guard : (s.dev.pair && decide (s.dev.position = 0) && decide (2000 ≤ s.dev.ago f)) = true
        ↔ s.dev.pair = true ∧ s.dev.position = 0 ∧ 2000 ≤ Sys2Proof.since s.dev.frame f := by
      simp only [Bool.and_eq_true, decide_eq_true_eq, and_assoc]
      rfl
    rw [exec_contentionTimeout out since]
    split
    · next due =>
      obtain ⟨role, claim, lock, fault⟩ := Dev.positionConflict_locks whole
      rw [State.lift, if_pos (guard.mpr due)]
      exact ⟨_, rfl, claim, role, lock, rfl, fault⟩
    · next early => rw [State.lift, if_neg (mt guard.mp early)]
  · exact exec_contentionTimeout_idle out none

end Sys2Proof.Proofs
end

section
/-! Gaining the claim (R215, R220, R236) and held handover (R234): what an adoption of outputs, lines and shadow machines leaves. -/
namespace Sys2Proof.Machine

/-! ## Adoption of the outputs (R151) -/

/-- The step of an adoption for one output. -/
def Dev.adoptOne (held : Bool) (d : Dev) (o : Output) : Dev :=
  let r := o.adopt d.frame d.obs.vfld held
  let d := d.onOut o.id fun _ => r.1
  if r.2 then d.raiseOut o.id 0x5B else d

theorem Dev.adoptAll_eq (held : Bool) (d : Dev) : d.adoptAll held = (d.outputs.filter (·.defd)).foldl (Dev.adoptOne held) d := rfl

theorem Dev.adoptOne_spec (held : Bool) (d : Dev) (o : Output) : ∃ outs f, d.adoptOne held o = { d with outputs := outs, faults := f } := by
  unfold Dev.adoptOne
  dsimp only
  split
  · exact ⟨_, _, rfl⟩
  · exact ⟨_, _, rfl⟩

theorem Dev.foldl_adoptOne_spec (held : Bool) (l : List Output) (d : Dev) :
    ∃ outs f, l.foldl (Dev.adoptOne held) d = { d with outputs := outs, faults := f } := by
  induction l generalizing d with
  | nil => exact ⟨_, _, rfl⟩
  | cons o l ih =>
    obtain ⟨outs, f, one⟩ := d.adoptOne_spec held o
    obtain ⟨outs', f', rest⟩ := ih (d.adoptOne held o)
    refine ⟨outs', f', ?_⟩
    rw [List.foldl_cons, rest, one]

/-- An output that is OFF and asks for nothing. -/
structure Output.Released (o : Output) : Prop where
  off : o.state = .off
  reqHi : o.reqHi = false
  reqLo : o.reqLo = false
  appHi : o.appHi = false
  appLo : o.appLo = false

/-- Whatever stands at place `i` is released. -/
def ReleasedAt (i : Nat) (d : Dev) : Prop := ∀ p, d.outputs[i]? = some p → p.Released

theorem Dev.adoptOne_outputs (d : Dev) (o : Output) :
    (d.adoptOne false o).outputs = d.outputs.modify o.id fun _ => (o.adopt d.frame d.obs.vfld false).1 := rfl

theorem Output.adopt_released (frame : Word) (vfld : Nat) (o : Output) : (o.adopt frame vfld false).1.Released := ⟨rfl, rfl, rfl, rfl, rfl⟩

theorem Dev.adoptOne_releases (d : Dev) (o : Output) : ReleasedAt o.id (d.adoptOne false o) := by
  intro p there
  rw [Dev.adoptOne_outputs, List.getElem?_modify_eq] at there
  obtain ⟨q, -, rfl⟩ := Option.map_eq_some_iff.mp there
  exact o.adopt_released ..

theorem Dev.adoptOne_other (d : Dev) (o : Output) {i : Nat} (other : o.id ≠ i) : (d.adoptOne false o).outputs[i]? = d.outputs[i]? :=
  List.getElem?_modify_ne (l := d.outputs) _ other

theorem Dev.adoptOne_keeps_released {i : Nat} {d : Dev} (released : ReleasedAt i d) (o : Output) : ReleasedAt i (d.adoptOne false o) := by
  by_cases same : o.id = i
  · exact same ▸ d.adoptOne_releases o
  · intro p there
    exact released p ((d.adoptOne_other o same).symm.trans there)

theorem Dev.foldl_adoptOne_keeps_released {i : Nat} (l : List Output) {d : Dev} (released : ReleasedAt i d) :
    ReleasedAt i (l.foldl (Dev.adoptOne false) d) := by
  induction l generalizing d with
  | nil => exact released
  | cons o l ih => exact ih (Dev.adoptOne_keeps_released released o)

theorem Dev.foldl_adoptOne_releases {i : Nat} {l : List Output} (named : ∃ o ∈ l, o.id = i) (d : Dev) :
    ReleasedAt i (l.foldl (Dev.adoptOne false) d) := by
  induction l generalizing d with
  | nil => simp at named
  | cons o l ih =>
    by_cases same : o.id = i
    · exact Dev.foldl_adoptOne_keeps_released l (same ▸ d.adoptOne_releases o)
    · exact ih (by simpa [same] using named) _

theorem Dev.foldl_adoptOne_other {i : Nat} {l : List Output} (unnamed : ¬ ∃ o ∈ l, o.id = i) (d : Dev) :
    (l.foldl (Dev.adoptOne false) d).outputs[i]? = d.outputs[i]? := by
  induction l generalizing d with
  | nil => rfl
  | cons o l ih =>
    have other : o.id ≠ i ∧ ¬ ∃ x ∈ l, x.id = i := by simpa using unnamed
    obtain ⟨here, rest⟩ := other
    exact (ih rest _).trans (d.adoptOne_other o here)

/-- An adoption without hold leaves every defined output released. -/
theorem Dev.adoptAll_releases {d : Dev} (numbered : ∀ (i : Nat) (o : Output), d.outputs[i]? = some o → o.id = i) :
    ∀ p ∈ (d.adoptAll false).outputs, p.defd = true → p.Released := by
  intro p mem defd
  obtain ⟨i, there⟩ := List.mem_iff_getElem?.mp mem
  rw [Dev.adoptAll_eq] at there
  by_cases named : ∃ o ∈ d.outputs.filter (·.defd), o.id = i
  · exact Dev.foldl_adoptOne_releases named d p there
  · rw [Dev.foldl_adoptOne_other named] at there
    exact absurd ⟨p, List.mem_filter.mpr ⟨List.mem_iff_getElem?.mpr ⟨i, there⟩, defd⟩, numbered i p there⟩ named

/-! ## The claim is gained (R215) -/

/-- The duplex part of a unit that starts its claim. -/
def Dpx.claiming (frame : Word) (x : Dpx) : Dpx := { x with claim := true, claimFrame := frame, partnerHandover := false, unmirrored := 0 }

theorem Dev.gainClaim_spec (held : Bool) (d : Dev) : ∃ off f outs,
    d.gainClaim held = { d with dpx := { d.dpx.claiming d.frame with role := .solo, offAt := off }, faults := f, outputs := outs }.driveGates
    ∧ (held = false → (∀ (i : Nat) (o : Output), d.outputs[i]? = some o → o.id = i) → ∀ p ∈ outs, p.defd = true → p.Released) := by
  obtain ⟨off, f, role, -⟩ := (d.onDpx (Dpx.claiming d.frame)).setRole_spec .solo
  have gains : d.gainClaim held = (((d.onDpx (Dpx.claiming d.frame)).setRole .solo).adoptAll held).driveGates := rfl
  rw [gains, role]
  generalize heldBy : { d.onDpx (Dpx.claiming d.frame) with
    dpx := { (d.onDpx (Dpx.claiming d.frame)).dpx with role := .solo, offAt := off }, faults := f } = e
  have outputs : e.outputs = d.outputs := by
    rw [← heldBy]
    rfl
  obtain ⟨outs, g, adopted⟩ := Dev.foldl_adoptOne_spec held (e.outputs.filter (·.defd)) e
  refine ⟨off, g, outs, ?_, fun unheld numbered => ?_⟩
  · rw [Dev.adoptAll_eq, adopted, ← heldBy]
    rfl
  · have released := Dev.adoptAll_releases (d := e) (by rwa [outputs])
    rw [Dev.adoptAll_eq, ← unheld, adopted] at released
    exact released

theorem Output.Released.drive {o : Output} (released : o.Released) (permit : Bool) :
    (o.drive permit).state = .off ∧ (o.drive permit).reqHi = false ∧ (o.drive permit).reqLo = false
      ∧ (o.drive permit).gateHi = false ∧ (o.drive permit).gateLo = false := by
  obtain ⟨off, reqHi, reqLo, appHi, appLo⟩ := released
  simp [Output.drive, off, reqHi, reqLo, appHi, appLo]

/-! ## Lines and shadow machines of a standby that takes over (R54, R236) -/

theorem Dev.takeoverLines_on {d : Dev} {i : Nat} {y : Sys} (there : d.systems[i]? = some y) (may : y.mayOn = true)
    (dark : y.mode = .off ∨ y.mode = .proof) :
    ∃ z, d.takeoverLines.systems[i]? = some z ∧ z.mode = .on ∧ z.usable = y.usable ∧ z.run4 = y.run4 := by
  refine ⟨{ y.enterOn with usable := y.usable, run4 := y.run4 }, ?_, rfl, rfl, rfl⟩
  have turns : (y.mayOn && (decide (y.mode = .off) || decide (y.mode = .proof))) = true := by
    rcases dark with off | proof
    · simp [may, off]
    · simp [may, proof]
  unfold Dev.takeoverLines
  rw [List.getElem?_map, there, Option.map_some, if_pos turns]

/-- R236: the machine of a point whose shadow is `s`, with what still waits for a verdict. -/
def Point.adopted (waits : List Wait) (p s : Point) : Point :=
  let q := { p with pas := s.pas, recover := s.recover, entered := s.entered, waits := waits }
  if decide (p.state = .disturbed) || decide (s.state = .disturbed) then q.disturb else q

theorem Point.adopted_spec (waits : List Wait) (p s : Point) :
    (p.adopted waits s).cfg = p.cfg
      ∧ (p.adopted waits s).state = (if p.state = .disturbed ∨ s.state = .disturbed then .disturbed else p.state)
      ∧ (p.state ≠ .disturbed → s.state ≠ .disturbed → (p.adopted waits s).pas = s.pas) := by
  by_cases disturbed : p.state = .disturbed ∨ s.state = .disturbed
  · have either : p.state ≠ .disturbed → s.state = .disturbed := disturbed.resolve_left
    simp only [Point.adopted, Bool.or_eq_true, decide_eq_true_eq, disturbed, if_true]
    exact ⟨rfl, rfl, fun own shadow => absurd (either own) shadow⟩
  · simp [Point.adopted, disturbed]

theorem Dev.adoptShadow_point {d : Dev} {i : Nat} {p q : Point} (own : d.nodeA.points[i]? = some p)
    (shadow : d.dpx.shadow.find? (fun z => z.cfg.index == p.cfg.index) = some q) :
    ∃ waits, d.adoptShadow.nodeA.points[i]? = some (p.adopted waits q) := by
  unfold Dev.adoptShadow
  simp only [Dev.onDpx, List.getElem?_map, own, Option.map_some, shadow]
  exact ⟨_, rfl⟩

theorem Dev.adoptShadow_spec (d : Dev) : ∃ l, d.adoptShadow = { d with nodeA := { d.nodeA with points := l }, dpx := { d.dpx with shadow := [] } } :=
  ⟨_, rfl⟩


/-- The standby that takes the claim over. -/
def Dev.takesOver (d : Dev) : Dev := ((d.takeoverLines.adoptShadow).endSwitch .twinLost).gainClaim d.dpx.partnerHandover

theorem Dev.takesOver_spec (d : Dev) : ∃ l off f outs,
    d.takesOver = { d.takeoverLines.adoptShadow with
      done := d.done ++ l, faults := f
      dpx := { d.dpx.claiming d.frame with shadow := [], switchCmd := none, role := .solo, offAt := off }, outputs := outs }.driveGates := by
  unfold Dev.takesOver
  obtain ⟨points, shadow⟩ := d.takeoverLines.adoptShadow_spec
  rw [shadow]
  generalize heldBy : { d.takeoverLines with nodeA := { d.takeoverLines.nodeA with points := points }, dpx := { d.takeoverLines.dpx with shadow := [] } } = e
  obtain ⟨l, switch⟩ := e.endSwitch_spec .twinLost
  rw [switch]
  obtain ⟨off, f, outs, gains, -⟩ := Dev.gainClaim_spec d.dpx.partnerHandover { e with done := e.done ++ l, dpx := { e.dpx with switchCmd := none } }
  refine ⟨l, off, f, outs, ?_⟩
  rw [gains, ← heldBy]
  rfl

theorem Dev.takesOver_takes (d : Dev) :
    d.takesOver.dpx.claim = true ∧ d.takesOver.dpx.pclaim = d.dpx.pclaim ∧ d.takesOver.dpx.role = .solo
      ∧ d.takesOver.dpx.claimFrame = d.frame ∧ d.takesOver.dpx.switchCmd = none
      ∧ d.takesOver.systems = d.takeoverLines.systems ∧ d.takesOver.nodeA = d.takeoverLines.adoptShadow.nodeA := by
  obtain ⟨l, off, f, outs, takes⟩ := d.takesOver_spec
  rw [takes]
  exact ⟨rfl, rfl, rfl, rfl, rfl, rfl, rfl⟩

/-! ## The partner's claim is absent (R216, R220) -/

/-- The duplex part when the partner's claim is found absent. -/
def Dpx.partnerGone (t : Nat) (x : Dpx) : Dpx := { x with pclaim := false, pairRun := 0, absentSince := t }

theorem exec_claimAbsent_early {s : State} (out : s.dev.inReset = false) {cyc : Nat}
    (early : s.dev.dpx.pclaim = false ∨ s.dev.stamp cyc < s.dev.dpx.lastPair + 250 * 96) : exec (.claimAbsent cyc) s = .next s := by
  refine exec_up_as rfl out (if_pos ?_)
  simpa using early

section
variable {s : State} {cyc : Nat} (out : s.dev.inReset = false) (partner : s.dev.dpx.pclaim = true)
  (late : s.dev.dpx.lastPair + 250 * 96 ≤ s.dev.stamp cyc) (pair : s.dev.pair = true)
include out partner late pair

theorem exec_claimAbsent_standby (role : s.dev.dpx.role = .standby) :
    exec (.claimAbsent cyc) s = .next (s.lift fun d => (d.onDpx (Dpx.partnerGone (s.dev.stamp cyc))).takesOver) := by
  refine exec_up_as rfl out ?_
  rw [if_neg (by simp [partner, Nat.not_lt.mpr late])]
  have joined : (s.dev.onDpx (Dpx.partnerGone (s.dev.stamp cyc))).pair = true := pair
  refine (if_neg (by rw [Bool.not_eq_true']; exact fun alone => Bool.noConfusion (joined.symm.trans alone))).trans ?_
  have still : (s.dev.onDpx (Dpx.partnerGone (s.dev.stamp cyc))).dpx.role = .standby := role
  unfold Dpx.partnerGone at still
  simp only [still]
  rfl

theorem exec_claimAbsent_offline (role : s.dev.dpx.role = .offline) :
    exec (.claimAbsent cyc) s = .next (s.lift fun d => ((d.onDpx (Dpx.partnerGone (s.dev.stamp cyc))).endResync .twinLost).adjustLines) := by
  refine exec_up_as rfl out ?_
  rw [if_neg (by simp [partner, Nat.not_lt.mpr late])]
  have joined : (s.dev.onDpx (Dpx.partnerGone (s.dev.stamp cyc))).pair = true := pair
  refine (if_neg (by rw [Bool.not_eq_true']; exact fun alone => Bool.noConfusion (joined.symm.trans alone))).trans ?_
  have still : (s.dev.onDpx (Dpx.partnerGone (s.dev.stamp cyc))).dpx.role = .offline := role
  unfold Dpx.partnerGone at still
  simp only [still]
  rfl

end

theorem Dev.adjustLines_spec (d : Dev) : ∃ lines, d.adjustLines = { d with systems := lines } := by
  unfold Dev.adjustLines
  split
  · exact ⟨_, rfl⟩
  · exact ⟨_, rfl⟩

/-! ## Arbitration (R220) -/

theorem Node.disturbAll_sections (n : Node) : ∀ y ∈ n.disturbAll.sections, y.state = .disturbed := by
  intro y mem
  obtain ⟨x, -, rfl⟩ := List.mem_map.mp mem
  rfl

/-- An OFFLINE unit in service that may claim, and whose partner does not. -/
def Dev.FreeToClaim (d : Dev) : Prop :=
  d.pair = true ∧ d.dpx.role = .offline ∧ d.dpx.hold = false ∧ d.dpx.pclaim = false ∧ d.inService .a = true ∧ d.mayArbitrate = true

/-- The unit that wins the arbitration. -/
def Dev.winsClaim (d : Dev) : Dev := ({ d with nodeA := d.nodeA.disturbAll }.gainClaim false).adjustLines

theorem exec_arbitrationWaitEnd_won {s : State} (out : s.dev.inReset = false) (free : s.dev.FreeToClaim)
    (waited : s.dev.arbEnd ≤ s.dev.stamp (500 * 96)) : exec .arbitrationWaitEnd s = .next (s.lift Dev.winsClaim) := by
  obtain ⟨pair, role, hold, pclaim, serves, may⟩ := free
  exact exec_up_as rfl out (if_neg (by simp [pair, role, hold, pclaim, serves, may, waited]))

theorem exec_arbitrationWaitEnd_waits {s : State} (out : s.dev.inReset = false)
    (barred : ¬ s.dev.FreeToClaim ∨ s.dev.stamp (500 * 96) < s.dev.arbEnd) : exec .arbitrationWaitEnd s = .next s := by
  refine exec_up_as rfl out (if_pos ?_)
  rcases barred with barred | early
  · by_contra free
    refine barred ?_
    simp only [Bool.not_eq_true, Bool.or_eq_false_iff, Bool.not_eq_false', decide_eq_false_iff_not, Decidable.not_not] at free
    obtain ⟨⟨⟨⟨⟨⟨pair, role⟩, hold⟩, pclaim⟩, serves⟩, may⟩, -⟩ := free
    exact ⟨pair, role, hold, pclaim, serves, may⟩
  · simp [early]

/-! ## Hold (R234) -/

/-- Without split mode every gate of a device whose half A is live follows the claim and the hold. -/
theorem Dev.gateFree_of_hold {d : Dev} (whole : d.split = false) (live : d.nodeA.safe = false) (out : d.inReset = false) (held : d.dpx.hold = true)
    (i : Nat) : d.gateFree (d.halfOfOut i) = true := by
  have half : d.halfOfOut i = .a := by simp [Dev.halfOfOut, Dev.halfOf, whole]
  rw [half, Dev.gateFree_iff]
  exact ⟨by simp [Dev.gatePermit, whole, held], live, out⟩

theorem Output.drive_unpulsed {o : Output} (still : o.pulse = none) : (o.drive true).gateHi = (o.appHi && !o.nHi) ∧ (o.drive true).gateLo = (o.appLo && !o.nLo) := by
  simp [Output.drive, still]

/-- The unit that stops its claim and holds its gates. -/
def Dev.holds (d : Dev) : Dev := (d.onDpx fun x => { x with hold := true, holdAt := d.stamp (250 * 96) }).stopClaim

theorem Dev.holds_spec (d : Dev) : ∃ lines, d.holds = { d with
    dpx := { d.dpx with hold := true, holdAt := d.stamp (250 * 96), claim := false }, systems := lines }.driveGates := by
  obtain ⟨lines, stopped, -⟩ := (d.onDpx fun x => { x with hold := true, holdAt := d.stamp (250 * 96) }).stopClaim_spec
  exact ⟨lines, stopped⟩

theorem Dev.driveGates_getElem? {d : Dev} {i : Nat} {o : Output} (there : d.outputs[i]? = some o) :
    d.driveGates.outputs[i]? = some (o.drive (d.gateFree (d.halfOfOut o.id))) := by
  rw [Dev.driveGates_outputs, List.getElem?_map, there]
  rfl

theorem Dev.holds_gates {d : Dev} (whole : d.split = false) (live : d.nodeA.safe = false) (out : d.inReset = false) {i : Nat} {o : Output}
    (there : d.outputs[i]? = some o) : d.holds.outputs[i]? = some (o.drive true) := by
  obtain ⟨lines, holds⟩ := d.holds_spec
  rw [holds]
  generalize heldBy : { d with dpx := { d.dpx with hold := true, holdAt := d.stamp (250 * 96), claim := false }, systems := lines } = e
  have still : e.split = false ∧ e.nodeA.safe = false ∧ e.inReset = false ∧ e.dpx.hold = true ∧ e.outputs[i]? = some o := by
    rw [← heldBy]
    exact ⟨whole, live, out, rfl, there⟩
  obtain ⟨whole', live', out', hold, there'⟩ := still
  rw [Dev.driveGates_getElem? there', Dev.gateFree_of_hold whole' live' out' hold]

/-- The unit at the end of its hold. -/
def Dev.endsHold (d : Dev) : Dev :=
  ((((d.onDpx fun x => { x with hold := false, handover := false }).endSwitch .twinLost).setRole .offline).driveGates)

theorem Dev.endsHold_spec (d : Dev) : ∃ l off f, d.endsHold = { d with
    done := d.done ++ l, faults := f
    dpx := { d.dpx with hold := false, handover := false, switchCmd := none, role := .offline, offAt := off } }.driveGates := by
  unfold Dev.endsHold
  generalize heldBy : (d.onDpx fun x => { x with hold := false, handover := false }) = e
  obtain ⟨l, switch⟩ := e.endSwitch_spec .twinLost
  obtain ⟨off, f, role, -⟩ := (e.endSwitch .twinLost).setRole_spec .offline
  refine ⟨l, off, f, ?_⟩
  rw [role, switch, ← heldBy]
  rfl

/-- R234: the hold is over. -/
def Dev.HoldOver (d : Dev) : Prop :=
  d.dpx.hold = true ∧ ((d.dpx.pclaim = true ∧ d.dpx.presAt + 400 * 96 ≤ d.stamp (500 * 96)) ∨ d.dpx.holdAt + 3000 * 96 ≤ d.stamp (500 * 96))

theorem exec_holdEnd_over {s : State} (out : s.dev.inReset = false) (ended : s.dev.HoldOver) :
    exec .holdEnd s = .next (s.lift fun d => if d.dpx.pclaim then d.endsHold else d.endsHold.raiseUnit 0x78) := by
  obtain ⟨hold, ended⟩ := ended
  exact exec_up_as rfl out (if_neg (by simpa [hold, imp_iff_not_or] using ended))

theorem exec_holdEnd_runs {s : State} (out : s.dev.inReset = false) (runs : ¬ s.dev.HoldOver) : exec .holdEnd s = .next s := by
  refine exec_up_as rfl out (if_pos ?_)
  by_contra ended
  rw [Bool.not_eq_true, Bool.or_eq_false_iff, Bool.not_eq_false', Bool.not_eq_false'] at ended
  simp only [Bool.or_eq_true, Bool.and_eq_true, decide_eq_true_eq] at ended
  exact runs ended

end Sys2Proof.Machine
end

section
namespace Sys2Proof.Proofs
open Sys2Proof Sys2Proof.Machine

/-- Settles O51: the standby's takeover is `Dev.takesOver`, the arbitration `Dev.winsClaim`, hold `Dev.holds` and `Dev.endsHold`. -/
theorem claimsAreGainedAndHandedOver : Obligations.ClaimsAreGainedAndHandedOver := by
  unfold Obligations.ClaimsAreGainedAndHandedOver
  intro s cyc out whole
  refine ⟨exec_claimAbsent_early out, fun partner late pair role => ?_, fun partner late pair role => ?_,
    ⟨fun barred => ?_, fun free waited numbered => ?_⟩, ⟨fun idle => ?_, fun held => ?_⟩, fun idle => ?_, fun ended => ?_⟩
  · have gone : (s.dev.onDpx (Dpx.partnerGone (s.dev.stamp cyc))).dpx.resyncCmd = s.dev.dpx.resyncCmd := rfl
    obtain ⟨l, resync, completes⟩ := (s.dev.onDpx (Dpx.partnerGone (s.dev.stamp cyc))).endResync_spec .twinLost
    obtain ⟨lines, lit⟩ := ((s.dev.onDpx (Dpx.partnerGone (s.dev.stamp cyc))).endResync .twinLost).adjustLines_spec
    refine ⟨_, exec_claimAbsent_offline out partner late pair role, fun c waits => ?_, ?_⟩
    · rw [State.lift_dev, lit]
      exact completes c (gone.trans waits)
    · rw [State.lift, lit, resync]
      rfl
  · obtain ⟨claim, pclaim, solo, frame, switch, lines, node⟩ := (s.dev.onDpx (Dpx.partnerGone (s.dev.stamp cyc))).takesOver_takes
    refine ⟨_, exec_claimAbsent_standby out partner late pair role, claim, pclaim, solo, frame, switch, fun i y there may dark => ?_,
      fun i p q own shadow => ?_⟩
    · rw [State.lift_dev, lines]
      exact Dev.takeoverLines_on there may dark
    · obtain ⟨waits, there⟩ := Dev.adoptShadow_point (d := (s.dev.onDpx (Dpx.partnerGone (s.dev.stamp cyc))).takeoverLines) own shadow
      rw [State.lift_dev, node]
      exact ⟨_, there, Point.adopted_spec waits p q⟩
  · exact exec_arbitrationWaitEnd_waits out barred
  · obtain ⟨off, f, outs, gains, releases⟩ := { s.dev with nodeA := s.dev.nodeA.disturbAll }.gainClaim_spec false
    obtain ⟨lines, lit⟩ := ({ s.dev with nodeA := s.dev.nodeA.disturbAll }.gainClaim false).adjustLines_spec
    refine ⟨_, exec_arbitrationWaitEnd_won out free waited, ?_⟩
    rw [State.lift_dev, Dev.winsClaim, lit, gains]
    refine ⟨rfl, rfl, rfl, fun o mem defd => ?_, s.dev.nodeA.disturbAll_sections, rfl⟩
    obtain ⟨p, there, rfl⟩ := List.mem_map.mp mem
    exact (releases rfl numbered p there defd).drive _
  · exact exec_up_as rfl out (if_neg (by simpa [and_assoc] using idle))
  · obtain ⟨pair, handover, claims⟩ := held
    obtain ⟨lines, holds⟩ := s.dev.holds_spec
    refine ⟨_, exec_up_as (e := s.dev.holds) rfl out (if_pos (by simp [pair, handover, claims])), ?_, ?_, fun i o there still live => ?_⟩
    · rw [holds]
      rfl
    · rw [holds]
      rfl
    · exact ⟨o.drive true, Dev.holds_gates whole live out there, Output.drive_unpulsed still⟩
  · exact exec_holdEnd_runs out idle
  · obtain ⟨l, off, f, after⟩ := s.dev.endsHold_spec
    have undriven (unclaimed : s.dev.dpx.claim = false) : Undriven s.dev.endsHold.outputs := by
      rw [after]
      exact Dev.driveGates_undriven (Dev.gateFree_of_unclaimed whole (by simp [unclaimed]) rfl)
    refine ⟨_, exec_holdEnd_over out ended, ?_⟩
    rw [State.lift_dev]
    split
    · next there =>
      rw [after] at undriven ⊢
      exact ⟨rfl, rfl, rfl, rfl, fun absent => Bool.noConfusion (absent.symm.trans there), rfl, undriven⟩
    · rw [after] at undriven ⊢
      exact ⟨rfl, rfl, rfl, rfl, fun _ => Dev.hasFault_raise .., rfl, undriven⟩

end Sys2Proof.Proofs
end

section
/-! The twin link (R222 to R228, R235, R237, R241): how it freezes, what HELLO and SHADOW make of the roles, and what is sent. -/
namespace Sys2Proof.Machine

/-! ## A frozen link (R224) -/

theorem Role.outOfSync_outOfSync (r : Role) : r.outOfSync.outOfSync = r.outOfSync := by cases r <;> rfl

theorem Dev.LeavesSync.trans {d e f : Dev} (h : d.LeavesSync e) (k : e.LeavesSync f) : d.LeavesSync f where
  claim := k.claim.trans h.claim
  link := k.link.trans h.link
  role := by rw [k.role, h.role, Role.outOfSync_outOfSync]
  time := h.time.trans k.time
  faults := h.faults.trans k.faults

/-- What the duplex part keeps a failed attempt leaves, and a change of it that keeps the claim, the link and the role. -/
theorem Dev.LeavesSync.onDpx {d e : Dev} (left : d.LeavesSync e) {f : Dpx → Dpx} (claim : (f e.dpx).claim = e.dpx.claim)
    (link : ((f e.dpx).frozen, (f e.dpx).frozenFrame, (f e.dpx).bad) = (e.dpx.frozen, e.dpx.frozenFrame, e.dpx.bad))
    (role : (f e.dpx).role = e.dpx.role) : d.LeavesSync (e.onDpx f) where
  claim := claim.trans left.claim
  link := link.trans left.link
  role := role.trans left.role
  time := left.time
  faults := left.faults

theorem Dev.LeavesSync.raise {d e : Dev} (left : d.LeavesSync e) (code : Nat) : d.LeavesSync (e.raiseUnit code) where
  claim := left.claim
  link := left.link
  role := left.role
  time := left.time
  faults := left.faults.trans (Dev.FaultsStay.raise _ code .unit 0 e .a 0xFFFF)

theorem Dev.failSync_leaves {d : Dev} (syncing : d.dpx.role = .syncing) : d.LeavesSync d.failSync := by
  have left := d.leaveSync_leaves
  unfold Dev.failSync
  rw [if_neg (by simp [syncing])]
  dsimp only
  generalize d.leaveSync = e at left
  have noted := left.onDpx (f := fun x => { x with
    fails := e.frame :: e.dpx.fails.filter fun f => e.ago f ≤ 120000, failFrame := e.frame, retryWait := true }) rfl rfl rfl
  split
  · exact (noted.raise 0x76).onDpx rfl rfl rfl
  · exact noted

/-- What a freeze of the link leaves of the device `d`. -/
structure Dev.Freezes (d e : Dev) : Prop where
  frozen : e.dpx.frozen = true
  frame : e.dpx.frozenFrame = d.frame
  bad : e.dpx.bad = 0
  fault : e.unitFault 0x75 = true
  role : e.dpx.role = d.dpx.role.outOfSync.alone
  claim : e.dpx.claim = d.dpx.claim
  switch : e.dpx.switchCmd = none

/-- The device whose link has just frozen, before its unit leaves sync. -/
def Dev.frozenLink (d : Dev) : Dev := (d.onDpx fun x => { x with frozen := true, frozenFrame := d.frame, bad := 0 }).raiseUnit 0x75

theorem Dev.freezeTwin_freezes {d : Dev} (open_ : d.dpx.frozen = false) : d.Freezes d.freezeTwin := by
  have left : d.frozenLink.LeavesSync (if d.frozenLink.dpx.role = .syncing then d.frozenLink.failSync else d.frozenLink).leaveSync := by
    split
    · next syncing => exact (Dev.failSync_leaves syncing).trans (Dev.leaveSync_leaves _)
    · exact Dev.leaveSync_leaves _
  have freeze : d.freezeTwin = (if d.frozenLink.dpx.role = .syncing then d.frozenLink.failSync else d.frozenLink).leaveSync.partnerGone :=
    if_neg (by simp [open_])
  rw [freeze]
  generalize (if d.frozenLink.dpx.role = .syncing then d.frozenLink.failSync else d.frozenLink).leaveSync = e at left
  obtain ⟨claim, link, role, -, faults⟩ := left
  obtain ⟨l, ja, jb, off, f, gone, stay⟩ := e.partnerGone_spec
  have raised : d.frozenLink.unitFault 0x75 = true := Dev.hasFault_raise ..
  have fault : e.partnerGone.unitFault 0x75 = true := (faults.trans stay) _ _ _ _ (by decide) raised
  rw [gone] at fault ⊢
  exact ⟨congrArg (·.1) link, congrArg (·.2.1) link, congrArg (·.2.2) link, fault, congrArg Role.alone role, claim, rfl⟩

/-! ## HELLO (R222, R224, R237) -/

/-- A HELLO that is taken at all: of the link's epoch or a newer one. -/
def Dev.HelloCurrent (d : Dev) (m : HelloMsg) : Prop := newer d.dpx.epoch m.epoch = true ∨ m.epoch = d.dpx.epoch

/-- A HELLO that comes outside its frame or window. -/
def Dev.HelloMisplaced (d : Dev) (m : HelloMsg) : Prop := m.inWindow = false ∨ (d.alignedWith m.role = true ∧ m.frame ≠ d.frame)

section
variable {s : State} (out : s.dev.inReset = false)
include out

theorem exec_hello_alone (alone : s.dev.pair = false) (m : HelloMsg) : exec (.hello m) s = .next s :=
  exec_up_as rfl out (if_pos (by simp [alone]))

theorem exec_hello_frozen (pair : s.dev.pair = true) (frozen : s.dev.dpx.frozen = true) {m : HelloMsg}
    (kept : newer s.dev.dpx.epoch m.epoch = false ∨ since s.dev.frame s.dev.dpx.frozenFrame < 2000) : exec (.hello m) s = .next s := by
  refine exec_up_as rfl out ((if_neg (by simp [pair])).trans ((if_pos frozen).trans (if_neg fun opens => ?_)))
  obtain ⟨newer, passed⟩ := Bool.and_eq_true_iff.mp opens
  rcases kept with old | early
  · exact Bool.noConfusion (newer.symm.trans old)
  · exact Nat.not_lt.mpr (of_decide_eq_true passed) early

variable (pair : s.dev.pair = true) (open_ : s.dev.dpx.frozen = false) {m : HelloMsg}
include pair open_

theorem exec_hello_stale (old : newer s.dev.dpx.epoch m.epoch = false) (other : m.epoch ≠ s.dev.dpx.epoch) : exec (.hello m) s = .next s :=
  exec_up_as rfl out ((if_neg (by simp [pair])).trans ((if_neg (by simp [open_])).trans (if_neg (by simp [old, other]))))

variable (current : s.dev.HelloCurrent m)
include current

theorem exec_hello_samePosition (same : m.position = s.dev.position) : exec (.hello m) s = .next (s.lift (Dev.takeHello m)) :=
  exec_up_as rfl out ((if_neg (by simp [pair])).trans ((if_neg (by simp [open_])).trans
    ((if_pos (by simpa [Dev.HelloCurrent] using current)).trans (if_pos same))))

variable (other : m.position ≠ s.dev.position)
include other

theorem exec_hello_misplaced (misplaced : s.dev.HelloMisplaced m) : exec (.hello m) s = .next (s.lift Dev.freezeTwin) :=
  exec_up_as rfl out ((if_neg (by simp [pair])).trans ((if_neg (by simp [open_])).trans
    ((if_pos (by simpa [Dev.HelloCurrent] using current)).trans ((if_neg other).trans (if_pos (by simpa [Dev.HelloMisplaced] using misplaced))))))

variable (placed : ¬ s.dev.HelloMisplaced m)
include placed

theorem exec_hello_syncing (syncing : s.dev.dpx.role = .syncing) :
    exec (.hello m) s = .next (s.lift (Dev.onDpx fun x => { x with prole := some m.role, bad := 0 })) :=
  exec_up_as rfl out ((if_neg (by simp [pair])).trans ((if_neg (by simp [open_])).trans
    ((if_pos (by simpa [Dev.HelloCurrent] using current)).trans ((if_neg other).trans ((if_neg (by simpa [Dev.HelloMisplaced] using placed)).trans (if_pos syncing))))))

theorem exec_hello_taken (role : s.dev.dpx.role ≠ .syncing) : exec (.hello m) s = .next (s.lift (Dev.takeHello m)) :=
  exec_up_as rfl out ((if_neg (by simp [pair])).trans ((if_neg (by simp [open_])).trans
    ((if_pos (by simpa [Dev.HelloCurrent] using current)).trans ((if_neg other).trans ((if_neg (by simpa [Dev.HelloMisplaced] using placed)).trans (if_neg role))))))

end

/-! ### What a HELLO of another position leaves -/

/-- The faults that a HELLO clears: 0x71 of a SYNCING partner, 0x73 of a compatible one. -/
def Dev.helloClears (m : HelloMsg) (d : Dev) : Dev :=
  let d := if m.role = .syncing then d.clearUnit 0x71 else d
  if d.compatible m then d.clearUnit 0x73 else d

theorem Dev.helloClears_spec (m : HelloMsg) (d : Dev) : ∃ f, d.helloClears m = { d with faults := f }
    ∧ (d.helloClears m).unitFault 0x77 = d.unitFault 0x77
    ∧ (d.compatible m = false → (d.helloClears m).unitFault 0x73 = d.unitFault 0x73) := by
  have first : ∃ f, (if m.role = .syncing then d.clearUnit 0x71 else d) = { d with faults := f }
      ∧ ∀ code, code ≠ 0x71 → (if m.role = .syncing then d.clearUnit 0x71 else d).unitFault code = d.unitFault code := by
    split
    · exact ⟨_, rfl, fun code other => Dev.hasFault_clearF_ne other ..⟩
    · exact ⟨_, rfl, fun _ _ => rfl⟩
  obtain ⟨f, cleared, other⟩ := first
  have still : (if m.role = .syncing then d.clearUnit 0x71 else d).compatible m = d.compatible m := by
    rw [cleared]
    rfl
  unfold Dev.helloClears
  dsimp only
  rw [still]
  generalize (if m.role = .syncing then d.clearUnit 0x71 else d) = e at cleared other
  subst cleared
  split
  · next compatible =>
    refine ⟨_, rfl, (Dev.hasFault_clearF_ne (by decide) ..).trans (other 0x77 (by decide)), fun differs => ?_⟩
    exact Bool.noConfusion (compatible.symm.trans differs)
  · exact ⟨f, rfl, other 0x77 (by decide), fun _ => other 0x73 (by decide)⟩

/-- The duplex part of a unit that has heard a HELLO. -/
def Dpx.heard (m : HelloMsg) (x : Dpx) : Dpx := { x with prole := some m.role, epoch := m.epoch, bad := 0 }

/-- A HELLO's first effects: an ACTIVE unit goes on SOLO, faults clear, a RESYNC completes. -/
def Dev.greeted (m : HelloMsg) (d : Dev) : Dev :=
  let d := d.onDpx (Dpx.heard m)
  let d := if d.dpx.role = .active then (d.setRole .solo).endPartnerOps else d
  ((d.onDpx fun x => { x with partnerShown := [] }).helloClears m).endResync .ok

/-- An OFFLINE unit that may try to get in sync with a claiming partner (R237, R238). -/
def Dev.MaySync (d : Dev) : Prop :=
  d.dpx.role = .offline ∧ d.dpx.pclaim = true ∧ d.inService .a = true ∧ d.mayArbitrate = true ∧ d.dpx.hold = false
    ∧ d.dpx.lock76 = false ∧ d.dpx.retryWait = false

theorem Dev.maySync_iff (d : Dev) : (d.dpx.role = .offline && d.dpx.pclaim && d.inService .a && d.mayArbitrate && !d.dpx.hold
    && !d.dpx.lock76 && !d.dpx.retryWait) = true ↔ d.MaySync := by
  simp only [Dev.MaySync, Bool.and_eq_true, decide_eq_true_eq, Bool.not_eq_true', and_assoc]

theorem Dev.takeHello_stays {m : HelloMsg} {d : Dev} (other : m.position ≠ d.position) (barred : ¬ (d.greeted m).MaySync) :
    d.takeHello m = d.greeted m :=
  (if_neg other).trans (if_neg (mt (d.greeted m).maySync_iff.mp barred))

theorem Dev.takeHello_syncs {m : HelloMsg} {d : Dev} (other : m.position ≠ d.position) (may : (d.greeted m).MaySync) :
    d.takeHello m = if (d.greeted m).compatible m then (d.greeted m).enterSync m
      else if (d.greeted m).unitFault 0x73 then d.greeted m else (d.greeted m).raiseUnit 0x73 :=
  (if_neg other).trans (if_pos ((d.greeted m).maySync_iff.mpr may))

theorem Dev.takeHello_samePosition {m : HelloMsg} {d : Dev} (same : m.position = d.position) (fresh : d.unitFault 0x7A = false) :
    d.takeHello m = (d.onDpx (Dpx.heard m)).positionConflict :=
  (if_pos same).trans (if_neg (Bool.eq_false_iff.mp fresh))

/-- What a unit that is not ACTIVE has of a HELLO. -/
theorem Dev.greeted_spec {m : HelloMsg} {d : Dev} (idle : d.dpx.role ≠ .active) : ∃ l f,
    d.greeted m = { d with done := d.done ++ l, faults := f, dpx := { d.dpx.heard m with partnerShown := [], resyncCmd := none } }
    ∧ (∀ c, d.dpx.resyncCmd = some c → (d.greeted m).Completes c.1 opcResync c.2 .ok 0)
    ∧ (d.greeted m).unitFault 0x77 = d.unitFault 0x77
    ∧ (d.compatible m = false → (d.greeted m).unitFault 0x73 = d.unitFault 0x73) := by
  have still : d.greeted m = ((d.onDpx fun x => { x.heard m with partnerShown := [] }).helloClears m).endResync .ok := by
    unfold Dev.greeted
    dsimp only
    rw [if_neg (show (d.onDpx (Dpx.heard m)).dpx.role ≠ .active from idle)]
    rfl
  rw [still]
  generalize heldBy : (d.onDpx fun x => { x.heard m with partnerShown := [] }) = e
  have same : e.compatible m = d.compatible m ∧ e.unitFault = d.unitFault ∧ e.dpx.resyncCmd = d.dpx.resyncCmd := by
    rw [← heldBy]
    exact ⟨rfl, rfl, rfl⟩
  obtain ⟨compatible, faults, waits⟩ := same
  obtain ⟨f, cleared, arbitrates, differs⟩ := e.helloClears_spec m
  obtain ⟨l, ends, completes⟩ := (e.helloClears m).endResync_spec .ok
  have after : ∀ code, ((e.helloClears m).endResync .ok).unitFault code = (e.helloClears m).unitFault code := by
    intro code
    rw [ends]
    rfl
  refine ⟨l, f, ?_, fun c there => completes c ?_, ?_, fun unequal => ?_⟩
  · rw [ends, cleared, ← heldBy]
    rfl
  · rw [cleared]
    exact waits.trans there
  · rw [after, arbitrates, faults]
  · rw [after, differs (compatible.trans unequal), faults]

/-- What an ACTIVE unit has of a HELLO: it goes on SOLO. -/
theorem Dev.greeted_active {m : HelloMsg} {d : Dev} (active : d.dpx.role = .active) :
    (d.greeted m).dpx.role = .solo ∧ (d.greeted m).dpx.prole = some m.role ∧ (d.greeted m).dpx.claim = d.dpx.claim := by
  unfold Dev.greeted
  dsimp only
  rw [if_pos (show (d.onDpx (Dpx.heard m)).dpx.role = .active from active)]
  obtain ⟨off, f, solo, -⟩ := (d.onDpx (Dpx.heard m)).setRole_spec .solo
  obtain ⟨l, ja, jb, ops⟩ := ((d.onDpx (Dpx.heard m)).setRole .solo).endPartnerOps_spec
  have known : ((d.onDpx (Dpx.heard m)).setRole .solo).endPartnerOps.dpx.role = .solo
      ∧ ((d.onDpx (Dpx.heard m)).setRole .solo).endPartnerOps.dpx.prole = some m.role
      ∧ ((d.onDpx (Dpx.heard m)).setRole .solo).endPartnerOps.dpx.claim = d.dpx.claim := by
    rw [ops, solo]
    exact ⟨rfl, rfl, rfl⟩
  generalize ((d.onDpx (Dpx.heard m)).setRole .solo).endPartnerOps = e at known
  obtain ⟨g, cleared, -⟩ := (e.onDpx fun x => { x with partnerShown := [] }).helloClears_spec m
  obtain ⟨k, ends, -⟩ := ((e.onDpx fun x => { x with partnerShown := [] }).helloClears m).endResync_spec .ok
  rw [ends, cleared]
  exact known

/-- R237, step 1: the device that takes the partner's timebase and the next epoch, its role not yet changed. -/
def Dev.aligning (m : HelloMsg) (d : Dev) : Dev :=
  { (d.onDpx fun x => { x with
      epoch := x.epoch + 1, shadow := (d.nodeA.points.filter fun p => p.cfg.kind ≠ .remote).map fun p => { p with waits := [] }
      step := 1, progress := 0, queue := [], mirror := false, unmirrored := 0
      awaitRecord := false, shown := [], prevShown := [] }) with frame := m.frame, dt := m.dt, codePos := m.codePos % 63 }

theorem Dev.enterSync_spec (m : HelloMsg) (d : Dev) : ∃ off f,
    d.enterSync m = { d.aligning m with faults := f, dpx := { (d.aligning m).dpx with role := .syncing, offAt := off } }
    ∧ (d.enterSync m).unitFault 0x73 = false := by
  have steps : d.enterSync m = (((d.aligning m).setRole .syncing).clearUnit 0x71).clearUnit 0x73 := rfl
  obtain ⟨off, f, syncing, -⟩ := (d.aligning m).setRole_spec .syncing
  refine ⟨off, ((((d.aligning m).setRole .syncing).clearUnit 0x71).clearUnit 0x73).faults, ?_, ?_⟩
  · rw [steps, syncing]
    rfl
  · rw [steps]
    exact Dev.hasFault_clearF ..

end Sys2Proof.Machine
end

section
/-! SHADOW, invalid messages, silence and the own sending on the twin link (R223, R224, R226, R228, R235). -/
namespace Sys2Proof.Machine

theorem Dev.whole_of_pair {d : Dev} (pair : d.pair = true) : d.split = false := by
  simp only [Dev.pair, Bool.and_eq_true, Bool.not_eq_true'] at pair
  obtain ⟨⟨⟨-, whole⟩, -⟩, -⟩ := pair
  exact whole

theorem Dev.FaultsStay.mono {c c' : List Nat} {d e : Dev} (stay : Dev.FaultsStay c d e) (sub : c ⊆ c') : Dev.FaultsStay c' d e :=
  fun code kind obj half other => stay code kind obj half fun mem => other (sub mem)

/-! ## The comparison of a frame's results (R228) -/

/-- The comparison at one point. -/
def Dev.compareAt (own theirs : List PointResult) (sided : List Nat) (d : Dev) (pt : Nat) : Dev :=
  let a := viewOf pt own
  let b := viewOf pt theirs
  let d := d.onDpx fun x => { x with uncert := x.uncert + a.uncertains b }
  if a.differs b || (sided.contains pt && !d.hasFault 0x72 .point pt) then
    (d.raise 0x72 .point pt).onDpx fun x => { x with disagree := x.disagree + 1, pend72 := x.pend72 ++ [pt] }
  else d

/-- Of the device at most faults were raised, counts advanced and points added to those that disagree. -/
structure Dev.Compares (d e : Dev) : Prop where
  device : ∃ f u g l, e = { d with faults := f, dpx := { d.dpx with uncert := u, disagree := g, pend72 := l } }
  faults : Dev.FaultsStay [] d e
  pend : ∀ p ∈ d.dpx.pend72, p ∈ e.dpx.pend72

theorem Dev.Compares.refl (d : Dev) : d.Compares d := ⟨⟨_, _, _, _, rfl⟩, .of_eq rfl, fun _ mem => mem⟩

theorem Dev.Compares.trans {d e f : Dev} (h : d.Compares e) (k : e.Compares f) : d.Compares f where
  device := by
    obtain ⟨_, _, _, _, rfl⟩ := h.device
    obtain ⟨f, u, g, l, rfl⟩ := k.device
    exact ⟨f, u, g, l, rfl⟩
  faults := h.faults.trans k.faults
  pend p mem := k.pend p (h.pend p mem)

/-- 0x72 stands on the point, and the next frame's work disturbs it. -/
def Dev.Disagrees (p : Nat) (d : Dev) : Prop := d.hasFault 0x72 .point p = true ∧ p ∈ d.dpx.pend72

theorem Dev.Compares.disagrees {d e : Dev} (h : d.Compares e) {p : Nat} (marked : d.Disagrees p) : e.Disagrees p :=
  ⟨h.faults _ _ _ _ (by decide) marked.1, h.pend p marked.2⟩

section
variable (own theirs : List PointResult) (sided : List Nat)

/-- A disagreement at a point: 0x72, the count, and the next frame's work. -/
def Dev.disagree (d : Dev) (pt : Nat) : Dev :=
  (d.raise 0x72 .point pt).onDpx fun x => { x with disagree := x.disagree + 1, pend72 := x.pend72 ++ [pt] }

theorem Dev.disagree_compares (d : Dev) (pt : Nat) : d.Compares (d.disagree pt) where
  device := ⟨(d.raise 0x72 .point pt).faults, d.dpx.uncert, d.dpx.disagree + 1, d.dpx.pend72 ++ [pt], rfl⟩
  faults := (Dev.FaultsStay.raise [] 0x72 .point pt d .a 0xFFFF).trans (.of_eq rfl)
  pend _ mem := List.mem_append_left [pt] mem

theorem Dev.disagree_disagrees (d : Dev) (pt : Nat) : (d.disagree pt).Disagrees pt :=
  ⟨Dev.hasFault_raise 0x72 .point pt d .a 0xFFFF, List.mem_append_right d.dpx.pend72 (List.mem_singleton.mpr rfl)⟩

theorem Dev.uncertain_compares (d : Dev) (n : Nat) : d.Compares (d.onDpx fun x => { x with uncert := x.uncert + n }) where
  device := ⟨d.faults, d.dpx.uncert + n, d.dpx.disagree, d.dpx.pend72, rfl⟩
  faults := .of_eq rfl
  pend _ mem := mem

theorem Dev.compareAt_compares (d : Dev) (pt : Nat) : d.Compares (d.compareAt own theirs sided pt) := by
  refine (d.uncertain_compares ((viewOf pt own).uncertains (viewOf pt theirs))).trans ?_
  unfold Dev.compareAt
  dsimp only
  split
  · exact Dev.disagree_compares _ pt
  · exact .refl _

theorem Dev.compareAt_marks {d : Dev} {pt : Nat} (differs : (viewOf pt own).differs (viewOf pt theirs) = true) :
    (d.compareAt own theirs sided pt).Disagrees pt := by
  unfold Dev.compareAt
  dsimp only
  rw [if_pos (by simp [differs])]
  exact Dev.disagree_disagrees _ pt

theorem Dev.foldl_compareAt_compares (l : List Nat) (d : Dev) : d.Compares (l.foldl (Dev.compareAt own theirs sided) d) := by
  induction l generalizing d with
  | nil => exact .refl d
  | cons p l ih => exact (d.compareAt_compares own theirs sided p).trans (ih _)

theorem Dev.foldl_compareAt_marks {l : List Nat} {p : Nat} (mem : p ∈ l) (differs : (viewOf p own).differs (viewOf p theirs) = true) (d : Dev) :
    (l.foldl (Dev.compareAt own theirs sided) d).Disagrees p := by
  induction l generalizing d with
  | nil => cases mem
  | cons q l ih =>
    rcases List.mem_cons.mp mem with rfl | rest
    · exact (Dev.foldl_compareAt_compares own theirs sided l _).disagrees (Dev.compareAt_marks own theirs sided differs)
    · exact ih rest _

end

/-- The points that a comparison looks at. -/
def Dev.comparedPoints (m : ShadowMsg) (d : Dev) : List Nat :=
  (dedupNat ((d.dpx.prevResults ++ m.results).map resultPoint ++ oneSided d.dpx.prevShown d.dpx.partnerShown)).filter
    fun p => !m.incomparable.contains p

theorem Dev.compareResults_eq (m : ShadowMsg) (d : Dev) : d.compareResults m
    = (d.comparedPoints m).foldl (Dev.compareAt d.dpx.prevResults m.results (oneSided d.dpx.prevShown d.dpx.partnerShown)) d := rfl

theorem viewOf_of_absent {p : Nat} {l : List PointResult} (absent : p ∉ l.map resultPoint) : viewOf p l = { events := [], verdicts := [] } := by
  have none {α : Type} {f : PointResult → Option α} (elsewhere : ∀ r, resultPoint r ≠ p → f r = none) : l.filterMap f = [] := by
    refine List.filterMap_eq_nil_iff.mpr fun r mem => elsewhere r fun same => absent ?_
    exact List.mem_map.mpr ⟨r, mem, same⟩
  unfold viewOf
  refine congrArg₂ PointView.mk (none fun r other => ?_) (none fun r other => ?_)
  · cases r with
    | event e => exact if_neg other
    | _ => rfl
  · cases r with
    | verdict q v => exact if_neg other
    | _ => rfl

/-- Adding a number that is not yet listed. -/
def addNew (acc : List Nat) (x : Nat) : List Nat := if acc.contains x then acc else acc ++ [x]

theorem mem_foldl_addNew {p : Nat} (l acc : List Nat) (mem : p ∈ acc ∨ p ∈ l) : p ∈ l.foldl addNew acc := by
  induction l generalizing acc with
  | nil => simpa using mem
  | cons x l ih =>
    refine ih _ ?_
    have added : p ∈ addNew acc x ↔ p ∈ acc ∨ p = x := by
      unfold addNew
      split
      · next listed =>
        have there : x ∈ acc := by simpa using listed
        exact ⟨.inl, fun either => either.elim id fun same => same ▸ there⟩
      · simp
    rcases mem with old | new
    · exact .inl (added.mpr (.inl old))
    · exact (List.mem_cons.mp new).imp (fun same => added.mpr (.inr same)) id

theorem mem_dedupNat {p : Nat} {l : List Nat} (mem : p ∈ l) : p ∈ dedupNat l := mem_foldl_addNew l [] (.inr mem)

theorem mem_of_differs {p : Nat} {own theirs : List PointResult} (differs : (viewOf p own).differs (viewOf p theirs) = true) :
    p ∈ (own ++ theirs).map resultPoint := by
  by_contra absent
  rw [List.map_append, List.mem_append, not_or] at absent
  rw [viewOf_of_absent absent.1, viewOf_of_absent absent.2] at differs
  exact absurd differs (by decide)

theorem Dev.compareResults_compares (m : ShadowMsg) (d : Dev) : d.Compares (d.compareResults m) := by
  rw [Dev.compareResults_eq]
  exact Dev.foldl_compareAt_compares ..

theorem Dev.compareResults_marks {m : ShadowMsg} {d : Dev} {p : Nat} (comparable : p ∉ m.incomparable)
    (differs : (viewOf p d.dpx.prevResults).differs (viewOf p m.results) = true) : (d.compareResults m).Disagrees p := by
  rw [Dev.compareResults_eq]
  refine Dev.foldl_compareAt_marks _ _ _ (List.mem_filter.mpr ⟨?_, by simp [comparable]⟩) differs d
  exact mem_dedupNat (List.mem_append_left _ (mem_of_differs differs))

/-! ## SHADOW (R226, R151) -/

theorem Dev.foldl_outputs {f : Dev → Nat → Dev} (one : ∀ d n, ∃ outs g, f d n = { d with outputs := outs, faults := g } ∧ Dev.FaultsStay [] d (f d n))
    (l : List Nat) (d : Dev) : ∃ outs g, l.foldl f d = { d with outputs := outs, faults := g } ∧ Dev.FaultsStay [] d (l.foldl f d) := by
  induction l generalizing d with
  | nil => exact ⟨d.outputs, d.faults, rfl, .of_eq rfl⟩
  | cons n l ih =>
    obtain ⟨outs, g, here, stay⟩ := one d n
    obtain ⟨outs', g', rest, stay'⟩ := ih (f d n)
    refine ⟨outs', g', ?_, stay.trans stay'⟩
    rw [List.foldl_cons, rest, here]

theorem Dev.takeObs_spec (m : ShadowMsg) (d : Dev) : ∃ outs g,
    d.takeObs m = { d with outputs := outs, faults := g } ∧ Dev.FaultsStay [] d (d.takeObs m) := by
  have differ (d : Dev) (n : Nat) : ∃ outs g,
      (let e := d.onOut n fun o => { o with obsAgree := 0 }
       if e.hasFault 0x79 .output n then e else e.raise 0x79 .output n) = { d with outputs := outs, faults := g }
      ∧ Dev.FaultsStay [] d (let e := d.onOut n fun o => { o with obsAgree := 0 }
       if e.hasFault 0x79 .output n then e else e.raise 0x79 .output n) := by
    dsimp only
    split
    · exact ⟨_, _, rfl, .of_eq rfl⟩
    · exact ⟨_, _, rfl, Dev.FaultsStay.raise [] 0x79 .output n (d.onOut n _) .a 0xFFFF⟩
  have agree (d : Dev) (n : Nat) : ∃ outs g,
      (d.onOut n fun o => { o with obsAgree := o.obsAgree + 1 }) = { d with outputs := outs, faults := g }
      ∧ Dev.FaultsStay [] d (d.onOut n fun o => { o with obsAgree := o.obsAgree + 1 }) := ⟨_, _, rfl, .of_eq rfl⟩
  obtain ⟨outs, g, first, stay⟩ := Dev.foldl_outputs differ m.obsDiffer d
  obtain ⟨outs', g', second, stay'⟩ := Dev.foldl_outputs agree m.obsAgree (m.obsDiffer.foldl _ d)
  refine ⟨outs', g', ?_, stay.trans stay'⟩
  refine second.trans ?_
  rw [first]

/-- The duplex part of a claiming unit that has heard a SHADOW. -/
def Dpx.shadowed (m : ShadowMsg) (x : Dpx) : Dpx :=
  { x with prole := some m.role, partnerHo := m.handoverFaults, partnerStaged := m.stagedHash, bad := 0
           partnerShown := statesAfter m.results x.partnerShown }

/-- 0x74 and the loss of a standby whose signature differs. -/
def Dev.signatureDiffers (d : Dev) : Dev := (if d.unitFault 0x74 then d else d.raiseUnit 0x74).partnerGone

/-- What the SHADOW of a STANDBY with the unit's signature does with it: the comparison, and SOLO becomes ACTIVE. -/
def Dev.shadowAgrees (m : ShadowMsg) (d : Dev) : Dev :=
  let d := (d.compareResults m).takeObs m
  if d.dpx.role = .solo then (d.setRole .active).clearUnit 0x74 else d

section
variable {s : State} (out : s.dev.inReset = false) {m : ShadowMsg}
include out

theorem exec_shadow_ignored (deaf : s.dev.twinTakes m.epoch = false) : exec (.shadow m) s = .next s :=
  exec_up_as rfl out (if_pos (by simp [deaf]))

variable (takes : s.dev.twinTakes m.epoch = true)
include takes

theorem exec_shadow_misplaced (misplaced : m.inWindow = false ∨ m.frame ≠ s.dev.frame) : exec (.shadow m) s = .next (s.lift Dev.freezeTwin) :=
  exec_up_as rfl out ((if_neg (by simp [takes])).trans (if_pos (by simpa using misplaced)))

variable (window : m.inWindow = true) (frame : m.frame = s.dev.frame)
include window frame

theorem exec_shadow_unclaimed (unclaimed : s.dev.dpx.claim = false) :
    exec (.shadow m) s = .next (s.lift (Dev.onDpx fun x => { x with bad := 0 })) :=
  exec_up_as rfl out ((if_neg (by simp [takes])).trans ((if_neg (by simp [window, frame])).trans (if_pos (by simp [unclaimed]))))

variable (claims : s.dev.dpx.claim = true) (standby : m.role = .standby)
include claims standby

theorem exec_shadow_differs (differs : m.signature ≠ s.dev.nodeA.cores.sig) :
    exec (.shadow m) s = .next (s.lift fun d => (d.onDpx (Dpx.shadowed m)).signatureDiffers) :=
  exec_up_as rfl out ((if_neg (by simp [takes])).trans ((if_neg (by simp [window, frame])).trans ((if_neg (by simp [claims])).trans
    (if_pos (Bool.and_eq_true_iff.mpr ⟨decide_eq_true differs, decide_eq_true standby⟩)))))

theorem exec_shadow_agrees (agrees : m.signature = s.dev.nodeA.cores.sig) :
    exec (.shadow m) s = .next (s.lift fun d => (d.onDpx (Dpx.shadowed m)).shadowAgrees m) := by
  refine exec_up_as rfl out ((if_neg (by simp [takes])).trans ((if_neg (by simp [window, frame])).trans ((if_neg (by simp [claims])).trans ?_)))
  refine (if_neg fun differs => ?_).trans ?_
  · exact of_decide_eq_true (Bool.and_eq_true_iff.mp differs).1 agrees
  · rw [if_pos standby]
    exact if_congr (and_iff_right standby) rfl (if_neg fun other => other.1 standby)

end

theorem Dev.signatureDiffers_leaves (d : Dev) :
    d.signatureDiffers.dpx.role = d.dpx.role.alone ∧ d.signatureDiffers.dpx.prole = none ∧ d.signatureDiffers.dpx.switchCmd = none
      ∧ d.signatureDiffers.unitFault 0x74 = true := by
  have raised : ∃ f, (if d.unitFault 0x74 then d else d.raiseUnit 0x74) = { d with faults := f }
      ∧ (if d.unitFault 0x74 then d else d.raiseUnit 0x74).unitFault 0x74 = true := by
    split
    · next active => exact ⟨_, rfl, active⟩
    · exact ⟨_, rfl, Dev.hasFault_raise ..⟩
  obtain ⟨f, device, active⟩ := raised
  unfold Dev.signatureDiffers
  generalize (if d.unitFault 0x74 then d else d.raiseUnit 0x74) = e at device active
  obtain ⟨l, ja, jb, off, g, gone, stay⟩ := e.partnerGone_spec
  have still : e.partnerGone.unitFault 0x74 = true := stay _ _ _ _ (by decide) active
  have role : e.dpx.role = d.dpx.role := by rw [device]
  rw [gone] at still ⊢
  exact ⟨congrArg Role.alone role, rfl, rfl, still⟩

/-- What a SHADOW with the unit's signature leaves of an ACTIVE or SOLO unit. -/
theorem Dev.shadowAgrees_leaves {m : ShadowMsg} {d : Dev} (inSync : d.dpx.role = .active ∨ d.dpx.role = .solo) :
    (d.shadowAgrees m).dpx.role = .active ∧ (d.shadowAgrees m).dpx.prole = d.dpx.prole ∧ (d.shadowAgrees m).dpx.partnerHo = d.dpx.partnerHo
      ∧ (d.shadowAgrees m).dpx.partnerStaged = d.dpx.partnerStaged ∧ (d.dpx.role = .solo → (d.shadowAgrees m).unitFault 0x74 = false)
      ∧ ∀ p, p ∉ m.incomparable → (viewOf p d.dpx.prevResults).differs (viewOf p m.results) = true → (d.shadowAgrees m).Disagrees p := by
  have marks (p : Nat) (comparable : p ∉ m.incomparable) (differs : (viewOf p d.dpx.prevResults).differs (viewOf p m.results) = true) :=
    Dev.compareResults_marks comparable differs
  obtain ⟨⟨f, u, g, l, compared⟩, -, -⟩ := d.compareResults_compares m
  obtain ⟨outs, h, observed, stay⟩ := (d.compareResults m).takeObs_spec m
  have role : ((d.compareResults m).takeObs m).dpx.role = d.dpx.role := by rw [observed, compared]
  have known : ((d.compareResults m).takeObs m).dpx.prole = d.dpx.prole ∧ ((d.compareResults m).takeObs m).dpx.partnerHo = d.dpx.partnerHo
      ∧ ((d.compareResults m).takeObs m).dpx.partnerStaged = d.dpx.partnerStaged := by
    rw [observed, compared]
    exact ⟨rfl, rfl, rfl⟩
  have marked (p : Nat) (comparable : p ∉ m.incomparable) (differs : (viewOf p d.dpx.prevResults).differs (viewOf p m.results) = true) :
      ((d.compareResults m).takeObs m).Disagrees p := by
    obtain ⟨fault, pend⟩ := marks p comparable differs
    refine ⟨stay _ _ _ _ (by decide) fault, ?_⟩
    rw [observed]
    exact pend
  unfold Dev.shadowAgrees
  dsimp only
  generalize (d.compareResults m).takeObs m = e at role known marked
  obtain ⟨prole, ho, staged⟩ := known
  split
  · next solo =>
    obtain ⟨off, k, active, stays⟩ := e.setRole_spec .active
    have cleared : Dev.FaultsStay [0x78, 0x74] e ((e.setRole .active).clearUnit 0x74) :=
      (stays.mono (by simp)).trans (Dev.FaultsStay.clearF (cleared := [0x78, 0x74]) (by decide) .unit 0 (e.setRole .active) .a)
    have fault : ((e.setRole .active).clearUnit 0x74).unitFault 0x74 = false := Dev.hasFault_clearF ..
    have still (p : Nat) (there : e.Disagrees p) : ((e.setRole .active).clearUnit 0x74).Disagrees p := by
      refine ⟨cleared _ _ _ _ (by decide) there.1, ?_⟩
      rw [active]
      exact there.2
    refine ⟨?_, ?_, ?_, ?_, fun _ => fault, fun p comparable differs => still p (marked p comparable differs)⟩
    · rw [active]
      rfl
    · rw [active]
      exact prole
    · rw [active]
      exact ho
    · rw [active]
      exact staged
  · next other =>
    have active : d.dpx.role = .active := inSync.resolve_right fun solo => other (role.trans solo)
    exact ⟨role.trans active, prole, ho, staged, fun solo => absurd (role.trans solo) other, marked⟩

end Sys2Proof.Machine
end

section
/-! Invalid messages, silence and the own sending on the twin link (R223, R224, R235, R241). -/
namespace Sys2Proof.Machine

section
variable {s : State} (out : s.dev.inReset = false) {bs : List Byte}
include out

theorem exec_invalidTwinMessage_deaf (deaf : s.dev.pair = false ∨ s.dev.dpx.frozen = true) : exec (.invalidTwinMessage bs) s = .next s :=
  exec_up_as rfl out (if_pos (by simpa using deaf))

variable (pair : s.dev.pair = true) (open_ : s.dev.dpx.frozen = false)
include pair open_

theorem exec_invalidTwinMessage_unread (unread : linkOf bs = none) : exec (.invalidTwinMessage bs) s = .next (s.lift Dev.twinBad) := by
  refine exec_up_as rfl out ((if_neg (by simp [pair, open_])).trans ?_)
  rw [unread]

theorem exec_invalidTwinMessage_read {m : LinkMsg} (read : linkOf bs = some m) : exec (.invalidTwinMessage bs) s
    = .next (s.lift fun d => if m.epoch ≠ d.dpx.epoch || twinTypes.contains m.type then d else d.freezeTwin) := by
  refine exec_up_as rfl out ((if_neg (by simp [pair, open_])).trans ?_)
  rw [read]

end

theorem exec_twinLinkLost_idle {s : State} (out : s.dev.inReset = false) (idle : s.dev.pair = false ∨ s.dev.dpx.role ≠ .active) :
    exec .twinLinkLost s = .next s :=
  exec_up_as rfl out (if_neg (by rw [Bool.and_eq_true, decide_eq_true_eq, not_and_or, Bool.not_eq_true]; exact idle))

/-- The ACTIVE unit whose partner is silent. -/
def Dev.partnerSilent (d : Dev) : Dev := (if d.unitFault 0x71 then d else d.raiseUnit 0x71).partnerGone

theorem exec_twinLinkLost_active {s : State} (out : s.dev.inReset = false) (pair : s.dev.pair = true) (active : s.dev.dpx.role = .active) :
    exec .twinLinkLost s = .next (s.lift Dev.partnerSilent) :=
  exec_up_as rfl out (if_pos (by simp [pair, active]))

theorem Dev.partnerSilent_spec {d : Dev} (active : d.dpx.role = .active) : ∃ l ja jb off f,
    d.partnerSilent = { d with
      done := d.done ++ l, faults := f
      dpx := { d.dpx with
        prole := none, partnerHo := [], partnerStaged := none, snapshot := none, sentBlocks := 0, switchCmd := none, resyncCmd := none
        role := .solo, offAt := off }
      port0 := { d.port0 with journal := ja }, port1 := { d.port1 with journal := jb } }
    ∧ d.partnerSilent.unitFault 0x71 = true := by
  have raised : ∃ f, (if d.unitFault 0x71 then d else d.raiseUnit 0x71) = { d with faults := f }
      ∧ (if d.unitFault 0x71 then d else d.raiseUnit 0x71).unitFault 0x71 = true := by
    split
    · next there => exact ⟨_, rfl, there⟩
    · exact ⟨_, rfl, Dev.hasFault_raise ..⟩
  obtain ⟨f, device, there⟩ := raised
  unfold Dev.partnerSilent
  generalize (if d.unitFault 0x71 then d else d.raiseUnit 0x71) = e at device there
  obtain ⟨l, ja, jb, off, g, gone, stay⟩ := e.partnerGone_spec
  have alone : e.dpx.role.alone = .solo := by
    rw [device]
    exact if_pos active
  refine ⟨l, ja, jb, off, g, ?_, stay _ _ _ _ (by decide) there⟩
  rw [gone, alone, device]

/-! ## TWIN_LINK_EXCHANGE -/

/-- A SOLO unit with a SYNCING partner before its block of the image is sent. -/
def Dev.resyncSends (d : Dev) : Dev :=
  ((d.onDpx Dpx.quiet).onDpx fun x => { x with sentHello := some d.hello }).onDpx fun x => { x with sentRecord := some d.recordBytes }

theorem Dev.resyncSends_eq (d : Dev) : d.resyncSends = { d with dpx := { d.dpx.quiet with sentHello := some d.hello, sentRecord := some d.recordBytes } } := by
  simp only [Dev.resyncSends, Dev.onDpx, Dpx.quiet]

/-- What an exchange does with the device. -/
def Dev.exchangeTwin (d : Dev) : Dev :=
  let q := d.onDpx Dpx.quiet
  if !d.pair then q
  else match d.dpx.role with
    | .active => q.onDpx fun x => { x with sentRecord := some d.recordBytes }
    | .solo =>
      let q := q.onDpx fun x => { x with sentHello := some d.hello }
      if d.dpx.prole = some .syncing ∧ d.dpx.frozen = false then
        (q.onDpx fun x => { x with sentRecord := some d.recordBytes }).sendBlock
      else q.onDpx fun x => { x with sentBlocks := 0, snapshot := none }
    | .standby => q.onDpx fun x => { x with sentShadow := some d.shadowMsg, obs := [] }
    | .syncing => q.onDpx fun x => { x with sentHello := some d.hello, sentShadow := some d.shadowMsg, obs := [] }
    | .offline => q.onDpx fun x => { x with sentHello := some d.hello }

theorem exec_twinLinkExchange {s : State} (out : s.dev.inReset = false) : exec .twinLinkExchange s = .next (s.lift Dev.exchangeTwin) := up_next _ out

/-- What a role sends of HELLO, RECORD and SHADOW. -/
structure Dev.Sends (d e : Dev) : Prop where
  device : e = { d with dpx := e.dpx }
  role : e.dpx.role = d.dpx.role
  hello : e.dpx.sentHello = if d.dpx.role = .active ∨ d.dpx.role = .standby then none else some d.hello
  record : e.dpx.sentRecord = if d.dpx.role = .active ∨ (d.dpx.role = .solo ∧ d.dpx.prole = some .syncing ∧ d.dpx.frozen = false)
    then some d.recordBytes else none
  shadow : e.dpx.sentShadow = if d.dpx.role = .standby ∨ d.dpx.role = .syncing then some d.shadowMsg else none

theorem Dev.sendBlock_spec (d : Dev) : ∃ block sent image,
    d.sendBlock = { d with dpx := { d.dpx with sentTransfer := block, sentBlocks := sent, snapshot := image } } := by
  unfold Dev.sendBlock
  dsimp only
  split
  · exact ⟨_, _, _, rfl⟩
  · exact ⟨_, _, _, rfl⟩

/-- The next block of the image: the image itself comes with the last. -/
theorem Dev.sendBlock_block {d : Dev} (more : d.dpx.sentBlocks < d.imageBlocks) : ∃ b,
    d.sendBlock.dpx.sentTransfer = some b ∧ b.block = d.dpx.sentBlocks ∧ b.epoch = d.dpx.epoch ∧ b.frame = d.frame
      ∧ (b.image.isSome = true ↔ d.dpx.sentBlocks + 1 = d.imageBlocks) := by
  unfold Dev.sendBlock
  dsimp only
  rw [if_neg (Nat.not_le.mpr more)]
  refine ⟨_, rfl, rfl, rfl, rfl, ?_⟩
  dsimp only
  split
  · next last => simp [last]
  · next early => simp [early]

/-- A SOLO unit whose partner wants a resync on an open link. -/
def Dev.Resyncs (d : Dev) : Prop := d.dpx.prole = some .syncing ∧ d.dpx.frozen = false

theorem Dev.exchangeTwin_resyncs {d : Dev} (pair : d.pair = true) (solo : d.dpx.role = .solo) (resyncs : d.Resyncs) :
    d.exchangeTwin = d.resyncSends.sendBlock := by
  unfold Dev.exchangeTwin
  dsimp only
  rw [if_neg (by simp [pair]), solo]
  exact if_pos resyncs

theorem Dev.exchangeTwin_solo {d : Dev} (pair : d.pair = true) (solo : d.dpx.role = .solo) (alone : ¬ d.Resyncs) :
    d.exchangeTwin = { d with dpx := { d.dpx.quiet with sentHello := some d.hello, sentBlocks := 0, snapshot := none } } := by
  unfold Dev.exchangeTwin
  dsimp only
  rw [if_neg (by simp [pair]), solo]
  refine (if_neg alone).trans ?_
  simp only [Dev.onDpx, Dpx.quiet]

theorem Dev.Sends.block {d e : Dev} (h : d.Sends e) : d.Sends e.sendBlock := by
  obtain ⟨device, role, hello, record, shadow⟩ := h
  obtain ⟨block, sent, image, sends⟩ := e.sendBlock_spec
  rw [sends]
  refine ⟨?_, role, hello, record, shadow⟩
  rw [device]

theorem Dev.sends_of_solo {d : Dev} (pair : d.pair = true) (solo : d.dpx.role = .solo) : d.Sends d.exchangeTwin := by
  have hello : ¬ (d.dpx.role = .active ∨ d.dpx.role = .standby) := by simp [solo]
  have shadow : ¬ (d.dpx.role = .standby ∨ d.dpx.role = .syncing) := by simp [solo]
  by_cases resyncs : d.Resyncs
  · rw [Dev.exchangeTwin_resyncs pair solo resyncs, Dev.resyncSends_eq]
    exact Dev.Sends.block ⟨rfl, rfl, (if_neg hello).symm, (if_pos (.inr ⟨solo, resyncs⟩)).symm, (if_neg shadow).symm⟩
  · have record : ¬ (d.dpx.role = .active ∨ (d.dpx.role = .solo ∧ d.Resyncs)) := by simp [solo, resyncs]
    rw [Dev.exchangeTwin_solo pair solo resyncs]
    exact ⟨rfl, rfl, (if_neg hello).symm, (if_neg record).symm, (if_neg shadow).symm⟩

theorem Dev.exchangeTwin_sends {d : Dev} (pair : d.pair = true) : d.Sends d.exchangeTwin := by
  cases role : d.dpx.role with
  | solo => exact Dev.sends_of_solo pair role
  | active =>
    have shadow : ¬ (d.dpx.role = .standby ∨ d.dpx.role = .syncing) := by simp [role]
    have sends : d.exchangeTwin = (d.onDpx Dpx.quiet).onDpx fun x => { x with sentRecord := some d.recordBytes } := by
      unfold Dev.exchangeTwin
      simp only [pair, role, Bool.not_true, Bool.false_eq_true, if_false]
    rw [sends]
    exact ⟨rfl, rfl, (if_pos (.inl role)).symm, (if_pos (.inl role)).symm, (if_neg shadow).symm⟩
  | standby =>
    have record : ¬ (d.dpx.role = .active ∨ (d.dpx.role = .solo ∧ d.Resyncs)) := by simp [role]
    have sends : d.exchangeTwin = (d.onDpx Dpx.quiet).onDpx fun x => { x with sentShadow := some d.shadowMsg, obs := [] } := by
      unfold Dev.exchangeTwin
      simp only [pair, role, Bool.not_true, Bool.false_eq_true, if_false]
    rw [sends]
    exact ⟨rfl, rfl, (if_pos (.inr role)).symm, (if_neg record).symm, (if_pos (.inl role)).symm⟩
  | syncing =>
    have hello : ¬ (d.dpx.role = .active ∨ d.dpx.role = .standby) := by simp [role]
    have record : ¬ (d.dpx.role = .active ∨ (d.dpx.role = .solo ∧ d.Resyncs)) := by simp [role]
    have sends : d.exchangeTwin = (d.onDpx Dpx.quiet).onDpx fun x => { x with sentHello := some d.hello, sentShadow := some d.shadowMsg, obs := [] } := by
      unfold Dev.exchangeTwin
      simp only [pair, role, Bool.not_true, Bool.false_eq_true, if_false]
    rw [sends]
    exact ⟨rfl, rfl, (if_neg hello).symm, (if_neg record).symm, (if_pos (.inr role)).symm⟩
  | offline =>
    have hello : ¬ (d.dpx.role = .active ∨ d.dpx.role = .standby) := by simp [role]
    have record : ¬ (d.dpx.role = .active ∨ (d.dpx.role = .solo ∧ d.Resyncs)) := by simp [role]
    have shadow : ¬ (d.dpx.role = .standby ∨ d.dpx.role = .syncing) := by simp [role]
    have sends : d.exchangeTwin = (d.onDpx Dpx.quiet).onDpx fun x => { x with sentHello := some d.hello } := by
      unfold Dev.exchangeTwin
      simp only [pair, role, Bool.not_true, Bool.false_eq_true, if_false]
    rw [sends]
    exact ⟨rfl, rfl, (if_neg hello).symm, (if_neg record).symm, (if_neg shadow).symm⟩

theorem Dev.exchangeTwin_block {d : Dev} (pair : d.pair = true) (role : d.dpx.role = .solo) (partner : d.dpx.prole = some .syncing)
    (open_ : d.dpx.frozen = false) (more : d.dpx.sentBlocks < d.imageBlocks) : ∃ b,
    d.exchangeTwin.dpx.sentTransfer = some b ∧ b.block = d.dpx.sentBlocks ∧ b.epoch = d.dpx.epoch ∧ b.frame = d.frame
      ∧ (b.image.isSome = true ↔ d.dpx.sentBlocks + 1 = d.imageBlocks) := by
  rw [Dev.exchangeTwin_resyncs pair role ⟨partner, open_⟩, Dev.resyncSends_eq]
  exact Dev.sendBlock_block more

/-! ## HELLO of another position -/

/-- A unit that is not OFFLINE, or sees no claim of its partner, hears a HELLO and goes on, ACTIVE as SOLO. -/
theorem Dev.takeHello_busy {m : HelloMsg} {d : Dev} (other : m.position ≠ d.position) (busy : d.dpx.role ≠ .offline ∨ d.dpx.pclaim = false) :
    (d.takeHello m).dpx.prole = some m.role ∧ (d.takeHello m).dpx.claim = d.dpx.claim ∧ (d.takeHello m).dpx.role = d.dpx.role.alone := by
  by_cases active : d.dpx.role = .active
  · obtain ⟨solo, prole, claim⟩ := Dev.greeted_active (m := m) active
    have barred : ¬ (d.greeted m).MaySync := fun may => absurd (may.1.symm.trans solo) (by decide)
    rw [Dev.takeHello_stays other barred]
    exact ⟨prole, claim, solo.trans (if_pos active).symm⟩
  · obtain ⟨l, f, greeted, -⟩ := Dev.greeted_spec (m := m) active
    have barred : ¬ (d.greeted m).MaySync := by
      rintro ⟨offline, partner, -⟩
      rw [greeted] at offline partner
      exact busy.elim (fun awake => awake offline) fun absent => Bool.noConfusion (partner.symm.trans absent)
    rw [Dev.takeHello_stays other barred, greeted]
    exact ⟨rfl, rfl, (if_neg active).symm⟩

/-- An OFFLINE unit that may sync may still after it has heard the HELLO. -/
theorem Dev.greeted_maySync {m : HelloMsg} {d : Dev} (may : d.MaySync) : (d.greeted m).MaySync := by
  obtain ⟨offline, partner, serves, arbitrates, idle, unlocked, ready⟩ := may
  obtain ⟨l, f, greeted, -, fault, -⟩ := Dev.greeted_spec (m := m) (d := d) (by simp [offline])
  have arbitrates' : (d.greeted m).mayArbitrate = true := by
    rw [Dev.mayArbitrate, fault, greeted]
    exact arbitrates
  rw [greeted] at arbitrates' ⊢
  exact ⟨offline, partner, serves, arbitrates', idle, unlocked, ready⟩

theorem Dev.Completes.of_done {d e : Dev} {p : Fin 2} {opc tag : Nat} {st : Status} {v : Word} (completes : d.Completes p opc tag st v)
    (same : e.done = d.done) : e.Completes p opc tag st v := by
  unfold Dev.Completes
  rw [same]
  exact completes

theorem Dev.takeHello_enters {m : HelloMsg} {d : Dev} (other : m.position ≠ d.position) (may : d.MaySync) (compatible : d.compatible m = true) :
    (d.takeHello m).dpx.role = .syncing ∧ (d.takeHello m).dpx.epoch = m.epoch + 1 ∧ (d.takeHello m).frame = m.frame
      ∧ (d.takeHello m).dt = m.dt ∧ (d.takeHello m).codePos = m.codePos % 63 ∧ (d.takeHello m).dpx.step = 1 ∧ (d.takeHello m).dpx.progress = 0
      ∧ (d.takeHello m).unitFault 0x73 = false ∧ (∀ c, d.dpx.resyncCmd = some c → (d.takeHello m).Completes c.1 0x26 c.2 .ok 0)
      ∧ (d.takeHello m).nodeA = d.nodeA ∧ (d.takeHello m).outputs = d.outputs ∧ (d.takeHello m).systems = d.systems := by
  obtain ⟨l, f, greeted, completes, -, -⟩ := Dev.greeted_spec (m := m) (d := d) (by simp [may.1])
  obtain ⟨off, g, enters, fault⟩ := (d.greeted m).enterSync_spec m
  have fits : (d.greeted m).compatible m = true := by
    rw [greeted]
    exact compatible
  have syncs : d.takeHello m = (d.greeted m).enterSync m := (Dev.takeHello_syncs other (Dev.greeted_maySync may)).trans (if_pos fits)
  have delivered (c : Fin 2 × Nat) (waits : d.dpx.resyncCmd = some c) : (d.takeHello m).Completes c.1 0x26 c.2 .ok 0 := by
    have same : (d.takeHello m).done = (d.greeted m).done := by
      simp only [syncs, enters, Dev.aligning, Dev.onDpx]
    exact (completes c waits).of_done same
  rw [← syncs] at fault
  refine ⟨?_, ?_, ?_, ?_, ?_, ?_, ?_, fault, delivered, ?_, ?_, ?_⟩
  all_goals simp only [syncs, enters, Dev.aligning, Dev.onDpx]
  all_goals simp only [greeted, Dpx.heard]

theorem Dev.takeHello_refuses {m : HelloMsg} {d : Dev} (other : m.position ≠ d.position) (may : d.MaySync) (differs : d.compatible m = false)
    (fresh : d.unitFault 0x73 = false) : ∃ l f,
    d.takeHello m = { d with done := d.done ++ l, faults := f, dpx := { d.dpx.heard m with partnerShown := [], resyncCmd := none } }
      ∧ (d.takeHello m).unitFault 0x73 = true := by
  obtain ⟨l, f, greeted, -, -, still⟩ := Dev.greeted_spec (m := m) (d := d) (by simp [may.1])
  have unfit : ¬ (d.greeted m).compatible m = true := by
    rw [greeted]
    exact Bool.eq_false_iff.mp differs
  have raises : d.takeHello m = (d.greeted m).raiseUnit 0x73 :=
    (Dev.takeHello_syncs other (Dev.greeted_maySync may)).trans ((if_neg unfit).trans (if_neg (by simp [still differs, fresh])))
  refine ⟨l, (d.takeHello m).faults, ?_, ?_⟩
  · rw [raises, greeted]
    rfl
  · rw [raises]
    exact Dev.hasFault_raise ..

end Sys2Proof.Machine
end

section
namespace Sys2Proof.Proofs
open Sys2Proof Sys2Proof.Machine

/-- Settles O52: a frozen link is `Dev.freezeTwin_freezes`, a HELLO `Dev.greeted` and `Dev.enterSync`, a SHADOW
`Dev.shadowAgrees`, the sending `Dev.Sends`. -/
theorem twinMessagesMoveTheRoles : Obligations.TwinMessagesMoveTheRoles := by
  unfold Obligations.TwinMessagesMoveTheRoles
  intro s out
  have freezes (open_ : s.dev.dpx.frozen = false) : (s.lift Dev.freezeTwin).dev.dpx.frozen = true ∧ (s.lift Dev.freezeTwin).dev.dpx.frozenFrame = s.dev.frame
      ∧ (s.lift Dev.freezeTwin).dev.dpx.bad = 0 ∧ (s.lift Dev.freezeTwin).dev.unitFault 0x75 = true
      ∧ (s.lift Dev.freezeTwin).dev.dpx.role = (match s.dev.dpx.role with | .active => .solo | .solo => .solo | _ => .offline)
      ∧ (s.lift Dev.freezeTwin).dev.dpx.claim = s.dev.dpx.claim ∧ (s.lift Dev.freezeTwin).dev.dpx.switchCmd = none := by
    obtain ⟨frozen, frame, bad, fault, role, claim, switch⟩ := Dev.freezeTwin_freezes open_
    refine ⟨frozen, frame, bad, fault, role.trans ?_, claim, switch⟩
    cases s.dev.dpx.role <;> rfl
  refine ⟨fun alone => ⟨?_, ?_, ?_, ?_, ?_⟩, fun pair frozen => ⟨?_, ?_, ?_⟩, fun pair open_ => ⟨?_, ?_, ?_, ?_, ?_⟩, fun pair => ⟨?_, ?_, ?_⟩⟩
  · exact exec_hello_alone out alone
  · exact fun m => exec_shadow_ignored out (by simp [Dev.twinTakes, alone])
  · exact exec_twinLinkLost_idle out (.inl alone)
  · exact fun bs => exec_invalidTwinMessage_deaf out (.inl alone)
  · exact exec_up_as rfl out (if_pos (by simp [alone]))
  · exact fun m kept => exec_hello_frozen out pair frozen kept
  · exact fun m => exec_shadow_ignored out (by simp [Dev.twinTakes, frozen])
  · exact fun bs => exec_invalidTwinMessage_deaf out (.inr frozen)
  · exact fun m old other => exec_hello_stale out pair open_ old other
  · intro m current
    refine ⟨fun same fresh => ?_, fun other misplaced => ⟨_, exec_hello_misplaced out pair open_ current other misplaced, freezes open_⟩,
      fun other window frame => ?_⟩
    · obtain ⟨role, claim, lock, fault⟩ := Dev.positionConflict_locks (d := s.dev.onDpx (Dpx.heard m)) (Dev.whole_of_pair pair)
      refine ⟨_, exec_hello_samePosition out pair open_ current same, ?_⟩
      rw [State.lift_dev, Dev.takeHello_samePosition same fresh]
      exact ⟨role, claim, lock, fault⟩
    · have placed : ¬ s.dev.HelloMisplaced m := by
        rintro (late | ⟨aligned, shifted⟩)
        · exact Bool.noConfusion (window.symm.trans late)
        · exact frame.elim (fun free => Bool.noConfusion (aligned.symm.trans free)) shifted
      refine ⟨exec_hello_syncing out pair open_ current other placed, fun busy => ?_, fun offline partner serves may idle unlocked ready => ⟨fun compatible => ?_,
        fun differs fresh => ?_⟩⟩
      · by_cases syncing : s.dev.dpx.role = .syncing
        · refine ⟨_, exec_hello_syncing out pair open_ current other placed syncing, rfl, rfl, ?_⟩
          exact (if_neg (by simp [syncing])).symm
        · obtain ⟨prole, claim, role⟩ := Dev.takeHello_busy other busy
          exact ⟨_, exec_hello_taken out pair open_ current other placed syncing, prole, claim, role⟩
      · have syncing : s.dev.dpx.role ≠ .syncing := by simp [offline]
        exact ⟨_, exec_hello_taken out pair open_ current other placed syncing,
          Dev.takeHello_enters other ⟨offline, partner, serves, may, idle, unlocked, ready⟩ compatible⟩
      · have syncing : s.dev.dpx.role ≠ .syncing := by simp [offline]
        obtain ⟨l, f, refuses, fault⟩ :=
          Dev.takeHello_refuses other ⟨offline, partner, serves, may, idle, unlocked, ready⟩ differs fresh
        refine ⟨_, exec_hello_taken out pair open_ current other placed syncing, ?_, fault, ?_⟩
        · rw [State.lift_dev, refuses]
          exact offline
        · rw [State.lift, refuses]
  · exact fun m other => exec_shadow_ignored out (by simp [Dev.twinTakes, other])
  · intro m current
    have takes : s.dev.twinTakes m.epoch = true := by simp [Dev.twinTakes, pair, open_, current]
    refine ⟨fun misplaced => ⟨_, exec_shadow_misplaced out takes misplaced, freezes open_⟩, fun window frame =>
      ⟨exec_shadow_unclaimed out takes window frame, fun claims inSync standby => ⟨fun differs => ?_, fun agrees => ?_⟩⟩⟩
    · refine ⟨_, exec_shadow_differs out takes window frame claims standby differs, ?_⟩
      obtain ⟨role, prole, switch, fault⟩ := (s.dev.onDpx (Dpx.shadowed m)).signatureDiffers_leaves
      refine ⟨role.trans ?_, prole, switch, fault⟩
      rcases inSync with active | solo
      · exact if_pos active
      · exact (if_neg (by simp [Dev.onDpx, Dpx.shadowed, solo])).trans solo
    · refine ⟨_, exec_shadow_agrees out takes window frame claims standby agrees, ?_⟩
      obtain ⟨role, prole, ho, staged, clears, marks⟩ := Dev.shadowAgrees_leaves (m := m) (d := s.dev.onDpx (Dpx.shadowed m)) inSync
      exact ⟨role, prole.trans (congrArg some standby), ho, staged, clears, marks⟩
  · intro bs
    refine ⟨fun unread few => ?_, fun unread many => ?_, fun m read => ⟨fun harmless => ?_, fun current undefined => ?_⟩⟩
    · rw [exec_invalidTwinMessage_unread out pair open_ unread, State.lift, Dev.twinBad, if_neg (Nat.not_le.mpr few)]
      rfl
    · have freeze : s.lift Dev.twinBad = s.lift Dev.freezeTwin := by rw [State.lift, Dev.twinBad, if_pos many, State.lift]
      exact ⟨_, exec_invalidTwinMessage_unread out pair open_ unread, freeze ▸ freezes open_⟩
    · rw [exec_invalidTwinMessage_read out pair open_ read, State.lift, if_pos (by simpa using harmless)]
    · refine ⟨s.lift Dev.freezeTwin, ?_, freezes open_⟩
      rw [exec_invalidTwinMessage_read out pair open_ read, State.lift, if_neg (by simp [current, undefined])]
      rfl
  · intro active
    obtain ⟨l, ja, jb, off, f, silent, fault⟩ := Dev.partnerSilent_spec active
    refine ⟨_, exec_twinLinkLost_active out pair active, ?_⟩
    rw [State.lift_dev, State.lift]
    rw [silent] at fault ⊢
    exact ⟨rfl, rfl, rfl, rfl, fault, rfl⟩
  · exact fun idle => exec_twinLinkLost_idle out (.inr idle)
  · obtain ⟨device, role, hello, record, shadow⟩ := Dev.exchangeTwin_sends pair
    refine ⟨_, exec_twinLinkExchange out, ?_, role, hello, record, shadow,
      fun solo partner open_ more => Dev.exchangeTwin_block pair solo partner open_ more⟩
    rw [State.lift_dev, State.lift, ← device]

end Sys2Proof.Proofs
end

section
/-! Start-up (14): what the read of the stores at boot and each phase leave (R262 to R269). -/
namespace Sys2Proof.Machine

/-! ## The log and the stores at boot (R322) -/

/-- Of the device at most faults other than 0xAB, the change log and the store records differ; the OTP's count stands. -/
structure Dev.OnlyRecords (d e : Dev) : Prop where
  device : ∃ f l st, e = { d with faults := f, log := l, store := st }
  otpCor : e.store.otpCor = d.store.otpCor
  faults : Dev.FaultsStay [0xA7, 0xAA] d e

theorem Dev.OnlyRecords.refl (d : Dev) : d.OnlyRecords d := ⟨⟨_, _, _, rfl⟩, rfl, .of_eq rfl⟩

theorem Dev.OnlyRecords.trans {d e f : Dev} (h : d.OnlyRecords e) (k : e.OnlyRecords f) : d.OnlyRecords f where
  device := by
    obtain ⟨_, _, _, rfl⟩ := h.device
    obtain ⟨f, l, st, rfl⟩ := k.device
    exact ⟨f, l, st, rfl⟩
  otpCor := k.otpCor.trans h.otpCor
  faults := h.faults.trans k.faults

theorem Dev.onStore_records {g : Store → Store} (keep : ∀ s, (g s).otpCor = s.otpCor) (d : Dev) : d.OnlyRecords (d.onStore g) :=
  ⟨⟨d.faults, d.log, g d.store, rfl⟩, keep d.store, .of_eq rfl⟩

theorem Dev.onLog_records (g : ChangeLog → ChangeLog) (d : Dev) : d.OnlyRecords (d.onLog g) :=
  ⟨⟨d.faults, g d.log, d.store, rfl⟩, rfl, .of_eq rfl⟩

theorem Dev.raise_records (code : Nat) (d : Dev) : d.OnlyRecords (d.raise code .device 0) :=
  ⟨⟨(d.raise code .device 0).faults, d.log, d.store, rfl⟩, rfl, Dev.FaultsStay.raise _ code .device 0 d .a 0xFFFF⟩

theorem Dev.clearF_records {code : Nat} (log : code ∈ [0xA7, 0xAA]) (d : Dev) : d.OnlyRecords (d.clearF code .device 0) :=
  ⟨⟨(d.clearF code .device 0).faults, d.log, d.store, rfl⟩, rfl, Dev.FaultsStay.clearF log .device 0 d .a⟩

theorem Dev.logCapacity_records (d : Dev) : d.OnlyRecords d.logCapacity := by
  unfold Dev.logCapacity
  split
  · split
    · exact .refl d
    · exact d.raise_records 0xA7
  · exact Dev.clearF_records (by decide) d

theorem Dev.deviceEntry_records (e : LogEntry) (d : Dev) : d.OnlyRecords (d.deviceEntry e) := by
  unfold Dev.deviceEntry
  split
  · exact d.onLog_records _
  · exact (d.onLog_records _).trans (Dev.logCapacity_records _)

theorem Dev.storeRepair_records (kind : Nat) (a b : List Byte) (d : Dev) : d.OnlyRecords (d.storeRepair kind a b) :=
  ((d.raise_records 0xAA).trans (Dev.clearF_records (by decide) _)).trans (Dev.deviceEntry_records _ _)

theorem Dev.logCapacity_store (d : Dev) : d.logCapacity.store = d.store := by
  unfold Dev.logCapacity
  split
  · split <;> rfl
  · rfl

theorem Dev.deviceEntry_store (e : LogEntry) (d : Dev) : (d.deviceEntry e).store = d.store := by
  unfold Dev.deviceEntry
  split
  · rfl
  · exact Dev.logCapacity_store _

/-- A repair writes the log alone: no record changes. -/
theorem Dev.storeRepair_store (kind : Nat) (a b : List Byte) (d : Dev) : (d.storeRepair kind a b).store = d.store :=
  Dev.deviceEntry_store _ _

theorem Dev.bootCal_records (matched : Bool) (d : Dev) : d.OnlyRecords (d.bootCal matched) := by
  unfold Dev.bootCal
  dsimp only
  split
  · exact .refl d
  · exact (Dev.onStore_records (by intro s; rfl) d).trans (Dev.storeRepair_records ..)
  · exact (Dev.onStore_records (by intro s; rfl) d).trans (Dev.storeRepair_records ..)
  · exact (Dev.onStore_records (by intro s; rfl) d).trans (Dev.raise_records ..)

theorem Dev.bootPw_records (matched : Bool) (d : Dev) : d.OnlyRecords (d.bootPw matched) := by
  unfold Dev.bootPw
  dsimp only
  split
  · exact .refl d
  · exact (Dev.onStore_records (by intro s; rfl) d).trans (Dev.storeRepair_records ..)
  · exact (Dev.onStore_records (by intro s; rfl) d).trans (Dev.storeRepair_records ..)
  · exact (Dev.onStore_records (by intro s; rfl) d).trans (Dev.raise_records ..)

theorem Dev.bootLogw_records (d : Dev) : d.OnlyRecords d.bootLogw := by
  unfold Dev.bootLogw
  dsimp only
  split
  · exact .refl d
  · exact (Dev.onStore_records (by intro s; rfl) d).trans (Dev.storeRepair_records ..)
  · exact (Dev.onStore_records (by intro s; rfl) d).trans (Dev.storeRepair_records ..)
  · exact ((d.onLog_records _).trans (Dev.onStore_records (by intro s; rfl) _)).trans (Dev.raise_records ..)

/-- The password record that both lost copies leave: LOCKED, with 0xAB (R322). -/
def Dev.PwLost (d : Dev) : Prop := d.store.pw.state = 2 ∧ d.hasFault 0xAB .device 0 = true

theorem Dev.bootPw_loses {d : Dev} (lostA : d.store.pwA.valid = false) (lostB : d.store.pwB.valid = false) (matched : Bool) :
    (d.bootPw matched).PwLost := by
  have lost : chooseCopy d.store.pwA d.store.pwB matched = .lost := by simp [chooseCopy, lostA, lostB]
  unfold Dev.bootPw
  simp only [lost]
  exact ⟨rfl, Dev.hasFault_raise ..⟩

theorem Dev.bootCal_pwCopies (matched : Bool) (d : Dev) : (d.bootCal matched).store.pwA = d.store.pwA ∧ (d.bootCal matched).store.pwB = d.store.pwB := by
  unfold Dev.bootCal
  dsimp only
  split
  · exact ⟨rfl, rfl⟩
  · rw [Dev.storeRepair_store]
    exact ⟨rfl, rfl⟩
  · rw [Dev.storeRepair_store]
    exact ⟨rfl, rfl⟩
  · exact ⟨rfl, rfl⟩

theorem Dev.bootLogw_pw (d : Dev) : d.bootLogw.store.pw = d.store.pw := by
  unfold Dev.bootLogw
  dsimp only
  split
  · rfl
  · rw [Dev.storeRepair_store]
    rfl
  · rw [Dev.storeRepair_store]
    rfl
  · rfl

/-- The store copies as the OTP's read finds them, and the log with its torn and lost entries named. -/
def Dev.markStores (bad : List Nat) (torn : Bool) (d : Dev) : Dev :=
  let mark := fun (k : Nat) (c : StoreCopy) => { c with valid := c.valid && !bad.contains k }
  let d := d.onStore fun s =>
    { s with calA := mark 0 s.calA, calB := mark 1 s.calB, pwA := mark 2 s.pwA, pwB := mark 3 s.pwB
             lwA := mark 4 s.lwA, lwB := mark 5 s.lwB }
  let d := if torn then d.onLog ChangeLog.tear else d
  d.log.gaps.foldl (fun (d : Dev) n => d.deviceEntry { action := 0x0051, object := BitVec.ofNat 32 n }) d

theorem Dev.bootStores_eq (bad : List Nat) (torn : Bool) (d : Dev) :
    d.bootStores bad torn = (((d.markStores bad torn).bootCal (!torn)).bootPw (!torn)).bootLogw.logCapacity := rfl

theorem Dev.foldl_records {α : Type} {f : Dev → α → Dev} (one : ∀ (d : Dev) a, d.OnlyRecords (f d a)) (l : List α) (d : Dev) : d.OnlyRecords (l.foldl f d) := by
  induction l generalizing d with
  | nil => exact .refl d
  | cons a l ih => exact (one d a).trans (ih _)

theorem Dev.markStores_records (bad : List Nat) (torn : Bool) (d : Dev) : d.OnlyRecords (d.markStores bad torn) := by
  unfold Dev.markStores
  dsimp only
  refine Dev.OnlyRecords.trans ?_ (Dev.foldl_records (fun d n => d.deviceEntry_records _) _ _)
  split
  · exact (Dev.onStore_records (by intro s; rfl) d).trans (Dev.onLog_records ..)
  · exact Dev.onStore_records (by intro s; rfl) d

theorem Dev.markStores_pwCopies (bad : List Nat) (torn : Bool) (d : Dev) :
    (d.markStores bad torn).store.pwA.valid = (d.store.pwA.valid && !bad.contains 2)
      ∧ (d.markStores bad torn).store.pwB.valid = (d.store.pwB.valid && !bad.contains 3) := by
  unfold Dev.markStores
  dsimp only
  rw [foldl_keeps (view := Dev.store) fun e n => e.deviceEntry_store _]
  split
  · exact ⟨rfl, rfl⟩
  · exact ⟨rfl, rfl⟩

theorem Dev.bootStores_records (bad : List Nat) (torn : Bool) (d : Dev) : d.OnlyRecords (d.bootStores bad torn) := by
  rw [Dev.bootStores_eq]
  exact ((((d.markStores_records bad torn).trans (Dev.bootCal_records ..)).trans (Dev.bootPw_records ..)).trans
    (Dev.bootLogw_records _)).trans (Dev.logCapacity_records _)

theorem Dev.bootStores_pwLost {bad : List Nat} (badA : 2 ∈ bad) (badB : 3 ∈ bad) (torn : Bool) (d : Dev) : (d.bootStores bad torn).PwLost := by
  obtain ⟨markA, markB⟩ := d.markStores_pwCopies bad torn
  obtain ⟨calA, calB⟩ := (d.markStores bad torn).bootCal_pwCopies (!torn)
  obtain ⟨state, fault⟩ : (((d.markStores bad torn).bootCal (!torn)).bootPw (!torn)).PwLost := by
    refine Dev.bootPw_loses ?_ ?_ _
    · rw [calA, markA]
      simp [badA]
    · rw [calB, markB]
      simp [badB]
  rw [Dev.bootStores_eq]
  refine ⟨?_, ((Dev.bootLogw_records _).trans (Dev.logCapacity_records _)).faults _ _ _ _ (by decide) fault⟩
  rw [Dev.logCapacity_store, Dev.bootLogw_pw]
  exact state

/-! ## Phases (Table STU-2) -/

theorem Dev.inPhase_iff (ph : BootPhase) (st : SysState) (d : Dev) : d.inPhase ph st = true ↔ d.InPhase ph st := by
  simp [Dev.inPhase, Dev.InPhase]

/-- The device goes on to a phase: time, outputs and the active rig stand. -/
def Dev.GoesTo (d : Dev) (ph : BootPhase) (st : SysState) (e : Dev) : Prop :=
  e.InPhase ph st ∧ d.SameTime e ∧ e.outputs = d.outputs ∧ e.rig.active = d.rig.active

theorem Dev.toPhase_goes (ph : BootPhase) (st : SysState) {d e : Dev} (time : d.SameTime e) (outputs : e.outputs = d.outputs)
    (rig : e.rig.active = d.rig.active) : d.GoesTo ph st (e.toPhase ph st) := by
  obtain ⟨a, b, eq, nodes⟩ := e.onHalves_spec fun n => { n with phase := ph, sys := st }
  have phase : e.toPhase ph st = e.onHalves fun n => { n with phase := ph, sys := st } := rfl
  refine ⟨fun h mem => ?_, ?_, ?_, ?_⟩
  · rw [phase] at mem ⊢
    rw [Dev.onHalves_node mem]
    exact ⟨rfl, rfl⟩
  · rw [phase, eq]
    exact time
  · rw [phase, eq]
    exact outputs
  · rw [phase, eq]
    exact rig

theorem Dev.toPhase_spec (ph : BootPhase) (st : SysState) (d : Dev) : ∃ a b, d.toPhase ph st = { d with nodeA := a, nodeB := b } := by
  obtain ⟨a, b, eq, -⟩ := d.onHalves_spec fun n => { n with phase := ph, sys := st }
  exact ⟨a, b, eq⟩

end Sys2Proof.Machine
end

section
/-! The phases' own commands, the join window and the steps of SHUTDOWN (R262 to R269, R272). -/
namespace Sys2Proof.Machine

/-- A command of one phase that hands on to the next. -/
theorem State.lift_goes {s : State} {f : Dev → Dev} {ph : BootPhase} {st : SysState} (goes : s.dev.GoesTo ph st (f s.dev)) :
    (s.lift f).dev.InPhase ph st ∧ s.lift f = { s with dev := (s.lift f).dev } ∧ s.dev.SameTime (s.lift f).dev
      ∧ (s.lift f).dev.outputs = s.dev.outputs ∧ (s.lift f).dev.rig.active = s.dev.rig.active := by
  obtain ⟨phase, time, outputs, rig⟩ := goes
  exact ⟨phase, rfl, time, outputs, rig⟩

theorem Dev.inPhase_false {d : Dev} {ph : BootPhase} {st : SysState} (outside : ¬ d.InPhase ph st) : (!d.inPhase ph st) = true := by
  rw [Bool.not_eq_true']
  exact Bool.eq_false_iff.mpr (mt (d.inPhase_iff ph st).mp outside)

theorem Dev.inPhase_true {d : Dev} {ph : BootPhase} {st : SysState} (inside : d.InPhase ph st) : ¬ (!d.inPhase ph st) = true := by
  simp [(d.inPhase_iff ph st).mpr inside]

/-! ## OTP, memories and front end -/

section
variable {s : State} (out : s.dev.inReset = false) (live : s.dev.AllLive)
include out live

theorem exec_otpLoad_fails (inside : s.dev.InPhase .otp .boot) {o : OtpObs} (bad : o.uncorrectable = true ∨ o.checksumBad = true) :
    ∃ t, exec (.otpLoad o) s = .next t ∧ t.dev.EnteredSafe 0x27 0 s.dev ∧ t = { s with dev := t.dev } := by
  refine up_entersSafe (e := s.dev.onStore fun st => { st with otpCor := min 65535 o.corrected }) out ?_ live rfl rfl
  exact (if_neg (Dev.inPhase_true inside)).trans (if_pos (by simpa using bad))

theorem exec_memoryTest_fails (inside : s.dev.InPhase .memory .selftest) {march : List Bool} (romA romB : Bool) (bad : ∃ b ∈ march, b = false) :
    ∃ t, exec (.memoryTest march romA romB) s = .next t ∧ t.dev.EnteredSafe 0x26 0 s.dev ∧ t = { s with dev := t.dev } := by
  refine up_entersSafe (e := s.dev) out ?_ live rfl rfl
  exact (if_neg (Dev.inPhase_true inside)).trans (if_pos (by simpa using bad))

theorem exec_memoryTest_badRom (inside : s.dev.InPhase .memory .selftest) {march : List Bool} (sound : ¬ ∃ b ∈ march, b = false) {romA romB : Bool}
    (bad : romA = false ∨ romB = false) :
    ∃ t, exec (.memoryTest march romA romB) s = .next t ∧ t.dev.EnteredSafe 0x24 0 s.dev ∧ t = { s with dev := t.dev } := by
  refine up_entersSafe (e := s.dev) out ?_ live rfl rfl
  exact (if_neg (Dev.inPhase_true inside)).trans ((if_neg (by simpa using sound)).trans (if_pos (by
    rcases bad with a | b
    · simp [a]
    · simp [b])))

end

section
variable {s : State} (out : s.dev.inReset = false)
include out

theorem exec_otpLoad_passes (inside : s.dev.InPhase .otp .boot) {o : OtpObs} (good : ¬ (o.uncorrectable = true ∨ o.checksumBad = true)) :
    exec (.otpLoad o) s = .next (s.lift fun d =>
      ((d.onStore fun st => { st with otpCor := min 65535 o.corrected }).bootStores o.badCopies o.tornEntry).toPhase .memory .selftest) :=
  exec_up_as rfl out ((if_neg (Dev.inPhase_true inside)).trans (if_neg (by simpa using good)))

theorem exec_memoryTest_passes (inside : s.dev.InPhase .memory .selftest) {march : List Bool} (sound : ¬ ∃ b ∈ march, b = false) {romA romB : Bool}
    (good : ¬ (romA = false ∨ romB = false)) :
    exec (.memoryTest march romA romB) s = .next (s.lift fun d => d.clearBanks.toPhase .frontEnd .selftest) := by
  obtain ⟨a, b⟩ := not_or.mp good
  exact exec_up_as rfl out ((if_neg (Dev.inPhase_true inside)).trans ((if_neg (by simpa using sound)).trans (if_neg (by simp_all))))

end

theorem Dev.bootStores_goes (o : OtpObs) (d : Dev) :
    d.GoesTo .memory .selftest (((d.onStore fun st => { st with otpCor := min 65535 o.corrected }).bootStores o.badCopies o.tornEntry).toPhase .memory .selftest) := by
  obtain ⟨f, l, st, eq⟩ := ((d.onStore fun st => { st with otpCor := min 65535 o.corrected }).bootStores_records o.badCopies o.tornEntry).device
  rw [eq]
  exact Dev.toPhase_goes _ _ (d := d) ⟨rfl, rfl, rfl, rfl⟩ rfl rfl

theorem Dev.toPhase_store (ph : BootPhase) (st : SysState) (d : Dev) : (d.toPhase ph st).store = d.store := by
  obtain ⟨a, b, eq⟩ := d.toPhase_spec ph st
  rw [eq]

theorem Dev.toPhase_faults (ph : BootPhase) (st : SysState) (d : Dev) : (d.toPhase ph st).faults = d.faults := by
  obtain ⟨a, b, eq⟩ := d.toPhase_spec ph st
  rw [eq]

theorem Dev.toPhase_systems (ph : BootPhase) (st : SysState) (d : Dev) : (d.toPhase ph st).systems = d.systems := by
  obtain ⟨a, b, eq⟩ := d.toPhase_spec ph st
  rw [eq]

theorem Dev.toPhase_hasFault (ph : BootPhase) (st : SysState) (d : Dev) (code : Nat) (k : Kind) (obj : Nat) (h : Half) :
    (d.toPhase ph st).hasFault code k obj h = d.hasFault code k obj h := by
  obtain ⟨a, b, eq⟩ := d.toPhase_spec ph st
  rw [eq]
  rfl

theorem Dev.toPhase_halfOfSys (ph : BootPhase) (st : SysState) (d : Dev) : (d.toPhase ph st).halfOfSys = d.halfOfSys := by
  obtain ⟨a, b, eq⟩ := d.toPhase_spec ph st
  rw [eq]
  rfl

/-! ## The front-end test (R264) -/

/-- A system that fails the front-end test. -/
def Dev.failFrontEnd (d : Dev) (i : Nat) : Dev := (d.onSys i fun s => { s with feFailed := true }).raiseSys i 0x3E

/-- Of the device at most systems and faults differ, and no fault goes. -/
structure Dev.OnlySystems (d e : Dev) : Prop where
  device : ∃ f l, e = { d with faults := f, systems := l }
  faults : Dev.FaultsStay [] d e
  length : e.systems.length = d.systems.length
  failed : ∀ i, (d.sys i).feFailed = true → (e.sys i).feFailed = true

theorem Dev.OnlySystems.refl (d : Dev) : d.OnlySystems d := ⟨⟨_, _, rfl⟩, .of_eq rfl, rfl, fun _ => id⟩

theorem Dev.OnlySystems.trans {d e f : Dev} (h : d.OnlySystems e) (k : e.OnlySystems f) : d.OnlySystems f where
  device := by
    obtain ⟨_, _, rfl⟩ := h.device
    obtain ⟨f, l, rfl⟩ := k.device
    exact ⟨f, l, rfl⟩
  faults := h.faults.trans k.faults
  length := k.length.trans h.length
  failed i there := k.failed i (h.failed i there)

theorem Dev.foldl_systems {f : Dev → Nat → Dev} (one : ∀ (d : Dev) i, d.OnlySystems (f d i)) (l : List Nat) (d : Dev) : d.OnlySystems (l.foldl f d) := by
  induction l generalizing d with
  | nil => exact .refl d
  | cons i l ih => exact (one d i).trans (ih _)

theorem Dev.onSys_failed {f : Sys → Sys} (keep : ∀ x, x.feFailed = true → (f x).feFailed = true) (i : Nat) {d : Dev} {j : Nat}
    (there : (d.sys j).feFailed = true) : ((d.onSys i f).sys j).feFailed = true := by
  by_cases same : j = i ∧ i < d.systems.length
  · obtain ⟨rfl, listed⟩ := same
    rw [Dev.sys_onSys listed]
    exact keep _ there
  · have still : (d.onSys i f).systems[j]? = d.systems[j]? := by
      by_cases other : j = i
      · subst other
        have unlisted : d.systems.length ≤ j := Nat.not_lt.mp fun listed => same ⟨rfl, listed⟩
        rw [List.getElem?_eq_none unlisted, List.getElem?_eq_none (by rwa [Dev.onSys, List.length_modify])]
      · exact getElem?_modify_ne _ _ other
    rw [Dev.sys, List.getD_eq_getElem?_getD] at there ⊢
    rwa [still]

theorem Dev.failFrontEnd_systems (d : Dev) (i : Nat) : d.OnlySystems (d.failFrontEnd i) where
  device := ⟨_, _, rfl⟩
  faults := Dev.FaultsStay.raise [] 0x3E .system i (d.onSys i fun s => { s with feFailed := true }) (d.halfOfSys i) 0xFFFF
  length := List.length_modify ..
  failed _ there := Dev.onSys_failed (fun _ _ => rfl) i there

/-- A system that the test has failed: 0x3E stands on it. -/
def Dev.FrontEndFailed (d : Dev) (i : Nat) : Prop := (d.sys i).feFailed = true ∧ d.sysFault i 0x3E = true

theorem Dev.OnlySystems.keeps_failed {d e : Dev} (h : d.OnlySystems e) {i : Nat} (there : d.FrontEndFailed i) : e.FrontEndFailed i := by
  obtain ⟨failed, fault⟩ := there
  refine ⟨h.failed i failed, ?_⟩
  have half : e.halfOfSys i = d.halfOfSys i := by
    obtain ⟨f, l, eq⟩ := h.device
    rw [eq]
    rfl
  rw [Dev.sysFault, half]
  exact h.faults _ _ _ _ (by decide) fault

theorem Dev.failFrontEnd_fails {d : Dev} {i : Nat} (listed : i < d.systems.length) : (d.failFrontEnd i).FrontEndFailed i :=
  ⟨congrArg Sys.feFailed (Dev.sys_onSys (f := fun s => { s with feFailed := true }) listed),
    Dev.hasFault_raise 0x3E .system i (d.onSys i fun s => { s with feFailed := true }) (d.halfOfSys i) 0xFFFF⟩

theorem Dev.foldl_failFrontEnd_fails {i : Nat} {l : List Nat} (mem : i ∈ l) {d : Dev} (listed : i < d.systems.length) :
    (l.foldl Dev.failFrontEnd d).FrontEndFailed i := by
  induction l generalizing d with
  | nil => cases mem
  | cons j l ih =>
    rcases List.mem_cons.mp mem with rfl | rest
    · exact (Dev.foldl_systems Dev.failFrontEnd_systems l _).keeps_failed (Dev.failFrontEnd_fails listed)
    · exact ih rest (by rwa [(d.failFrontEnd_systems j).length])

theorem mem_frontEndFailures {l : List FrontEndObs} {i : Nat} {o : FrontEndObs} (there : l[i]? = some o) (head : i < 32) (failed : o.ok = false) :
    i ∈ frontEndFailures l := by
  refine List.mem_filterMap.mpr ⟨(o, i), ?_, by simp [failed]⟩
  rw [List.mk_mem_zipIdx_iff_getElem?, List.getElem?_take, if_pos head]
  exact there

/-- The front end is sound but for single systems: S32, the reference, the zero and the hold (R264). -/
def Dev.FrontEndBad (d : Dev) (l : List FrontEndObs) (vref gnd : Nat) (holdOk : Bool) : Prop :=
  (∃ o ∈ l.drop 32, o.ok = false) ∨ d.expectedRef + 6 < vref ∨ vref + 6 < d.expectedRef ∨ 4 < gnd ∨ holdOk = false

theorem Dev.frontEndBad_iff (d : Dev) (l : List FrontEndObs) (vref gnd : Nat) (holdOk : Bool) :
    (!(l.drop 32).all FrontEndObs.ok || !d.adcOk vref gnd || !holdOk) = true ↔ d.FrontEndBad l vref gnd holdOk := by
  simp only [Dev.FrontEndBad, Dev.adcOk, Bool.or_eq_true, Bool.not_eq_true', Bool.and_eq_false_iff, decide_eq_false_iff_not, Nat.not_le,
    List.all_eq_false, Bool.not_eq_true, or_assoc]

section
variable {s : State} (out : s.dev.inReset = false) (inside : s.dev.InPhase .frontEnd .selftest) {l : List FrontEndObs} {vref gnd : Nat} {holdOk : Bool}
include out inside

theorem exec_frontEndTest_fails (live : s.dev.AllLive) (bad : s.dev.FrontEndBad l vref gnd holdOk) :
    ∃ t, exec (.frontEndTest l vref gnd holdOk) s = .next t ∧ t.dev.EnteredSafe 0x3F 0 s.dev ∧ t = { s with dev := t.dev } := by
  refine up_entersSafe (e := s.dev) out ?_ live rfl rfl
  exact (if_neg (Dev.inPhase_true inside)).trans (if_pos ((Dev.frontEndBad_iff ..).mpr bad))

theorem exec_frontEndTest_passes (sound : ¬ s.dev.FrontEndBad l vref gnd holdOk) :
    exec (.frontEndTest l vref gnd holdOk) s = .next (s.lift fun d =>
      ((frontEndFailures l).foldl Dev.failFrontEnd d).toPhase
        (if ((frontEndFailures l).foldl Dev.failFrontEnd d).split then .sweep else .lockstep) .selftest) :=
  exec_up_as rfl out ((if_neg (Dev.inPhase_true inside)).trans (if_neg (mt (Dev.frontEndBad_iff ..).mp sound)))

end

theorem Dev.OnlySystems.goes {d e : Dev} (h : d.OnlySystems e) (ph : BootPhase) (st : SysState) : d.GoesTo ph st (e.toPhase ph st) := by
  obtain ⟨f, l, eq⟩ := h.device
  rw [eq]
  exact Dev.toPhase_goes ph st (d := d) ⟨rfl, rfl, rfl, rfl⟩ rfl rfl

theorem Dev.OnlySystems.split {d e : Dev} (h : d.OnlySystems e) : e.split = d.split := by
  obtain ⟨f, l, eq⟩ := h.device
  rw [eq]
  rfl

theorem Dev.toPhase_frontEndFailed {d : Dev} {i : Nat} (failed : d.FrontEndFailed i) (ph : BootPhase) (st : SysState) :
    (d.toPhase ph st).FrontEndFailed i := by
  obtain ⟨failed, fault⟩ := failed
  refine ⟨?_, ?_⟩
  · rw [Dev.sys, Dev.toPhase_systems]
    exact failed
  · rw [Dev.sysFault, Dev.toPhase_hasFault, Dev.toPhase_halfOfSys]
    exact fault

/-! ## The lockstep comparators and the supply sweep (R265, R266) -/

theorem comparatorTestOk_iff (flagged : List (Bool × Bool)) (spurious : Bool) :
    comparatorTestOk flagged spurious = true ↔ flagged.length = 6 ∧ (∀ f ∈ flagged, f.1 = true ∧ f.2 = true) ∧ spurious = false := by
  simp [comparatorTestOk, and_assoc]

theorem Dev.sweepOver_of_frame {d : Dev} {f : Word} (runs : d.sweepFrame = some f) : d.sweepOver = decide (63 ≤ since d.frame f) := by
  simp only [Dev.sweepOver, runs]
  rfl

theorem sweepGenerated_iff (frames : List SweepFrame) :
    (frames.zipIdx.all fun x => x.1.generated x.2) = true ↔ ∀ p x, frames[p]? = some x → SweepFrame.generated p x = true := by
  rw [List.all_eq_true]
  refine ⟨fun all p x there => all (x, p) (List.mk_mem_zipIdx_iff_getElem?.mpr there), fun all y mem => ?_⟩
  obtain ⟨x, p⟩ := y
  exact all p x (List.mk_mem_zipIdx_iff_getElem?.mp mem)

theorem Dev.raiseHed_systems (code : Nat) (d : Dev) (i : Nat) : d.OnlySystems (d.raiseHed i code) where
  device := ⟨_, _, rfl⟩
  faults := Dev.FaultsStay.raise [] code .system i d (d.halfOfSys i) 0xFFFF
  length := List.length_modify ..
  failed _ there := Dev.onSys_failed (f := fun x => { x with clean := 0 }) (fun _ failed => failed) i there

/-- The nodes that some frame of the sweep does not show LOW are recorded. -/
theorem Dev.foldl_raiseHed_faults {code i : Nat} {l : List Nat} (mem : i ∈ l) (d : Dev) :
    (l.foldl (fun (d : Dev) i => d.raiseHed i code) d).sysFault i code = true := by
  have keeps {d e : Dev} (h : d.OnlySystems e) (there : d.sysFault i code = true) : e.sysFault i code = true := by
    have half : e.halfOfSys i = d.halfOfSys i := by
      obtain ⟨f, l, eq⟩ := h.device
      rw [eq]
      rfl
    rw [Dev.sysFault, half]
    exact h.faults _ _ _ _ (by simp) there
  induction l generalizing d with
  | nil => cases mem
  | cons j l ih =>
    rcases List.mem_cons.mp mem with rfl | rest
    · exact keeps (Dev.foldl_systems (fun d i => d.raiseHed_systems code i) l _) (Dev.hasFault_raise code .system i d (d.halfOfSys i) 0xFFFF)
    · exact ih rest _

theorem mem_sweepNotLow {frames : List SweepFrame} {i : Nat} {x : SweepFrame} (head : i < 32) (mem : x ∈ frames)
    (notLow : nodeClassOf (x.nodes.getD i 0) x.vfld ≠ .low) : i ∈ sweepNotLow frames := by
  refine List.mem_filter.mpr ⟨List.mem_range.mpr head, List.any_eq_true.mpr ⟨x, mem, decide_eq_true notLow⟩⟩

/-- The device whose nodes the sweep has judged. -/
def Dev.swept (frames : List SweepFrame) (d : Dev) : Dev := (sweepNotLow frames).foldl (fun (d : Dev) i => d.raiseHed i 0x31) d

theorem Dev.swept_systems (frames : List SweepFrame) (d : Dev) : d.OnlySystems (d.swept frames) :=
  Dev.foldl_systems (fun d i => d.raiseHed_systems 0x31 i) _ d

/-- What follows the sweep: AWAIT_RIG, or VERIFY with the bank of ST_BOOT (R28). -/
def Dev.afterSweep (d : Dev) : Dev :=
  if d.stackPos ≠ 0 || d.bootSel = 3 then d.toPhase .rigLoad .awaitRig
  else (d.toPhase .rigLoad .verify).onRig fun g => { g with bootBank := if d.bootSel = 1 then 1 else 0, bootTried := 0 }

theorem Dev.afterSweep_sysFault (d : Dev) (i code : Nat) : d.afterSweep.sysFault i code = d.sysFault i code := by
  unfold Dev.afterSweep
  split
  · obtain ⟨a, b, eq⟩ := d.toPhase_spec .rigLoad .awaitRig
    rw [eq]
    rfl
  · obtain ⟨a, b, eq⟩ := d.toPhase_spec .rigLoad .verify
    rw [eq]
    rfl

/-- After the sweep a device goes on to AWAIT_RIG, or to VERIFY with the bank that its straps name. -/
theorem Dev.afterSweep_goes {d e : Dev} (h : d.OnlySystems e) :
    if d.stackPos ≠ 0 ∨ d.bootSel = 3 then d.GoesTo .rigLoad .awaitRig e.afterSweep
    else d.GoesTo .rigLoad .verify e.afterSweep ∧ e.afterSweep.rig.bootBank = (if d.bootSel = 1 then 1 else 0) ∧ e.afterSweep.rig.bootTried = 0 := by
  have straps : e.stackPos = d.stackPos ∧ e.bootSel = d.bootSel := by
    obtain ⟨f, l, eq⟩ := h.device
    rw [eq]
    exact ⟨rfl, rfl⟩
  obtain ⟨pos, sel⟩ := straps
  split
  · next waits =>
    rw [Dev.afterSweep, pos, sel, if_pos (by simpa using waits)]
    exact h.goes .rigLoad .awaitRig
  · next verifies =>
    rw [Dev.afterSweep, pos, sel, if_neg (by simpa using verifies)]
    obtain ⟨phase, time, outputs, rig⟩ := h.goes .rigLoad .verify
    exact ⟨⟨phase, time, outputs, rig⟩, rfl, rfl⟩

section
variable {s : State} (out : s.dev.inReset = false) (inside : s.dev.InPhase .sweep .selftest) {f : Word} (runs : s.dev.sweepFrame = some f)
  (passed : 63 ≤ since s.dev.frame f) {frames : List SweepFrame}
include out inside runs passed

theorem exec_supplySweep_fails (live : s.dev.AllLive) (bad : ∃ p x, frames[p]? = some x ∧ SweepFrame.generated p x = false) :
    ∃ t, exec (.supplySweep frames) s = .next t ∧ t.dev.EnteredSafe 0x3F 0 s.dev ∧ t = { s with dev := t.dev } := by
  refine up_entersSafe (e := s.dev) out ?_ live rfl rfl
  have ungenerated : ¬ (frames.zipIdx.all fun x => x.1.generated x.2) = true := by
    rw [sweepGenerated_iff]
    obtain ⟨p, x, there, wrong⟩ := bad
    exact fun all => Bool.noConfusion ((all p x there).symm.trans wrong)
  refine (if_neg ?_).trans (if_pos (by simpa using ungenerated))
  simp [(s.dev.inPhase_iff ..).mpr inside, Dev.sweepOver_of_frame runs, passed]

theorem exec_supplySweep_passes (good : ∀ p x, frames[p]? = some x → SweepFrame.generated p x = true) :
    exec (.supplySweep frames) s = .next (s.lift fun d => (d.swept frames).afterSweep) := by
  refine exec_up_as rfl out ((if_neg ?_).trans (if_neg ?_))
  · simp [(s.dev.inPhase_iff ..).mpr inside, Dev.sweepOver_of_frame runs, passed]
  · simpa using (sweepGenerated_iff frames).mpr good

end

theorem exec_supplySweep_waits {s : State} (out : s.dev.inReset = false) (frames : List SweepFrame)
    (idle : ¬ s.dev.InPhase .sweep .selftest ∨ ∀ f, s.dev.sweepFrame = some f → since s.dev.frame f < 63) :
    exec (.supplySweep frames) s = .next s := by
  refine exec_up_as rfl out (if_pos ?_)
  rcases idle with outside | early
  · rw [Dev.inPhase_false outside, Bool.true_or]
  · have waits : s.dev.sweepOver = false := by
      cases runs : s.dev.sweepFrame with
      | none => simp only [Dev.sweepOver, runs]
      | some f => rw [Dev.sweepOver_of_frame runs, decide_eq_false (Nat.not_le.mpr (early f runs))]
    simp [waits]


/-! ## The join window (R268, R269) -/

/-- The members that a master records as absent when the window ends. -/
def Dev.absentMembers (d : Dev) : List Nat :=
  if d.stackMaster then (List.range (d.stackN - 1)).filter fun i => decide ((d.member (i + 1)).state ≠ .present) else []

/-- The device with its absent members recorded. -/
def Dev.recordAbsent (d : Dev) : Dev := d.absentMembers.foldl (fun (d : Dev) i => d.raiseMember (i + 1) 0x80) d

theorem Dev.raiseMember_spec (m code : Nat) (d : Dev) : ∃ f, d.raiseMember m code = { d with faults := f }
    ∧ Dev.FaultsStay [] d (d.raiseMember m code) ∧ (d.raiseMember m code).hasFault code .member m = true := by
  unfold Dev.raiseMember
  split
  · next there => exact ⟨_, rfl, .of_eq rfl, there⟩
  · exact ⟨_, rfl, Dev.FaultsStay.raise [] code .member m d .a 0xFFFF, Dev.hasFault_raise ..⟩

theorem Dev.foldl_raiseMember_spec (code : Nat) (l : List Nat) (d : Dev) : ∃ f,
    l.foldl (fun (d : Dev) i => d.raiseMember (i + 1) code) d = { d with faults := f }
    ∧ Dev.FaultsStay [] d (l.foldl (fun (d : Dev) i => d.raiseMember (i + 1) code) d)
    ∧ ∀ i ∈ l, (l.foldl (fun (d : Dev) i => d.raiseMember (i + 1) code) d).hasFault code .member (i + 1) = true := by
  induction l generalizing d with
  | nil => exact ⟨_, rfl, .of_eq rfl, by simp⟩
  | cons j l ih =>
    obtain ⟨f, one, stay, there⟩ := d.raiseMember_spec (j + 1) code
    obtain ⟨g, rest, stays, all⟩ := ih (d.raiseMember (j + 1) code)
    refine ⟨g, ?_, stay.trans stays, fun i mem => ?_⟩
    · rw [List.foldl_cons, rest, one]
    · rcases List.mem_cons.mp mem with rfl | inRest
      · exact stays _ _ _ _ (by simp) there
      · exact all i inRest

/-- The entry into service up to the role, before the half's state is set. -/
def Dev.opensService (h : Half) (d : Dev) : Dev :=
  let d := d.onNode h fun n => { n with phase := .done, line := { n.line with quietFrame := d.frame } }
  let d := { d with tpsRun := true }
  let d := if d.hasLine h && !(d.hasDuplex && d.dpx.pclaim) then d.startJoin h 1 else d
  let seen := fun (p : Probe) => if p.half = h then { p with lastPass := d.frame, lastStart := d.frame } else p
  let d := { d with probe := seen d.probe, probeOther := seen d.probeOther }
  if d.bgw.opened then d else { d with bgw := { d.bgw with opened := true }, log := { d.log with chainStart := d.frame } }

/-- The role of a unit that enters service. -/
def Dev.takeRole (d : Dev) : Dev :=
  if d.split then d
  else if d.hasDuplex then d.onDpx fun x => { x with role := .offline, offAt := d.dt.toNat * 96 }
  else d.onDpx fun x => { x with role := .solo, claim := true, claimFrame := d.frame }

/-- The state of a half in service, and what follows it. -/
def Dev.setService (h : Half) (d : Dev) : Dev :=
  let d := d.onNode h fun n => { n with sys := d.serviceState h }
  { d with faultN := d.faultNLevel }.driveGates

theorem Dev.enterService_eq (h : Half) (d : Dev) : d.enterService h = (d.opensService h).takeRole.setService h := rfl

/-- What the entry of half A into service up to the role leaves, and what it has set. -/
structure Dev.Opens (d e : Dev) : Prop where
  phase : e.nodeA.phase = .done
  safe : e.nodeA.safe = d.nodeA.safe
  tps : e.tpsRun = true
  inReset : e.inReset = d.inReset
  split : e.split = d.split
  duplex : e.hasDuplex = d.hasDuplex
  faults : e.faults = d.faults

theorem Dev.Opens.keep {d e g : Dev} (h : d.Opens e) (phase : g.nodeA.phase = e.nodeA.phase) (safe : g.nodeA.safe = e.nodeA.safe)
    (tps : g.tpsRun = e.tpsRun) (inReset : g.inReset = e.inReset) (straps : g.straps = e.straps) (rig : g.rig = e.rig) (faults : g.faults = e.faults) :
    d.Opens g where
  phase := phase.trans h.phase
  safe := safe.trans h.safe
  tps := tps.trans h.tps
  inReset := inReset.trans h.inReset
  split := by rw [← h.split, Dev.split, straps, Dev.split]
  duplex := by
    rw [← h.duplex]
    simp only [Dev.hasDuplex, Dev.rigPart, rig]
  faults := faults.trans h.faults

theorem Dev.opensService_opens (d : Dev) : d.Opens (d.opensService .a) := by
  have first : d.Opens { d.onNode .a fun n => { n with phase := .done, line := { n.line with quietFrame := d.frame } } with tpsRun := true } :=
    ⟨rfl, rfl, rfl, rfl, rfl, rfl, rfl⟩
  unfold Dev.opensService
  dsimp only
  split
  · split
    · exact first.keep rfl rfl rfl rfl rfl rfl rfl
    · exact first.keep rfl rfl rfl rfl rfl rfl rfl
  · split
    · exact first.keep rfl rfl rfl rfl rfl rfl rfl
    · exact first.keep rfl rfl rfl rfl rfl rfl rfl

/-- The role of an undivided unit that has just taken one. -/
theorem Dev.takeRole_spec {d : Dev} (whole : d.split = false) : ∃ x, d.takeRole = { d with dpx := x }
    ∧ (d.hasDuplex = false → x.role = .solo ∧ x.claim = true) ∧ (d.hasDuplex = true → x.role = .offline) := by
  unfold Dev.takeRole
  rw [if_neg (by simp [whole])]
  split
  · next duplex => exact ⟨_, rfl, fun none => Bool.noConfusion (duplex.symm.trans none), fun _ => rfl⟩
  · next none => exact ⟨_, rfl, fun _ => ⟨rfl, rfl⟩, fun duplex => absurd duplex none⟩

theorem Dev.serviceState_inService (h : Half) (d : Dev) : (d.serviceState h).inService = true := by
  unfold Dev.serviceState
  split <;> rfl

theorem Dev.faultNLevel_of_service {d : Dev} (whole : d.split = false) (out : d.inReset = false) (serves : d.inService .a = true) :
    d.faultNLevel = true := by
  have halves : d.halves = [.a] := if_neg (by simp [whole])
  simp [Dev.faultNLevel, halves, serves, out]

theorem Dev.setService_spec {d : Dev} (whole : d.split = false) (live : d.nodeA.safe = false) (out : d.inReset = false) : ∃ outs st,
    d.setService .a = { d with nodeA := { d.nodeA with sys := st }, faultN := true, outputs := outs } ∧ st.inService = true := by
  have serves : (d.onNode .a fun n => { n with sys := d.serviceState .a }).inService .a = true :=
    Bool.and_eq_true_iff.mpr ⟨d.serviceState_inService .a, (Bool.not_eq_true' _).mpr live⟩
  have level := Dev.faultNLevel_of_service (d := d.onNode .a fun n => { n with sys := d.serviceState .a }) whole out serves
  have steps : d.setService .a = { d.onNode .a (fun n => { n with sys := d.serviceState .a }) with
      faultN := (d.onNode .a fun n => { n with sys := d.serviceState .a }).faultNLevel }.driveGates := rfl
  rw [steps, level]
  exact ⟨_, _, rfl, d.serviceState_inService .a⟩

/-- What the entry of an undivided device into service leaves. -/
theorem Dev.enterService_enters {d : Dev} (whole : d.split = false) (live : d.nodeA.safe = false) (out : d.inReset = false) :
    (d.enterService .a).nodeA.phase = .done ∧ (d.enterService .a).nodeA.sys.inService = true ∧ (d.enterService .a).faultN = true
      ∧ (d.enterService .a).tpsRun = true ∧ (d.hasDuplex = false → (d.enterService .a).dpx.role = .solo ∧ (d.enterService .a).dpx.claim = true)
      ∧ (d.hasDuplex = true → (d.enterService .a).dpx.role = .offline) ∧ (d.enterService .a).faults = d.faults := by
  have opens := d.opensService_opens
  rw [Dev.enterService_eq]
  generalize d.opensService .a = e at opens
  obtain ⟨phase, safe, tps, inReset, split, duplex, faults⟩ := opens
  obtain ⟨x, role, solo, offline⟩ := Dev.takeRole_spec (split.trans whole)
  obtain ⟨outs, st, serves, inService⟩ := Dev.setService_spec (d := { e with dpx := x }) (split.trans whole) (safe.trans live) (inReset.trans out)
  rw [role, serves]
  exact ⟨phase, inService, rfl, tps, fun none => solo (duplex.trans none), fun there => offline (duplex.trans there), faults⟩

/-- Half A waits for its joins, and no window of its members runs any more (R268). -/
def Dev.WindowOver (d : Dev) : Prop :=
  d.nodeA.sys = .verify ∧ d.nodeA.phase = .joins ∧ 999 ≤ since d.frame d.nodeA.joinFrame ∧ d.stackMember = false

theorem Dev.windowOver_iff (d : Dev) : (decide (d.nodeA.sys = .verify) && decide (d.nodeA.phase = .joins)
    && 1000 ≤ d.ago d.nodeA.joinFrame + 1 && !d.stackMember) = true ↔ d.WindowOver := by
  simp only [Dev.WindowOver, Bool.and_eq_true, decide_eq_true_eq, Bool.not_eq_true', and_assoc]
  exact and_congr_right fun _ => and_congr_right fun _ => and_congr_left fun _ => Nat.succ_le_succ_iff

section
variable {s : State} (out : s.dev.inReset = false) (whole : s.dev.split = false)
include out whole

theorem exec_joinWindowEnd_over (ends : s.dev.WindowOver) : exec .joinWindowEnd s = .next (s.lift fun d => d.recordAbsent.enterService .a) := by
  refine exec_up_as rfl out ?_
  have halves : s.dev.halves = [.a] := if_neg (by simpa using whole)
  rw [halves]
  exact if_pos (s.dev.windowOver_iff.mpr ends)

theorem exec_joinWindowEnd_waits (runs : ¬ s.dev.WindowOver) : exec .joinWindowEnd s = .next s := by
  refine exec_up_as rfl out ?_
  have halves : s.dev.halves = [.a] := if_neg (by simpa using whole)
  rw [halves]
  exact if_neg (mt s.dev.windowOver_iff.mp runs)

end

/-! ## SHUTDOWN (R272) -/

section
variable {s : State} (out : s.dev.inReset = false)
include out

theorem exec_shutdownOutputsOff_none (none : s.dev.shut = none) : exec .shutdownOutputsOff s = .next s := by
  refine exec_up_as rfl out ?_
  simp only [none]

theorem exec_shutdownEventsDrained_none (none : s.dev.shut = none) : exec .shutdownEventsDrained s = .next s := by
  refine exec_up_as rfl out ?_
  simp only [none]

variable {r : ShutdownRun} (runs : s.dev.shut = some r)
include runs

/-- Step 2 of SHUTDOWN ends: its half's outputs are off, or its time is over. -/
def Dev.OutputsRest (r : ShutdownRun) (d : Dev) : Prop :=
  (∀ o ∈ d.outputs, o.defd = true → d.halfOfOut o.id = d.halfOfPort r.port → o.state = .off ∨ o.state = .fault) ∨ 1004 ≤ since d.frame r.frame

omit out runs in
theorem Dev.outputsRest_iff (r : ShutdownRun) (d : Dev) : (d.outputs.all (fun (o : Output) => !o.defd || decide (d.halfOfOut o.id ≠ d.halfOfPort r.port)
    || decide (o.state = .off) || decide (o.state = .fault)) || 1004 ≤ d.ago r.frame) = true ↔ d.OutputsRest r := by
  simp only [Dev.OutputsRest, Bool.or_eq_true, decide_eq_true_eq, List.all_eq_true, Bool.not_eq_true', or_assoc]
  refine or_congr (forall₂_congr fun o _ => ?_) Iff.rfl
  rw [← Bool.not_eq_true, ← imp_iff_not_or, ne_eq, ← imp_iff_not_or]

theorem exec_shutdownOutputsOff_rests (two : r.step = 2) (rests : s.dev.OutputsRest r) : exec .shutdownOutputsOff s
    = .next (s.lift fun d => { d with shut := some { r with step := 3, frame := d.frame } }) := by
  refine exec_up_as rfl out ?_
  simp only [runs]
  exact if_pos (Bool.and_eq_true_iff.mpr ⟨decide_eq_true two, (Dev.outputsRest_iff ..).mpr rests⟩)

theorem exec_shutdownOutputsOff_waits (waits : ¬ (r.step = 2 ∧ s.dev.OutputsRest r)) : exec .shutdownOutputsOff s = .next s := by
  refine exec_up_as rfl out ?_
  simp only [runs]
  refine if_neg fun ends => waits ?_
  exact (Bool.and_eq_true_iff.mp ends).imp of_decide_eq_true (Dev.outputsRest_iff ..).mp

end

/-- The completion of SHUTDOWN. -/
def Dev.shutDone (r : ShutdownRun) (d : Dev) : Completion := { opc := 0x27, tag := r.tag, replayed := d.replayed { port := r.port, tag := r.tag } }

theorem Port.mem_deliver {m : Completion} (frame : Word) (x : Port) : { m with frame := m.stamp.getD frame } ∈ (Port.deliver frame [m] x).cq := by
  refine List.mem_append_right _ (List.mem_map_of_mem (List.mem_append.mpr ?_))
  cases listed : x.journal.any (·.tag == m.tag) with
  | true =>
    obtain ⟨c, mem, same⟩ := List.any_eq_true.mp listed
    refine .inl (List.mem_filterMap.mpr ⟨c, mem, ?_⟩)
    rw [List.find?_singleton, if_pos]
    rw [beq_iff_eq] at same ⊢
    exact same.symm
  | false => exact .inr (List.mem_filter.mpr ⟨List.mem_singleton.mpr rfl, by simp [listed]⟩)

theorem Dev.safeHalf_shut (h : Half) (d : Dev) : (d.safeHalf h).shut = d.shut := by
  unfold Dev.safeHalf
  dsimp only
  split <;> split <;> split <;> cases h <;> rfl

theorem Port.abortAll_cq {c : Completion} {x : Port} (mem : c ∈ x.cq) (frame : Word) : c ∈ (x.abortAll frame).cq := List.mem_append_left _ mem

/-- The safe state of a half before the operations of its ports end (Table FLT-4). -/
def Dev.safedHalf (h : Half) (d : Dev) : Dev :=
  let d : Dev := d.onNode h fun n => { n with sys := .safe, safe := true, line := n.line.undriven }
  let d := { d with
    outputs := d.outputs.map fun (o : Output) =>
      if decide (d.halfOfOut o.id = h) then
        { o.applyReq false false with reqHi := false, reqLo := false, gateHi := false, gateLo := false, pulse := none }
      else o
    tps := d.tps.map fun (t : Tps) => if decide (d.halfOfSrc t.id = h) then { t with on := false } else t
    faultN := false, hbeat := false, workWaits := none
    done := d.done.filter fun c => d.halfOfPort c.1 ≠ h }
  let d := (d.linesOff h).setWorked h false
  if d.split then d else { d with dpx := { d.dpx with role := .offline, claim := false, hold := false }, tpsRun := false }

/-- A port of the half that enters its safe state ends its operations. -/
def Dev.endPort (p : Fin 2) (h : Half) (d : Dev) : Dev :=
  if decide (d.halfOfPort p = h) then d.onPort p fun x => x.abortAll d.frame else d

theorem Dev.safeHalf_eq (h : Half) (d : Dev) : d.safeHalf h = ((d.safedHalf h).endPort 0 h).endPort 1 h := rfl

theorem Dev.safedHalf_port (h : Half) (p : Fin 2) (d : Dev) : (d.safedHalf h).port p = d.port p := by
  unfold Dev.safedHalf
  dsimp only
  split <;> cases h <;> rfl

theorem Dev.endPort_cq {c : Completion} {p : Fin 2} {d : Dev} (mem : c ∈ (d.port p).cq) (q : Fin 2) (h : Half) : c ∈ ((d.endPort q h).port p).cq := by
  unfold Dev.endPort
  split
  · by_cases same : p = q
    · subst same
      rw [Dev.onPort, Dev.port_setPort]
      exact Port.abortAll_cq mem _
    · rwa [Dev.onPort, Dev.port_setPort_other _ _ same]
  · exact mem

theorem Dev.safeHalf_cq {c : Completion} {p : Fin 2} {d : Dev} (mem : c ∈ (d.port p).cq) (h : Half) : c ∈ ((d.safeHalf h).port p).cq := by
  rw [Dev.safeHalf_eq]
  exact Dev.endPort_cq (Dev.endPort_cq (by rwa [Dev.safedHalf_port]) 0 h) 1 h

/-- The orderly entry into the safe state, code 1: no fault is recorded (R272, step 5). -/
def Dev.orderly (h : Half) (d : Dev) : Dev := d.enterSafe 0x01 false [h] 0

/-- The device that an orderly entry hands to its half. -/
def Dev.orderlyCause (h : Half) (d : Dev) : Dev :=
  let halfNo := if !d.split then 0 else match [h] with | [.a] => 1 | [.b] => 2 | _ => 3
  { d with
    lastCause := LastCause.record { code := 0x01, half := halfNo, frame := d.frame, dt := dtOf (d.stamp 0), cyc := 0 } d.lastCause ([h].all fun g => (d.node g).safe)
    shut := d.shut.filter fun r => !([h].contains (d.halfOfPort r.port)) }

theorem Dev.orderly_eq {h : Half} {d : Dev} (live : (d.node h).safe = false) : d.orderly h = (d.orderlyCause h).safeHalf h := by
  have steps : d.orderly h = if ((d.orderlyCause h).node h).safe then d.orderlyCause h else (d.orderlyCause h).safeHalf h := rfl
  have still : ((d.orderlyCause h).node h).safe = false := live
  rw [steps, if_neg (by simp [still])]

/-- The half of the port is held, and the rest of the shutdown is as step 5 has it. -/
theorem Dev.orderly_enters {h : Half} {d : Dev} (live : (d.node h).safe = false) {r : ShutdownRun} (runs : d.shut = some r)
    (own : d.halfOfPort r.port = h) :
    (d.orderly h).Held h ∧ (d.orderly h).faultN = false ∧ (d.orderly h).shut = none ∧ (d.orderly h).lastCause.code = 1
      ∧ (d.orderly h).faults = d.faults ∧ ∀ p c, c ∈ (d.port p).cq → c ∈ ((d.orderly h).port p).cq := by
  rw [Dev.orderly_eq live]
  refine ⟨Dev.safeHalf_held .., Dev.safeHalf_faultN .., ?_, ?_, Dev.safeHalf_faults .., fun p c mem => Dev.safeHalf_cq (d := d.orderlyCause h) mem h⟩
  · rw [Dev.safeHalf_shut]
    simp [Dev.orderlyCause, runs, own]
  · rw [Dev.safeHalf_lastCause]
    simp [Dev.orderlyCause, LastCause.record, live]

/-- The port with SHUTDOWN's completion delivered. -/
def Dev.shutDelivered (r : ShutdownRun) (d : Dev) : Dev := d.onPort r.port (Port.deliver d.frame [d.shutDone r])

theorem Dev.shutDelivered_spec (r : ShutdownRun) (d : Dev) : ∃ x y, d.shutDelivered r = { d with port0 := x, port1 := y } := by
  unfold Dev.shutDelivered Dev.onPort Dev.setPort
  split
  · exact ⟨_, _, rfl⟩
  · exact ⟨_, _, rfl⟩

theorem Dev.shutDelivered_cq (r : ShutdownRun) (d : Dev) :
    ∃ c ∈ ((d.shutDelivered r).port r.port).cq, c.opc = 0x27 ∧ c.tag = r.tag ∧ c.status = .ok := by
  rw [Dev.shutDelivered, Dev.onPort, Dev.port_setPort]
  exact ⟨_, Port.mem_deliver _ _, rfl, rfl, rfl⟩

section
variable {s : State} (out : s.dev.inReset = false) {r : ShutdownRun} (runs : s.dev.shut = some r)
include out runs

theorem exec_shutdownEventsDrained_waits (waits : r.step ≠ 3 ∨ s.dev.drained r = false) : exec .shutdownEventsDrained s = .next s := by
  refine exec_up_as rfl out ?_
  simp only [runs]
  refine if_neg ?_
  rcases waits with step | flowing
  · simp [step]
  · simp [flowing]

theorem exec_shutdownEventsDrained_ends (three : r.step = 3) (drained : s.dev.drained r = true) :
    exec .shutdownEventsDrained s = .next (s.lift fun d => (d.shutDelivered r).orderly (s.dev.halfOfPort r.port)) := by
  refine exec_up_as rfl out ?_
  simp only [runs]
  refine (if_pos (by simp [three, drained])).trans ?_
  obtain ⟨x, y, delivered⟩ := s.dev.shutDelivered_spec r
  have halves : (if (s.dev.shutDelivered r).split then [(s.dev.shutDelivered r).halfOfPort r.port] else [.a]) = [s.dev.halfOfPort r.port] := by
    rw [delivered]
    split
    · rfl
    · next whole =>
      have own : s.dev.halfOfPort r.port = .a := by
        have undivided : s.dev.split = false := Bool.eq_false_iff.mpr whole
        simp [Dev.halfOfPort, Dev.halfOf, undivided]
      rw [own]
  exact congrArg (fun hs => (s.dev.shutDelivered r).enterSafe 0x01 false hs 0) halves

end

theorem Dev.halfOfPort_mem (p : Fin 2) (d : Dev) : d.halfOfPort p ∈ d.halves := by
  unfold Dev.halfOfPort Dev.halfOf Dev.halves
  cases d.split with
  | false => simp
  | true =>
    simp only [if_true]
    split <;> simp

end Sys2Proof.Machine
end

section
namespace Sys2Proof.Proofs
open Sys2Proof Sys2Proof.Machine

/-- Settles O56: a phase that passes is `Dev.GoesTo`, one that fails an entry into the safe state; the entry into service is
`Dev.enterService_enters`, the end of SHUTDOWN `Dev.orderly_enters`. -/
theorem startUpAndShutdownRunTheirSteps : Obligations.StartUpAndShutdownRunTheirSteps := by
  unfold Obligations.StartUpAndShutdownRunTheirSteps
  intro s out live
  refine ⟨fun o outside => ?_, fun m a b outside => ?_, fun l v g h outside => ?_, fun f p outside => ?_, exec_supplySweep_waits out,
    fun inside o => ?_, fun inside march romA romB => ?_, fun inside l vref gnd holdOk => ?_, fun inside flagged spurious => ?_,
    fun inside f runs passed frames => ⟨fun bad => ?_, fun good => ?_⟩, fun whole member verify joins => ⟨fun early => ?_, fun late => ?_⟩,
    fun whole idle => ?_, fun none => ?_, fun r runs => ⟨?_, fun waits => ?_, fun three drained => ?_⟩⟩
  · exact exec_up_as rfl out (if_pos (Dev.inPhase_false outside))
  · exact exec_up_as rfl out (if_pos (Dev.inPhase_false outside))
  · exact exec_up_as rfl out (if_pos (Dev.inPhase_false outside))
  · exact exec_up_as rfl out (if_pos (Dev.inPhase_false outside))
  · split
    · next bad => exact exec_otpLoad_fails out live inside bad
    · next good =>
      refine ⟨_, exec_otpLoad_passes out inside good, State.lift_goes (Dev.bootStores_goes o s.dev), ?_, fun badA badB => ?_⟩
      · rw [State.lift_dev, Dev.toPhase_store]
        exact (Dev.bootStores_records ..).otpCor
      · obtain ⟨state, fault⟩ := Dev.bootStores_pwLost badA badB o.tornEntry (s.dev.onStore fun st => { st with otpCor := min 65535 o.corrected })
        rw [State.lift_dev, Dev.toPhase_store, Dev.toPhase_hasFault]
        exact ⟨state, fault⟩
  · split
    · next bad => exact exec_memoryTest_fails out live inside romA romB bad
    · next sound =>
      split
      · next bad => exact exec_memoryTest_badRom out live inside sound bad
      · next good =>
        obtain ⟨a, b, eq⟩ := s.dev.clearBanks.toPhase_spec .frontEnd .selftest
        refine ⟨_, exec_memoryTest_passes out inside sound good, State.lift_goes (Dev.toPhase_goes _ _ ⟨rfl, rfl, rfl, rfl⟩ rfl rfl), ?_, ?_, ?_⟩
        · exact Dev.toPhase_faults ..
        · rw [State.lift_dev, eq]
          rfl
        · rw [State.lift_dev, eq]
          rfl
  · have judged := Dev.foldl_systems Dev.failFrontEnd_systems (frontEndFailures l) s.dev
    split
    · next bad => exact exec_frontEndTest_fails out inside live bad
    · next sound =>
      refine ⟨_, exec_frontEndTest_passes out inside sound, ?_, fun i o there failed head listed => ?_⟩
      · rw [← judged.split]
        exact State.lift_goes (judged.goes _ _)
      · exact Dev.toPhase_frontEndFailed (Dev.foldl_failFrontEnd_fails (mem_frontEndFailures there head failed) listed) ..
  · split
    · next passes =>
      have goes := Dev.toPhase_goes (d := s.dev) (e := s.dev) .sweep .selftest ⟨rfl, rfl, rfl, rfl⟩ rfl rfl
      refine ⟨_, exec_up_as rfl out ((if_neg (Dev.inPhase_true inside)).trans (if_pos ((comparatorTestOk_iff ..).mpr passes))), State.lift_goes goes, ?_⟩
      exact Dev.toPhase_faults ..
    · next fails =>
      refine up_entersSafe (e := s.dev) out ?_ live rfl rfl
      exact (if_neg (Dev.inPhase_true inside)).trans (if_neg (mt (comparatorTestOk_iff ..).mp fails))
  · exact exec_supplySweep_fails out inside runs passed live bad
  · have judged := s.dev.swept_systems frames
    refine ⟨_, exec_supplySweep_passes out inside runs passed good, fun i x head mem notLow => ?_, ?_⟩
    · rw [State.lift_dev, Dev.afterSweep_sysFault]
      exact Dev.foldl_raiseHed_faults (mem_sweepNotLow head mem notLow) s.dev
    · have goes := Dev.afterSweep_goes judged
      dsimp only
      split at goes
      · next waits =>
        rw [if_pos waits]
        exact State.lift_goes goes
      · next verifies =>
        rw [if_neg verifies]
        exact ⟨State.lift_goes goes.1, goes.2⟩
  · exact exec_joinWindowEnd_waits out whole fun ⟨_, _, late, _⟩ => Nat.not_lt.mpr late early
  · obtain ⟨f, absent, -, recorded⟩ := Dev.foldl_raiseMember_spec 0x80 s.dev.absentMembers s.dev
    have live' : s.dev.nodeA.safe = false := live .a (by simp [Dev.halves, whole])
    have same : s.dev.recordAbsent.split = false ∧ s.dev.recordAbsent.nodeA.safe = false ∧ s.dev.recordAbsent.inReset = false
        ∧ s.dev.recordAbsent.hasDuplex = s.dev.hasDuplex := by
      rw [Dev.recordAbsent, absent]
      exact ⟨whole, live', out, rfl⟩
    obtain ⟨whole', safe, out', duplex⟩ := same
    obtain ⟨phase, serves, faultN, tps, solo, offline, faults⟩ := Dev.enterService_enters whole' safe out'
    rw [duplex] at solo offline
    refine ⟨_, exec_joinWindowEnd_over out whole ⟨verify, joins, late, member⟩, phase, serves, faultN, tps, solo, offline, fun master i listed away => ?_⟩
    have mem : i ∈ s.dev.absentMembers := by
      rw [Dev.absentMembers, if_pos master]
      exact List.mem_filter.mpr ⟨List.mem_range.mpr (by omega), decide_eq_true away⟩
    rw [State.lift_dev, Dev.hasFault, faults]
    exact recorded i mem
  · refine exec_joinWindowEnd_waits out whole fun ⟨verify, joins, _, alone⟩ => ?_
    rcases idle with other | other | member
    · exact other verify
    · exact other joins
    · exact Bool.noConfusion (alone.symm.trans member)
  · exact ⟨exec_shutdownOutputsOff_none out none, exec_shutdownEventsDrained_none out none⟩
  · split
    · next ends => exact exec_shutdownOutputsOff_rests out runs ends.1 ends.2
    · next waits => exact exec_shutdownOutputsOff_waits out runs waits
  · exact exec_shutdownEventsDrained_waits out runs waits
  · obtain ⟨x, y, delivered⟩ := s.dev.shutDelivered_spec r
    obtain ⟨c, mem, completion⟩ := s.dev.shutDelivered_cq r
    have same : ((s.dev.shutDelivered r).node (s.dev.halfOfPort r.port)).safe = false ∧ (s.dev.shutDelivered r).shut = some r
        ∧ (s.dev.shutDelivered r).halfOfPort r.port = s.dev.halfOfPort r.port ∧ (s.dev.shutDelivered r).faults = s.dev.faults := by
      rw [delivered]
      refine ⟨?_, runs, rfl, rfl⟩
      exact live _ (s.dev.halfOfPort_mem r.port)
    obtain ⟨running, shut, own, still⟩ := same
    obtain ⟨held, faultN, none, cause, faults, completions⟩ := Dev.orderly_enters running shut own
    exact ⟨_, exec_shutdownEventsDrained_ends out runs three drained, held, faultN, none, cause, faults.trans still,
      c, completions r.port c mem, completion⟩

end Sys2Proof.Proofs
end

section
/-! The master's view of a member (13, R249 to R256): reading it back after a change, and what a member that is lost, frozen or
admitted leaves. -/
namespace Sys2Proof.Machine

/-! ## One member -/

theorem Dev.onMember_eq {m : Nat} (listed : m ≠ 0) (f : HMember → HMember) (d : Dev) :
    d.onMember m f = { d with hal := { d.hal with members := d.hal.members.modify (m - 1) f } } := if_neg listed

theorem Dev.member_eq {m : Nat} (listed : m ≠ 0) (d : Dev) : d.member m = d.hal.members.getD (m - 1) {} := if_neg listed

theorem Dev.member_congr {d e : Dev} (same : e.hal.members = d.hal.members) (m : Nat) : e.member m = d.member m := by
  rw [Dev.member, Dev.member, same]

/-- A position of the ring that the master has a view of. -/
abbrev Dev.Lists (d : Dev) (m : Nat) : Prop := m ≠ 0 ∧ m ≤ d.hal.members.length

theorem Dev.member_onMember {m : Nat} {d : Dev} (lists : d.Lists m) (f : HMember → HMember) : (d.onMember m f).member m = f (d.member m) := by
  obtain ⟨listed, there⟩ := lists
  rw [Dev.onMember_eq listed, Dev.member_eq listed, Dev.member_eq listed]
  exact getD_modify _ _ _ _ (by omega)

theorem Dev.member_onMember_ne {m n : Nat} (other : n ≠ m) (f : HMember → HMember) (d : Dev) : (d.onMember m f).member n = d.member n := by
  by_cases own : m = 0
  · rw [Dev.onMember, if_pos own]
  · by_cases none : n = 0
    · rw [Dev.member, if_pos none, Dev.member, if_pos none]
    · rw [Dev.onMember_eq own, Dev.member_eq none, Dev.member_eq none, List.getD_eq_getElem?_getD, List.getD_eq_getElem?_getD]
      exact congrArg (fun o : Option HMember => o.getD {}) (getElem?_modify_ne _ _ (by omega))

theorem Dev.onMember_onlyAt {m : Nat} (listed : m ≠ 0) (f : HMember → HMember) (d : Dev) : OnlyAt (m - 1) d.hal.members (d.onMember m f).hal.members := by
  rw [Dev.onMember_eq listed]
  exact fun j other => getElem?_modify_ne _ _ other

theorem OnlyAt.trans {α : Type} {i : Nat} {a b c : List α} (h : OnlyAt i a b) (k : OnlyAt i b c) : OnlyAt i a c :=
  fun j other => (k j other).trans (h j other)

theorem Dev.onMember_length (m : Nat) (f : HMember → HMember) (d : Dev) : (d.onMember m f).hal.members.length = d.hal.members.length := by
  unfold Dev.onMember
  split
  · rfl
  · exact List.length_modify ..

/-! ## The requests of a member that is lost (R254) -/

/-- Requests complete MEMBER_ABSENT. -/
def Dev.abandon (rs : List FwdPend) (d : Dev) : Dev :=
  rs.foldl (fun (d : Dev) r => d.complete { port := r.port, opc := r.opc, tag := r.tag } .memberAbsent 0) d

theorem Dev.abandon_spec (rs : List FwdPend) (d : Dev) : ∃ l, d.abandon rs = { d with done := d.done ++ l }
    ∧ ∀ r ∈ rs, (d.abandon rs).Completes r.port r.opc r.tag .memberAbsent 0 := by
  unfold Dev.abandon
  induction rs generalizing d with
  | nil => exact ⟨[], by rw [List.append_nil]; rfl, by simp⟩
  | cons r rs ih =>
    obtain ⟨l, rest, all⟩ := ih (d.complete { port := r.port, opc := r.opc, tag := r.tag } .memberAbsent 0)
    have first : d.complete { port := r.port, opc := r.opc, tag := r.tag } .memberAbsent 0
        = { d with done := d.done ++ [(r.port, { opc := r.opc, tag := r.tag, status := .memberAbsent, data := 0
                                                 replayed := d.replayed { port := r.port, opc := r.opc, tag := r.tag } })] } := rfl
    refine ⟨[(r.port, { opc := r.opc, tag := r.tag, status := .memberAbsent, data := 0
                        replayed := d.replayed { port := r.port, opc := r.opc, tag := r.tag } })] ++ l, ?_, fun q mem => ?_⟩
    rotate_left
    · rcases List.mem_cons.mp mem with rfl | inRest
      · rw [List.foldl_cons, rest]
        exact ⟨_, List.mem_append_left l (List.mem_append_right d.done (List.mem_singleton.mpr rfl)), rfl, rfl, rfl, rfl, rfl⟩
      · exact all q inRest
    · rw [List.foldl_cons, rest, first, List.append_assoc]

/-- The point of a member that is lost. -/
def Point.orphan (m : Nat) (p : Point) : Point :=
  if decide (p.cfg.kind = .member) && p.cfg.stackpos == m then { p.disturb with waits := [] } else p

/-- The requests that a member's loss ends, and the view that is left of it. -/
def Hal.forget (m : Nat) (x : Hal) : Hal :=
  { x with requests := x.requests.filter fun r => r.fwd.member != m, inbox := x.inbox.filter fun u => u.1 ≠ m }

theorem Dev.memberLost_eq (m : Nat) (d : Dev) : d.memberLost m
    = (((d.abandon (d.hal.requests.filter fun r => r.fwd.member == m)).onMember m fun x => { x with probe := {} }).onHal (Hal.forget m)).mapOwn .a (Point.orphan m) := rfl

/-- Requests, points and view of position `m` as the loss of its member leaves them (R254). -/
structure Dev.Loses (m : Nat) (d e : Dev) : Prop where
  requests : ∀ r ∈ e.hal.requests, r.fwd.member ≠ m
  probe : (e.member m).probe = {}
  completes : ∀ r ∈ d.hal.requests, r.fwd.member = m → e.Completes r.port r.opc r.tag .memberAbsent 0
  points : ∀ p ∈ e.ownPoints .a, p.cfg.kind = .member → p.cfg.stackpos = m → p.state = .disturbed ∧ p.waits = []

/-- What the loss of a member changes of the rest: what it does not name, as it was. -/
theorem Dev.memberLost_spec {m : Nat} {d : Dev} (listed : m ≠ 0) : ∃ l a b sh,
    d.memberLost m = { d with
      done := d.done ++ l
      hal := { d.hal with
        members := d.hal.members.modify (m - 1) fun x => { x with probe := {} }
        requests := d.hal.requests.filter fun r => r.fwd.member != m, inbox := d.hal.inbox.filter fun u => u.1 ≠ m }
      nodeA := { d.nodeA with points := a }, nodeB := { d.nodeB with points := b }, dpx := { d.dpx with shadow := sh } }
    ∧ ∀ r ∈ d.hal.requests, r.fwd.member = m → (d.memberLost m).Completes r.port r.opc r.tag .memberAbsent 0 := by
  obtain ⟨l, abandoned, all⟩ := d.abandon_spec (d.hal.requests.filter fun r => r.fwd.member == m)
  rw [Dev.memberLost_eq, Dev.mapOwn_frame]
  generalize (((d.abandon (d.hal.requests.filter fun r => r.fwd.member == m)).onMember m fun x => { x with probe := {} }).onHal (Hal.forget m)).mapOwn .a (Point.orphan m) = e
  rw [abandoned] at all ⊢
  refine ⟨l, e.nodeA.points, e.nodeB.points, e.dpx.shadow, ?_, fun r mem own => ?_⟩
  · rw [Dev.onMember_eq listed]
    rfl
  · rw [Dev.onMember_eq listed]
    exact (all r (List.mem_filter.mpr ⟨mem, by simp [own]⟩)).of_done rfl

theorem Dev.memberLost_ownPoints (m : Nat) (d : Dev) : (d.memberLost m).ownPoints .a = (d.ownPoints .a).map (Point.orphan m) := by
  obtain ⟨l, abandoned, -⟩ := d.abandon_spec (d.hal.requests.filter fun r => r.fwd.member == m)
  rw [Dev.memberLost_eq, Dev.mapOwn_ownPoints, abandoned]
  refine congrArg (List.map _) ?_
  unfold Dev.onMember
  split <;> rfl

theorem Point.orphan_own {m : Nat} {p : Point} (member : (p.orphan m).cfg.kind = .member) (own : (p.orphan m).cfg.stackpos = m) :
    (p.orphan m).state = .disturbed ∧ (p.orphan m).waits = [] := by
  unfold Point.orphan at member own ⊢
  split
  · exact ⟨rfl, rfl⟩
  · next other =>
    rw [if_neg other] at member own
    exact absurd (by simp [member, own]) other

theorem Dev.memberLost_loses {m : Nat} {d : Dev} (lists : d.Lists m) : d.Loses m (d.memberLost m) := by
  obtain ⟨l, a, b, sh, eq, completes⟩ := Dev.memberLost_spec (d := d) lists.1
  refine ⟨?_, ?_, completes, fun p mem member own => ?_⟩
  · rw [eq]
    intro r mem
    simpa using (List.mem_filter.mp mem).2
  · rw [eq, Dev.member_eq lists.1]
    rw [getD_modify _ _ _ _ (by omega : m - 1 < d.hal.members.length)]
  · rw [Dev.memberLost_ownPoints] at mem
    obtain ⟨q, -, rfl⟩ := List.mem_map.mp mem
    exact Point.orphan_own member own

/-- What the loss leaves of the view of its member, of the others' views and of the faults. -/
theorem Dev.memberLost_view {m : Nat} {d : Dev} (lists : d.Lists m) : (d.memberLost m).member m = { d.member m with probe := {} }
    ∧ OnlyAt (m - 1) d.hal.members (d.memberLost m).hal.members ∧ (d.memberLost m).faults = d.faults := by
  obtain ⟨l, a, b, sh, eq, -⟩ := Dev.memberLost_spec (d := d) lists.1
  rw [eq]
  refine ⟨?_, fun j other => getElem?_modify_ne _ _ other, rfl⟩
  rw [Dev.member_eq lists.1, Dev.member_eq lists.1]
  exact getD_modify _ _ _ _ (by have := lists; omega)

theorem Dev.Loses.of_requests {m : Nat} {d d' e : Dev} (same : d'.hal.requests = d.hal.requests) (loses : d'.Loses m e) : d.Loses m e :=
  { loses with completes := fun r mem => loses.completes r (same ▸ mem) }

/-! ## Freezing, leaving and admitting a member -/

/-- A member is frozen: its state and stamp, the fault, the loss (R256). -/
structure Dev.FreezesMember (m : Nat) (d e : Dev) : Prop where
  state : (e.member m).state = .frozen
  stamp : (e.member m).freezeFrame = d.frame
  fault : e.hasFault 0x82 .member m = true
  loses : d.Loses m e
  others : OnlyAt (m - 1) d.hal.members e.hal.members

theorem Dev.FreezesMember.from_view {m : Nat} {d d' e : Dev} (requests : d'.hal.requests = d.hal.requests)
    (members : OnlyAt (m - 1) d.hal.members d'.hal.members) (frame : d'.frame = d.frame) (freezes : d'.FreezesMember m e) : d.FreezesMember m e :=
  { freezes with stamp := freezes.stamp.trans frame, loses := freezes.loses.of_requests requests, others := members.trans freezes.others }

theorem Dev.FreezesMember.frozen {m : Nat} {d e : Dev} (freezes : d.FreezesMember m e) : (e.member m).state = .frozen ∧ (e.member m).freezeFrame = d.frame
    ∧ e.hasFault 0x82 .member m = true ∧ ((∀ r ∈ e.hal.requests, r.fwd.member ≠ m) ∧ (e.member m).probe = {}
      ∧ (∀ r ∈ d.hal.requests, r.fwd.member = m → e.Completes r.port r.opc r.tag .memberAbsent 0)
      ∧ (∀ p ∈ e.ownPoints .a, p.cfg.kind = .member → p.cfg.stackpos = m → p.state = .disturbed ∧ p.waits = []))
    ∧ OnlyAt (m - 1) d.hal.members e.hal.members :=
  ⟨freezes.state, freezes.stamp, freezes.fault, ⟨freezes.loses.requests, freezes.loses.probe, freezes.loses.completes, freezes.loses.points⟩, freezes.others⟩

theorem Dev.Lists.of_length {m : Nat} {d e : Dev} (same : e.hal.members.length = d.hal.members.length) (lists : d.Lists m) : e.Lists m :=
  ⟨lists.1, same ▸ lists.2⟩

/-- The loss of a member whose view has just changed, whatever its faults. -/
theorem Dev.memberLost_after {m : Nat} {d e : Dev} {f : HMember → HMember} (lists : d.Lists m) (hal : e.hal = (d.onMember m f).hal) :
    (e.memberLost m).member m = { f (d.member m) with probe := {} } ∧ d.Loses m (e.memberLost m)
    ∧ OnlyAt (m - 1) d.hal.members (e.memberLost m).hal.members ∧ (e.memberLost m).faults = e.faults := by
  have requests : e.hal.requests = d.hal.requests := by rw [hal, Dev.onMember_eq lists.1]
  have lists' : e.Lists m := lists.of_length (by rw [hal, Dev.onMember_length])
  obtain ⟨shows, others, faults⟩ := Dev.memberLost_view lists'
  refine ⟨?_, (Dev.memberLost_loses lists').of_requests requests, ?_, faults⟩
  · rw [shows, Dev.member_congr (congrArg Hal.members hal), Dev.member_onMember lists]
  · exact (Dev.onMember_onlyAt lists.1 f d).trans (congrArg Hal.members hal ▸ others)

/-- The view of a member that is frozen. -/
def HMember.freeze (frame : Word) (x : HMember) : HMember :=
  { x with state := .frozen, freezeFrame := frame, ready := false, miss := 0, inval := 0 }

theorem Dev.onMember_hal {m : Nat} {d e : Dev} (f : HMember → HMember) (same : e.hal = d.hal) : (e.onMember m f).hal = (d.onMember m f).hal := by
  unfold Dev.onMember
  split
  · exact same
  · exact congrArg (fun x : Hal => { x with members := x.members.modify (m - 1) f }) same

theorem Dev.onMember_faults (m : Nat) (f : HMember → HMember) (d : Dev) : (d.onMember m f).faults = d.faults := by
  unfold Dev.onMember
  split <;> rfl

theorem Dev.hasFault_congr {d e : Dev} (same : e.faults = d.faults) (code : Nat) (k : Kind) (obj : Nat) (h : Half) :
    e.hasFault code k obj h = d.hasFault code k obj h := by
  rw [Dev.hasFault, Dev.hasFault, same]

theorem Dev.freezeMember_freezes {m : Nat} {d : Dev} (code : Nat) (lists : d.Lists m) (serves : (d.member m).state = .joining ∨ (d.member m).state = .present) :
    d.FreezesMember m (d.freezeMember m code) ∧ (d.freezeMember m code).hasFault code .member m = true := by
  obtain ⟨f, first, -, shows⟩ := d.raiseMember_spec m code
  obtain ⟨g, second, stays, shows82⟩ := (d.raiseMember m code).raiseMember_spec m 0x82
  have frozen : d.freezeMember m code
      = (((d.raiseMember m code).raiseMember m 0x82).onMember m (HMember.freeze ((d.raiseMember m code).raiseMember m 0x82).frame)).memberLost m := by
    rw [Dev.freezeMember]
    rcases serves with state | state <;> rw [state] <;> rfl
  have hal : ((d.raiseMember m code).raiseMember m 0x82).hal = d.hal := by rw [second, first]
  have frame : ((d.raiseMember m code).raiseMember m 0x82).frame = d.frame := by rw [second, first]
  obtain ⟨view, loses, others, faults⟩ := Dev.memberLost_after lists (Dev.onMember_hal (HMember.freeze ((d.raiseMember m code).raiseMember m 0x82).frame) hal)
  rw [← frozen] at view loses others faults
  have kept := Dev.hasFault_congr (faults.trans (Dev.onMember_faults ..))
  refine ⟨⟨by rw [view, HMember.freeze], ?_, (kept ..).trans shows82, loses, others⟩, (kept ..).trans (stays _ _ _ _ (by simp) shows)⟩
  rw [view, HMember.freeze, frame]

/-- The view of a member that has left the ring. -/
def HMember.depart (x : HMember) : HMember := { x with state := .absent, ready := false, miss := 0 }

/-- A member whose UP is missing for the second exchange (R251, R254). -/
theorem Dev.memberAbsent_leaves {m : Nat} {d : Dev} (lists : d.Lists m) : ((d.memberAbsent m).member m).state = .absent
    ∧ ((d.memberAbsent m).member m).gotUp = (d.member m).gotUp
    ∧ (d.memberAbsent m).hasFault 0x80 .member m = true ∧ d.Loses m (d.memberAbsent m) := by
  obtain ⟨f, raised, -, shows⟩ := (d.onMember m HMember.depart).raiseMember_spec m 0x80
  have hal : ((d.onMember m HMember.depart).raiseMember m 0x80).hal = (d.onMember m HMember.depart).hal := by rw [raised]
  obtain ⟨view, loses, -, faults⟩ := Dev.memberLost_after lists hal
  have absent : d.memberAbsent m = ((d.onMember m HMember.depart).raiseMember m 0x80).memberLost m := rfl
  rw [absent]
  exact ⟨by rw [view, HMember.depart], by rw [view, HMember.depart], (Dev.hasFault_congr faults ..).trans shows, loses⟩

/-- The view of a member that is admitted with this UP. -/
def HMember.welcome (u : UpMsg) (x : HMember) : HMember :=
  { x with state := .present, ready := u.ready, hash := u.hash, miss := 0, inval := 0, gotUp := true }

/-- The point of a member that is admitted. -/
def Point.restart (m : Nat) (p : Point) : Point := if decide (p.cfg.kind = .member) && p.cfg.stackpos == m then p.disturb else p

theorem Point.restart_own {m : Nat} {p : Point} (member : (p.restart m).cfg.kind = .member) (own : (p.restart m).cfg.stackpos = m) :
    (p.restart m).state = .disturbed := by
  unfold Point.restart at member own ⊢
  split
  · rfl
  · next other =>
    rw [if_neg other] at member own
    exact absurd (by simp [member, own]) other

/-- What admitting a member leaves of its view, its faults and its points (R251, Table HAL-6). -/
theorem Dev.memberPresent_admits {m : Nat} {d : Dev} (u : UpMsg) (lists : d.Lists m) :
    (d.memberPresent m u).member m = (d.member m).welcome u
    ∧ (d.memberPresent m u).hasFault 0x80 .member m = false ∧ (d.memberPresent m u).hasFault 0x82 .member m = false
    ∧ (d.memberPresent m u).hasFault 0x83 .member m = false
    ∧ ∀ p ∈ (d.memberPresent m u).ownPoints .a, p.cfg.kind = .member → p.cfg.stackpos = m → p.state = .disturbed := by
  obtain ⟨e, heldBy⟩ : ∃ e, e = (((d.onMember m (HMember.welcome u)).clearF 0x80 .member m).clearF 0x82 .member m).clearF 0x83 .member m := ⟨_, rfl⟩
  have present : d.memberPresent m u = e.mapOwn .a (Point.restart m) := by
    rw [heldBy]
    rfl
  have members : (e.mapOwn .a (Point.restart m)).hal.members = (d.onMember m (HMember.welcome u)).hal.members := by
    rw [Dev.mapOwn_frame, heldBy]
    rfl
  have faults : (e.mapOwn .a (Point.restart m)).faults = e.faults := by rw [Dev.mapOwn_frame]
  rw [present, Dev.member_congr members, Dev.member_onMember lists]
  refine ⟨rfl, ?_, ?_, ?_, fun p mem member own => ?_⟩
  · rw [Dev.hasFault_congr faults, heldBy, Dev.hasFault_clearF_ne (by decide), Dev.hasFault_clearF_ne (by decide), Dev.hasFault_clearF]
  · rw [Dev.hasFault_congr faults, heldBy, Dev.hasFault_clearF_ne (by decide), Dev.hasFault_clearF]
  · rw [Dev.hasFault_congr faults, heldBy, Dev.hasFault_clearF]
  · rw [Dev.mapOwn_ownPoints] at mem
    obtain ⟨q, -, rfl⟩ := List.mem_map.mp mem
    exact Point.restart_own member own

/-! ## UP (R249 to R253, R256) -/

/-- An UP that names the member's epoch and the rig in force. -/
abbrev Dev.Names (d : Dev) (m : Nat) (u : UpMsg) : Prop := u.epoch = (d.member m).epoch ∧ u.serial = d.activeSerial

abbrev Dev.Sound (d : Dev) (u : UpMsg) : Prop := u.inSlot = true ∧ u.typeOk = true ∧ u.frame = d.frame

theorem Dev.violates_iff {d : Dev} {u : UpMsg} : d.violates u = true ↔ ¬ d.Sound u := by
  unfold Dev.violates Dev.Sound
  cases u.inSlot <;> cases u.typeOk <;> simp

theorem Dev.takeUp_stranger {m : Nat} {d : Dev} {u : UpMsg} (stranger : ¬ d.Names m u) : d.takeUp m u = d.discardUp := by
  unfold Dev.takeUp
  refine if_pos ?_
  simp only [Bool.or_eq_true, decide_eq_true_eq]
  by_contra both
  push Not at both
  exact stranger both

/-- The view of a member whose UP has come without a valid copy. -/
def HMember.lose (x : HMember) : HMember := { x with inval := x.inval + 1 }

/-- What an UP without a fault leaves of the view of a member in service. -/
def HMember.hear (u : UpMsg) (x : HMember) : HMember :=
  { x with gotUp := true, inval := 0, ready := u.ready, hash := u.hash, sysState := u.state, rigFail := u.rigFail }

section
variable {m : Nat} {d : Dev} {u : UpMsg} (named : d.Names m u)
include named

theorem Dev.stranger_not : ¬ (u.epoch ≠ (d.member m).epoch || u.serial ≠ d.activeSerial) = true := by simp [named.1, named.2]

theorem Dev.takeUp_lost (state : (d.member m).state = .absent ∨ (d.member m).state = .frozen) : d.takeUp m u = d.discardUp := by
  unfold Dev.takeUp
  refine (if_neg (Dev.stranger_not named)).trans ?_
  rcases state with h | h <;> simp only [h]

theorem Dev.takeUp_unready (state : (d.member m).state = .joining) (unready : u.ready = false) : d.takeUp m u = d.discardUp := by
  unfold Dev.takeUp
  refine (if_neg (Dev.stranger_not named)).trans ?_
  simp only [state, unready, Bool.not_false, if_true]

theorem Dev.takeUp_joining (state : (d.member m).state = .joining) (ready : u.ready = true) :
    d.takeUp m u = if d.violates u || u.hash ≠ d.activeHash then d.freezeMember m 0x82 else d.memberPresent m u := by
  unfold Dev.takeUp
  refine (if_neg (Dev.stranger_not named)).trans ?_
  simp only [state, ready, Bool.not_true, Bool.false_eq_true, if_false]

theorem Dev.takeUp_present (state : (d.member m).state = .present) : d.takeUp m u = if d.violates u then d.freezeMember m 0x82
    else (d.onMember m (HMember.hear u)).onHal fun h => { h with inbox := h.inbox ++ [(m, u)] } := by
  unfold Dev.takeUp
  refine (if_neg (Dev.stranger_not named)).trans ?_
  simp only [state]
  rfl

end

/-- A pair of copies that agree has come in this exchange (R250). -/
def Dev.pairCame (d : Dev) : Dev := d.onHal fun x => { x with exBoth := true }

section
variable {s : State} {m : Fin 8} (out : s.dev.inReset = false) (master : s.dev.stackMaster = true) (listed : m.val ≠ 0)
include out master listed

/-- Both copies of an UP alike. -/
theorem exec_up_both (u : UpMsg) : exec (.up m (some u) (some u)) s
    = .next { s with dev := s.dev.pairCame.takeUp m.val u } := by
  refine exec_up_as rfl out ((if_neg (by simp [master, listed])).trans ?_)
  simp only [pick, if_true]
  rfl

theorem exec_up_differ {u v : UpMsg} (differ : u ≠ v) : exec (.up m (some u) (some v)) s = .next { s with dev := s.dev.freezeMember m.val 0x83 } := by
  refine exec_up_as rfl out ((if_neg (by simp [master, listed])).trans ?_)
  simp only [pick, if_neg differ]
  rfl

theorem exec_up_none : exec (.up m none none) s = .next { s with dev :=
    if 3 ≤ ((s.dev.onMember m HMember.lose).member m).inval then (s.dev.onMember m HMember.lose).freezeMember m 0x82 else s.dev.onMember m HMember.lose } :=
  exec_up_as rfl out ((if_neg (by simp [master, listed])).trans rfl)

end

/-! ## JOIN_REQ and the grant (R251, R252) -/

/-- A JOIN_REQ that the state of its member lets be asked. -/
abbrev HMember.Asks (frame : Word) (q : JoinReqMsg) (x : HMember) : Prop :=
  x.state = .absent ∨ (x.state = .frozen ∧ q.session ≠ x.session ∧ 2000 ≤ since frame x.freezeFrame)

def HMember.asks (frame : Word) (q : JoinReqMsg) (x : HMember) : Bool :=
  match x.state with
  | .absent => true
  | .frozen => q.session ≠ x.session && 2000 ≤ since frame x.freezeFrame
  | _ => false

theorem HMember.asks_iff {frame : Word} {q : JoinReqMsg} {x : HMember} : x.asks frame q = true ↔ x.Asks frame q := by
  unfold HMember.asks HMember.Asks
  cases x.state <;> simp

/-- The checks of R252 that a JOIN_REQ passes. -/
abbrev Dev.Admits (d : Dev) (q : JoinReqMsg) : Prop := q.pos < d.stackN ∧ q.duplex = (d.position == 1) ∧ q.romver = Config.romVersion

theorem Dev.refusal_eq_zero {d : Dev} {q : JoinReqMsg} (listed : q.pos ≠ 0) : d.refusal q = 0 ↔ d.Admits q := by
  unfold Dev.refusal Dev.Admits
  split
  · next out =>
    have : d.stackN ≤ q.pos := by simpa [listed] using out
    exact iff_of_false (by decide) fun fits => absurd fits.1 (by omega)
  · next within =>
    have there : q.pos < d.stackN := by simpa [listed] using within
    split
    · next differ => exact iff_of_false (by decide) fun fits => by simp [fits.2.1] at differ
    · next duplex =>
      split
      · next rom => exact iff_of_false (by decide) fun fits => rom fits.2.2
      · next rom => exact iff_of_true rfl ⟨there, by simpa using duplex, by simpa using rom⟩

/-- What a master makes of a JOIN_REQ that may be asked. -/
def Dev.judgeJoin (q : JoinReqMsg) (d : Dev) : Dev :=
  if d.refusal q ≠ 0 then (d.onMember q.pos fun x => { x with refuse := d.refusal q }).raiseMember q.pos 0x85 else d.grant q

theorem exec_joinReq {s : State} {q : JoinReqMsg} (out : s.dev.inReset = false) (master : s.dev.stackMaster = true) :
    exec (.joinReq q) s = .next { s with dev := if (s.dev.member q.pos).Asks s.dev.frame q then s.dev.judgeJoin q else s.dev } := by
  have asked : exec (.joinReq q) s = up (fun d => if !d.stackMaster then d else if !(d.member q.pos).asks d.frame q then d else d.judgeJoin q) s := rfl
  refine exec_up_as asked out ((if_neg (by simp [master])).trans ?_)
  by_cases asks : (s.dev.member q.pos).Asks s.dev.frame q
  · exact (if_neg (by simp [HMember.asks_iff.mpr asks])).trans (if_pos asks).symm
  · exact (if_pos (by simpa using mt HMember.asks_iff.mp asks)).trans (if_neg asks).symm

/-- What a refused JOIN_REQ leaves. -/
theorem Dev.judgeJoin_refuses {d : Dev} {q : JoinReqMsg} (lists : d.Lists q.pos) (unfit : ¬ d.Admits q) :
    ((d.judgeJoin q).member q.pos).state = (d.member q.pos).state ∧ ((d.judgeJoin q).member q.pos).refuse ≠ 0
    ∧ (d.judgeJoin q).hasFault 0x85 .member q.pos = true ∧ (d.judgeJoin q).hal.grants = d.hal.grants := by
  have refused : d.refusal q ≠ 0 := fun none => unfit ((Dev.refusal_eq_zero lists.1).mp none)
  obtain ⟨f, raised, -, shows⟩ := (d.onMember q.pos fun x => { x with refuse := d.refusal q }).raiseMember_spec q.pos 0x85
  rw [Dev.judgeJoin, if_pos refused]
  have members : ((d.onMember q.pos fun x => { x with refuse := d.refusal q }).raiseMember q.pos 0x85).hal.members
      = (d.onMember q.pos fun x => { x with refuse := d.refusal q }).hal.members := by rw [raised]
  refine ⟨?_, ?_, shows, ?_⟩
  · rw [Dev.member_congr members, Dev.member_onMember lists]
  · rw [Dev.member_congr members, Dev.member_onMember lists]
    exact refused
  · rw [raised, Dev.onMember_eq lists.1]

/-- The view of a member that is granted an epoch. -/
def HMember.granted (d : Dev) (q : JoinReqMsg) (x : HMember) : HMember :=
  { x with state := .joining, epoch := (d.member q.pos).epoch + 1, refuse := 0, session := q.session, hash := q.hash, ready := false, inval := 0, miss := 0
           grantFrame := d.frame, served := decide (q.hash = d.activeHash) }

theorem Dev.judgeJoin_grants {d : Dev} {q : JoinReqMsg} (lists : d.Lists q.pos) (fits : d.Admits q) :
    (d.judgeJoin q).member q.pos = (d.member q.pos).granted d q ∧ (d.judgeJoin q).hasFault 0x85 .member q.pos = false
    ∧ (d.judgeJoin q).hal.grants = d.hal.grants ++ [{ member := q.pos, epoch := (d.member q.pos).epoch + 1, serial := d.activeSerial, hash := d.activeHash }] := by
  rw [Dev.judgeJoin, if_neg (not_not.mpr ((Dev.refusal_eq_zero lists.1).mpr fits))]
  have grant : d.grant q = ((d.onMember q.pos (HMember.granted d q)).clearF 0x85 .member q.pos).onHal fun x => { x with grants := x.grants ++
      [{ member := q.pos, epoch := (d.member q.pos).epoch + 1, serial := ((d.onMember q.pos (HMember.granted d q)).clearF 0x85 .member q.pos).activeSerial
         hash := ((d.onMember q.pos (HMember.granted d q)).clearF 0x85 .member q.pos).activeHash }] } := rfl
  rw [grant]
  refine ⟨?_, Dev.hasFault_clearF .., ?_⟩
  · exact (Dev.member_congr (d := d.onMember q.pos (HMember.granted d q)) rfl _).trans (Dev.member_onMember lists _)
  · rw [Dev.onMember_eq lists.1]
    rfl

theorem exec_joinGrantTimeout {s : State} {m : Fin 8} (out : s.dev.inReset = false) (master : s.dev.stackMaster = true) (listed : m.val ≠ 0) :
    exec (.joinGrantTimeout m) s = .next { s with dev :=
      if (s.dev.member m).state = .joining ∧ 400 ≤ since s.dev.frame (s.dev.member m).grantFrame then s.dev.onMember m fun x => { x with state := .absent }
      else s.dev } := by
  refine exec_up_as rfl out ?_
  refine if_congr ?_ rfl rfl
  simp only [master, Dev.ago, ne_eq, listed, not_false_eq_true, decide_true, Bool.and_self, Bool.true_and, Bool.and_eq_true, decide_eq_true_eq]
  exact and_congr_right fun _ => decide_eq_true_iff

/-! ## The exchange (R248, R249) -/

/-- The members of the grants take this frame as that of their grant. -/
def Dev.stampGrants (l : List Nat) (d : Dev) : Dev :=
  l.foldl (fun (d : Dev) m => d.onMember m fun x => { x with grantFrame := d.frame }) d

theorem Dev.onMember_hal_eq (m : Nat) (f : HMember → HMember) (d : Dev) : ∃ l, d.onMember m f = { d with hal := { d.hal with members := l } } := by
  unfold Dev.onMember
  split
  · exact ⟨_, rfl⟩
  · exact ⟨_, rfl⟩

theorem Dev.stampGrants_spec (l : List Nat) (d : Dev) : ∃ ms, d.stampGrants l = { d with hal := { d.hal with members := ms } } ∧ ms.length = d.hal.members.length
    ∧ ms.map (·.state) = d.hal.members.map (·.state)
    ∧ ∀ m, d.Lists m → (d.stampGrants l).member m = if m ∈ l then { d.member m with grantFrame := d.frame } else d.member m := by
  unfold Dev.stampGrants
  induction l generalizing d with
  | nil => exact ⟨d.hal.members, rfl, rfl, rfl, fun m _ => by simp⟩
  | cons n l ih =>
    obtain ⟨one, first⟩ := d.onMember_hal_eq n fun x => { x with grantFrame := d.frame }
    obtain ⟨ms, rest, length, states, views⟩ := ih (d.onMember n fun x => { x with grantFrame := d.frame })
    refine ⟨ms, ?_, length.trans (Dev.onMember_length ..), states.trans ?_, fun m lists => ?_⟩
    · rw [List.foldl_cons, rest, first]
    · unfold Dev.onMember
      split
      · rfl
      · exact map_modify_of_keeps (g := HMember.state) (by intro x; rfl) _ _
    · rw [List.foldl_cons, views m (lists.of_length (Dev.onMember_length ..))]
      have frame : (d.onMember n fun x => { x with grantFrame := d.frame }).frame = d.frame := by rw [first]
      by_cases own : m = n
      · subst own
        rw [Dev.member_onMember lists, frame, if_pos List.mem_cons_self]
        split <;> rfl
      · rw [Dev.member_onMember_ne own, frame]
        simp only [List.mem_cons, own, false_or]

/-- The DOWN of this frame. -/
def Dev.downMsg (d : Dev) : DownMsg :=
  { frame := d.frame, dt := d.dt, codePos := d.codePos, role := d.dpx.role, serial := d.activeSerial
    members := d.hal.members.map (·.state), refusals := d.hal.members.map (·.refuse), requests := d.hal.requests.map (·.fwd)
    grants := d.hal.grants.map fun g => { g with frame := d.frame, dt := d.dt, codePos := d.codePos } }

/-- What a DOWN leaves pending. -/
def Hal.sendDown (msg : DownMsg) (x : Hal) : Hal :=
  { x with downSent := some msg, grants := [], requests := x.requests.map fun r => { r with sent := true } }

theorem exec_halyardExchange {s : State} (out : s.dev.inReset = false) (master : s.dev.stackMaster = true) :
    exec .halyardExchange s = .next { s with dev := (s.dev.stampGrants (s.dev.hal.grants.map (·.member))).onHal (Hal.sendDown s.dev.downMsg) } :=
  exec_up_as rfl out ((if_neg (by simp [master])).trans rfl)

/-! ## The close of an exchange (R251, R254) -/

/-- What the close does for the other positions and the ring leaves of position `m`. -/
structure Dev.Spares (m : Nat) (d e : Dev) : Prop where
  state : (e.member m).state = (d.member m).state
  gotUp : (e.member m).gotUp = (d.member m).gotUp
  miss : (e.member m).miss = (d.member m).miss
  probe : (e.member m).probe = (d.member m).probe
  length : e.hal.members.length = d.hal.members.length
  requests : ∀ r : FwdPend, r.fwd.member = m → (r ∈ e.hal.requests ↔ r ∈ d.hal.requests)
  done : d.done ⊆ e.done
  points : ∀ p ∈ e.ownPoints .a, p.cfg.stackpos = m → p ∈ d.ownPoints .a
  faults : Dev.FaultsStay [] d e
  closed : d.hal.exClosed = true → e.hal.exClosed = true
  waits : e.workWaits = d.workWaits

theorem Dev.Spares.refl (m : Nat) (d : Dev) : d.Spares m d where
  state := rfl
  gotUp := rfl
  miss := rfl
  probe := rfl
  length := rfl
  requests _ _ := Iff.rfl
  done _ mem := mem
  points _ mem _ := mem
  faults := .of_eq rfl
  closed := id
  waits := rfl

theorem Dev.Spares.trans {m : Nat} {d e f : Dev} (h : d.Spares m e) (k : e.Spares m f) : d.Spares m f where
  state := k.state.trans h.state
  gotUp := k.gotUp.trans h.gotUp
  miss := k.miss.trans h.miss
  probe := k.probe.trans h.probe
  length := k.length.trans h.length
  requests r own := (k.requests r own).trans (h.requests r own)
  done := List.Subset.trans h.done k.done
  points p mem own := h.points p (k.points p mem own) own
  faults := h.faults.trans k.faults
  closed := k.closed ∘ h.closed
  waits := k.waits.trans h.waits

theorem Dev.Spares.foldl {m : Nat} {α : Type} {f : Dev → α → Dev} {l : List α} (one : ∀ d : Dev, ∀ a ∈ l, d.Spares m (f d a)) (d : Dev) : d.Spares m (l.foldl f d) := by
  induction l generalizing d with
  | nil => exact .refl m d
  | cons a l ih => exact (one d a List.mem_cons_self).trans (ih (fun d b mem => one d b (List.mem_cons_of_mem a mem)) (f d a))

/-- A change of the ring's counts. -/
theorem Dev.Spares.onHal {m : Nat} {f : Hal → Hal} (members : ∀ x, (f x).members = x.members) (requests : ∀ x, (f x).requests = x.requests)
    (closed : ∀ x, x.exClosed = true → (f x).exClosed = true) (d : Dev) : d.Spares m (d.onHal f) := by
  have same : (d.onHal f).member m = d.member m := Dev.member_congr (members d.hal) m
  exact { Dev.Spares.refl m d with
    state := congrArg _ same, gotUp := congrArg _ same, miss := congrArg _ same, probe := congrArg _ same
    length := congrArg _ (members d.hal), requests := fun r _ => by rw [Dev.onHal, requests], closed := closed d.hal
    faults := .of_eq rfl }

theorem Dev.Spares.raised {m : Nat} {d e : Dev} {f : Faults} (eq : e = { d with faults := f }) (stay : Dev.FaultsStay [] d e) : d.Spares m e := by
  subst eq
  exact { Dev.Spares.refl m d with faults := stay }

theorem Dev.Spares.onMember {m i : Nat} (other : m ≠ i) (f : HMember → HMember) (d : Dev) : d.Spares m (d.onMember i f) := by
  have same : (d.onMember i f).member m = d.member m := Dev.member_onMember_ne other f d
  obtain ⟨l, eq⟩ := d.onMember_hal_eq i f
  have length := d.onMember_length i f
  rw [eq] at same length ⊢
  exact { Dev.Spares.refl m d with
    state := congrArg _ same, gotUp := congrArg _ same, miss := congrArg _ same, probe := congrArg _ same
    length := length, faults := .of_eq rfl }

theorem Point.orphan_other {i : Nat} {p : Point} (other : (p.orphan i).cfg.stackpos ≠ i) : p.orphan i = p := by
  unfold Point.orphan at other ⊢
  split
  · next own =>
    rw [if_pos own] at other
    simp only [Bool.and_eq_true, beq_iff_eq] at own
    exact absurd own.2 other
  · rfl

theorem Dev.Spares.memberLost {m i : Nat} (other : m ≠ i) {d : Dev} (listed : i ≠ 0) : d.Spares m (d.memberLost i) := by
  obtain ⟨l, a, b, sh, eq, -⟩ := Dev.memberLost_spec (d := d) listed
  have members : (d.memberLost i).hal.members = (d.onMember i fun x => { x with probe := {} }).hal.members := by rw [eq, Dev.onMember_eq listed]
  have same : (d.memberLost i).member m = d.member m := (Dev.member_congr members m).trans (Dev.member_onMember_ne other ..)
  exact {
    state := congrArg _ same, gotUp := congrArg _ same, miss := congrArg _ same, probe := congrArg _ same
    length := (congrArg _ members).trans (Dev.onMember_length ..)
    requests := fun r own => by
      rw [eq]
      refine List.mem_filter.trans (and_iff_left ?_)
      simpa [own] using other
    done := by
      rw [eq]
      exact List.subset_append_left ..
    points := fun p mem own => by
      rw [Dev.memberLost_ownPoints] at mem
      obtain ⟨q, there, rfl⟩ := List.mem_map.mp mem
      rw [Point.orphan_other (by rw [own]; exact other)]
      exact there
    faults := .of_eq (by rw [eq])
    closed := by rw [eq]; exact id
    waits := by rw [eq] }

theorem Dev.Spares.memberAbsent {m i : Nat} (other : m ≠ i) {d : Dev} (listed : i ≠ 0) : d.Spares m (d.memberAbsent i) := by
  obtain ⟨f, raised, stay, -⟩ := (d.onMember i HMember.depart).raiseMember_spec i 0x80
  exact ((Dev.Spares.onMember other HMember.depart d).trans (.raised raised stay)).trans (.memberLost other listed)

/-- What the close leaves of the view of a member in service. -/
theorem Dev.closeMember_present {m : Nat} {d : Dev} (present : (d.member m).state = .present) : d.closeMember m =
    if (d.member m).gotUp then d.onMember m fun x => { x with miss := 0, gotUp := false }
    else if 1 ≤ (d.member m).miss then d.memberAbsent m else d.onMember m fun x => { x with miss := x.miss + 1 } := by
  unfold Dev.closeMember
  simp only [present]

theorem Dev.closeMember_other {m : Nat} {d : Dev} (other : (d.member m).state ≠ .present) :
    d.closeMember m = d.onMember m fun x => { x with gotUp := false } := by
  unfold Dev.closeMember
  cases state : (d.member m).state with
  | present => exact absurd state other
  | _ => simp only

theorem Dev.Spares.closeMember {m i : Nat} (other : m ≠ i) {d : Dev} (listed : i ≠ 0) : d.Spares m (d.closeMember i) := by
  by_cases present : (d.member i).state = .present
  · rw [Dev.closeMember_present present]
    split
    · exact .onMember other ..
    · split
      · exact .memberAbsent other listed
      · exact .onMember other ..
  · rw [Dev.closeMember_other present]
    exact .onMember other ..

/-- The counts of the two directions at the end of an exchange. -/
def Hal.closeCounts (x : Hal) : Hal :=
  { x with dirF := (x.exF :: x.dirF).take 64, dirR := (x.exR :: x.dirR).take 64
           bothOk := if x.exF || x.exR then 0 else if x.exBoth then x.bothOk + 1 else x.bothOk
           exF := false, exR := false, exBoth := false }

theorem Dev.closeDirections_spec (d : Dev) : ∃ f, d.closeDirections = { d.onHal Hal.closeCounts with faults := f }
    ∧ Dev.FaultsStay [] (d.onHal Hal.closeCounts) d.closeDirections := by
  have eq : ∃ b : Bool, d.closeDirections = if b then (d.onHal Hal.closeCounts).raiseUnit 0x81 else d.onHal Hal.closeCounts := ⟨_, rfl⟩
  obtain ⟨b, eq⟩ := eq
  rw [eq]
  cases b with
  | false => exact ⟨_, rfl, .of_eq rfl⟩
  | true => exact ⟨_, rfl, Dev.FaultsStay.raise [] 0x81 .unit 0 _ .a 0xFFFF⟩

theorem Dev.Spares.closeDirections (m : Nat) (d : Dev) : d.Spares m d.closeDirections := by
  obtain ⟨f, eq, stay⟩ := d.closeDirections_spec
  exact (Dev.Spares.onHal (f := Hal.closeCounts) (by intro x; rfl) (by intro x; rfl) (by intro x; exact id) d).trans (.raised eq stay)

/-- A view whose member has been sent the rig. -/
theorem Dev.Spares.served {m i : Nat} {d : Dev} (lists : d.Lists m) : d.Spares m (d.onMember i fun x => { x with served := true }) := by
  by_cases own : m = i
  · subst own
    have same := Dev.member_onMember lists fun x => { x with served := true }
    obtain ⟨l, eq⟩ := d.onMember_hal_eq m fun x => { x with served := true }
    have length := d.onMember_length m fun x => { x with served := true }
    rw [eq] at same length ⊢
    exact { Dev.Spares.refl m d with
      state := by rw [same], gotUp := by rw [same], miss := by rw [same], probe := by rw [same]
      length := length, faults := .of_eq rfl }
  · exact .onMember own ..

def Hal.sendBulk (active : Bool) (member bytes : Nat) (x : Hal) : Hal := { x with bulkActive := active, bulkMember := member, bulkBytes := bytes }

theorem Dev.bulkStep_spec (d : Dev) : d.bulkStep = (d.onHal fun x => { x with bulkActive := false })
    ∨ ∃ (b a : Bool) (i n : Nat), d.bulkStep = if b then (d.onHal (Hal.sendBulk a i n)).onMember i fun x => { x with served := true } else d.onHal (Hal.sendBulk a i n) := by
  unfold Dev.bulkStep
  split
  · exact .inl rfl
  · next i _ =>
    by_cases fits : d.bulkLength ≤ (if d.hal.bulkActive && d.hal.bulkMember = i + 1 then d.hal.bulkBytes else 0) + 6144
    · exact .inr ⟨true, _, i + 1, _, (if_pos fits).trans rfl⟩
    · exact .inr ⟨false, _, i + 1, _, (if_neg fits).trans rfl⟩

theorem Dev.Spares.bulkStep {m : Nat} {d : Dev} (lists : d.Lists m) : d.Spares m d.bulkStep := by
  obtain eq | ⟨b, a, i, n, eq⟩ := d.bulkStep_spec
  · rw [eq]
    exact .onHal (by intro x; rfl) (by intro x; rfl) (by intro x; exact id) d
  · have sent : d.Spares m (d.onHal (Hal.sendBulk a i n)) := .onHal (by intro x; rfl) (by intro x; rfl) (by intro x; exact id) d
    rw [eq]
    cases b with
    | false => exact sent
    | true => exact sent.trans (.served (lists.of_length sent.length))

/-- What the close leaves of position `m`, the master's own view taken before it. -/
structure Dev.ClosesMember (m : Nat) (d e : Dev) : Prop where
  gotUp : (e.member m).gotUp = false
  other : (d.member m).state ≠ .present → (e.member m).state = (d.member m).state
  heard : (d.member m).state = .present → (d.member m).gotUp = true → (e.member m).state = .present ∧ (e.member m).miss = 0
  missed : (d.member m).state = .present → (d.member m).gotUp = false → (d.member m).miss = 0 → (e.member m).state = .present ∧ (e.member m).miss = 1
  lost : (d.member m).state = .present → (d.member m).gotUp = false → 1 ≤ (d.member m).miss →
    (e.member m).state = .absent ∧ e.hasFault 0x80 .member m = true ∧ d.Loses m e

theorem Dev.closeMember_closes {m : Nat} {d : Dev} (lists : d.Lists m) : d.ClosesMember m (d.closeMember m) := by
  by_cases present : (d.member m).state = .present
  · rw [Dev.closeMember_present present]
    cases got : (d.member m).gotUp with
    | true =>
      rw [if_pos rfl]
      have view := Dev.member_onMember lists fun x => { x with miss := 0, gotUp := false }
      exact ⟨by rw [view], fun other => absurd present other, fun _ _ => by rw [view]; exact ⟨present, rfl⟩, fun _ h => absurd (got.symm.trans h) (by decide),
        fun _ h => absurd (got.symm.trans h) (by decide)⟩
    | false =>
      rw [if_neg (by decide)]
      by_cases second : 1 ≤ (d.member m).miss
      · rw [if_pos second]
        obtain ⟨state, up, fault, loses⟩ := Dev.memberAbsent_leaves lists
        exact ⟨up.trans got, fun other => absurd present other, fun _ h => absurd (got.symm.trans h) (by decide), fun _ _ h => absurd h (by omega),
          fun _ _ _ => ⟨state, fault, loses⟩⟩
      · rw [if_neg second]
        have view := Dev.member_onMember lists fun x => { x with miss := x.miss + 1 }
        exact ⟨by rw [view]; exact got, fun other => absurd present other, fun _ h => absurd (got.symm.trans h) (by decide),
          fun _ _ none => by rw [view]; exact ⟨present, congrArg (· + 1) none⟩, fun _ _ h => absurd h second⟩
  · rw [Dev.closeMember_other present]
    have view := Dev.member_onMember lists fun x => { x with gotUp := false }
    exact ⟨by rw [view], fun _ => by rw [view], fun h => absurd h present, fun h => absurd h present, fun h => absurd h present⟩

theorem Dev.ClosesMember.between {m : Nat} {d d' e e' : Dev} (before : d.Spares m d') (closes : d'.ClosesMember m e) (after : e.Spares m e') : d.ClosesMember m e' where
  gotUp := after.gotUp.trans closes.gotUp
  other h := (after.state.trans (closes.other (before.state ▸ h))).trans before.state
  heard h k := by
    obtain ⟨state, miss⟩ := closes.heard (before.state.trans h) (before.gotUp.trans k)
    exact ⟨after.state.trans state, after.miss.trans miss⟩
  missed h k n := by
    obtain ⟨state, miss⟩ := closes.missed (before.state.trans h) (before.gotUp.trans k) (before.miss.trans n)
    exact ⟨after.state.trans state, after.miss.trans miss⟩
  lost h k n := by
    obtain ⟨state, fault, loses⟩ := closes.lost (before.state.trans h) (before.gotUp.trans k) (by rw [before.miss]; exact n)
    refine ⟨after.state.trans state, after.faults _ _ _ _ (by simp) fault, fun r mem own => ?_, after.probe.trans loses.probe, fun r mem own => ?_, fun p mem member own => ?_⟩
    · exact loses.requests r ((after.requests r own).mp mem) own
    · obtain ⟨c, there, same⟩ := loses.completes r ((before.requests r own).mpr mem) own
      exact ⟨c, after.done there, same⟩
    · exact loses.points p (after.points p mem own) member own

/-- What the close of one position leaves of the ring. -/
abbrev Dev.SameRing (d e : Dev) : Prop :=
  e.hal.members.length = d.hal.members.length ∧ e.hal.exClosed = d.hal.exClosed ∧ e.workWaits = d.workWaits

theorem Dev.SameRing.onMember (m : Nat) (f : HMember → HMember) (d : Dev) : d.SameRing (d.onMember m f) := by
  obtain ⟨l, eq⟩ := d.onMember_hal_eq m f
  exact ⟨Dev.onMember_length .., by rw [eq], by rw [eq]⟩

theorem Dev.SameRing.memberAbsent {m : Nat} (listed : m ≠ 0) (d : Dev) : d.SameRing (d.memberAbsent m) := by
  obtain ⟨length, closed, waits⟩ := Dev.SameRing.onMember m HMember.depart d
  obtain ⟨f, raised, -, -⟩ := (d.onMember m HMember.depart).raiseMember_spec m 0x80
  obtain ⟨l, a, b, sh, eq, -⟩ := Dev.memberLost_spec (d := (d.onMember m HMember.depart).raiseMember m 0x80) listed
  have absent : d.memberAbsent m = ((d.onMember m HMember.depart).raiseMember m 0x80).memberLost m := rfl
  rw [absent, eq, raised]
  exact ⟨(List.length_modify ..).trans length, closed, waits⟩

theorem Dev.SameRing.closeMember {m : Nat} (listed : m ≠ 0) (d : Dev) : d.SameRing (d.closeMember m) := by
  by_cases present : (d.member m).state = .present
  · rw [Dev.closeMember_present present]
    split
    · exact .onMember ..
    · split
      · exact .memberAbsent listed d
      · exact .onMember ..
  · rw [Dev.closeMember_other present]
    exact .onMember ..

/-- The close at a master (R248, R250, R251, R254). -/
theorem Dev.closeExchange_closes {m : Fin 8} {d : Dev} (lists : d.Lists m) (master : d.stackMaster = true) :
    d.ClosesMember m d.closeExchange ∧ d.closeExchange.hal.exClosed = true ∧ d.closeExchange.workWaits = d.workWaits := by
  obtain ⟨l₁, l₂, range⟩ := List.mem_iff_append.mp (List.mem_range.mpr (by have := lists.1; omega : m.val - 1 < 7))
  have once : (m.val - 1) ∉ l₁ ++ l₂ := (List.nodup_cons.mp (List.nodup_middle.mp (range ▸ List.nodup_range))).1
  obtain ⟨d₁, first⟩ : ∃ d₁, d₁ = (d.onHal fun x => { x with exClosed := true }).closeDirections := ⟨_, rfl⟩
  obtain ⟨d₂, second⟩ : ∃ d₂, d₂ = l₁.foldl (fun (d : Dev) i => d.closeMember (i + 1)) d₁ := ⟨_, rfl⟩
  obtain ⟨d₃, third⟩ : ∃ d₃, d₃ = l₂.foldl (fun (d : Dev) i => d.closeMember (i + 1)) (d₂.closeMember (m.val - 1 + 1)) := ⟨_, rfl⟩
  have closed : d.closeExchange = d₃.bulkStep := by
    rw [third, second, first, ← List.foldl_cons, ← List.foldl_append, ← range]
    exact if_pos master
  have own : m.val - 1 + 1 = m.val := by have := lists.1; omega
  rw [own] at third
  have opened : d.Spares m (d.onHal fun x => { x with exClosed := true }) := .onHal (by intro x; rfl) (by intro x; rfl) (by intro x _; rfl) d
  have counted : (d.onHal fun x => { x with exClosed := true }).Spares m d₁ := first ▸ .closeDirections ..
  have others {l : List Nat} (within : m.val - 1 ∉ l) (e : Dev) : e.Spares m (l.foldl (fun (d : Dev) i => d.closeMember (i + 1)) e) :=
    .foldl (fun e i mem => .closeMember (fun same => within (by rwa [same, Nat.add_sub_cancel])) (by omega)) e
  have before : (d.onHal fun x => { x with exClosed := true }).Spares m d₂ := counted.trans (second ▸ others (fun mem => once (List.mem_append_left _ mem)) d₁)
  have lists₂ : d₂.Lists m := lists.of_length (opened.trans before).length
  have closes := Dev.closeMember_closes lists₂
  have after : (d₂.closeMember m).Spares m d₃ := third ▸ others (fun mem => once (List.mem_append_right _ mem)) _
  obtain ⟨length, stillClosed, stillWaits⟩ := Dev.SameRing.closeMember lists.1 d₂
  have bulk : d₃.Spares m d₃.bulkStep := .bulkStep (lists₂.of_length (after.length.trans length))
  rw [closed]
  refine ⟨.between (opened.trans before) closes (after.trans bulk), bulk.closed (after.closed ?_), ?_⟩
  · exact stillClosed.trans (before.closed rfl)
  · exact (bulk.waits.trans after.waits).trans (stillWaits.trans (before.waits.trans opened.waits))

theorem exec_halyardExchangeClose {s : State} (out : s.dev.inReset = false) (waits : s.dev.closeExchange.workWaits = none) :
    exec .halyardExchangeClose s = .next { s with dev := s.dev.closeExchange } := by
  have runs : exec .halyardExchangeClose s = if s.dev.inReset then .next s else .next (match s.dev.closeExchange.workWaits with
      | some w => if s.dev.closeExchange.mayWork (s.dev.closeExchange.workHalf w) then (s.lift Dev.closeExchange).frameWork w else s.lift Dev.closeExchange
      | none => s.lift Dev.closeExchange) := rfl
  rw [runs, if_neg (by simp [out]), waits]
  rfl

end Sys2Proof.Machine
end

section
/-! The settled statement of a master's members. -/
namespace Sys2Proof.Proofs
open Sys2Proof Sys2Proof.Machine

/-- Settles O54: each clause is the rule of its command, with what freezing, admitting and losing a member leave said once. -/
theorem masterAdmitsServesAndFreezesMembers : Obligations.MasterAdmitsServesAndFreezesMembers := by
  intro s m out
  refine ⟨fun none => ?_, fun master listed within => ?_⟩
  · refine ⟨fun f r => ?_, fun q => ?_, ?_, ?_⟩
    · exact exec_up_as rfl out (if_pos (by simp [none]))
    · exact exec_up_as rfl out (if_pos (by simp [none]))
    · exact exec_up_as rfl out (if_pos (by simp [none]))
    · exact exec_up_as rfl out (if_neg (by simp [none]))
  have lists : s.dev.Lists m := ⟨listed, within⟩
  have heard : s.dev.pairCame.Lists m := lists
  have named_of {u : UpMsg} (named : s.dev.Names m u) : s.dev.pairCame.Names m u := named
  refine ⟨fun u => ⟨fun stranger => ?_, fun named away => ?_, fun named present sound => ?_, fun named joining ready sound hash => ?_, fun named violates => ?_⟩,
    fun serves => ⟨fun u v differ => ?_, fun third => ?_⟩, fun early => ?_, fun q pos => ?_, ?_, ?_, fun idle => ?_⟩
  · refine ⟨_, exec_up_both out master listed u, ?_⟩
    have discards : s.dev.pairCame.takeUp m u = s.dev.pairCame.discardUp := Dev.takeUp_stranger stranger
    rw [discards]
    rfl
  · refine ⟨_, exec_up_both out master listed u, ?_⟩
    have discards : s.dev.pairCame.takeUp m u = s.dev.pairCame.discardUp := by
      rcases away with absent | frozen | ⟨joining, unready⟩
      · exact Dev.takeUp_lost named (.inl absent)
      · exact Dev.takeUp_lost named (.inr frozen)
      · exact Dev.takeUp_unready named joining unready
    rw [discards]
    rfl
  · refine ⟨_, exec_up_both out master listed u, ?_⟩
    have takes : s.dev.pairCame.takeUp m u = (s.dev.pairCame.onMember m (HMember.hear u)).onHal fun h => { h with inbox := h.inbox ++ [(m.val, u)] } :=
      (Dev.takeUp_present (named_of named) present).trans (if_neg (Dev.violates_iff.not.mpr (not_not.mpr sound)))
    have view : (s.dev.pairCame.onMember m (HMember.hear u)).member m = (s.dev.pairCame.member m).hear u := Dev.member_onMember heard _
    rw [takes]
    refine ⟨view, ?_, Dev.onMember_onlyAt listed (HMember.hear u) s.dev.pairCame, ?_⟩
    · rw [Dev.onMember_eq listed]
      rfl
    · rw [Dev.onMember_eq listed]
      rfl
  · refine ⟨_, exec_up_both out master listed u, ?_⟩
    have clean : ¬ (s.dev.pairCame.violates u || u.hash ≠ s.dev.pairCame.activeHash) = true := by
      have fine : ¬ s.dev.pairCame.violates u = true := Dev.violates_iff.not.mpr (not_not.mpr sound)
      have same : u.hash = s.dev.pairCame.activeHash := hash
      simp [fine, same]
    have admits : s.dev.pairCame.takeUp m u = s.dev.pairCame.memberPresent m u :=
      (Dev.takeUp_joining (named_of named) joining ready).trans (if_neg clean)
    rw [admits]
    obtain ⟨view, f80, f82, f83, points⟩ := Dev.memberPresent_admits u heard
    exact ⟨view.trans (by rw [HMember.welcome, ready]; rfl), f80, f82, f83, points⟩
  · refine ⟨_, exec_up_both out master listed u, ?_⟩
    have freezes : s.dev.pairCame.takeUp m u = s.dev.pairCame.freezeMember m 0x82 := by
      rcases violates with ⟨present, unsound⟩ | ⟨joining, ready, fault⟩
      · exact (Dev.takeUp_present (named_of named) present).trans (if_pos (Dev.violates_iff.mpr unsound))
      · refine (Dev.takeUp_joining (named_of named) joining ready).trans (if_pos ?_)
        rcases fault with unsound | differ
        · have bad : s.dev.pairCame.violates u = true := Dev.violates_iff.mpr unsound
          simp [bad]
        · have differ' : u.hash ≠ s.dev.pairCame.activeHash := differ
          simp [differ']
    rw [freezes]
    have serves : (s.dev.pairCame.member m).state = .joining ∨ (s.dev.pairCame.member m).state = .present := by
      rcases violates with ⟨present, -⟩ | ⟨joining, -⟩
      · exact .inr present
      · exact .inl joining
    exact (Dev.freezeMember_freezes 0x82 heard serves).1.frozen
  · refine ⟨_, exec_up_differ out master listed differ, ?_⟩
    obtain ⟨freezes, code⟩ := Dev.freezeMember_freezes 0x83 lists serves.symm
    exact ⟨freezes.frozen, code⟩
  · refine ⟨_, exec_up_none out master listed, ?_⟩
    have view : (s.dev.onMember m HMember.lose).member m = (s.dev.member m).lose := Dev.member_onMember lists _
    rw [if_pos (by rw [view]; exact Nat.add_le_add_right third 1)]
    have same : (s.dev.onMember m HMember.lose).hal.requests = s.dev.hal.requests ∧ (s.dev.onMember m HMember.lose).frame = s.dev.frame := by
      rw [Dev.onMember_eq listed]
      exact ⟨rfl, rfl⟩
    have serves' : ((s.dev.onMember m HMember.lose).member m).state = .joining ∨ ((s.dev.onMember m HMember.lose).member m).state = .present := by
      rw [view]
      exact serves.symm
    have freezes := (Dev.freezeMember_freezes 0x82 (lists.of_length (Dev.onMember_length ..)) serves').1
    exact (freezes.from_view same.1 (Dev.onMember_onlyAt listed HMember.lose s.dev) same.2).frozen
  · refine ⟨_, exec_up_none out master listed, ?_⟩
    have view : (s.dev.onMember m HMember.lose).member m = (s.dev.member m).lose := Dev.member_onMember lists _
    rw [if_neg (by rw [view]; exact not_le.mpr (Nat.add_lt_add_right early 1))]
    refine ⟨view, Dev.onMember_onlyAt listed HMember.lose s.dev, ?_⟩
    rw [Dev.onMember_eq listed]
  · rw [← pos] at lists ⊢
    rw [exec_joinReq out master]
    refine ⟨fun unasked => by rw [if_neg unasked], fun asks unfit => ?_, fun asks fits => ?_⟩
    · rw [if_pos asks]
      exact ⟨_, rfl, Dev.judgeJoin_refuses lists unfit⟩
    · rw [if_pos asks]
      obtain ⟨view, clear, grants⟩ := Dev.judgeJoin_grants lists fits
      exact ⟨_, rfl, by rw [view, HMember.granted], by rw [view, HMember.granted], by rw [view, HMember.granted], by rw [view, HMember.granted], clear, by rw [view, HMember.granted], grants⟩
  · rw [exec_joinGrantTimeout out master listed]
    split
    · exact ⟨_, rfl, Dev.member_onMember lists _, Dev.onMember_onlyAt listed _ s.dev, by rw [Dev.onMember_eq listed]⟩
    · rfl
  · obtain ⟨ms, stamped, length, states, views⟩ := s.dev.stampGrants_spec (s.dev.hal.grants.map (·.member))
    have view := views m lists
    refine ⟨_, exec_halyardExchange out master, ?_⟩
    rw [stamped] at view ⊢
    refine ⟨rfl, fun r mem => ?_, view.trans ?_, states, rfl, rfl⟩
    · obtain ⟨q, -, rfl⟩ := List.mem_map.mp mem
      rfl
    · simp only [List.mem_map]
  · obtain ⟨⟨gotUp, other, got, missed, lost⟩, closed, waits⟩ := Dev.closeExchange_closes lists master
    refine ⟨_, exec_halyardExchangeClose out (waits.trans idle), gotUp, closed, other, got, missed, fun a b c => ?_⟩
    obtain ⟨state, fault, loses⟩ := lost a b c
    exact ⟨state, fault, loses.requests, loses.probe, loses.completes, loses.points⟩

end Sys2Proof.Proofs
end

section
/-! Host ports (15): a request in front of its operation, the responses, and a port that a violation freezes, each said once. -/
namespace Sys2Proof.Machine

/-! ## One port and the free values -/

/-- The device with another port `p` and another count of free values. -/
def Dev.withPort (p : Fin 2) (x : Port) (c : Nat) (d : Dev) : Dev := { d.setPort p x with freeCtr := c }

def State.withPort (p : Fin 2) (x : Port) (c : Nat) (s : State) : State := { s with dev := s.dev.withPort p x c }

theorem Dev.setPort_eq (p : Fin 2) (x : Port) (d : Dev) : ∃ a b, d.setPort p x = { d with port0 := a, port1 := b } := by
  unfold Dev.setPort
  split <;> exact ⟨_, _, rfl⟩

theorem Dev.withPort_eq (p : Fin 2) (x : Port) (c : Nat) (d : Dev) : ∃ a b, d.withPort p x c = { d with port0 := a, port1 := b, freeCtr := c } := by
  obtain ⟨a, b, eq⟩ := d.setPort_eq p x
  exact ⟨a, b, by rw [Dev.withPort, eq]⟩

theorem Dev.port_withPort (p : Fin 2) (x : Port) (c : Nat) (d : Dev) : (d.withPort p x c).port p = x := Dev.port_setPort p x d

theorem Dev.withPort_onPort (p : Fin 2) (x : Port) (c : Nat) (f : Port → Port) (d : Dev) : (d.withPort p x c).onPort p f = d.withPort p (f x) c := by
  unfold Dev.onPort Dev.withPort Dev.setPort Dev.port
  by_cases first : p = 0 <;> simp [first]

theorem Dev.onPort_withPort (p : Fin 2) (f : Port → Port) (d : Dev) : d.onPort p f = d.withPort p (f (d.port p)) d.freeCtr := by
  unfold Dev.onPort Dev.withPort Dev.setPort
  by_cases first : p = 0 <;> simp [first]

theorem Dev.withPort_node (p : Fin 2) (x : Port) (c : Nat) (h : Half) (d : Dev) : (d.withPort p x c).node h = d.node h := by
  obtain ⟨a, b, eq⟩ := d.withPort_eq p x c
  rw [eq]
  cases h <;> rfl

theorem Dev.withPort_halfOfPort (p o : Fin 2) (x : Port) (c : Nat) (d : Dev) : (d.withPort p x c).halfOfPort o = d.halfOfPort o := by
  obtain ⟨a, b, eq⟩ := d.withPort_eq p x c
  rw [eq]
  rfl

theorem State.withPort_onlyPort (p : Fin 2) (x : Port) (c : Nat) (s : State) : s.OnlyPort p (s.withPort p x c) := by
  refine ⟨?_, fun o other => Dev.port_setPort_other x s.dev other⟩
  obtain ⟨a, b, eq⟩ := s.dev.withPort_eq p x c
  rw [State.withPort, eq]

theorem State.withPort_port (p : Fin 2) (x : Port) (c : Nat) (s : State) : (s.withPort p x c).dev.port p = x := Dev.port_withPort ..

/-! ## Responses (R278) -/

/-- A response with its port's status fields. -/
def Dev.stamped (p : Fin 2) (x : Port) (r : Resp) (d : Dev) : Resp :=
  { r with session := x.session.isSome, snap := x.snapHeld, event := x.event, cqne := !x.cq.isEmpty, state := (d.node (d.halfOfPort p)).sys.code }

theorem Dev.withPort_reply (p : Fin 2) (x : Port) (c : Nat) (r : Resp) (d : Dev) :
    (d.withPort p x c).reply p r = d.withPort p (x.answer (d.stamped p x r)) c := by
  rw [Dev.reply, Dev.withPort_onPort, Dev.withPort_node, Dev.withPort_halfOfPort]
  rfl

theorem Dev.withPort_replyFree (p : Fin 2) (x : Port) (c : Nat) (r : Resp) (d : Dev) :
    (d.withPort p x c).replyFree p r = d.withPort p (x.answer (d.stamped p x { r with frame := Config.freeWord c })) (c + 1) := by
  have drawn : (d.withPort p x c).fresh = (Config.freeWord c, d.withPort p x (c + 1)) := rfl
  rw [Dev.replyFree, drawn]
  exact Dev.withPort_reply ..

theorem State.withPort_reply (p : Fin 2) (x : Port) (c : Nat) (r : Resp) (s : State) :
    (s.withPort p x c).lift (Dev.reply p r) = s.withPort p (x.answer (s.dev.stamped p x r)) c :=
  congrArg (fun d => { s with dev := d }) (Dev.withPort_reply ..)

theorem State.withPort_replyFree (p : Fin 2) (x : Port) (c : Nat) (r : Resp) (s : State) :
    (s.withPort p x c).lift (Dev.replyFree p r) = s.withPort p (x.answer (s.dev.stamped p x { r with frame := Config.freeWord c })) (c + 1) :=
  congrArg (fun d => { s with dev := d }) (Dev.withPort_replyFree ..)

/-- The port after an operation without a result. -/
def State.answers (q : Req) (opc : Nat) (st : Status) (x : Port) (c : Nat) (s : State) : Port :=
  x.answer (s.dev.stamped q.port x { opc, byte1 := byte1 q.tag false false, code := st.code, frame := Config.freeWord c })

theorem State.withPort_direct (q : Req) (opc : Nat) (st : Status) (x : Port) (c : Nat) (s : State) :
    (s.withPort q.port x c).direct q opc st = s.withPort q.port (s.answers q opc st x c) (c + 1) := State.withPort_replyFree ..

/-! ## A request in front of its operation -/

/-- The port with the bytes of a request on it. -/
def Port.hear (q : Req) (opc : Nat) (tagged snaprd : Bool) (x : Port) : Port := { x with mosi := q.frame opc tagged snaprd, miso := List.replicate 28 0 }

/-- The port of a sound request that its operation takes over from. -/
def Port.admits (q : Req) (opc : Nat) (tagged snaprd : Bool) (x : Port) : Port := { x.hear q opc tagged snaprd with crcRun := 0 }

/-- The state in which an operation begins. -/
def State.begins (q : Req) (opc : Nat) (tagged snaprd : Bool) (s : State) : State :=
  s.withPort q.port ((s.dev.port q.port).admits q opc tagged snaprd) s.dev.freeCtr

/-- The state with the bytes of a request on its port. -/
def State.hears (q : Req) (opc : Nat) (tagged snaprd : Bool) (s : State) : State :=
  s.withPort q.port ((s.dev.port q.port).hear q opc tagged snaprd) s.dev.freeCtr

theorem State.hears_gate (q : Req) (opc : Nat) (tagged snaprd : Bool) (s : State) :
    (s.hears q opc tagged snaprd).dev.gate q.port opc q.tag tagged = s.dev.gate q.port opc q.tag tagged := by
  have board : (s.dev.withPort q.port ((s.dev.port q.port).hear q opc tagged snaprd) s.dev.freeCtr).boardTest = s.dev.boardTest := by
    obtain ⟨a, b, eq⟩ := s.dev.withPort_eq q.port ((s.dev.port q.port).hear q opc tagged snaprd) s.dev.freeCtr
    rw [eq]
  rw [State.hears, State.withPort, Dev.gate, Dev.withPort_halfOfPort, Dev.withPort_node, Dev.port_withPort, board]
  rfl

theorem State.hears_onPort (q : Req) (opc : Nat) (tagged snaprd : Bool) (s : State) :
    (s.lift fun d => d.onPort q.port fun x => { x with mosi := q.frame opc tagged snaprd, miso := List.replicate 28 0 }) = s.hears q opc tagged snaprd :=
  congrArg (fun d => { s with dev := d }) (Dev.onPort_withPort q.port (Port.hear q opc tagged snaprd) s.dev)

theorem State.hears_counted (q : Req) (opc : Nat) (tagged snaprd : Bool) (s : State) :
    ((s.hears q opc tagged snaprd).lift fun d => d.onPort q.port fun x => { x with crcRun := 0 }) = s.begins q opc tagged snaprd :=
  congrArg (fun d => { s with dev := d }) (Dev.withPort_onPort q.port ((s.dev.port q.port).hear q opc tagged snaprd) s.dev.freeCtr (fun x => { x with crcRun := 0 }) s.dev)

section
variable {q : Req} {opc : Nat} {tagged snaprd : Bool} {act : State → State} {s : State} (out : s.dev.inReset = false)
include out

theorem State.request_frozen (gate : s.dev.gate q.port opc q.tag tagged = .frozen) :
    s.request q opc tagged snaprd act = (s.hears q opc tagged snaprd).lift (Dev.replyFrozen q.port opc (byte1 q.tag tagged snaprd)) := by
  rw [State.request, if_neg (by simp [out])]
  simp only [State.hears_onPort, State.hears_gate, gate]

theorem State.request_denied (gate : s.dev.gate q.port opc q.tag tagged = .denied) : s.request q opc tagged snaprd act
    = (s.begins q opc tagged snaprd).lift (Dev.replyFree q.port { opc, byte1 := byte1 q.tag tagged snaprd, code := Status.denied.code }) := by
  rw [State.request, if_neg (by simp [out])]
  simp only [State.hears_onPort, State.hears_gate, gate]
  rw [← State.hears_counted]
  rfl

theorem State.request_busy (gate : s.dev.gate q.port opc q.tag tagged = .busy) : s.request q opc tagged snaprd act
    = (s.begins q opc tagged snaprd).lift (Dev.replyFree q.port { opc, byte1 := byte1 q.tag tagged snaprd, kind := 2, code := 2 }) := by
  rw [State.request, if_neg (by simp [out])]
  simp only [State.hears_onPort, State.hears_gate, gate]
  rw [← State.hears_counted]
  rfl

theorem State.request_pass (gate : s.dev.gate q.port opc q.tag tagged = .pass) :
    s.request q opc tagged snaprd act = act (s.begins q opc tagged snaprd) := by
  rw [State.request, if_neg (by simp [out])]
  simp only [State.hears_onPort, State.hears_gate, gate, State.hears_counted]

end

section
variable {s : State} {p : Fin 2} (opc tag : Nat)

theorem Dev.gate_frozen (tagged : Bool) (board : s.dev.boardTest = false) (boot : (s.dev.node (s.dev.halfOfPort p)).sys ≠ .boot) (frozen : (s.dev.port p).frozen = true) :
    s.dev.gate p opc tag tagged = .frozen := by
  simp [Dev.gate, board, boot, frozen]

theorem Dev.gate_safe (tagged : Bool) (board : s.dev.boardTest = false) (boot : (s.dev.node (s.dev.halfOfPort p)).sys ≠ .boot) (usable : (s.dev.port p).frozen = false)
    (safe : (s.dev.node (s.dev.halfOfPort p)).safe = true) : s.dev.gate p opc tag tagged = if safeOp opc tagged then .pass else .denied := by
  simp [Dev.gate, board, boot, usable, safe]

theorem Dev.gate_direct (isOpen : s.PortOpen p) : s.dev.gate p opc tag false = .pass := by
  obtain ⟨⟨-, live⟩, board, boot, usable⟩ := isOpen
  simp [Dev.gate, board, boot, usable, live]

theorem Dev.gate_tagged (isOpen : s.PortOpen p) : s.dev.gate p opc tag true = if (s.dev.port p).tags.any (fun t => t.1 == tag % 64) then .busy else .pass := by
  obtain ⟨⟨-, live⟩, board, boot, usable⟩ := isOpen
  simp only [Dev.gate, board, boot, usable, live, Bool.false_eq_true, if_false, Bool.true_and]

end

theorem State.direct_runs {s : State} {q : Req} (opc : Nat) (snaprd : Bool) (act : State → State) (isOpen : s.PortOpen q.port) :
    s.request q opc false snaprd act = act (s.begins q opc false snaprd) :=
  State.request_pass isOpen.1.1 (Dev.gate_direct opc q.tag isOpen)

/-! ## A frozen port (R290, R291) -/

theorem Dev.refuse_port (c : HostCmd) (st : Status) (p : Fin 2) (d : Dev) : (d.refuse c st).port p = d.port p ∧ (d.refuse c st).split = d.split := by
  unfold Dev.refuse
  split
  · have released : d.release.port p = d.port p ∧ d.release.split = d.split := by
      unfold Dev.release Dev.logCapacity
      split
      · split <;> exact ⟨rfl, rfl⟩
      · exact ⟨rfl, rfl⟩
    exact released
  · exact ⟨rfl, rfl⟩

theorem Dev.onPort_split (p : Fin 2) (f : Port → Port) (d : Dev) : (d.onPort p f).split = d.split := by
  unfold Dev.onPort Dev.setPort
  split <;> rfl

theorem Dev.loseSession_port (p : Fin 2) (d : Dev) : (d.loseSession p).port p = { d.port p with session := none } ∧ (d.loseSession p).split = d.split := by
  unfold Dev.loseSession
  split
  · have port : (d.onPort p fun x => { x with session := none }).port p = { d.port p with session := none } := Dev.port_onPort ..
    exact ⟨port, Dev.onPort_split ..⟩
  · next without =>
    have closed : (d.port p).session = none := by simpa using without
    refine ⟨?_, rfl⟩
    rw [← closed]

theorem Dev.foldl_refuse_port (st : HostCmd → Status) (l : List HostCmd) (p : Fin 2) (d : Dev) :
    (l.foldl (fun (d : Dev) c => d.refuse c (st c)) d).port p = d.port p ∧ (l.foldl (fun (d : Dev) c => d.refuse c (st c)) d).split = d.split := by
  induction l generalizing d with
  | nil => exact ⟨rfl, rfl⟩
  | cons c l ih =>
    obtain ⟨port, split⟩ := ih (d.refuse c (st c))
    obtain ⟨port', split'⟩ := d.refuse_port c (st c) p
    exact ⟨port.trans port', split.trans split'⟩

theorem Dev.abortJournal_port (p : Fin 2) (d : Dev) : (d.abortJournal p).port p = { d.port p with pwJobs := [] } ∧ (d.abortJournal p).split = d.split := by
  obtain ⟨e, heldBy⟩ : ∃ e, e = ((d.port p).journal.filter fun c => c.abortable && !d.done.any fun x => decide (x.1 = p) && x.2.tag == c.tag).foldl
      (fun (d : Dev) c => d.refuse c (c.verdict.getD .aborted)) d := ⟨_, rfl⟩
  have kept : e.port p = d.port p ∧ e.split = d.split := heldBy ▸ Dev.foldl_refuse_port ..
  have aborted : ∃ done, d.abortJournal p = ({ e with done := done } : Dev).onPort p fun x => { x with pwJobs := [] } := by
    rw [heldBy]
    exact ⟨_, rfl⟩
  obtain ⟨done, aborted⟩ := aborted
  rw [aborted]
  have port : ({ e with done := done } : Dev).port p = d.port p := kept.1
  exact ⟨(Dev.port_onPort ..).trans (by rw [port]), (Dev.onPort_split ..).trans kept.2⟩

/-- What violation `v` sets on its port. -/
def Port.shut (v : Nat) (x : Port) : Port := Port.withIrq { x with frozen := true, snapHeld := false, lastViol := v, nviol := satAdd 16 x.nviol 1 }

theorem Dev.freeze_port (p : Fin 2) (v : Nat) (d : Dev) : (d.freeze p v).port p = Port.shut v { { d.port p with session := none } with pwJobs := [] }
    ∧ (d.freeze p v).split = d.split ∧ (d.freeze p v).hasFault 0x90 .port p.val (d.halfOfPort p) = true := by
  obtain ⟨lost, whole⟩ := d.loseSession_port p
  obtain ⟨aborted, whole'⟩ := (d.loseSession p).abortJournal_port p
  obtain ⟨e, heldBy⟩ : ∃ e, e = ((d.loseSession p).abortJournal p).freezeOwner p := ⟨_, rfl⟩
  have frozen : d.freeze p v = (e.onPort p (Port.shut v)).raise 0x90 .port p.val ((e.onPort p (Port.shut v)).halfOfPort p) := by
    rw [heldBy]
    rfl
  have port : e.port p = { { d.port p with session := none } with pwJobs := [] } := by
    rw [heldBy, ← lost, ← aborted]
    rfl
  have split : (e.onPort p (Port.shut v)).split = d.split := by
    rw [Dev.onPort_split, heldBy, ← whole, ← whole']
    rfl
  have half : (e.onPort p (Port.shut v)).halfOfPort p = d.halfOfPort p := by
    unfold Dev.halfOfPort Dev.halfOf
    rw [split]
  rw [frozen, half]
  exact ⟨(Dev.port_onPort p (Port.shut v) e).trans (by rw [port]), split, Dev.hasFault_raise ..⟩

theorem State.setSnap_snapOf (p : Fin 2) (x : Option Dev) (s : State) : (s.setSnap p x).snapOf p = x := by
  unfold State.setSnap State.snapOf
  split <;> rfl

theorem State.freeze_frozen (p : Fin 2) (v : Nat) (s : State) : s.FrozenBy p v (s.freeze p v) := by
  obtain ⟨port, split, fault⟩ := s.dev.freeze_port p v
  have dev : (s.freeze p v).dev = s.dev.freeze p v := State.setSnap_dev ..
  unfold State.FrozenBy
  rw [dev, port]
  exact ⟨rfl, rfl, rfl, rfl, rfl, State.setSnap_snapOf .., rfl, fault⟩

/-- The answer to the request that commits a violation (R291). -/
theorem State.FrozenBy.replyFrozen {p : Fin 2} {v opc b1 : Nat} {s t : State} (frozen : s.FrozenBy p v t) :
    s.FrozenBy p v (t.lift (Dev.replyFrozen p opc b1)) ∧ ((t.lift (Dev.replyFrozen p opc b1)).dev.port p).resp.code = Status.frozen.code := by
  obtain ⟨shut, viol, count, session, snap, held, irq, fault⟩ := frozen
  have port : (t.lift (Dev.replyFrozen p opc b1)).dev.port p = (t.dev.port p).answer (frozenResp opc b1) := Dev.port_onPort ..
  have faults : (t.lift (Dev.replyFrozen p opc b1)).dev.faults = t.dev.faults := Dev.onPort_faults ..
  unfold State.FrozenBy
  rw [port]
  refine ⟨⟨shut, viol, count, session, snap, held, ?_, (Dev.hasFault_congr faults ..).trans fault⟩, rfl⟩
  simp [Port.answer, Port.withIrq, shut]

/-- A port that violation `v` freezes, seen from the state before bytes that only came on it. -/
theorem State.FrozenBy.seen {p : Fin 2} {v : Nat} {s u t : State} (count : (u.dev.port p).nviol = (s.dev.port p).nviol)
    (half : u.dev.halfOfPort p = s.dev.halfOfPort p) (frozen : u.FrozenBy p v t) : s.FrozenBy p v t := by
  unfold State.FrozenBy at frozen ⊢
  rwa [count, half] at frozen

end Sys2Proof.Machine
end

section
/-! The direct operations of a host port (R278, R284 to R286, R289), each as the state it leaves; rejected requests (R276, R279, R290). -/
namespace Sys2Proof.Machine

theorem State.withPort_onPort (p : Fin 2) (x : Port) (c : Nat) (f : Port → Port) (s : State) :
    (s.withPort p x c).lift (Dev.onPort p f) = s.withPort p (f x) c :=
  congrArg (fun d => { s with dev := d }) (Dev.withPort_onPort p x c f s.dev)

theorem State.setSnap_withPort (p r : Fin 2) (x : Port) (c : Nat) (b : Option Dev) (s : State) :
    (s.withPort p x c).setSnap r b = (s.setSnap r b).withPort p x c := by
  unfold State.setSnap
  split <;> rfl

theorem State.withPort_snapOf (p r : Fin 2) (x : Port) (c : Nat) (s : State) : (s.withPort p x c).snapOf r = s.snapOf r := rfl

/-- Only the snapshot of one port. -/
theorem State.setSnap_eq (p : Fin 2) (b : Option Dev) (s : State) : ∃ x y, s.setSnap p b = { s with snap0 := x, snap1 := y } := by
  unfold State.setSnap
  split <;> exact ⟨_, _, rfl⟩

theorem State.setSnap_snapOf_other {p o : Fin 2} (other : o ≠ p) (b : Option Dev) (s : State) : (s.setSnap p b).snapOf o = s.snapOf o := by
  unfold State.setSnap State.snapOf
  by_cases first : p = 0
  · subst first
    simp [other]
  · have second : o = 0 := by omega
    simp [first, second]

/-- What of its port a response alone changes. -/
theorem Port.answer_admits (q : Req) (opc : Nat) (tagged snaprd : Bool) (r : Resp) (x : Port) :
    (x.admits q opc tagged snaprd).answer r = { x with
      crcRun := 0, resp := ((x.admits q opc tagged snaprd).answer r).resp, irq := ((x.admits q opc tagged snaprd).answer r).irq
      mosi := ((x.admits q opc tagged snaprd).answer r).mosi, miso := ((x.admits q opc tagged snaprd).answer r).miso } := rfl

/-- The state after an operation without a result, of a port that the operation has made `x`. -/
def State.directly (q : Req) (opc : Nat) (st : Status) (x : Port) (s : State) : State :=
  s.withPort q.port (s.answers q opc st x s.dev.freeCtr) (s.dev.freeCtr + 1)

/-- The completion that an operation delivers (R281, R286). -/
def State.delivers (q : Req) (opc : Nat) (c : Completion) (s : State) : State :=
  s.withPort q.port ((Port.consume c ((s.dev.port q.port).admits q opc false false)).answer
    (s.dev.stamped q.port (Port.consume c ((s.dev.port q.port).admits q opc false false)) c.resp)) s.dev.freeCtr

theorem State.begins_delivers (q : Req) (opc : Nat) (c : Completion) (s : State) :
    (s.begins q opc false false).lift (fun d => (d.onPort q.port (Port.consume c)).reply q.port c.resp) = s.delivers q opc c := by
  have consumed := State.withPort_onPort q.port ((s.dev.port q.port).admits q opc false false) s.dev.freeCtr (Port.consume c) s
  have replied := State.withPort_reply q.port (Port.consume c ((s.dev.port q.port).admits q opc false false)) s.dev.freeCtr c.resp s
  rw [← consumed] at replied
  exact replied

theorem State.begins_port (q : Req) (opc : Nat) (tagged snaprd : Bool) (s : State) : (s.begins q opc tagged snaprd).dev.port q.port = (s.dev.port q.port).admits q opc tagged snaprd :=
  State.withPort_port ..

section
variable {s : State} {q : Req} (isOpen : s.PortOpen q.port)
include isOpen

theorem exec_nop_open : exec (.nop q) s = .next (s.withPort q.port
    (s.answers q 0x08 .ok ((s.dev.port q.port).admits q 0x08 false false) s.dev.freeCtr) (s.dev.freeCtr + 1)) :=
  congrArg Host.Outcome.next ((State.direct_runs 0x08 false _ isOpen).trans (State.withPort_direct q 0x08 .ok ..))

theorem State.begins_bankAt (opc : Nat) (snaprd : Bool) :
    (s.begins q opc false snaprd).bankAt q.port q.cyc = if q.cyc < 4 * 96 then s.prev else s.bank := by
  obtain ⟨⟨-, live⟩, -⟩ := isOpen
  have live' : ((s.begins q opc false snaprd).dev.node ((s.begins q opc false snaprd).dev.halfOfPort q.port)).safe = false := by
    rw [State.begins, State.withPort, Dev.withPort_halfOfPort, Dev.withPort_node]
    exact live
  exact if_neg (by simp [live'])

/-- A direct READ that is answered with a value. -/
theorem exec_read_open {snaprd : Bool} {f v : Word}
    (reads : (s.begins q 0x01 false snaprd).readResult q.port q.index snaprd ((s.begins q 0x01 false snaprd).bankAt q.port q.cyc) = (.ok, f, v)) :
    exec (.read q false snaprd) s = .next (s.withPort q.port (((s.dev.port q.port).admits q 0x01 false snaprd).answer
      (s.dev.stamped q.port ((s.dev.port q.port).admits q 0x01 false snaprd)
        { opc := 0x01, byte1 := byte1 q.tag false snaprd, code := Status.ok.code, frame := f, data := v })) s.dev.freeCtr) := by
  refine congrArg Host.Outcome.next ((State.direct_runs 0x01 snaprd _ isOpen).trans ?_)
  rw [if_neg (by decide)]
  simp only [reads]
  exact State.withPort_reply ..

theorem exec_read_unready (held : s.snapOf q.port = none) : exec (.read q false true) s = .next (s.withPort q.port
    (((s.dev.port q.port).admits q 0x01 false true).answer (s.dev.stamped q.port ((s.dev.port q.port).admits q 0x01 false true)
        { opc := 0x01, byte1 := byte1 q.tag false true, code := Status.notReady.code, frame := Config.freeWord s.dev.freeCtr, data := 0 })) (s.dev.freeCtr + 1)) := by
  refine congrArg Host.Outcome.next ((State.direct_runs 0x01 true _ isOpen).trans ?_)
  have reads : (s.begins q 0x01 false true).readResult q.port q.index true ((s.begins q 0x01 false true).bankAt q.port q.cyc) = (.notReady, 0, 0) := by
    have held' : (s.begins q 0x01 false true).snapOf q.port = none := held
    simp only [State.readResult, held', Bool.true_or, if_true]
  rw [if_neg (by decide)]
  simp only [reads]
  exact State.withPort_replyFree ..

theorem exec_snap_open : exec (.snap q) s = .next ((s.setSnap q.port (some (if q.cyc < 4 * 96 then s.prev else s.bank))).withPort q.port
    (s.answers q 0x03 .ok { (s.dev.port q.port).admits q 0x03 false false with snapHeld := true } s.dev.freeCtr) (s.dev.freeCtr + 1)) := by
  refine congrArg Host.Outcome.next ((State.direct_runs 0x03 false _ isOpen).trans ?_)
  rw [State.begins_bankAt isOpen, State.begins, State.setSnap_withPort, State.withPort_onPort, State.withPort_direct]
  have dev : (s.setSnap q.port (some (if q.cyc < 4 * 96 then s.prev else s.bank))).dev = s.dev := State.setSnap_dev ..
  rw [State.answers, State.answers, dev]

theorem exec_snapRelease_open : exec (.snapRelease q) s = .next ((s.setSnap q.port none).withPort q.port
    (s.answers q 0x04 .ok { (s.dev.port q.port).admits q 0x04 false false with snapHeld := false } s.dev.freeCtr) (s.dev.freeCtr + 1)) := by
  refine congrArg Host.Outcome.next ((State.direct_runs 0x04 false _ isOpen).trans ?_)
  rw [State.begins, State.setSnap_withPort, State.withPort_onPort, State.withPort_direct, State.answers, State.answers, State.setSnap_dev]

theorem exec_cqPop_open {c : Completion} {rest : List Completion} (queued : (s.dev.port q.port).cq = c :: rest) :
    exec (.cqPop q) s = .next (s.delivers q 0x05 c) := by
  refine congrArg Host.Outcome.next ((State.direct_runs 0x05 false _ isOpen).trans ?_)
  have there : ((s.begins q 0x05 false false).dev.port q.port).cq = c :: rest := by
    rw [State.begins_port]
    exact queued
  simp only [there]
  exact State.begins_delivers q 0x05 c s

theorem exec_cqPop_empty (empty : (s.dev.port q.port).cq = []) :
    exec (.cqPop q) s = .next (s.directly q 0x05 .cqEmpty ((s.dev.port q.port).admits q 0x05 false false)) := by
  refine congrArg Host.Outcome.next ((State.direct_runs 0x05 false _ isOpen).trans ?_)
  have there : ((s.begins q 0x05 false false).dev.port q.port).cq = [] := by
    rw [State.begins_port]
    exact empty
  simp only [there]
  exact State.withPort_direct ..

theorem exec_result_open {c : Completion} (queued : (s.dev.port q.port).cq.find? (fun y => y.tag == q.tag % 64) = some c) :
    exec (.result q) s = .next (s.delivers q 0x06 c) := by
  refine congrArg Host.Outcome.next ((State.direct_runs 0x06 false _ isOpen).trans ?_)
  have there : ((s.begins q 0x06 false false).dev.port q.port).cq.find? (fun y => y.tag == q.tag % 64) = some c := by
    rw [State.begins_port]
    exact queued
  simp only [there]
  exact State.begins_delivers q 0x06 c s

theorem exec_result_none (none : (s.dev.port q.port).cq.find? (fun y => y.tag == q.tag % 64) = none) :
    exec (.result q) s = .next (s.directly q 0x06 (if (s.dev.port q.port).tags.any (fun y => y.1 == q.tag % 64) then .notReady else .cqEmpty)
      ((s.dev.port q.port).admits q 0x06 false false)) := by
  refine congrArg Host.Outcome.next ((State.direct_runs 0x06 false _ isOpen).trans ?_)
  have there : ((s.begins q 0x06 false false).dev.port q.port).cq.find? (fun y => y.tag == q.tag % 64) = .none := by
    rw [State.begins_port]
    exact none
  have tags : ((s.begins q 0x06 false false).dev.port q.port).tags = (s.dev.port q.port).tags := by
    rw [State.begins_port]
    rfl
  simp only [there, tags]
  exact State.withPort_direct ..

theorem exec_recall_open {c : Completion} (recalled : (s.dev.port q.port).recalled.find? (fun y => y.tag == q.tag % 64) = some c) :
    exec (.recallResult q) s = .next (s.withPort q.port (((s.dev.port q.port).admits q 0x07 false false).answer
      (s.dev.stamped q.port ((s.dev.port q.port).admits q 0x07 false false) { c.resp with replayed := true })) s.dev.freeCtr) := by
  refine congrArg Host.Outcome.next ((State.direct_runs 0x07 false _ isOpen).trans ?_)
  have there : ((s.begins q 0x07 false false).dev.port q.port).recalled.find? (fun y => y.tag == q.tag % 64) = some c := by
    rw [State.begins_port]
    exact recalled
  simp only [there]
  exact State.withPort_reply ..

theorem exec_recall_none (none : (s.dev.port q.port).recalled.find? (fun y => y.tag == q.tag % 64) = none) :
    exec (.recallResult q) s = .next (s.directly q 0x07 .cqEmpty ((s.dev.port q.port).admits q 0x07 false false)) := by
  refine congrArg Host.Outcome.next ((State.direct_runs 0x07 false _ isOpen).trans ?_)
  have there : ((s.begins q 0x07 false false).dev.port q.port).recalled.find? (fun y => y.tag == q.tag % 64) = .none := by
    rw [State.begins_port]
    exact none
  simp only [there]
  exact State.withPort_direct ..

theorem exec_sessionClose_open : exec (.sessionClose q) s = .next (
    if s.dev.stackMember = false ∧ ((s.dev.node (s.dev.halfOfPort q.port)).sys.inService = true ∨ (s.dev.node (s.dev.halfOfPort q.port)).sys = .awaitRig)
      then s.directly q 0x11 .ok { (s.dev.port q.port).admits q 0x11 false false with session := none }
    else s.directly q 0x11 .denied ((s.dev.port q.port).admits q 0x11 false false)) := by
  refine congrArg Host.Outcome.next ((State.direct_runs 0x11 false _ isOpen).trans ?_)
  have sys : ((s.begins q 0x11 false false).dev.node ((s.begins q 0x11 false false).dev.halfOfPort q.port)) = s.dev.node (s.dev.halfOfPort q.port) := by
    rw [State.begins, State.withPort, Dev.withPort_halfOfPort, Dev.withPort_node]
  have member : (s.begins q 0x11 false false).dev.stackMember = s.dev.stackMember := by
    obtain ⟨a, b, eq⟩ := s.dev.withPort_eq q.port ((s.dev.port q.port).admits q 0x11 false false) s.dev.freeCtr
    rw [State.begins, State.withPort, eq]
    rfl
  have admitted (m a : Bool) (P : Prop) [Decidable P] : (m || !(a || decide P)) = true ↔ ¬ (m = false ∧ (a = true ∨ P)) := by
    cases m <;> cases a <;> simp
  simp only [sys, member, admitted, ite_not]
  split
  · rw [State.begins, State.withPort_onPort]
    exact State.withPort_direct ..
  · exact State.withPort_direct ..

end

/-! ## Rejected requests -/

def Port.countCrc (x : Port) : Port := { x with crcRun := x.crcRun + 1 }

section
variable {s : State} {p : Fin 2} (isOpen : s.PortOpen p)
include isOpen

theorem State.crcError_open : s.crcError p = if 2 ≤ (s.dev.port p).crcRun then s.freeze p 1 else s.lift (Dev.onPort p Port.countCrc) := by
  obtain ⟨⟨out, -⟩, board, boot, usable⟩ := isOpen
  exact if_neg (by simp [out, board, boot, usable])

end

/-- The port with the bytes of a rejected request on it. -/
def Port.noise (bytes : List Byte) (x : Port) : Port := { x with mosi := bytes.take 10, miso := List.replicate 28 0 }

def State.noise (p : Fin 2) (bytes : List Byte) (s : State) : State := { s with dev := s.dev.onPort p (Port.noise bytes) }

theorem State.noise_eq (p : Fin 2) (bytes : List Byte) (s : State) :
    s.noise p bytes = s.withPort p ((s.dev.port p).noise bytes) s.dev.freeCtr :=
  congrArg (fun d => { s with dev := d }) (Dev.onPort_withPort ..)

theorem State.PortOpen.withPort {s : State} {p : Fin 2} {x : Port} (isOpen : s.PortOpen p) (usable : x.frozen = false) (c : Nat) : (s.withPort p x c).PortOpen p := by
  obtain ⟨⟨out, live⟩, board, boot, -⟩ := isOpen
  have node : (s.withPort p x c).dev.node ((s.withPort p x c).dev.halfOfPort p) = s.dev.node (s.dev.halfOfPort p) := by
    rw [State.withPort, Dev.withPort_halfOfPort, Dev.withPort_node]
  have port := State.withPort_port p x c s
  have same : (s.withPort p x c).dev.inReset = s.dev.inReset ∧ (s.withPort p x c).dev.boardTest = s.dev.boardTest := by
    obtain ⟨a, b, eq⟩ := s.dev.withPort_eq p x c
    rw [State.withPort, eq]
    exact ⟨rfl, rfl⟩
  exact ⟨⟨same.1.trans out, by rw [node]; exact live⟩, same.2.trans board, by rw [node]; exact boot, by rw [port]; exact usable⟩

theorem exec_requestRejected_open {s : State} {p : Fin 2} {bytes : List Byte} (isOpen : s.PortOpen p) : exec (.requestRejected p bytes) s = .next (
    if bytes.length ≠ 10 then s.noise p bytes
    else if (crc16 (bytes.take 8)).toNat ≠ fieldAt bytes 8 2 then
      ((s.noise p bytes).crcError p).lift (if (((s.noise p bytes).crcError p).dev.port p).frozen then Dev.replyFrozen p (fieldAt bytes 0 1) (fieldAt bytes 1 1)
        else Dev.replyFree p { opc := fieldAt bytes 0 1, byte1 := fieldAt bytes 1 1, kind := 2, code := 1 })
    else if malformed (fieldAt bytes 0 1) (fieldAt bytes 1 1) = false then s.noise p bytes
    else ((s.noise p bytes).freeze p 3).lift (Dev.replyFrozen p (fieldAt bytes 0 1) (fieldAt bytes 1 1))) := by
  have noisy : (s.noise p bytes).PortOpen p := by
    rw [State.noise_eq]
    exact isOpen.withPort (x := (s.dev.port p).noise bytes) isOpen.2.2.2 _
  have seen : (if s.dev.inReset then s else s.lift fun d => d.onPort p fun x => { x with mosi := bytes.take 10, miso := List.replicate 28 0 }) = s.noise p bytes :=
    if_neg (by simp [isOpen.1.1])
  obtain ⟨⟨out, -⟩, board, boot, usable⟩ := noisy
  change execRequestRejected p bytes s = _
  unfold execRequestRejected
  simp only [seen, out, board, boot, usable]
  simp only [Bool.false_eq_true, if_false, decide_false, Bool.or_false, decide_eq_true_eq, Bool.not_eq_true', apply_ite Host.Outcome.next]

/-! ## What a response leaves -/

section
variable (p : Fin 2) (x : Port) (r : Resp) (n : Nat) (s : State)

theorem State.answered : ((s.withPort p (x.answer r) n).dev.port p).resp = r := by rw [State.withPort_port]; rfl

theorem State.answered_code {st : Status} (kind : r.kind = 0) (code : r.code = st.code) : ((s.withPort p (x.answer r) n).dev.port p).resp.code = st.code
    ∧ ((s.withPort p (x.answer r) n).dev.port p).resp.kind = 0
    ∧ ((s.withPort p (x.answer r) n).dev.port p).miso = List.replicate 14 0 ++ ((s.withPort p (x.answer r) n).dev.port p).resp.bytes := by
  rw [State.withPort_port]
  exact ⟨code, kind, rfl⟩

end

section
variable (q : Req) (opc : Nat) (tagged snaprd : Bool) (r : Resp) (n : Nat) (s : State)

/-- The state in which the port has only answered. -/
def State.responds : State := s.withPort q.port (((s.dev.port q.port).admits q opc tagged snaprd).answer r) n

theorem State.responds_asWas : (s.responds q opc tagged snaprd r n).dev.port q.port = { s.dev.port q.port with
      crcRun := 0, resp := ((s.responds q opc tagged snaprd r n).dev.port q.port).resp, irq := ((s.responds q opc tagged snaprd r n).dev.port q.port).irq
      mosi := ((s.responds q opc tagged snaprd r n).dev.port q.port).mosi, miso := ((s.responds q opc tagged snaprd r n).dev.port q.port).miso }
    ∧ s.OnlyPort q.port (s.responds q opc tagged snaprd r n) := by
  refine ⟨?_, State.withPort_onlyPort ..⟩
  rw [State.responds, State.withPort_port]
  rfl

end

/-- What the delivery of a completion leaves (R281, R286). -/
theorem State.delivers_consumes (q : Req) (opc : Nat) (c : Completion) (s : State) :
    ((s.delivers q opc c).dev.port q.port).resp = s.dev.stamped q.port (Port.consume c ((s.dev.port q.port).admits q opc false false)) c.resp
    ∧ s.OnlyPort q.port (s.delivers q opc c)
    ∧ ((s.delivers q opc c).dev.port q.port).cq = (s.dev.port q.port).cq.filter (fun y => y.tag ≠ c.tag)
    ∧ ((s.delivers q opc c).dev.port q.port).tags = (s.dev.port q.port).tags.filter (fun y => y.1 ≠ c.tag)
    ∧ ((s.delivers q opc c).dev.port q.port).recalled = (c :: (s.dev.port q.port).recalled).take 16 := by
  refine ⟨State.answered .., State.withPort_onlyPort .., ?_⟩
  rw [State.delivers, State.withPort_port]
  exact ⟨rfl, rfl, rfl⟩

/-- The delivery as the statement of a completion's answer has it. -/
theorem State.consumed (q : Req) (opc : Nat) (c : Completion) (s : State) :
    (((((s.delivers q opc c).dev.port q.port).resp.code = c.status.code ∧ ((s.delivers q opc c).dev.port q.port).resp.kind = 0
          ∧ ((s.delivers q opc c).dev.port q.port).miso = List.replicate 14 0 ++ ((s.delivers q opc c).dev.port q.port).resp.bytes)
        ∧ ((s.delivers q opc c).dev.port q.port).resp.opc = c.opc ∧ ((s.delivers q opc c).dev.port q.port).resp.data = c.data
        ∧ ((s.delivers q opc c).dev.port q.port).resp.frame = c.frame)
      ∧ ((s.delivers q opc c).dev.port q.port).resp.replayed = c.replayed ∧ s.OnlyPort q.port (s.delivers q opc c)
      ∧ ((s.delivers q opc c).dev.port q.port).cq = (s.dev.port q.port).cq.filter (fun y => y.tag ≠ c.tag)
      ∧ ((s.delivers q opc c).dev.port q.port).tags = (s.dev.port q.port).tags.filter (fun y => y.1 ≠ c.tag)
      ∧ ((s.delivers q opc c).dev.port q.port).recalled = (c :: (s.dev.port q.port).recalled).take 16) := by
  obtain ⟨resp, only, cq, tags, recalled⟩ := s.delivers_consumes q opc c
  refine ⟨⟨State.answered_code _ _ _ _ _ rfl rfl, ?_, ?_, ?_⟩, ?_, only, cq, tags, recalled⟩
  all_goals
    rw [resp]
    rfl

/-- What taking or releasing a snapshot leaves of the snapshots and the other ports (R285). -/
theorem State.snapshot_taken (p : Fin 2) (b : Option Dev) (x : Port) (n : Nat) (s : State) :
    ((s.setSnap p b).withPort p x n).snapOf p = b ∧ (((s.setSnap p b).withPort p x n).dev.port p).snapHeld = x.snapHeld
    ∧ (∀ o, o ≠ p → ((s.setSnap p b).withPort p x n).snapOf o = s.snapOf o ∧ ((s.setSnap p b).withPort p x n).dev.port o = s.dev.port o)
    ∧ (s.setSnap p b).withPort p x n = { s with
        dev := ((s.setSnap p b).withPort p x n).dev, snap0 := ((s.setSnap p b).withPort p x n).snap0, snap1 := ((s.setSnap p b).withPort p x n).snap1 } := by
  refine ⟨State.setSnap_snapOf .., congrArg Port.snapHeld (State.withPort_port ..), fun o other => ⟨State.setSnap_snapOf_other other b s, ?_⟩, ?_⟩
  · exact ((State.withPort_onlyPort p x n (s.setSnap p b)).2 o other).trans (congrArg (fun d => d.port o) (State.setSnap_dev ..))
  · obtain ⟨y, z, eq⟩ := s.setSnap_eq p b
    rw [eq]
    rfl

/-! ## Rejected bytes and refused requests -/

theorem State.noise_frozenBy {p : Fin 2} {v : Nat} {bytes : List Byte} {s t : State} (frozen : (s.noise p bytes).FrozenBy p v t) : s.FrozenBy p v t := by
  refine frozen.seen ?_ ?_
  · rw [State.noise_eq, State.withPort_port]
    rfl
  · rw [State.noise_eq, State.withPort, Dev.withPort_halfOfPort]

/-- An answer that leaves the port's journal and its freezing alone. -/
theorem State.responds_alone {c : Instr} {p : Fin 2} {x : Port} {r : Resp} {n : Nat} {s : State} {st : Status}
    (runs : exec c s = .next (s.withPort p (x.answer r) n)) (code : r.code = st.code) (journal : x.journal = (s.dev.port p).journal)
    (frozen : x.frozen = (s.dev.port p).frozen) : ∃ t, exec c s = .next t ∧ (t.dev.port p).resp.code = st.code
      ∧ (t.dev.port p).journal = (s.dev.port p).journal ∧ (t.dev.port p).frozen = (s.dev.port p).frozen ∧ s.OnlyPort p t := by
  refine ⟨_, runs, ?_⟩
  rw [State.withPort_port]
  exact ⟨code, journal, frozen, State.withPort_onlyPort ..⟩

theorem State.hears_replyFrozen (q : Req) (opc : Nat) (tagged : Bool) (s : State) :
    (s.hears q opc tagged false).lift (Dev.replyFrozen q.port opc (byte1 q.tag tagged false))
      = s.withPort q.port (((s.dev.port q.port).hear q opc tagged false).answer (frozenResp opc (byte1 q.tag tagged false))) s.dev.freeCtr :=
  State.withPort_onPort ..

end Sys2Proof.Machine
end

section
/-! The settled statement of the direct operations. -/
namespace Sys2Proof.Proofs
open Sys2Proof Sys2Proof.Machine

/-- Settles O57: the gate lets a direct operation of an open port pass, and each operation is the state it leaves. -/
theorem directOperationsAnswerAtOnce : Obligations.DirectOperationsAnswerAtOnce := by
  refine ⟨fun s q isOpen => ?_, fun s p isOpen => ?_, fun s q out board boot => ?_⟩
  · have asWas (opc : Nat) (snaprd : Bool) (r : Resp) (n : Nat) := s.responds_asWas q opc false snaprd r n
    refine ⟨⟨_, exec_nop_open isOpen, State.answered_code _ _ _ _ _ rfl rfl, asWas ..⟩, fun bank => ?_, fun y held => ?_, fun none => ?_, ?_, ?_, fun empty => ?_,
      fun c rest queued => ?_, fun c queued => ?_, fun none => ?_, fun c recalled => ?_, fun none => ?_, ?_⟩
    · have reads : (s.begins q 0x01 false false).readResult q.port q.index false ((s.begins q 0x01 false false).bankAt q.port q.cyc)
          = (.ok, (if q.cyc < 384 then s.prev else s.bank).frame, (if q.cyc < 384 then s.prev else s.bank).readReg q.port q.index) := by
        rw [State.begins_bankAt isOpen]
        simp only [State.readResult, bank, Bool.or_self, Bool.false_eq_true, if_false]
      refine ⟨_, exec_read_open isOpen reads, State.answered_code _ _ _ _ _ rfl rfl, ?_, ?_, asWas ..⟩
      · exact congrArg Resp.frame (State.answered ..)
      · exact congrArg Resp.data (State.answered ..)
    · have reads : (s.begins q 0x01 false true).readResult q.port q.index true ((s.begins q 0x01 false true).bankAt q.port q.cyc)
          = (.ok, y.frame, y.readReg q.port q.index) := by
        have held' : (s.begins q 0x01 false true).snapOf q.port = some y := held
        simp only [State.readResult, held', Bool.true_or, if_true]
      refine ⟨_, exec_read_open isOpen reads, State.answered_code _ _ _ _ _ rfl rfl, ?_, ?_, asWas ..⟩
      · exact congrArg Resp.frame (State.answered ..)
      · exact congrArg Resp.data (State.answered ..)
    · exact ⟨_, exec_read_unready isOpen none, State.answered_code _ _ _ _ _ rfl rfl, asWas ..⟩
    · exact ⟨_, exec_snap_open isOpen, State.answered_code _ _ _ _ _ rfl rfl, State.snapshot_taken _ _ _ _ _⟩
    · exact ⟨_, exec_snapRelease_open isOpen, State.answered_code _ _ _ _ _ rfl rfl, State.snapshot_taken _ _ _ _ _⟩
    · exact ⟨_, exec_cqPop_empty isOpen empty, State.answered_code _ _ _ _ _ rfl rfl, asWas ..⟩
    · exact ⟨_, exec_cqPop_open isOpen queued, State.consumed ..⟩
    · exact ⟨_, exec_result_open isOpen queued, State.consumed ..⟩
    · exact ⟨_, exec_result_none isOpen none, State.answered_code _ _ _ _ _ rfl rfl, asWas ..⟩
    · refine ⟨_, exec_recall_open isOpen recalled, ⟨State.answered_code _ _ _ _ _ rfl rfl, ?_, ?_, ?_⟩, ?_, asWas ..⟩
      · exact congrArg Resp.opc (State.answered ..)
      · exact congrArg Resp.data (State.answered ..)
      · exact congrArg Resp.frame (State.answered ..)
      · exact congrArg Resp.replayed (State.answered ..)
    · exact ⟨_, exec_recall_none isOpen none, State.answered_code _ _ _ _ _ rfl rfl, asWas ..⟩
    · have closes := exec_sessionClose_open isOpen
      by_cases serves : s.dev.stackMember = false ∧ ((s.dev.node (s.dev.halfOfPort q.port)).sys.inService = true ∨ (s.dev.node (s.dev.halfOfPort q.port)).sys = .awaitRig)
      · rw [if_pos serves] at closes
        have port := State.withPort_port q.port
        refine Eq.mpr (if_pos serves) ⟨_, closes, State.answered_code _ _ _ _ _ rfl rfl, ?_, ?_, ?_, State.withPort_onlyPort ..⟩
        all_goals
          rw [State.directly, State.withPort_port]
          rfl
      · rw [if_neg serves] at closes
        exact Eq.mpr (if_neg serves) ⟨_, closes, State.answered_code _ _ _ _ _ rfl rfl, asWas ..⟩
  · have ⟨⟨out, _⟩, board, boot, usable⟩ := isOpen
    have noisy : ∀ bytes, (s.noise p bytes).PortOpen p := fun bytes => by
      rw [State.noise_eq]
      exact isOpen.withPort (x := (s.dev.port p).noise bytes) usable _
    have count : ∀ bytes, ((s.noise p bytes).dev.port p).crcRun = (s.dev.port p).crcRun := fun bytes => by
      rw [State.noise_eq, State.withPort_port]
      rfl
    have cut : exec (.hostTransactionCut p) s = .next (s.crcError p) := rfl
    refine ⟨?_, fun bytes => ⟨fun fine => ?_, fun ten bad early => ?_, fun ten bad third => ?_, fun ten good malformed => ?_⟩⟩
    · split
      · next early =>
        rw [cut, State.crcError_open isOpen, if_neg (by omega)]
        rfl
      · next third =>
        rw [cut, State.crcError_open isOpen, if_pos (by omega)]
        exact ⟨_, rfl, State.freeze_frozen ..⟩
    · refine (exec_requestRejected_open isOpen).trans (congrArg Host.Outcome.next ?_)
      rcases fine with other | ⟨good, formed⟩
      · exact if_pos other
      · by_cases ten : bytes.length = 10
        · exact ((if_neg (by simp [ten])).trans (if_neg (by simp [good]))).trans (if_pos formed)
        · exact if_pos ten
    · have rejects := exec_requestRejected_open (bytes := bytes) isOpen
      have early' : ¬ 2 ≤ ((s.noise p bytes).dev.port p).crcRun := by
        rw [count]
        exact Nat.not_le.mpr early
      have counts : (s.noise p bytes).lift (Dev.onPort p Port.countCrc) = s.withPort p ((s.dev.port p).noise bytes).countCrc s.dev.freeCtr := by
        rw [State.noise_eq, State.withPort_onPort]
      have usable' : ¬ ((s.withPort p ((s.dev.port p).noise bytes).countCrc s.dev.freeCtr).dev.port p).frozen = true := by
        rw [State.withPort_port]
        exact Bool.eq_false_iff.mp usable
      rw [if_neg (by simp [ten]), if_pos bad, State.crcError_open (noisy bytes), if_neg early', counts, if_neg usable', State.withPort_replyFree] at rejects
      refine ⟨_, rejects, ?_, ?_, ?_, ?_, State.withPort_onlyPort ..⟩
      all_goals rw [State.withPort_port]
      exacts [rfl, rfl, congrArg (· + 1) rfl, usable]
    · have rejects := exec_requestRejected_open (bytes := bytes) isOpen
      have frozen := State.freeze_frozen p 1 (s.noise p bytes)
      have third' : 2 ≤ ((s.noise p bytes).dev.port p).crcRun := by
        rw [count]
        exact third
      rw [if_neg (by simp [ten]), if_pos bad, State.crcError_open (noisy bytes), if_pos third', if_pos frozen.1] at rejects
      obtain ⟨frozen', code⟩ := frozen.replyFrozen (opc := fieldAt bytes 0 1) (b1 := fieldAt bytes 1 1)
      exact ⟨_, rejects, State.noise_frozenBy frozen', code⟩
    · have rejects := exec_requestRejected_open (bytes := bytes) isOpen
      have frozen := State.freeze_frozen p 3 (s.noise p bytes)
      rw [if_neg (by simp [ten]), if_neg (not_not.mpr good), if_neg (by simp [malformed])] at rejects
      obtain ⟨frozen', code⟩ := frozen.replyFrozen (opc := fieldAt bytes 0 1) (b1 := fieldAt bytes 1 1)
      exact ⟨_, rejects, State.noise_frozenBy frozen', code⟩
  · refine ⟨fun frozen => ⟨?_, ?_, ?_⟩, fun usable safe => ⟨?_, ?_⟩⟩
    · exact State.responds_alone (congrArg Host.Outcome.next ((State.request_frozen out (Dev.gate_frozen 0x08 q.tag false board boot frozen)).trans
        (State.hears_replyFrozen ..))) rfl rfl rfl
    · exact State.responds_alone (congrArg Host.Outcome.next ((State.request_frozen out (Dev.gate_frozen 0x02 q.tag true board boot frozen)).trans
        (State.hears_replyFrozen ..))) rfl rfl rfl
    · have waits : s.crcError q.port = s := if_pos (by simp [frozen])
      exact congrArg Host.Outcome.next waits
    · have passes : s.dev.gate q.port 0x08 q.tag false = .pass := (Dev.gate_safe 0x08 q.tag false board boot usable safe).trans (if_pos (by decide))
      exact State.responds_alone (congrArg Host.Outcome.next ((State.request_pass out passes).trans (State.withPort_direct ..))) rfl rfl rfl
    · have denied : s.dev.gate q.port 0x02 q.tag true = .denied := (Dev.gate_safe 0x02 q.tag true board boot usable safe).trans (if_neg (by decide))
      exact State.responds_alone (congrArg Host.Outcome.next ((State.request_denied out denied).trans (State.withPort_replyFree ..))) rfl rfl rfl

end Sys2Proof.Proofs
end

section
/-! Tagged operations (R279 to R282, R288, R290): the queue, the verdict of acceptance, the WRITEs, and what the update makes of a WRITE. -/
namespace Sys2Proof.Machine

/-! ## The queue -/

/-- The port with an operation queued. -/
def Port.queue (frame : Word) (c : HostCmd) (x : Port) : Port :=
  { x with
    tags := x.tags ++ [(c.tag, c.opc)], journal := x.journal ++ [c]
    session := if c.opc = 0x01 || c.opc = 0x10 then x.session else x.session.map fun (y : Session) => { y with last := frame } }

/-- The answer that an operation is queued. -/
def Dev.accepted (c : HostCmd) (x : Port) (d : Dev) : Resp :=
  d.stamped c.port x { opc := c.opc, byte1 := byte1 c.tag true c.snaprd, kind := 1, frame := d.frame }

theorem Dev.withPort_frame (p : Fin 2) (x : Port) (n : Nat) (d : Dev) : (d.withPort p x n).frame = d.frame := by
  obtain ⟨a, b, eq⟩ := d.withPort_eq p x n
  rw [eq]

theorem Dev.withPort_enqueue (c : HostCmd) (x : Port) (n : Nat) (d : Dev) :
    (d.withPort c.port x n).enqueue c = d.withPort c.port ((x.queue d.frame c).answer (d.accepted c (x.queue d.frame c))) n := by
  have queued : (d.withPort c.port x n).onPort c.port (Port.queue (d.withPort c.port x n).frame c) = d.withPort c.port (x.queue d.frame c) n := by
    rw [Dev.withPort_onPort, Dev.withPort_frame]
  have replied := Dev.withPort_reply c.port (x.queue d.frame c) n { opc := c.opc, byte1 := byte1 c.tag true c.snaprd, kind := 1, frame := d.frame } d
  rw [← queued] at replied
  refine Eq.trans ?_ replied
  unfold Dev.enqueue
  have frame : ((d.withPort c.port x n).onPort c.port (Port.queue (d.withPort c.port x n).frame c)).frame = d.frame := by rw [queued, Dev.withPort_frame]
  rw [← frame]
  rfl

/-- What acceptance records of a request depends on its port and the frame alone. -/
theorem State.begins_hostCmd (q : Req) (o opc : Nat) (t sn snaprd : Bool) (s : State) : (s.begins q o t sn).dev.hostCmd q opc snaprd = s.dev.hostCmd q opc snaprd := by
  have frame : (s.begins q o t sn).dev.frame = s.dev.frame := Dev.withPort_frame ..
  rw [Dev.hostCmd, State.begins_port, frame]
  rfl

theorem Dev.withPort_fields (p : Fin 2) (x : Port) (n : Nat) (d : Dev) :
    d.withPort p x n = { d with port0 := if p = 0 then x else d.port0, port1 := if p = 0 then d.port1 else x, freeCtr := n } := by
  unfold Dev.withPort Dev.setPort
  split <;> rfl

/-- Fault 0xA7 as the log's capacity has it (R319). -/
def Faults.capacity (l : ChangeLog) (f : Faults) : Faults :=
  if l.free = 0 then (if f.active.any (FaultKey.same { code := 0xA7, kind := .device, obj := 0, half := .a }) then f
    else f.raise { code := 0xA7, kind := .device, obj := 0, half := .a, partner := 0xFFFF })
  else f.clear { code := 0xA7, kind := .device, obj := 0, half := .a }

theorem Dev.logCapacity_frame (d : Dev) : d.logCapacity = { d with faults := d.faults.capacity d.log } := by
  unfold Dev.logCapacity Faults.capacity
  split
  · next full =>
    by_cases shown : d.hasFault 0xA7 .device 0 = true
    · exact (if_pos shown).trans (by rw [if_pos (by exact shown)])
    · exact (if_neg shown).trans (by rw [if_neg (by exact shown)]; rfl)
  · rfl

theorem Dev.withPort_logCapacity (p : Fin 2) (x : Port) (n : Nat) (d : Dev) : (d.withPort p x n).logCapacity = d.logCapacity.withPort p x n := by
  rw [Dev.logCapacity_frame, Dev.logCapacity_frame, Dev.withPort_fields, Dev.withPort_fields]

theorem Dev.withPort_reserve (p : Fin 2) (x : Port) (n : Nat) (d : Dev) : (d.withPort p x n).reserve = d.reserve.withPort p x n := by
  have counted : (d.withPort p x n).onLog (fun l => { l with reserved := l.reserved + 1 }) = (d.onLog fun l => { l with reserved := l.reserved + 1 }).withPort p x n := by
    rw [Dev.withPort_fields, Dev.withPort_fields]
    rfl
  rw [Dev.reserve, counted, Dev.withPort_logCapacity]
  rfl

/-- What a reservation changes (R318). -/
theorem Dev.reserve_spec (d : Dev) : ∃ f, d.reserve = { d with log := { d.log with reserved := d.log.reserved + 1 }, faults := f } :=
  ⟨_, Dev.logCapacity_frame (d.onLog fun l => { l with reserved := l.reserved + 1 })⟩

theorem Dev.withPort_refuses (p : Fin 2) (x : Port) (n : Nat) (c : HostCmd) (d : Dev) : (d.withPort p x n).refuses c = d.refuses c := by
  rw [Dev.withPort_fields]
  rfl

theorem Dev.withPort_mayReserve (p : Fin 2) (x : Port) (n : Nat) (d : Dev) : (d.withPort p x n).mayReserve = d.mayReserve := by
  rw [Dev.withPort_fields]
  rfl

/-- The verdict of acceptance does not look at the port. -/
theorem Dev.withPort_takeIn (p : Fin 2) (x : Port) (n : Nat) (c : HostCmd) (d : Dev) :
    (d.withPort p x n).takeIn c = ((d.takeIn c).1, (d.takeIn c).2.withPort p x n) := by
  rw [Dev.takeIn, Dev.withPort_refuses, Dev.withPort_mayReserve, Dev.withPort_reserve, Dev.takeIn]
  split
  · rfl
  · split
    · split <;> rfl
    · rfl

/-! ## An operation in the queue -/

/-- The state in which `e` is queued on the device `d`. -/
def State.queues (q : Req) (snaprd : Bool) (e : HostCmd) (d : Dev) (s : State) : State :=
  { s with dev := d.withPort e.port ((((s.dev.port q.port).admits q e.opc true snaprd).queue d.frame e).answer
      (d.accepted e (((s.dev.port q.port).admits q e.opc true snaprd).queue d.frame e))) s.dev.freeCtr }

/-- What a queued operation leaves: its entry and tag, the answer, the other ports. -/
structure State.Queued (s : State) (p : Fin 2) (e : HostCmd) (t : State) : Prop where
  journal : (t.dev.port p).journal = (s.dev.port p).journal ++ [e]
  tags : (t.dev.port p).tags = (s.dev.port p).tags ++ [(e.tag, e.opc)]
  kind : (t.dev.port p).resp.kind = 1
  frame : (t.dev.port p).resp.frame = s.dev.frame
  cq : (t.dev.port p).cq = (s.dev.port p).cq
  usable : (t.dev.port p).frozen = false
  others : ∀ o, o ≠ p → t.dev.port o = s.dev.port o
  device : t = { s with dev := { s.dev with port0 := t.dev.port0, port1 := t.dev.port1, log := t.dev.log, faults := t.dev.faults } }

theorem State.queues_port {q : Req} {snaprd : Bool} {e : HostCmd} {d : Dev} {s : State} (own : e.port = q.port) : (s.queues q snaprd e d).dev.port q.port
    = (((s.dev.port q.port).admits q e.opc true snaprd).queue d.frame e).answer (d.accepted e (((s.dev.port q.port).admits q e.opc true snaprd).queue d.frame e)) := by
  rw [State.queues, own, Dev.port_withPort]

theorem State.queues_queued {q : Req} {snaprd : Bool} {e : HostCmd} {d : Dev} {s : State} {l : ChangeLog} {f : Faults} (isOpen : s.PortOpen q.port)
    (own : e.port = q.port) (device : d = { s.dev with log := l, faults := f }) : s.Queued q.port e (s.queues q snaprd e d) := by
  have port := State.queues_port (snaprd := snaprd) (d := d) (s := s) own
  have frame : d.frame = s.dev.frame := by rw [device]
  refine ⟨?_, ?_, ?_, ?_, ?_, ?_, fun o other => ?_, ?_⟩
  · rw [port]
    rfl
  · rw [port]
    rfl
  · rw [port]
    rfl
  · rw [port, ← frame]
    rfl
  · rw [port]
    rfl
  · rw [port]
    exact isOpen.2.2.2
  · rw [State.queues, own]
    exact (Dev.port_setPort_other _ d other).trans (by rw [device]; rfl)
  · rw [State.queues, Dev.withPort_fields, device]

theorem State.begins_enqueue {q : Req} {e : HostCmd} {snaprd : Bool} (own : e.port = q.port) (s : State) :
    (s.begins q e.opc true snaprd).lift (Dev.enqueue e) = s.queues q snaprd e s.dev := by
  have queued := Dev.withPort_enqueue e ((s.dev.port q.port).admits q e.opc true snaprd) s.dev.freeCtr s.dev
  rw [own] at queued
  rw [State.begins, State.withPort, State.lift, queued, State.queues, own]

theorem State.Queued.fields {s t : State} {p : Fin 2} {e : HostCmd} (queued : s.Queued p e t) : (t.dev.port p).journal = (s.dev.port p).journal ++ [e]
    ∧ (t.dev.port p).tags = (s.dev.port p).tags ++ [(e.tag, e.opc)] ∧ (t.dev.port p).resp.kind = 1 ∧ (t.dev.port p).resp.frame = s.dev.frame
    ∧ (t.dev.port p).cq = (s.dev.port p).cq ∧ (t.dev.port p).frozen = false ∧ (∀ o, o ≠ p → t.dev.port o = s.dev.port o)
    ∧ t = { s with dev := { s.dev with port0 := t.dev.port0, port1 := t.dev.port1, log := t.dev.log, faults := t.dev.faults } } :=
  ⟨queued.journal, queued.tags, queued.kind, queued.frame, queued.cq, queued.usable, queued.others, queued.device⟩

theorem State.queues_log (q : Req) (snaprd : Bool) (e : HostCmd) (d : Dev) (s : State) : (s.queues q snaprd e d).dev.log = d.log := by
  rw [State.queues, Dev.withPort_fields]

section
variable {s : State} {q : Req} (isOpen : s.PortOpen q.port) (free : (s.dev.port q.port).tags.any (fun y => y.1 == q.tag % 64) = false)
include isOpen free

theorem State.tagged_runs (opc : Nat) (snaprd : Bool) (act : State → State) : s.request q opc true snaprd act = act (s.begins q opc true snaprd) :=
  State.request_pass isOpen.1.1 ((Dev.gate_tagged opc q.tag isOpen).trans (if_neg (by simp [free])))

/-- A command in its queued form (R280, R281, R288). -/
theorem State.command_runs (opc : Nat) : s.command opc q
    = s.queues q false (s.dev.takeIn (s.dev.hostCmd q opc false)).1 (s.dev.takeIn (s.dev.hostCmd q opc false)).2 := by
  rw [State.command, State.tagged_runs isOpen free]
  have hosted := State.begins_hostCmd q opc opc true false false s
  have own : (s.dev.takeIn (s.dev.hostCmd q opc false)).1.port = q.port ∧ (s.dev.takeIn (s.dev.hostCmd q opc false)).1.opc = opc := by
    rw [Dev.takeIn]
    split
    · exact ⟨rfl, rfl⟩
    · split
      · split <;> exact ⟨rfl, rfl⟩
      · exact ⟨rfl, rfl⟩
  have taken := Dev.withPort_takeIn q.port ((s.dev.port q.port).admits q opc true false) s.dev.freeCtr (s.dev.hostCmd q opc false) s.dev
  have accepted : (s.begins q opc true false).dev.acceptCommand opc q
      = ((s.dev.takeIn (s.dev.hostCmd q opc false)).2.withPort q.port ((s.dev.port q.port).admits q opc true false) s.dev.freeCtr).enqueue
          (s.dev.takeIn (s.dev.hostCmd q opc false)).1 := by
    rw [Dev.acceptCommand, hosted, State.begins, State.withPort, taken]
  rw [State.lift, accepted]
  have queued := Dev.withPort_enqueue (s.dev.takeIn (s.dev.hostCmd q opc false)).1 ((s.dev.port q.port).admits q opc true false) s.dev.freeCtr
    (s.dev.takeIn (s.dev.hostCmd q opc false)).2
  rw [own.1] at queued
  rw [queued, State.queues, own.1, own.2]
  rfl

end

/-! ## The verdict of acceptance (R280, R318) -/

section
variable {d : Dev} {c : HostCmd}

theorem Dev.takeIn_refused (refused : d.refuses c = true) : d.takeIn c = ({ c with verdict := some .denied }, d) := if_pos refused

theorem Dev.takeIn_plain (lets : d.refuses c = false) (plain : loggedOps.contains c.opc = false) : d.takeIn c = (c, d) :=
  (if_neg (by simp [lets])).trans (if_neg (by rw [plain]; decide))

theorem Dev.takeIn_logged (lets : d.refuses c = false) (logged : loggedOps.contains c.opc = true) (room : d.mayReserve = true) :
    d.takeIn c = ({ c with reserved := true }, d.reserve) := ((if_neg (by simp [lets])).trans (if_pos logged)).trans (if_pos room)

theorem Dev.takeIn_full (lets : d.refuses c = false) (logged : loggedOps.contains c.opc = true) (full : d.mayReserve = false) :
    d.takeIn c = ({ c with verdict := some .denied }, d) := ((if_neg (by simp [lets])).trans (if_pos logged)).trans (if_neg (by simp [full]))

theorem Dev.takeIn_device (d : Dev) (c : HostCmd) : ∃ l f, (d.takeIn c).2 = { d with log := l, faults := f } := by
  obtain ⟨f, reserved⟩ := d.reserve_spec
  unfold Dev.takeIn
  split
  · exact ⟨_, _, rfl⟩
  · split
    · split
      · exact ⟨_, _, reserved⟩
      · exact ⟨_, _, rfl⟩
    · exact ⟨_, _, rfl⟩

theorem Dev.takeIn_entry (d : Dev) (c : HostCmd) : (d.takeIn c).1 = { c with verdict := (d.takeIn c).1.verdict, reserved := (d.takeIn c).1.reserved } := by
  unfold Dev.takeIn
  split
  · rfl
  · split
    · split <;> rfl
    · rfl

theorem Dev.refuses_sessionless (needs : sessionOps.contains c.opc = true) (without : c.operator = none) : d.refuses c = true := by
  simp only [Dev.refuses, needs, without, Option.isNone_none, Bool.and_self, Bool.or_true, Bool.true_or]

theorem Dev.refuses_mirroring (evaluates : evalOps.contains c.opc = true) (mirrors : d.mirrors = true) : d.refuses c = true := by
  have role : (decide (d.dpx.role = .standby) || decide (d.dpx.role = .syncing)) = true := mirrors
  simp only [Dev.refuses, evaluates, role, Bool.and_self, Bool.or_true, Bool.true_or]

end

/-! ## WRITEs (R282, R290, R386, R390) -/

theorem Dev.withPort_writeAnswer (p : Fin 2) (x : Port) (n : Nat) (c : HostCmd) (d : Dev) : (d.withPort p x n).writeAnswer c = d.writeAnswer c := by
  rw [Dev.withPort_fields]
  rfl

theorem State.begins_writeAnswer (q : Req) (opc : Nat) (tagged snaprd : Bool) (c : HostCmd) (s : State) :
    (s.begins q opc tagged snaprd).dev.writeAnswer c = s.dev.writeAnswer c := Dev.withPort_writeAnswer ..

theorem State.FrozenBy.begun {q : Req} {opc : Nat} {tagged snaprd : Bool} {v : Nat} {s t : State} (frozen : (s.begins q opc tagged snaprd).FrozenBy q.port v t) :
    s.FrozenBy q.port v t := by
  refine frozen.seen ?_ ?_
  · rw [State.begins_port]
    rfl
  · exact Dev.withPort_halfOfPort ..

section
variable {s : State} {q : Req} (isOpen : s.PortOpen q.port) (free : (s.dev.port q.port).tags.any (fun y => y.1 == q.tag % 64) = false)
include isOpen free

theorem State.write_denied (answer : s.dev.writeAnswer (s.dev.hostCmd q 0x02 false) = .denied) :
    s.write q = s.queues q false { s.dev.hostCmd q 0x02 false with verdict := some .denied } s.dev := by
  rw [State.write, State.tagged_runs isOpen free]
  simp only [State.begins_hostCmd]
  rw [State.begins_writeAnswer, answer]
  exact State.begins_enqueue (e := { s.dev.hostCmd q 0x02 false with verdict := some .denied }) rfl s

theorem State.write_taken (answer : s.dev.writeAnswer (s.dev.hostCmd q 0x02 false) = .take) :
    s.write q = s.queues q false (s.dev.hostCmd q 0x02 false) s.dev := by
  rw [State.write, State.tagged_runs isOpen free]
  simp only [State.begins_hostCmd]
  rw [State.begins_writeAnswer, answer]
  exact State.begins_enqueue (e := s.dev.hostCmd q 0x02 false) rfl s

theorem State.write_violates {v : Nat} (answer : s.dev.writeAnswer (s.dev.hostCmd q 0x02 false) = .violation v) :
    s.FrozenBy q.port v (s.write q) ∧ ((s.write q).dev.port q.port).resp.code = Status.frozen.code := by
  have write : s.write q = ((s.begins q 0x02 true false).freeze q.port v).lift (Dev.replyFrozen q.port 0x02 (byte1 q.tag true false)) := by
    rw [State.write, State.tagged_runs isOpen free]
    simp only [State.begins_hostCmd]
    rw [State.begins_writeAnswer, answer]
  obtain ⟨frozen, code⟩ := (State.freeze_frozen q.port v (s.begins q 0x02 true false)).replyFrozen (opc := 0x02) (b1 := byte1 q.tag true false)
  rw [write]
  exact ⟨frozen.begun, code⟩

end

section
variable {d : Dev} {c : HostCmd} (serves : d.stackMember = false) (service : (d.node (d.halfOfPort c.port)).sys.inService = true)
include serves service

theorem Dev.writeAnswer_readOnly (elsewhere : ¬ (0x80 ≤ c.index ∧ c.index ≤ 0xBF)) (access : accessOf c.index = .ro) : d.writeAnswer c = .denied := by
  have hst : (decide (0x80 ≤ c.index) && decide (c.index ≤ 0xBF)) = false := by simpa using elsewhere
  unfold Dev.writeAnswer
  simp only [serves, service, hst, access, Bool.false_eq_true, Bool.not_true, Bool.false_and, if_false]

theorem Dev.writeAnswer_protected (elsewhere : ¬ (0x80 ≤ c.index ∧ c.index ≤ 0xBF)) (access : accessOf c.index = .rwp) :
    d.writeAnswer c = if isSyCtrl c.index then d.ctrlAnswer c else if c.operator.isNone then .violation 2 else .take := by
  have hst : (decide (0x80 ≤ c.index) && decide (c.index ≤ 0xBF)) = false := by simpa using elsewhere
  unfold Dev.writeAnswer
  simp only [serves, service, hst, access, Bool.false_eq_true, Bool.not_true, Bool.false_and, if_false]

theorem Dev.writeAnswer_own {o : Nat} (within : o < 0x20) (index : c.index = 0x80 + 32 * c.port.val + o) (access : hstAccess o = .rw ∨ hstAccess o = .w1c) :
    d.writeAnswer c = .take := by
  have reg : (0x80 ≤ c.index ∧ c.index ≤ 0xBF) ∧ (c.index - 0x80) / 32 = c.port.val ∧ (c.index - 0x80) % 32 = o := by
    have := c.port.isLt
    omega
  obtain ⟨hst, own, o_eq⟩ := reg
  have acc : accessOf c.index = hstAccess o := by rw [accessOf, if_pos (by simpa using hst), o_eq]
  unfold Dev.writeAnswer
  simp only [serves, service, hst, own, acc, Bool.false_eq_true, Bool.not_true, decide_true, Bool.true_and, beq_self_eq_true, Bool.and_false, if_false]
  rcases access with h | h <;> simp only [h]

theorem Dev.writeAnswer_others {o : Nat} (within : o < 0x20) (index : c.index = 0x80 + 32 * (1 - c.port.val) + o) (access : hstAccess o ≠ .undefd) :
    d.writeAnswer c = .violation 5 := by
  have reg : (0x80 ≤ c.index ∧ c.index ≤ 0xBF) ∧ (c.index - 0x80) / 32 ≠ c.port.val ∧ (c.index - 0x80) % 32 = o := by
    have := c.port.isLt
    omega
  obtain ⟨hst, own, o_eq⟩ := reg
  unfold Dev.writeAnswer
  simp only [serves, service, hst, o_eq, access, beq_eq_false_iff_ne.mpr own, Bool.false_eq_true, Bool.not_true, Bool.not_false, decide_true, Bool.true_and, if_false, if_true]

theorem Dev.writeAnswer_clear (index : c.index = 0x56) : d.writeAnswer c = if c.operator.isNone then .violation 2 else .take := by
  rw [Dev.writeAnswer_protected serves service (by omega) (by rw [index]; rfl), index]
  rfl

theorem Dev.writeAnswer_holdoff {i : Nat} (within : i < 32) (index : c.index = 0x407 + 16 * i) (session : c.operator.isSome = true)
    (alone : d.stackMaster = false) (mayCal : d.mayCal = true) (shown : d.showsSys c.port i = true) : d.writeAnswer c = .take := by
  have ctrl : isSyCtrl c.index = true := by
    simp only [isSyCtrl, index, Bool.and_eq_true, decide_eq_true_eq, beq_iff_eq]
    omega
  have access : accessOf c.index = .rwp := by
    rw [accessOf, if_neg (by simp [index]; omega), if_pos (by simp [ctrl])]
  have number : (c.index - 0x400) / 16 = i := by omega
  have near : d.toMember c = false := by simp [Dev.toMember, alone]
  have operator : c.operator.isNone = false := by simpa using session
  rw [Dev.writeAnswer_protected serves service (by omega) access]
  simp only [ctrl, if_true, Dev.ctrlAnswer, number, near, shown, operator, mayCal, Bool.not_false, Bool.not_true, Bool.and_false, Bool.false_and, Bool.false_eq_true, if_false]
  split <;> rfl

end

/-! ## What the update makes of a WRITE (R282, R371, R373, R390) -/

theorem Dev.updateWrite_applies {d : Dev} {c : HostCmd} (undecided : c.verdict = none) (due : d.rig.actDue = none) (alone : d.stackMaster = false) :
    d.updateWrite c = (d.applyWrite c).complete c .ok 0 := by
  have near : d.toMember c = false := by simp [Dev.toMember, alone]
  have present : d.toAbsent c = false := by simp [Dev.toAbsent, near]
  unfold Dev.updateWrite
  simp only [due, present, undecided, near, Option.isSome_none, Bool.false_and, Bool.false_eq_true, if_false]

/-- The counters of one line. -/
def LinePhys.zero (x : LinePhys) : LinePhys := { x with single := 0, invalid := 0, echoErr := 0, decDis := 0 }

/-- The counter groups of SYS_CNTCLR (R371), each where its bit names it. -/
def Faults.zeroOcc (b : Bool) (x : Faults) : Faults := if b then { x with occ := [] } else x
def LineNode.zeroCounts (b : Bool) (l : LineNode) : LineNode :=
  if b then { l with mutes := 0, reefs := 0, zeroReefs := 0, wakesSent := 0, wakesIgnored := 0, lineA := l.lineA.zero, lineB := l.lineB.zero } else l
def Hal.zeroCounts (b : Bool) (x : Hal) : Hal := if b then { x with discard := 0, failF := 0, failR := 0 } else x
def Dpx.zeroCounts (b : Bool) (x : Dpx) : Dpx := if b then { x with uncert := 0, disagree := 0, unmirr := 0 } else x
def Bgw.zeroCounts (b : Bool) (x : Bgw) : Bgw :=
  if b then { x with scrubPasses := 0, scrubCor := 0, cmpPasses := 0, dropped := 0, telSkipped := 0, romPasses := 0 } else x
def Node.zeroResync (b : Bool) (n : Node) : Node := if b then { n with cores := { n.cores with resyncTotal := 0 } } else n

/-- A counter group's step. -/
def Dev.clearIf (b : Bool) (f : Dev → Dev) (d : Dev) : Dev := if b then f d else d

theorem Dev.clearIf_occ (b : Bool) (d : Dev) : d.clearIf b (fun d => { d with faults := { d.faults with occ := [] } }) = { d with faults := d.faults.zeroOcc b } := by
  cases b <;> rfl

theorem Dev.clearIf_line (b : Bool) (h : Half) (d : Dev) : d.clearIf b (Dev.onLine h fun l =>
    { l with mutes := 0, reefs := 0, zeroReefs := 0, wakesSent := 0, wakesIgnored := 0, lineA := l.lineA.zero, lineB := l.lineB.zero }) = d.onLine h (LineNode.zeroCounts b) := by
  cases b with
  | true => rfl
  | false => cases h <;> rfl

theorem Dev.clearIf_hal (b : Bool) (d : Dev) : d.clearIf b (Dev.onHal fun x => { x with discard := 0, failF := 0, failR := 0 }) = d.onHal (Hal.zeroCounts b) := by
  cases b <;> rfl

theorem Dev.clearIf_dpx (b : Bool) (d : Dev) : d.clearIf b (Dev.onDpx fun x => { x with uncert := 0, disagree := 0, unmirr := 0 }) = d.onDpx (Dpx.zeroCounts b) := by
  cases b <;> rfl

theorem Dev.clearIf_bgw (b : Bool) (d : Dev) : d.clearIf b (fun d => { d with bgw := { d.bgw with
    scrubPasses := 0, scrubCor := 0, cmpPasses := 0, dropped := 0, telSkipped := 0, romPasses := 0 } }) = { d with bgw := d.bgw.zeroCounts b } := by
  cases b <;> rfl

theorem Dev.clearIf_resync (b : Bool) (h : Half) (d : Dev) :
    d.clearIf b (Dev.onNode h fun n => { n with cores := { n.cores with resyncTotal := 0 } }) = d.onNode h (Node.zeroResync b) := by
  cases b with
  | true => rfl
  | false => cases h <;> rfl

/-- The device with the counters of SYS_CNTCLR cleared up to those of the background work. -/
def Dev.zeroed (h : Half) (w : Word) (d : Dev) : Dev :=
  ((({ d with faults := d.faults.zeroOcc (bit w 0) } : Dev).onLine h (LineNode.zeroCounts (bit w 1))).onHal (Hal.zeroCounts (bit w 2))).onDpx (Dpx.zeroCounts (bit w 3))

theorem Dev.clearCounters_eq (h : Half) (w : Word) (d : Dev) : d.clearCounters h w
    = ({ d.zeroed h w with bgw := (d.zeroed h w).bgw.zeroCounts (bit w 4) } : Dev).onNode h (Node.zeroResync (bit w 5)) := by
  rw [← Dev.clearIf_resync, ← Dev.clearIf_bgw, Dev.zeroed, ← Dev.clearIf_dpx, ← Dev.clearIf_hal, ← Dev.clearIf_line, ← Dev.clearIf_occ]
  rfl

theorem Dev.clearCounters_clears (h : Half) (w : Word) (d : Dev) :
    (bit w 0 = true → (d.clearCounters h w).faults.occ = [])
    ∧ (bit w 1 = true → ((d.clearCounters h w).line h).mutes = 0 ∧ ((d.clearCounters h w).line h).lineA.invalid = 0 ∧ ((d.clearCounters h w).line h).lineB.invalid = 0)
    ∧ (bit w 2 = true → (d.clearCounters h w).hal.discard = 0 ∧ (d.clearCounters h w).hal.failF = 0 ∧ (d.clearCounters h w).hal.failR = 0)
    ∧ (bit w 3 = true → (d.clearCounters h w).dpx.uncert = 0 ∧ (d.clearCounters h w).dpx.disagree = 0 ∧ (d.clearCounters h w).dpx.unmirr = 0)
    ∧ (bit w 4 = true → (d.clearCounters h w).bgw.scrubPasses = 0 ∧ (d.clearCounters h w).bgw.cmpPasses = 0 ∧ (d.clearCounters h w).bgw.romPasses = 0
        ∧ (d.clearCounters h w).bgw.dropped = 0)
    ∧ (bit w 5 = true → ((d.clearCounters h w).node h).cores.resyncTotal = 0) := by
  rw [Dev.clearCounters_eq]
  have line : (({ d.zeroed h w with bgw := (d.zeroed h w).bgw.zeroCounts (bit w 4) } : Dev).onNode h (Node.zeroResync (bit w 5))).line h
      = LineNode.zeroCounts (bit w 1) (d.line h) := by
    cases bit w 5 <;> cases h <;> rfl
  refine ⟨fun named => ?_, fun named => ?_, fun named => ?_, fun named => ?_, fun named => ?_, fun named => ?_⟩
  · have occ : (d.zeroed h w).faults = d.faults.zeroOcc (bit w 0) := by cases h <;> rfl
    rw [Dev.onNode_faults, occ, named]
    rfl
  · rw [line, named]
    exact ⟨rfl, rfl, rfl⟩
  · have hal : (d.zeroed h w).hal = d.hal.zeroCounts (bit w 2) := by cases h <;> rfl
    rw [Dev.onNode_hal, hal, named]
    exact ⟨rfl, rfl, rfl⟩
  · have dpx : (d.zeroed h w).dpx = d.dpx.zeroCounts (bit w 3) := by cases h <;> rfl
    rw [Dev.onNode_dpx, dpx, named]
    exact ⟨rfl, rfl, rfl⟩
  · rw [Dev.onNode_bgw, named]
    exact ⟨rfl, rfl, rfl, rfl⟩
  · rw [Dev.node_onNode, named]
    rfl

/-- A WRITE to the port's own IRQSTAT clears the bits it names (R373). -/
theorem Dev.applyWrite_irqstat {d : Dev} {c : HostCmd} (index : c.index = 0x86 + 32 * c.port.val) :
    ((d.applyWrite c).port c.port).irqStat = (d.port c.port).irqStat &&& (8191 - c.data.toNat % 8192) := by
  have reg : (0x80 ≤ c.index ∧ c.index ≤ 0xBF) ∧ (c.index - 0x80) / 32 = c.port.val ∧ (c.index - 0x80) % 32 = 6 := by
    have := c.port.isLt
    omega
  obtain ⟨hst, own, register⟩ := reg
  rw [Dev.applyWrite, if_pos (by simpa using hst), if_pos (by simp [own]), register, Dev.port_onPort]
  rfl

theorem Dev.applyWrite_clears {d : Dev} {c : HostCmd} (index : c.index = 0x56) : d.applyWrite c = d.clearCounters (d.halfOfPort c.port) c.data := by
  rw [Dev.applyWrite, if_neg (by simp [index]), if_pos index]

/-- A WRITE to SY_CTRL that sets HOLDOFF opens the line and ends the system's usability (R390). -/
theorem Dev.applyWrite_holdoff {d : Dev} {c : HostCmd} {i : Nat} (within : i < 32) (index : c.index = 0x407 + 16 * i) (defd : (d.sys i).defd = true)
    (sets : bit c.data 16 = true) (clear : (d.sys i).holdoff = false) : (d.applyWrite c).systems = d.systems.modify i fun s => { s.switchOff with holdoff := true, usable := false } := by
  have ctrl : isSyCtrl c.index = true := by
    simp only [isSyCtrl, index, Bool.and_eq_true, decide_eq_true_eq, beq_iff_eq]
    omega
  have number : (c.index - 0x400) / 16 = i := by omega
  rw [Dev.applyWrite, if_neg (by simp [index]; omega), if_neg (by omega), if_pos ctrl, number, sets, Dev.holdoff]
  have acts : (!(d.sys i).defd || (d.sys i).holdoff == true) = false := by simp [defd, clear]
  simp only [acts, Bool.false_eq_true, if_false, if_true]
  exact congrArg Dev.systems (Dev.mapOwn_frame ..)

end Sys2Proof.Machine
end

section
/-! The settled statement of the tagged operations. -/
namespace Sys2Proof.Proofs
open Sys2Proof Sys2Proof.Machine

/-- The commands that only enter the queue, each with its opcode. -/
def queuedCommands : List ((Req → Instr) × Nat) :=
  [(.resetArm, 0x20), (.resetConfirm, 0x21), (.outClear, 0x22), (.reefPropose, 0x23), (.wake, 0x24), (.switchover, 0x25),
    (.resync, 0x26), (.shutdown, 0x27), (.unfreeze, 0x28), (.splitForbid, 0x29), (.pwRecover, 0x39), (.logAck, 0x3B), (.calWrite, 0x3C), (.calClear, 0x3D), (.otpRead, 0x3E)]

theorem exec_queued (s : State) (q : Req) : ∀ c ∈ queuedCommands, exec (c.1 q) s = .next (s.command c.2 q) := by
  simp only [queuedCommands, List.forall_mem_cons]
  exact ⟨rfl, rfl, rfl, rfl, rfl, rfl, rfl, rfl, rfl, rfl, rfl, rfl, rfl, rfl, rfl, by simp⟩

/-- The answer BUSY to a tag in use (R281). -/
theorem State.busy {s : State} {q : Req} {c : Instr} {opc : Nat} {snaprd : Bool} {act : State → State} (runs : exec c s = .next (s.request q opc true snaprd act))
    (isOpen : s.PortOpen q.port) (used : (s.dev.port q.port).tags.any (fun y => y.1 == q.tag % 64) = true) :
    ∃ t, exec c s = .next t ∧ (t.dev.port q.port).resp.kind = 2 ∧ (t.dev.port q.port).resp.code = 2 ∧ (t.dev.port q.port).journal = (s.dev.port q.port).journal
      ∧ (t.dev.port q.port).tags = (s.dev.port q.port).tags ∧ s.OnlyPort q.port t := by
  have busy := (State.request_busy (snaprd := snaprd) (act := act) isOpen.1.1 ((Dev.gate_tagged opc q.tag isOpen).trans (if_pos used))).trans (State.withPort_replyFree ..)
  refine ⟨_, runs.trans (congrArg Host.Outcome.next busy), ?_, ?_, ?_, ?_, State.withPort_onlyPort ..⟩
  all_goals
    rw [State.withPort_port]
    rfl

/-- A WRITE that acceptance takes, or marks DENIED. -/
theorem State.write_queues {w : Req} {c : Instr} {s : State} (runs : exec c s = .next (s.write w)) (isOpen : s.PortOpen w.port)
    (free : (s.dev.port w.port).tags.any (fun y => y.1 == w.tag % 64) = false) :
    (s.dev.writeAnswer (s.dev.hostCmd w 0x02 false) = .take → ∃ t, exec c s = .next t ∧ s.Queued w.port (s.dev.hostCmd w 0x02 false) t)
    ∧ (s.dev.writeAnswer (s.dev.hostCmd w 0x02 false) = .denied →
        ∃ t, exec c s = .next t ∧ s.Queued w.port { s.dev.hostCmd w 0x02 false with verdict := some .denied } t)
    ∧ (∀ v, s.dev.writeAnswer (s.dev.hostCmd w 0x02 false) = .violation v →
        ∃ t, exec c s = .next t ∧ s.FrozenBy w.port v t ∧ (t.dev.port w.port).resp.code = Status.frozen.code) :=
  ⟨fun answer => ⟨_, runs.trans (congrArg Host.Outcome.next (State.write_taken isOpen free answer)), State.queues_queued isOpen rfl rfl⟩,
    fun answer => ⟨_, runs.trans (congrArg Host.Outcome.next (State.write_denied isOpen free answer)), State.queues_queued isOpen rfl rfl⟩,
    fun _ answer => ⟨_, runs, State.write_violates isOpen free answer⟩⟩

/-- The WRITEs of the six counter clears (R371). -/
theorem exec_clears (s : State) (q : Req) : ∀ c ∈ ([(.clearOccurrenceCounters, 1), (.clearLinCounters, 2), (.clearHalCounters, 4), (.clearDpxCounters, 8),
    (.clearBgwCounters, 16), (.clearResyncCounter, 32)] : List ((Req → Instr) × Word)), exec (c.1 q) s = .next (s.write { q with index := 0x56, data := c.2 }) := by
  simp only [List.forall_mem_cons]
  exact ⟨rfl, rfl, rfl, rfl, rfl, rfl, by simp⟩

/-- Settles O58: the gate, the verdict of acceptance and the entry in the queue, each said once; the update's WRITE by its register. -/
theorem taggedOperationsQueueWithTheirVerdict : Obligations.TaggedOperationsQueueWithTheirVerdict := by
  refine ⟨fun s q isOpen => ⟨fun used => ⟨?_, fun b => ?_, fun c mem => ?_, ?_, ?_⟩, fun free => ⟨fun c mem => ?_, fun b => ?_, fun serves service => ?_⟩⟩,
    fun d c opc undecided due alone => ?_⟩
  · exact State.busy rfl isOpen used
  · exact State.busy rfl isOpen used
  · exact State.busy (exec_queued s q c mem) isOpen used
  · exact State.busy rfl isOpen used
  · exact State.busy rfl isOpen used
  · obtain ⟨l, f, device⟩ := s.dev.takeIn_device (s.dev.hostCmd q c.2 false)
    have entry := s.dev.takeIn_entry (s.dev.hostCmd q c.2 false)
    have own : (s.dev.takeIn (s.dev.hostCmd q c.2 false)).1.port = q.port := by rw [entry]; rfl
    refine ⟨_, (s.dev.takeIn (s.dev.hostCmd q c.2 false)).1, (exec_queued s q c mem).trans (congrArg Host.Outcome.next (State.command_runs isOpen free c.2)),
      (State.queues_queued isOpen own device).fields, entry, fun refused => ?_, fun lets plain => ?_, fun lets logged room => ?_, fun lets logged full => ?_,
      fun needs without => ?_, fun evaluates mirrors => ?_⟩
    · have taken := Dev.takeIn_refused (d := s.dev) (c := s.dev.hostCmd q c.2 false) refused
      rw [State.queues_log, taken]
      exact ⟨rfl, rfl⟩
    · have taken := Dev.takeIn_plain (d := s.dev) (c := s.dev.hostCmd q c.2 false) lets plain
      rw [State.queues_log, taken]
      exact ⟨rfl, rfl, rfl⟩
    · have taken := Dev.takeIn_logged (d := s.dev) (c := s.dev.hostCmd q c.2 false) lets logged room
      obtain ⟨f, reserved⟩ := s.dev.reserve_spec
      rw [State.queues_log, taken]
      exact ⟨rfl, rfl, by rw [reserved]⟩
    · have taken := Dev.takeIn_full (d := s.dev) (c := s.dev.hostCmd q c.2 false) lets logged full
      rw [State.queues_log, taken]
      exact ⟨rfl, rfl⟩
    · have operator : (s.dev.hostCmd q c.2 false).operator = none := by
        have without' : (s.dev.port q.port).session = none := without
        rw [Dev.hostCmd, without']
        rfl
      rw [Dev.takeIn_refused (Dev.refuses_sessionless needs operator)]
    · rw [Dev.takeIn_refused (Dev.refuses_mirroring evaluates mirrors)]
  · have runs : exec (.read q true b) s = .next (s.queues q b (s.dev.hostCmd q 0x01 b) s.dev) := by
      refine congrArg Host.Outcome.next ((State.tagged_runs isOpen free 0x01 b _).trans ?_)
      rw [if_pos rfl]
      have hosted := State.begins_hostCmd q 0x01 0x01 true b b s
      rw [State.lift, hosted]
      exact State.begins_enqueue (e := s.dev.hostCmd q 0x01 b) rfl s
    refine ⟨_, runs, (State.queues_queued isOpen rfl rfl).fields, ?_⟩
    have port := State.queues_port (q := q) (snaprd := b) (e := s.dev.hostCmd q 0x01 b) (d := s.dev) (s := s) rfl
    have kept : (((s.dev.port q.port).admits q 0x01 true b).queue s.dev.frame (s.dev.hostCmd q 0x01 b)).session = (s.dev.port q.port).session := rfl
    exact (congrArg Port.session port).trans kept
  · refine ⟨fun access elsewhere => ?_, fun o within access index => ?_, fun o within access index => ?_, ?_, fun c mem => ⟨fun session => ?_, fun without => ?_⟩,
      fun session alone mayCal shown => ⟨?_, ?_⟩⟩
    · obtain ⟨t, runs, queued⟩ := (State.write_queues (c := .registerWrite q) rfl isOpen free).2.1 (Dev.writeAnswer_readOnly serves service elsewhere access)
      exact ⟨t, runs, queued.fields⟩
    · obtain ⟨t, runs, queued⟩ := (State.write_queues (c := .registerWrite q) rfl isOpen free).1 (Dev.writeAnswer_own serves service within index (.inl access))
      exact ⟨t, runs, queued.fields⟩
    · exact (State.write_queues (c := .registerWrite q) rfl isOpen free).2.2 5 (Dev.writeAnswer_others serves service within index access)
    · obtain ⟨t, runs, queued⟩ := (State.write_queues (c := .irqstatClear q) (w := { q with index := 0x86 + 32 * q.port.val }) rfl isOpen free).1
        (Dev.writeAnswer_own serves service (o := 6) (by decide) (by show 0x86 + 32 * q.port.val = 0x80 + 32 * q.port.val + 6; omega) (.inr rfl))
      exact ⟨t, runs, queued.fields⟩
    · have operator : (s.dev.hostCmd { q with index := 0x56, data := c.2 } 0x02 false).operator.isNone = false := by
        simpa [Dev.hostCmd] using session
      obtain ⟨t, runs, queued⟩ := (State.write_queues (w := { q with index := 0x56, data := c.2 }) (exec_clears s q c mem) isOpen free).1
        ((Dev.writeAnswer_clear serves service rfl).trans (if_neg (by simp [operator])))
      exact ⟨t, runs, queued.fields⟩
    · have operator : (s.dev.hostCmd { q with index := 0x56, data := c.2 } 0x02 false).operator.isNone = true := by
        simpa [Dev.hostCmd] using without
      exact (State.write_queues (w := { q with index := 0x56, data := c.2 }) (exec_clears s q c mem) isOpen free).2.2 2
        ((Dev.writeAnswer_clear serves service rfl).trans (if_pos operator))
    · obtain ⟨t, runs, queued⟩ := (State.write_queues (c := .holdoffSet q) (w := holdoffReq q true) rfl isOpen free).1
        (Dev.writeAnswer_holdoff serves service (Nat.mod_lt _ (by decide)) rfl (Option.isSome_map.trans session) alone mayCal shown)
      exact ⟨t, runs, queued.fields⟩
    · obtain ⟨t, runs, queued⟩ := (State.write_queues (c := .holdoffClear q) (w := holdoffReq q false) rfl isOpen free).1
        (Dev.writeAnswer_holdoff serves service (Nat.mod_lt _ (by decide)) rfl (Option.isSome_map.trans session) alone mayCal shown)
      exact ⟨t, runs, queued.fields⟩
  · have applied := Dev.updateWrite_applies undecided due alone
    rw [applied]
    refine ⟨⟨_, List.mem_append_right _ (List.mem_singleton.mpr rfl), rfl, opc, rfl, rfl, rfl⟩, fun index => ?_, fun index => ?_, fun i within index defd sets clear => ?_⟩
    · rw [Dev.applyWrite_clears index]
      exact Dev.clearCounters_clears (d.halfOfPort c.port) c.data d
    · exact Dev.applyWrite_irqstat index
    · have systems : ((d.applyWrite c).complete c .ok 0).systems = d.systems.modify i fun s => { s.switchOff with holdoff := true, usable := false } :=
        Dev.applyWrite_holdoff within index defd sets clear
      have view : ((d.applyWrite c).complete c .ok 0).sys i = { (d.sys i).switchOff with holdoff := true, usable := false } := by
        rw [Dev.sys, systems]
        exact getD_modify _ _ _ _ (Dev.listed_of_defd defd)
      rw [view]
      exact ⟨rfl, rfl, Sys.switchOff_mode _⟩

end Sys2Proof.Proofs
end

section
/-! An erase pulse in the safe state: background work stands still there (R346), so its end changes nothing. -/
namespace Sys2Proof.Proofs
open Sys2Proof Sys2Proof.Machine

/-- A device held in its safe state while page 0 of the log is being erased. -/
def erasingInSafe : State :=
  { State.reset with dev := { State.reset.dev with inReset := false, nodeA := { sys := .safe, safe := true }, log := { erasing := some (0, 0) } } }

theorem erasingInSafe_out : erasingInSafe.dev.inReset = false := rfl

theorem erasingInSafe_held : erasingInSafe.dev.allSafe = true := rfl

theorem exec_erasePulseEnd_held : exec (.erasePulseEnd true) erasingInSafe = .next erasingInSafe :=
  exec_up_as (f := fun d => if d.allSafe then d else _) rfl erasingInSafe_out (if_pos erasingInSafe_held)

/-- Refutes O59: the clause on ERASE_PULSE_END is stated for every device out of the internal reset, and in the safe state the pulse's end leaves the
erasure where it stood. -/
theorem not_sessionsLogAndStoresActOnTheirCommands : ¬ Obligations.SessionsLogAndStoresActOnTheirCommands := by
  intro holds
  obtain ⟨-, records, -⟩ := holds
  obtain ⟨-, -, -, -, -, -, -, -, -, erases⟩ := records erasingInSafe 0 erasingInSafe_out
  obtain ⟨⟨t, runs, ended, -⟩, -⟩ := erases 0 0 rfl rfl rfl
  cases exec_erasePulseEnd_held.symm.trans runs
  exact absurd ended (by decide)

end Sys2Proof.Proofs
end

section
/-! Rig commands outside a frame's work (16, R304 to R308): acceptance, then the effect of each on rig, staging and flash. -/
namespace Sys2Proof.Machine

theorem Dev.complete_completes (c : HostCmd) (st : Status) (data : Word) (d : Dev) : (d.complete c st data).Completes c.port c.opc c.tag st data :=
  ⟨_, List.mem_append_right _ (List.mem_singleton.mpr rfl), rfl, rfl, rfl, rfl, rfl⟩

theorem Dev.refuse_completes (c : HostCmd) (st : Status) (d : Dev) : (d.refuse c st).Completes c.port c.opc c.tag st 0 := Dev.complete_completes ..

/-- What a command that ends without executing leaves (R318). -/
theorem Dev.refuse_spec (c : HostCmd) (st : Status) (d : Dev) : ∃ l f done, d.refuse c st = { d with log := l, faults := f, done := done } := by
  have released : d.release = { d with log := { d.log with reserved := d.log.reserved - 1 }, faults := d.faults.capacity { d.log with reserved := d.log.reserved - 1 } } :=
    Dev.logCapacity_frame (d.onLog fun l => { l with reserved := l.reserved - 1 })
  unfold Dev.refuse
  split
  · rw [released]
    exact ⟨_, _, _, rfl⟩
  · exact ⟨_, _, _, rfl⟩

/-! ## Acceptance -/

/-- The port's session, the service and the role let a rig command be taken (R304, R318). -/
structure State.TakesRig (s : State) (q : Req) : Prop where
  accepts : s.Accepts q
  service : (s.dev.node (s.dev.halfOfPort q.port)).sys.inService = true
  session : (s.dev.port q.port).session.isSome = true
  evaluates : s.dev.mirrors = false
  room : s.dev.mayReserve = true

theorem State.TakesRig.refuses {s : State} {q : Req} {opc : Nat} (takes : s.TakesRig q) (rig : 0x30 ≤ opc ∧ opc ≤ 0x36) :
    s.dev.refuses (s.dev.hostCmd q opc false) = false := by
  have opc_eq : (s.dev.hostCmd q opc false).opc = opc := rfl
  have port : (s.dev.hostCmd q opc false).port = q.port := rfl
  have operator : (s.dev.hostCmd q opc false).operator.isNone = false := by simpa [Dev.hostCmd] using takes.session
  have role : (decide (s.dev.dpx.role = .standby) || decide (s.dev.dpx.role = .syncing)) = false := takes.evaluates
  have other (n : Nat) (out : n < 0x30 ∨ 0x36 < n) : decide (opc = n) = false := decide_eq_false (by omega)
  unfold Dev.refuses
  simp only [opc_eq, port, operator, role, takes.service, takes.accepts.2.2, other 0x29 (by decide), other 0x38 (by decide), other 0x39 (by decide), other 0x3C (by decide),
    other 0x3D (by decide), Bool.true_or, Bool.not_true, Bool.false_and, Bool.and_false, Bool.or_self]

/-- A rig command begins its effect with its entry in the queue. -/
theorem State.rigOp_runs {s : State} {q : Req} {opc : Nat} (takes : s.TakesRig q) (rig : 0x30 ≤ opc ∧ opc ≤ 0x36) (act : HostCmd → State → State) :
    ∃ u, s.rigOp opc q act = act { s.dev.hostCmd q opc false with reserved := loggedOps.contains opc } u
      ∧ s.Queued q.port { s.dev.hostCmd q opc false with reserved := loggedOps.contains opc } u := by
  have lets := takes.refuses rig
  have taken : (s.dev.takeIn (s.dev.hostCmd q opc false)).1 = { s.dev.hostCmd q opc false with reserved := loggedOps.contains opc } := by
    cases logged : loggedOps.contains opc with
    | true => rw [Dev.takeIn_logged lets logged takes.room]
    | false => rw [Dev.takeIn_plain lets logged]; rfl
  obtain ⟨l, f, device⟩ := s.dev.takeIn_device (s.dev.hostCmd q opc false)
  have queued := State.queues_queued (snaprd := false) takes.accepts.1 (e := (s.dev.takeIn (s.dev.hostCmd q opc false)).1) (by rw [taken]; rfl) device
  have begun : (s.begins q opc true false).dev.takeIn ((s.begins q opc true false).dev.hostCmd q opc false) = ((s.dev.takeIn (s.dev.hostCmd q opc false)).1,
      (s.dev.takeIn (s.dev.hostCmd q opc false)).2.withPort q.port ((s.dev.port q.port).admits q opc true false) s.dev.freeCtr) := by
    rw [State.begins_hostCmd]
    exact Dev.withPort_takeIn ..
  have own : (s.dev.takeIn (s.dev.hostCmd q opc false)).1.port = q.port ∧ (s.dev.takeIn (s.dev.hostCmd q opc false)).1.opc = opc
      ∧ (s.dev.takeIn (s.dev.hostCmd q opc false)).1.verdict = none := by
    rw [taken]
    exact ⟨rfl, rfl, rfl⟩
  obtain ⟨port, op, undecided⟩ := own
  have enqueued := Dev.withPort_enqueue (s.dev.takeIn (s.dev.hostCmd q opc false)).1 ((s.dev.port q.port).admits q opc true false) s.dev.freeCtr
    (s.dev.takeIn (s.dev.hostCmd q opc false)).2
  rw [port] at enqueued
  have there : ((s.begins q opc true false).lift fun _ => ((s.dev.takeIn (s.dev.hostCmd q opc false)).2.withPort q.port ((s.dev.port q.port).admits q opc true false) s.dev.freeCtr).enqueue
      (s.dev.takeIn (s.dev.hostCmd q opc false)).1) = s.queues q false (s.dev.takeIn (s.dev.hostCmd q opc false)).1 (s.dev.takeIn (s.dev.hostCmd q opc false)).2 := by
    rw [State.lift, enqueued, State.queues, port, op]
    rfl
  refine ⟨s.queues q false (s.dev.takeIn (s.dev.hostCmd q opc false)).1 (s.dev.takeIn (s.dev.hostCmd q opc false)).2, ?_, taken ▸ queued⟩
  rw [State.rigOp, State.tagged_runs takes.accepts.1 takes.accepts.2.1]
  simp only [begun, there, undecided]
  rw [taken]

/-- What waits for its effect: the rig, both memories and the device apart from port, log and faults. -/
theorem State.Queued.keeps {s u : State} {p : Fin 2} {e : HostCmd} (queued : s.Queued p e u) : u.dev.rig = s.dev.rig ∧ u.staging = s.staging ∧ u.flash = s.flash
    ∧ u.dev.split = s.dev.split ∧ u.dev.frame = s.dev.frame :=
  ⟨congrArg (fun u => u.dev.rig) queued.device, congrArg (fun u => u.staging) queued.device, congrArg (fun u => u.flash) queued.device, congrArg (fun u => u.dev.split) queued.device,
    congrArg (fun u => u.dev.frame) queued.device⟩

/-! ## Effects -/

theorem Dev.ownsStaging_iff {d : Dev} {p : Fin 2} : d.ownsStaging p = true ↔ d.rig.staged = true ∧ d.rig.owner = some p := by
  simp [Dev.ownsStaging]

theorem Dev.staging_free {g : RigMgr} {p : Fin 2} : (g.owner.isSome && !decide (g.owner = some p)) = true ↔ ¬ (g.owner = none ∨ g.owner = some p) := by
  cases g.owner <;> simp

section
variable {s : State} {q : Req} (takes : s.TakesRig q)
include takes

/-- A rig command that is denied at its effect. -/
theorem State.rigOp_denied {c : Instr} {opc : Nat} {act : HostCmd → State → State} (rig : 0x30 ≤ opc ∧ opc ≤ 0x36) (runs : exec c s = .next (s.rigOp opc q act))
    (refused : ∀ u, s.Queued q.port { s.dev.hostCmd q opc false with reserved := loggedOps.contains opc } u →
      act { s.dev.hostCmd q opc false with reserved := loggedOps.contains opc } u = u.refused { s.dev.hostCmd q opc false with reserved := loggedOps.contains opc }) :
    ∃ t, exec c s = .next t ∧ t.dev.Completes q.port opc (q.tag % 64) .denied 0 ∧ t.dev.rig = s.dev.rig ∧ t.staging = s.staging ∧ t.flash = s.flash := by
  obtain ⟨u, effect, queued⟩ := State.rigOp_runs takes rig act
  obtain ⟨rigSame, staging, flash, -, -⟩ := queued.keeps
  obtain ⟨l, f, done, kept⟩ := u.dev.refuse_spec { s.dev.hostCmd q opc false with reserved := loggedOps.contains opc } .denied
  rw [refused u queued] at effect
  refine ⟨_, runs.trans (congrArg Host.Outcome.next effect), Dev.refuse_completes { s.dev.hostCmd q opc false with reserved := loggedOps.contains opc } .denied u.dev, ?_, staging, flash⟩
  exact (congrArg Dev.rig kept).trans rigSame

/-- The effect of a rig command that is taken. -/
theorem State.rigOp_taken {c : Instr} {opc : Nat} {act : HostCmd → State → State} (rig : 0x30 ≤ opc ∧ opc ≤ 0x36) (runs : exec c s = .next (s.rigOp opc q act)) :
    ∃ u, exec c s = .next (act { s.dev.hostCmd q opc false with reserved := loggedOps.contains opc } u)
      ∧ s.Queued q.port { s.dev.hostCmd q opc false with reserved := loggedOps.contains opc } u := by
  obtain ⟨u, effect, queued⟩ := State.rigOp_runs takes rig act
  exact ⟨u, runs.trans (congrArg Host.Outcome.next effect), queued⟩

/-- RIG_BEGIN (R305). -/
theorem exec_rigBegin_free (free : s.dev.rig.owner = none ∨ s.dev.rig.owner = some q.port) : ∃ t, exec (.rigBegin q) s = .next t
    ∧ t.dev.Completes q.port 0x30 (q.tag % 64) .ok 0 ∧ t.staging = []
    ∧ t.dev.rig = { s.dev.rig with staged := true, owner := some q.port, stagedSerial := q.data, passed := none, memberHash := none } := by
  obtain ⟨u, runs, queued⟩ := State.rigOp_taken takes (c := .rigBegin q) (opc := 0x30) (by decide) rfl
  obtain ⟨rig, staging, flash, -, -⟩ := queued.keeps
  rw [if_neg (by rw [rig]; exact mt Dev.staging_free.mp (not_not.mpr free))] at runs
  refine ⟨_, runs, Dev.complete_completes { s.dev.hostCmd q 0x30 false with reserved := false } .ok 0 _, rfl, ?_⟩
  rw [← rig]
  rfl

theorem exec_rigBegin_owned (owned : ¬ (s.dev.rig.owner = none ∨ s.dev.rig.owner = some q.port)) : ∃ t, exec (.rigBegin q) s = .next t
    ∧ t.dev.Completes q.port 0x30 (q.tag % 64) .denied 0 ∧ t.dev.rig = s.dev.rig ∧ t.staging = s.staging ∧ t.flash = s.flash := by
  refine State.rigOp_denied takes (c := .rigBegin q) (by decide) rfl fun u queued => if_pos ?_
  rw [queued.keeps.1]
  exact Dev.staging_free.mpr owned

/-- RIG_WRITE (R305). -/
theorem exec_rigWrite_owns (owns : s.dev.rig.staged = true ∧ s.dev.rig.owner = some q.port) (kind : ((s.dev.port q.port).par.getD 0 0).toNat < 2) :
    ∃ t, exec (.rigWrite q) s = .next t ∧ t.dev.Completes q.port 0x31 (q.tag % 64) .ok 0 ∧ t.dev.rig = { s.dev.rig with passed := none, memberHash := none }
      ∧ t.staging = memWriteMany stagingZ s.staging (((s.dev.port q.port).par.getD 0 0).toNat * 0x40000 + 4 * (q.index % 65536)) (toBytes 4 q.data.toNat) := by
  obtain ⟨u, runs, queued⟩ := State.rigOp_taken takes (c := .rigWrite q) (opc := 0x31) (by decide) rfl
  obtain ⟨rig, staging, flash, -, -⟩ := queued.keeps
  have mine : u.dev.ownsStaging q.port = true := Dev.ownsStaging_iff.mpr (by rw [rig]; exact owns)
  have lets : ¬ (!u.dev.ownsStaging q.port || decide (2 ≤ ((s.dev.port q.port).par.getD 0 0).toNat)) = true := by
    simp only [mine, Bool.not_true, Bool.false_or, decide_eq_true_eq]
    omega
  refine ⟨_, runs.trans (congrArg Host.Outcome.next (if_neg lets)), Dev.complete_completes { s.dev.hostCmd q 0x31 false with reserved := false } .ok 0 _, ?_, ?_⟩
  · rw [← rig]
    rfl
  · rw [← staging]
    rfl

theorem exec_rigWrite_refused (refused : ¬ (s.dev.rig.staged = true ∧ s.dev.rig.owner = some q.port) ∨ 2 ≤ ((s.dev.port q.port).par.getD 0 0).toNat) :
    ∃ t, exec (.rigWrite q) s = .next t ∧ t.dev.Completes q.port 0x31 (q.tag % 64) .denied 0 ∧ t.dev.rig = s.dev.rig ∧ t.staging = s.staging ∧ t.flash = s.flash := by
  refine State.rigOp_denied takes (c := .rigWrite q) (by decide) rfl fun u queued => ?_
  have denies : (!u.dev.ownsStaging q.port || decide (2 ≤ ((s.dev.port q.port).par.getD 0 0).toNat)) = true := by
    rw [← queued.keeps.1, ← Dev.ownsStaging_iff] at refused
    simpa using refused
  exact if_pos denies

/-- RIG_CHECK (R305). -/
theorem exec_rigCheck_owns (owns : s.dev.rig.staged = true ∧ s.dev.rig.owner = some q.port) (serial : q.data = s.dev.rig.stagedSerial) (idle : s.dev.rig.job = none) :
    ∃ t, exec (.rigCheck q) s = .next t
      ∧ t.dev.rig = { s.dev.rig with job := some { cmd := { s.dev.hostCmd q 0x32 false with reserved := false }, frame := s.dev.frame } } ∧ t.staging = s.staging := by
  obtain ⟨u, runs, queued⟩ := State.rigOp_taken takes (c := .rigCheck q) (opc := 0x32) (by decide) rfl
  obtain ⟨rig, staging, flash, -, frame⟩ := queued.keeps
  have mine : u.dev.ownsStaging q.port = true := Dev.ownsStaging_iff.mpr (by rw [rig]; exact owns)
  have lets : ¬ (!u.dev.ownsStaging q.port || decide (q.data ≠ u.dev.rig.stagedSerial) || u.dev.rig.job.isSome) = true := by
    simp [mine, rig, serial, idle]
  refine ⟨_, runs.trans (congrArg Host.Outcome.next (if_neg lets)), ?_, staging⟩
  rw [← rig, ← frame]
  rfl

theorem exec_rigCheck_refused (refused : ¬ (s.dev.rig.staged = true ∧ s.dev.rig.owner = some q.port) ∨ q.data ≠ s.dev.rig.stagedSerial ∨ s.dev.rig.job ≠ none) :
    ∃ t, exec (.rigCheck q) s = .next t ∧ t.dev.Completes q.port 0x32 (q.tag % 64) .denied 0 ∧ t.dev.rig = s.dev.rig ∧ t.staging = s.staging ∧ t.flash = s.flash := by
  refine State.rigOp_denied takes (c := .rigCheck q) (by decide) rfl fun u queued => ?_
  have denies : (!u.dev.ownsStaging q.port || decide (q.data ≠ u.dev.rig.stagedSerial) || u.dev.rig.job.isSome) = true := by
    rw [← queued.keeps.1, ← Dev.ownsStaging_iff] at refused
    simpa [Option.isSome_iff_ne_none, or_assoc] using refused
  exact if_pos denies

/-- RIG_LOAD (R305). -/
theorem exec_rigLoad_free (free : s.dev.rig.owner = none ∨ s.dev.rig.owner = some q.port) (bank : q.index < 2) (idle : s.dev.rig.job = none) :
    ∃ t, exec (.rigLoad q) s = .next t ∧ t.staging = s.bankImage q.index
      ∧ t.dev.rig = { s.dev.rig with
          staged := true, owner := some q.port, stagedSerial := t.dev.rig.stagedSerial, passed := none, memberHash := none
          job := some { cmd := { s.dev.hostCmd q 0x35 false with reserved := false }, frame := s.dev.frame } } := by
  obtain ⟨u, runs, queued⟩ := State.rigOp_taken takes (c := .rigLoad q) (opc := 0x35) (by decide) rfl
  obtain ⟨rig, staging, flash, -, frame⟩ := queued.keeps
  have unowned : (u.dev.rig.owner.isSome && !decide (u.dev.rig.owner = some q.port)) = false := by
    rw [rig]
    exact Bool.eq_false_iff.mpr (mt Dev.staging_free.mp (not_not.mpr free))
  have lets : ¬ ((u.dev.rig.owner.isSome && !decide (u.dev.rig.owner = some q.port)) || decide (2 ≤ q.index) || u.dev.rig.job.isSome) = true := by
    rw [unowned]
    simp [rig, idle, bank]
  have image : u.bankImage q.index = s.bankImage q.index := by
    unfold State.bankImage State.readBank
    rw [flash]
  refine ⟨_, runs.trans (congrArg Host.Outcome.next (if_neg lets)), ?_, ?_⟩
  · rw [← image]
    rfl
  · rw [← rig, ← frame]
    rfl

theorem exec_rigLoad_refused (refused : ¬ (s.dev.rig.owner = none ∨ s.dev.rig.owner = some q.port) ∨ 2 ≤ q.index ∨ s.dev.rig.job ≠ none) :
    ∃ t, exec (.rigLoad q) s = .next t ∧ t.dev.Completes q.port 0x35 (q.tag % 64) .denied 0 ∧ t.dev.rig = s.dev.rig ∧ t.staging = s.staging ∧ t.flash = s.flash := by
  refine State.rigOp_denied takes (c := .rigLoad q) (by decide) rfl fun u queued => ?_
  have denies : ((u.dev.rig.owner.isSome && !decide (u.dev.rig.owner = some q.port)) || decide (2 ≤ q.index) || u.dev.rig.job.isSome) = true := by
    rw [← queued.keeps.1] at refused
    rcases refused with owned | far | busy
    · rw [Dev.staging_free.mpr owned, Bool.true_or, Bool.true_or]
    · simp [far]
    · simp [Option.isSome_iff_ne_none.mpr busy]
  exact if_pos denies

/-- RIG_DISCARD, from any port. -/
theorem exec_rigDiscard_takes : ∃ t, exec (.rigDiscard q) s = .next t ∧ t.dev.Completes q.port 0x36 (q.tag % 64) .ok 0 ∧ t.staging = [] ∧ t.dev.rig = s.dev.rig.unstage := by
  obtain ⟨u, runs, queued⟩ := State.rigOp_taken takes (c := .rigDiscard q) (opc := 0x36) (by decide) rfl
  refine ⟨_, runs, Dev.complete_completes { s.dev.hostCmd q 0x36 false with reserved := false } .ok 0 _, rfl, ?_⟩
  rw [← queued.keeps.1]
  rfl

/-- RIG_STORE (R306). -/
theorem exec_rigStore_owns (owns : s.dev.rig.staged = true ∧ s.dev.rig.owner = some q.port) (bank : q.index < 2) (passed : s.dev.rig.passed ≠ none)
    (serial : q.data = s.dev.rig.stagedSerial) (idle : s.dev.rig.store = none) : ∃ t, exec (.rigStore q) s = .next t ∧ t.flash = s.flash
      ∧ t.dev.rig = { s.dev.rig with store := some { cmd := { s.dev.hostCmd q 0x34 false with reserved := true }, frame := s.dev.frame }, storeLogged := false } := by
  obtain ⟨u, runs, queued⟩ := State.rigOp_taken takes (c := .rigStore q) (opc := 0x34) (by decide) rfl
  obtain ⟨rig, staging, flash, -, frame⟩ := queued.keeps
  have mine : u.dev.ownsStaging q.port = true := Dev.ownsStaging_iff.mpr (by rw [rig]; exact owns)
  have lets : ¬ (!u.dev.ownsStaging q.port || decide (2 ≤ q.index) || u.dev.rig.passed.isNone || decide (q.data ≠ u.dev.rig.stagedSerial) || u.dev.rig.store.isSome) = true := by
    simp [mine, rig, serial, idle, bank, passed]
  refine ⟨_, runs.trans (congrArg Host.Outcome.next (if_neg lets)), flash, ?_⟩
  rw [← rig, ← frame]
  rfl

theorem exec_rigStore_refused (refused : ¬ (s.dev.rig.staged = true ∧ s.dev.rig.owner = some q.port) ∨ 2 ≤ q.index ∨ s.dev.rig.passed = none
      ∨ q.data ≠ s.dev.rig.stagedSerial ∨ s.dev.rig.store ≠ none) :
    ∃ t, exec (.rigStore q) s = .next t ∧ t.dev.Completes q.port 0x34 (q.tag % 64) .denied 0 ∧ t.dev.rig = s.dev.rig ∧ t.staging = s.staging ∧ t.flash = s.flash := by
  refine State.rigOp_denied takes (c := .rigStore q) (by decide) rfl fun u queued => ?_
  have denies : (!u.dev.ownsStaging q.port || decide (2 ≤ q.index) || u.dev.rig.passed.isNone || decide (q.data ≠ u.dev.rig.stagedSerial) || u.dev.rig.store.isSome) = true := by
    rw [← queued.keeps.1, ← Dev.ownsStaging_iff] at refused
    simpa [Option.isSome_iff_ne_none, or_assoc] using refused
  exact if_pos denies

/-- RIG_ACTIVATE without one that waits (R305, R307, R308). -/
theorem exec_rigActivate_first (alone : s.dev.rig.pendAct = none) :
    ((s.dev.rig.staged = true ∧ s.dev.rig.owner = some q.port) → q.data = s.dev.rig.stagedSerial → ∃ t, exec (.rigActivate q) s = .next t
      ∧ (t.dev.port q.port).journal = (s.dev.port q.port).journal ++ [{ s.dev.hostCmd q 0x33 false with reserved := true }]
      ∧ t.dev.rig = if s.dev.split then { s.dev.rig with pendAct := some { s.dev.hostCmd q 0x33 false with reserved := true } } else s.dev.rig)
    ∧ (¬ (s.dev.rig.staged = true ∧ s.dev.rig.owner = some q.port) → ∃ t, exec (.rigActivate q) s = .next t ∧ t.dev.Completes q.port 0x33 (q.tag % 64) .denied 0
      ∧ t.dev.rig = s.dev.rig ∧ t.staging = s.staging ∧ t.flash = s.flash) := by
  have first (u : State) (rig : u.dev.rig = s.dev.rig) :
      ¬ (u.dev.split && u.dev.secondActivate { s.dev.hostCmd q 0x33 false with reserved := true } && decide (q.data = u.dev.rig.stagedSerial)) = true := by
    simp [Dev.secondActivate, rig, alone]
  refine ⟨fun owns serial => ?_, fun stranger => ?_⟩
  · obtain ⟨u, runs, queued⟩ := State.rigOp_taken takes (c := .rigActivate q) (opc := 0x33) (by decide) rfl
    obtain ⟨rig, staging, flash, split, frame⟩ := queued.keeps
    have mine : u.dev.ownsStaging q.port = true := Dev.ownsStaging_iff.mpr (by rw [rig]; exact owns)
    have lets : ¬ (!u.dev.ownsStaging q.port || decide (q.data ≠ u.dev.rig.stagedSerial) || u.dev.rig.pendAct.isSome) = true := by
      simp [mine, rig, serial, alone]
    have past := runs.trans (congrArg Host.Outcome.next ((if_neg (first u rig)).trans (if_neg lets)))
    by_cases two : u.dev.split = true
    · refine ⟨_, past.trans (congrArg Host.Outcome.next (if_pos two)), queued.journal, ?_⟩
      rw [if_pos (split ▸ two), ← rig]
      rfl
    · refine ⟨_, past.trans (congrArg Host.Outcome.next (if_neg two)), queued.journal, ?_⟩
      rw [if_neg (split ▸ two), rig]
  · refine State.rigOp_denied takes (c := .rigActivate q) (by decide) rfl fun u queued => ?_
    have denies : (!u.dev.ownsStaging q.port || decide (q.data ≠ u.dev.rig.stagedSerial) || u.dev.rig.pendAct.isSome) = true := by
      rw [← queued.keeps.1] at stranger
      rw [Bool.eq_false_iff.mpr (mt Dev.ownsStaging_iff.mp stranger), Bool.not_false, Bool.true_or, Bool.true_or]
    exact (if_neg (first u queued.keeps.1)).trans (if_pos denies)

end

end Sys2Proof.Machine
end

section
/-! What runs with a rig (16, R301 to R310): the ends of a verification, the activation boundary, a finished store. -/
namespace Sys2Proof.Machine

/-! ## The activation boundary leaves time, rig and background work to its own step -/

/-- Time, rig and background work of a device. -/
def Dev.tables (d : Dev) : (DTime × Word × Nat × Straps) × RigMgr × Bgw := ((d.dt, d.frame, d.codePos, d.straps), d.rig, d.bgw)

@[simp] theorem Dev.onNode_tables (h : Half) (f : Node → Node) (d : Dev) : (d.onNode h f).tables = d.tables := by cases h <;> rfl

@[simp] theorem Dev.onLine_tables (h : Half) (f : LineNode → LineNode) (d : Dev) : (d.onLine h f).tables = d.tables := Dev.onNode_tables ..

@[simp] theorem Dev.onSys_tables (i : Nat) (f : Sys → Sys) (d : Dev) : (d.onSys i f).tables = d.tables := rfl

@[simp] theorem Dev.onOut_tables (i : Nat) (f : Output → Output) (d : Dev) : (d.onOut i f).tables = d.tables := rfl

@[simp] theorem Dev.onInp_tables (i : Nat) (f : Input → Input) (d : Dev) : (d.onInp i f).tables = d.tables := rfl

@[simp] theorem Dev.onDpx_tables (f : Dpx → Dpx) (d : Dev) : (d.onDpx f).tables = d.tables := rfl

@[simp] theorem Dev.onHal_tables (f : Hal → Hal) (d : Dev) : (d.onHal f).tables = d.tables := rfl

@[simp] theorem Dev.complete_tables (c : HostCmd) (st : Status) (w : Word) (d : Dev) : (d.complete c st w).tables = d.tables := rfl

@[simp] theorem Dev.onPort_tables (p : Fin 2) (f : Port → Port) (d : Dev) : (d.onPort p f).tables = d.tables := by
  unfold Dev.onPort Dev.setPort
  split <;> rfl

@[simp] theorem Dev.clearWhere_tables (p : FaultKey → Bool) (d : Dev) : (d.clearWhere p).tables = d.tables :=
  foldl_keeps (view := Dev.tables) (by intro e k; rfl) _ d

@[simp] theorem Dev.clearObj_tables (k : Kind) (obj : Nat) (h : Half) (d : Dev) : (d.clearObj k obj h).tables = d.tables := Dev.clearWhere_tables ..

@[simp] theorem Dev.startJoin_tables (h : Half) (r : Nat) (d : Dev) : (d.startJoin h r).tables = d.tables := Dev.onLine_tables ..

@[simp] theorem Dev.linesOn_tables (h : Half) (d : Dev) : (d.linesOn h).tables = d.tables := rfl

@[simp] theorem Dev.setRole_tables (r : Role) (d : Dev) : (d.setRole r).tables = d.tables := by
  unfold Dev.setRole
  split <;> rfl

@[simp] theorem Dev.carrySystem_tables (h : Half) (p : RigPart) (all : Bool) (i : Nat) (d : Dev) : (d.carrySystem h p all i).tables = d.tables := by
  unfold Dev.carrySystem
  dsimp only
  split <;> split <;> simp

@[simp] theorem Dev.carryOutput_tables (h : Half) (p : RigPart) (all : Bool) (n : Nat) (d : Dev) : (d.carryOutput h p all n).tables = d.tables := by
  unfold Dev.carryOutput
  dsimp only
  split <;> split <;> simp

@[simp] theorem Dev.carryInput_tables (h : Half) (p : RigPart) (all : Bool) (n : Nat) (d : Dev) : (d.carryInput h p all n).tables = d.tables := by
  unfold Dev.carryInput
  dsimp only
  split <;> split <;> simp

theorem Dev.foldl_tables {α : Type} {f : Dev → α → Dev} (keep : ∀ d a, (f d a).tables = d.tables) (l : List α) (d : Dev) : (l.foldl f d).tables = d.tables :=
  foldl_keeps keep l d

theorem Dev.ite_tables {c : Prop} [Decidable c] {a b d : Dev} (yes : a.tables = d.tables) (no : b.tables = d.tables) : (if c then a else b).tables = d.tables := by
  split <;> assumption

@[simp] theorem Dev.carryLine_tables (h : Half) (old : Option RigPart) (p : RigPart) (all : Bool) (d : Dev) : (d.carryLine h old p all).tables = d.tables := by
  unfold Dev.carryLine
  split
  · simp
  · exact Dev.ite_tables (by simp) (by simp)

theorem Dev.activateHalf_tables (old : Option RigPart) (p : RigPart) (h : Half) (d : Dev) : (d.activateHalf old p h).tables = d.tables := by
  unfold Dev.activateHalf
  split
  · rfl
  · extract_lets all d₁ d₂ n heard pts kept d₃ d₄ d₅ d₆ d₇ d₈ react d₉ d₁₀
    have h₁ : d₁.tables = d.tables := Dev.foldl_tables (by simp) ..
    have h₂ : d₂.tables = d.tables := (Dev.carryLine_tables ..).trans h₁
    have h₃ : d₃.tables = d.tables := (Dev.foldl_tables (by simp) ..).trans h₂
    have h₄ : d₄.tables = d.tables := (Dev.foldl_tables (by simp) ..).trans h₃
    have h₅ : d₅.tables = d.tables := (Dev.onNode_tables ..).trans h₄
    have h₆ : d₆.tables = d.tables := Dev.ite_tables ((Dev.onDpx_tables ..).trans h₅) h₅
    have h₇ : d₇.tables = d.tables := (Dev.foldl_tables (by simp) ..).trans h₆
    have h₈ : d₈.tables = d.tables := (Dev.foldl_tables (by simp) ..).trans h₇
    have h₉ : d₉.tables = d.tables := Dev.ite_tables h₈ ((Dev.onHal_tables ..).trans h₈)
    have h₁₀ : d₁₀.tables = d.tables := Dev.ite_tables h₉ (Dev.ite_tables h₉ h₉)
    exact Dev.ite_tables ((Dev.linesOn_tables ..).trans h₁₀) h₁₀

/-- The rig that a boundary leaves in force (R302, R307). -/
def RigMgr.inForce (r : Rig) (frame : Word) (g : RigMgr) : RigMgr :=
  { g.unstage with active := some r, source := g.actSource, actFrame := frame, actDue := none, pendAct := none }

/-- The new tables' comparison starts over (R331). -/
def Bgw.recompare (frame : Word) (x : Bgw) : Bgw := { x with cmpPos := 0, cmpStart := frame, cmpRunning := true }

theorem Dev.activate_tables (r : Rig) (cmds : List HostCmd) (d : Dev) :
    (d.activate r cmds).tables = ((d.dt, d.frame, d.codePos, d.straps), d.rig.inForce r d.frame, d.bgw.recompare d.frame) := by
  unfold Dev.activate
  extract_lets oldA oldB src d₁ d₂ d₃ d₄ bgw d₅ d₆ d₇
  have h₁ : d₁.tables = ((d.dt, d.frame, d.codePos, d.straps), d.rig.inForce r d.frame, d.bgw) := rfl
  have h₂ : d₂.tables = d₁.tables := Dev.activateHalf_tables ..
  have h₃ : d₃.tables = d₁.tables := by
    cases both : r.partB with
    | some p =>
      have eq : d₃ = d₂.activateHalf oldB p .b := by simp only [d₃, both]
      rw [eq]
      exact (Dev.activateHalf_tables ..).trans h₂
    | none =>
      have eq : d₃ = d₂ := by simp only [d₃, both]
      rw [eq, h₂]
  have h₄ : d₄.tables = d₁.tables := (Dev.clearWhere_tables ..).trans h₃
  have h₅ : d₅.tables = ((d.dt, d.frame, d.codePos, d.straps), d.rig.inForce r d.frame, d.bgw.recompare d.frame) := by
    have parts := h₄.trans h₁
    simp only [Dev.tables, Prod.mk.injEq] at parts
    obtain ⟨⟨dt, frame, code, straps⟩, rig, work⟩ := parts
    have eq : d₅.tables = ((d₄.dt, d₄.frame, d₄.codePos, d₄.straps), d₄.rig, d₄.bgw.recompare d₄.frame) := rfl
    rw [eq, dt, frame, code, straps, rig, work]
  have h₆ : d₆.tables = d₅.tables := Dev.onHal_tables ..
  have h₇ : d₇.tables = d₅.tables := Dev.ite_tables ((Dev.onDpx_tables ..).trans ((Dev.setRole_tables ..).trans h₆)) h₆
  have completed : (cmds.foldl (fun (d : Dev) c => d.complete c .ok 0) d₇).tables = d₇.tables := Dev.foldl_tables (by simp) ..
  exact (completed.trans h₇).trans h₅

theorem exec_rigActivation_due {s : State} {r : Rig} {cmds : List HostCmd} (out : s.dev.inReset = false) (live : s.dev.allSafe = false)
    (due : s.dev.activating = some (r, cmds)) : ∃ d, exec .rigActivation s = .next { s with dev := d, bank := d }
      ∧ d.tables = ((s.dev.dt, s.dev.frame, s.dev.codePos, s.dev.straps), s.dev.rig.inForce r s.dev.frame, s.dev.bgw.recompare s.dev.frame) := by
  obtain ⟨e, heldBy⟩ : ∃ e, e = ({ s.dev.activate r cmds with faults := (s.dev.activate r cmds).faults.publish (s.dev.activate r cmds).frame (s.dev.activate r cmds).dt } : Dev) := ⟨_, rfl⟩
  refine ⟨Dev.setCauses s.bank e.deliver, ?_, ?_⟩
  · have runs : exec .rigActivation s = if s.dev.inReset || s.dev.allSafe then .next s else match s.dev.activating with
        | none => .next s
        | some (r, cmds) => .next { s with
            dev := Dev.setCauses s.bank (({ s.dev.activate r cmds with faults := (s.dev.activate r cmds).faults.publish (s.dev.activate r cmds).frame (s.dev.activate r cmds).dt } : Dev)).deliver
            bank := Dev.setCauses s.bank (({ s.dev.activate r cmds with faults := (s.dev.activate r cmds).faults.publish (s.dev.activate r cmds).frame (s.dev.activate r cmds).dt } : Dev)).deliver } := rfl
    rw [runs, if_neg (by simp [out, live]), due, heldBy]
  · have delivered : e.deliver.tables = e.tables := rfl
    have published : e.tables = (s.dev.activate r cmds).tables := by
      rw [heldBy]
      rfl
    have set : (Dev.setCauses s.bank e.deliver).tables = e.deliver.tables := by
      unfold Dev.setCauses
      exact ((Dev.onPort_tables ..).trans (Dev.onPort_tables ..))
    rw [set, delivered, published, Dev.activate_tables]

/-! ## Verification ends (R301, R303, R306) -/

theorem RigMgr.setBank_spec (b : Nat) (x : Nat × Nat) (g : RigMgr) : ∃ u v, g.setBank b x = { g with bank0 := u, bank1 := v } := by
  unfold RigMgr.setBank
  split <;> exact ⟨_, _, rfl⟩

theorem Dev.jobFails_leaves (j : RigJob) (code off : Nat) (d : Dev) : (d.jobFails j code off).Completes j.cmd.port j.cmd.opc j.cmd.tag .denied (failData code off)
    ∧ (d.jobFails j code off).rig.job = none ∧ (d.jobFails j code off).rig.passed = d.rig.passed ∧ (d.jobFails j code off).rig.active = d.rig.active := by
  refine ⟨Dev.complete_completes .., rfl, ?_⟩
  obtain ⟨u, v, eq⟩ := d.rig.setBank_spec j.cmd.index (code, off)
  by_cases load : j.cmd.opc = 0x35
  · have rig : (d.jobFails j code off).rig = { d.rig.setBank j.cmd.index (code, off) with job := none } :=
      congrArg (fun g : RigMgr => { g with job := none }) (if_pos load)
    rw [rig, eq]
    exact ⟨rfl, rfl⟩
  · have rig : (d.jobFails j code off).rig = { d.rig with job := none } := congrArg (fun g : RigMgr => { g with job := none }) (if_neg load)
    rw [rig]
    exact ⟨rfl, rfl⟩

theorem Dev.jobPasses_leaves (j : RigJob) (r : Rig) {d : Dev} (alone : d.stackMaster = false) : (d.jobPasses j r).Completes j.cmd.port j.cmd.opc j.cmd.tag .ok (passData r.hash)
    ∧ (d.jobPasses j r).rig.job = none ∧ (d.jobPasses j r).rig.passed = (if j.cmd.opc = 0x35 then d.rig.passed else some r)
    ∧ (d.jobPasses j r).rig.active = d.rig.active := by
  obtain ⟨u, v, eq⟩ := d.rig.setBank_spec j.cmd.index (0, 0)
  by_cases load : j.cmd.opc = 0x35
  · have passes : d.jobPasses j r = ((d.rigNews.onRig fun g => g.setBank j.cmd.index (0, 0)).onRig fun g => { g with job := none }).complete j.cmd .ok (passData r.hash) := if_pos load
    have rig : (d.jobPasses j r).rig = { d.rig.setBank j.cmd.index (0, 0) with job := none } := by
      rw [passes]
      rfl
    rw [rig, eq, if_pos load, passes]
    exact ⟨Dev.complete_completes .., rfl, rfl, rfl⟩
  · have alone' : ¬ d.rigNews.stackMaster = true := Bool.eq_false_iff.mp alone
    have passes : d.jobPasses j r = (d.rigNews.onRig fun g => { g with job := none, passed := some r }).complete j.cmd .ok (passData r.hash) := (if_neg load).trans (if_neg alone')
    rw [if_neg load, passes]
    exact ⟨Dev.complete_completes .., rfl, rfl, rfl⟩

/-- Halves that await a rig. -/
def Dev.awaitOn (l : List Half) (d : Dev) : Dev := l.foldl (fun (d : Dev) h => d.onNode h fun n => { n with sys := .awaitRig }) d

theorem Dev.awaitOn_spec (l : List Half) (d : Dev) : ∃ a b, d.awaitOn l = { d with nodeA := { d.nodeA with sys := a }, nodeB := { d.nodeB with sys := b } }
    ∧ ∀ h, h ∈ l ∨ (d.node h).sys = .awaitRig → ((d.awaitOn l).node h).sys = .awaitRig := by
  unfold Dev.awaitOn
  induction l generalizing d with
  | nil => exact ⟨_, _, rfl, fun h there => there.resolve_left (by simp)⟩
  | cons g l ih =>
    obtain ⟨a, b, rest, all⟩ := ih (d.onNode g fun n => { n with sys := .awaitRig })
    refine ⟨a, b, ?_, fun h there => ?_⟩
    · rw [List.foldl_cons, rest]
      cases g <;> rfl
    · rw [List.foldl_cons]
      refine all h ?_
      rcases there with mem | already
      · rcases List.mem_cons.mp mem with rfl | inRest
        · exact .inr (by rw [Dev.node_onNode])
        · exact .inl inRest
      · by_cases same : h = g
        · exact .inr (by rw [same, Dev.node_onNode])
        · exact .inr (by rw [Dev.node_onNode_ne same]; exact already)

theorem Dev.toAwaitRig_awaits {d : Dev} {h : Half} (runs : h ∈ d.halves) (live : (d.node h).safe = false) : (d.toAwaitRig.node h).sys = .awaitRig := by
  obtain ⟨a, b, -, all⟩ := d.awaitOn_spec d.live
  exact all h (.inl (List.mem_filter.mpr ⟨runs, by simp [live]⟩))

/-- A bank that fails at boot, before what follows from it. -/
def Dev.bankFails (code off : Nat) (d : Dev) : Dev := ((d.raise code .device 0).onRig (RigMgr.setBank d.rig.bootBank (code, off))).rigNews

/-- A bank that fails at boot (R28, R303). -/
theorem Dev.bootFails_leaves (code off : Nat) (d : Dev) (idle : d.rig.actDue = none) : (d.bootFails code off).hasFault code .device 0 = true
    ∧ (d.bootFails code off).rig.actDue = none
    ∧ (if d.bootSel < 2 ∧ d.rig.bootTried = 0 then (d.bootFails code off).rig.bootBank = 1 - d.rig.bootBank ∧ (d.bootFails code off).rig.bootTried = 1
        ∧ (d.bootFails code off).nodeA.sys = d.nodeA.sys
      else ∀ h ∈ d.halves, (d.node h).safe = false → ((d.bootFails code off).node h).sys = .awaitRig) := by
  obtain ⟨u, v, bank⟩ := d.rig.setBank_spec d.rig.bootBank (code, off)
  have failed : ∃ irq, d.bankFails code off = { d.raise code .device 0 with rig := { d.rig with bank0 := u, bank1 := v }, irqNew := irq } :=
    ⟨_, congrArg (fun g => ({ d.raise code .device 0 with rig := g } : Dev).rigNews) bank⟩
  obtain ⟨irq, failed⟩ := failed
  have fault : (d.bankFails code off).hasFault code .device 0 = true := Dev.hasFault_raise code .device 0 d .a 0xFFFF
  have tried : (d.bankFails code off).bootSel = d.bootSel ∧ (d.bankFails code off).rig.bootTried = d.rig.bootTried := by
    rw [failed]
    exact ⟨rfl, rfl⟩
  have then_ : d.bootFails code off = if (d.bankFails code off).bootSel < 2 && (d.bankFails code off).rig.bootTried = 0
      then (d.bankFails code off).onRig fun g => { g with bootBank := 1 - g.bootBank, bootTried := 1 } else (d.bankFails code off).toAwaitRig := rfl
  rw [tried.1, tried.2] at then_
  by_cases again : d.bootSel < 2 ∧ d.rig.bootTried = 0
  · have retries : d.bootFails code off = (d.bankFails code off).onRig fun g => { g with bootBank := 1 - g.bootBank, bootTried := 1 } := then_.trans (if_pos (by simpa using again))
    rw [if_pos again, retries, failed]
    exact ⟨(Dev.hasFault_congr (by rfl) ..).trans fault, idle, rfl, rfl, rfl⟩
  · have waits : d.bootFails code off = (d.bankFails code off).toAwaitRig := then_.trans (if_neg (by simpa using again))
    obtain ⟨a, b, eq, -⟩ := (d.bankFails code off).awaitOn_spec (d.bankFails code off).live
    have await : (d.bankFails code off).toAwaitRig = (d.bankFails code off).awaitOn (d.bankFails code off).live := rfl
    rw [if_neg again, waits]
    refine ⟨?_, ?_, fun h runs live => Dev.toAwaitRig_awaits ?_ ?_⟩
    · rw [await, eq]
      exact fault
    · rw [await, eq, failed]
      exact idle
    · rw [failed]
      exact runs
    · rw [failed]
      cases h <;> exact live

/-! ## A finished store (R306, R318) -/

/-- The rig manager after a store that its bank's verification has ended. -/
theorem exec_rigStoreComplete_logged {s : State} {j : RigJob} (out : s.dev.inReset = false) (live : s.dev.allSafe = false) (logged : s.dev.rig.storeLogged = true)
    (stores : s.dev.rig.store = some j) : ∃ t, exec .rigStoreComplete s = .next t
      ∧ t.flash = (s.programBank j.cmd.index (fieldAt (s.readStaging 0 64) 20 4)).flash ∧ t.staging = s.staging ∧ t.dev.rig.store = none
      ∧ t.dev.rig.storeLogged = false ∧ t.dev.rig.passed = s.dev.rig.passed
      ∧ (∀ r, (s.programBank j.cmd.index (fieldAt (s.readStaging 0 64) 20 4)).verifyBank j.cmd.index = .pass r →
          t.dev.Completes j.cmd.port j.cmd.opc j.cmd.tag .ok (passData r.hash))
      ∧ (∀ code off, (s.programBank j.cmd.index (fieldAt (s.readStaging 0 64) 20 4)).verifyBank j.cmd.index = .fail code off →
          t.dev.Completes j.cmd.port j.cmd.opc j.cmd.tag .denied (failData code off)) := by
  have runs : exec .rigStoreComplete s = execRigStoreComplete s := rfl
  unfold execRigStoreComplete at runs
  rw [if_neg (by simp [out, live, logged])] at runs
  simp only [stores] at runs
  generalize (s.programBank j.cmd.index (fieldAt (s.readStaging 0 64) 20 4)).verifyBank j.cmd.index = verdict at runs ⊢
  cases verdict with
  | pass r =>
    obtain ⟨u, v, bank⟩ := s.dev.rig.setBank_spec j.cmd.index (0, 0)
    have kept : (s.dev.rig.setBank j.cmd.index (0, 0)).passed = s.dev.rig.passed := by rw [bank]
    refine ⟨_, runs, rfl, rfl, rfl, rfl, kept, fun r' same => ?_, fun _ _ other => nomatch other⟩
    cases same
    exact Dev.complete_completes ..
  | fail code off =>
    obtain ⟨u, v, bank⟩ := s.dev.rig.setBank_spec j.cmd.index (code, off)
    have kept : (s.dev.rig.setBank j.cmd.index (code, off)).passed = s.dev.rig.passed := by rw [bank]
    refine ⟨_, runs, rfl, rfl, rfl, rfl, kept, fun _ other => (nomatch other), fun _ _ same => ?_⟩
    cases same
    exact Dev.complete_completes ..

section
variable {s : State} (out : s.dev.inReset = false) (live : s.dev.allSafe = false)
include out live

theorem exec_rigVerificationEnd_host {j : RigJob} (runs : s.dev.rig.job = some j) (first : j.verified = false) : exec .rigVerificationEnd s = match s.verifyStaging with
    | .pass r => .next (s.lift (Dev.jobPasses j r))
    | .fail code off => .next (s.lift (Dev.jobFails j code off)) := by
  have step : exec .rigVerificationEnd s = execRigVerificationEnd s := rfl
  unfold execRigVerificationEnd at step
  rw [if_neg (by simp [out, live])] at step
  simp only [runs, first] at step
  exact step

theorem exec_rigVerificationEnd_boot (idle : s.dev.rig.job = none) (boots : s.dev.bootVerifies = true) : exec .rigVerificationEnd s = match s.verifyBank s.dev.rig.bootBank with
    | .pass r => .next (s.lift (Dev.bootPasses r))
    | .fail code off => .next (s.lift (Dev.bootFails code off)) := by
  have step : exec .rigVerificationEnd s = execRigVerificationEnd s := rfl
  unfold execRigVerificationEnd at step
  rw [if_neg (by simp [out, live])] at step
  simp only [idle, boots] at step
  exact step

theorem exec_bankVerificationTimeout_load {j : RigJob} (runs : s.dev.rig.job = some j) (load : j.cmd.opc = 0x35) :
    exec .bankVerificationTimeout s = .next (s.lift (Dev.jobFails j 0xA5 0)) := by
  have step : exec .bankVerificationTimeout s = execBankVerificationTimeout s := rfl
  unfold execBankVerificationTimeout at step
  rw [if_neg (by simp [out, live])] at step
  simp only [runs, load] at step
  exact step

theorem exec_bankVerificationTimeout_idle (idle : s.dev.rig.job = none) (unstored : s.dev.rig.store = none) :
    exec .bankVerificationTimeout s = if s.dev.bootVerifies then .next (s.lift (Dev.bootFails 0xA5 0)) else .next s := by
  have step : exec .bankVerificationTimeout s = execBankVerificationTimeout s := rfl
  unfold execBankVerificationTimeout at step
  rw [if_neg (by simp [out, live])] at step
  simp only [idle, unstored] at step
  exact step

/-- What a live device does at the end of the wait for a second RIG_ACTIVATE (R308). -/
theorem exec_splitActivateTimeout_as {e : Dev} (does : (match s.dev.rig.pendAct with
      | some c => if 20000 < s.dev.ago c.frame then (s.dev.onRig fun g => { g with pendAct := none }).refuse c .aborted else s.dev
      | none => s.dev) = e) : exec .splitActivateTimeout s = .next { s with dev := e } := by
  refine exec_up_as (f := fun d => if d.allSafe then d else match d.rig.pendAct with
      | some c => if 20000 < d.ago c.frame then (d.onRig fun g => { g with pendAct := none }).refuse c .aborted else d
      | none => d) rfl out ((if_neg (by simp [live])).trans does)

theorem exec_splitActivateTimeout_waits {c : HostCmd} {e : Dev} (waits : s.dev.rig.pendAct = some c)
    (does : (if 20000 < since s.dev.frame c.frame then (s.dev.onRig fun g => { g with pendAct := none }).refuse c .aborted else s.dev) = e) :
    exec .splitActivateTimeout s = .next { s with dev := e } := by
  refine exec_splitActivateTimeout_as out live ?_
  simp only [waits]
  exact does

end

theorem Dev.bootVerifies_idle {d : Dev} (boots : d.bootVerifies = true) : d.rig.actDue = none := by
  simp only [Dev.bootVerifies, Bool.and_eq_true, Option.isNone_iff_eq_none] at boots
  exact boots.2

end Sys2Proof.Machine
end

section
/-! The settled statement of the rig commands. -/
namespace Sys2Proof.Proofs
open Sys2Proof Sys2Proof.Machine

/-- Settles O60: each command by its effect on the queued operation, the ends of a verification by what they set, the boundary by what it leaves of time, rig and
background work. -/
theorem rigsAreStagedVerifiedStoredAndActivated : Obligations.RigsAreStagedVerifiedStoredAndActivated := by
  refine ⟨fun s q accepts service session evaluates room => ?_, fun s out live => ?_⟩
  · have takes : s.TakesRig q := ⟨accepts, service, session, evaluates, room⟩
    refine ⟨exec_rigBegin_free takes, exec_rigBegin_owned takes, exec_rigWrite_owns takes, exec_rigWrite_refused takes, fun owns serial idle => ?_, exec_rigCheck_refused takes,
      fun free bank idle => ?_, exec_rigLoad_refused takes, exec_rigDiscard_takes takes, fun owns bank passed serial idle => ?_, exec_rigStore_refused takes,
      fun owns serial alone => ?_, fun stranger alone => (exec_rigActivate_first takes alone).2 stranger⟩
    · obtain ⟨t, runs, rig, staging⟩ := exec_rigCheck_owns takes owns serial idle
      exact ⟨t, _, runs, rig, rfl, rfl, rfl, rfl, rfl, staging⟩
    · obtain ⟨t, runs, staging, rig⟩ := exec_rigLoad_free takes free bank idle
      exact ⟨t, _, runs, staging, rfl, rfl, rfl, rig⟩
    · obtain ⟨t, runs, flash, rig⟩ := exec_rigStore_owns takes owns bank passed serial idle
      exact ⟨t, _, runs, flash, rig, rfl, rfl, rfl⟩
    · obtain ⟨t, runs, journal, rig⟩ := (exec_rigActivate_first takes alone).1 owns serial
      exact ⟨t, _, runs, journal, rfl, rfl, rfl, rig⟩
  · refine ⟨fun j runs first => ?_, fun idle boots => ?_, fun j runs load => ?_, fun idle unstored boots => ?_, fun idle unstored still => ?_, fun none => ?_, fun r cmds due => ?_,
      fun c waits => ?_, fun none => ?_, fun unlogged => ?_, fun j logged stores => ?_⟩
    · have ends := exec_rigVerificationEnd_host out live runs first
      split
      · next code off fails =>
        rw [fails] at ends
        obtain ⟨completes, job, passed, active⟩ := Dev.jobFails_leaves j code off s.dev
        exact ⟨_, ends, completes, job, passed, active, rfl, rfl⟩
      · next r passes =>
        intro alone
        rw [passes] at ends
        obtain ⟨completes, job, passed, active⟩ := Dev.jobPasses_leaves j r alone
        exact ⟨_, ends, completes, job, passed, active, rfl, rfl⟩
    · have ends := exec_rigVerificationEnd_boot out live idle boots
      split
      · next r passes =>
        rw [passes] at ends
        exact ⟨_, ends, rfl, rfl⟩
      · next code off fails =>
        rw [fails] at ends
        exact ⟨_, ends, Dev.bootFails_leaves code off s.dev (Dev.bootVerifies_idle boots)⟩
    · obtain ⟨completes, job, -, -⟩ := Dev.jobFails_leaves j 0xA5 0 s.dev
      exact ⟨_, exec_bankVerificationTimeout_load out live runs load, load ▸ completes, job⟩
    · have ends := exec_bankVerificationTimeout_idle out live idle unstored
      rw [if_pos boots] at ends
      obtain ⟨fault, due, -⟩ := Dev.bootFails_leaves 0xA5 0 s.dev (Dev.bootVerifies_idle boots)
      exact ⟨_, ends, fault, due⟩
    · have ends := exec_bankVerificationTimeout_idle out live idle unstored
      rwa [if_neg (by simp [still])] at ends
    · have step : exec .rigActivation s = execRigActivation s := rfl
      unfold execRigActivation at step
      rw [if_neg (by simp [out, live])] at step
      simp only [none] at step
      exact step
    · obtain ⟨d, runs, tables⟩ := exec_rigActivation_due out live due
      simp only [Dev.tables, Prod.mk.injEq] at tables
      obtain ⟨⟨dt, frame, code, straps⟩, rig, work⟩ := tables
      have time : s.dev.SameTime d := ⟨dt, frame, code, straps⟩
      refine ⟨{ s with dev := d, bank := d }, runs, ?_, ?_, ?_, ?_, ?_, ?_, ?_, ?_, ?_, ?_, time⟩
      · exact congrArg RigMgr.active rig
      · exact congrArg RigMgr.actFrame rig
      · exact congrArg RigMgr.source rig
      · exact congrArg RigMgr.actDue rig
      · exact congrArg RigMgr.staged rig
      · exact congrArg RigMgr.owner rig
      · exact congrArg Bgw.cmpRunning work
      · exact congrArg Bgw.cmpPos work
      · rfl
      · rfl
    · split
      · next late =>
        obtain ⟨l, f, done, kept⟩ := Dev.refuse_spec c .aborted (s.dev.onRig fun g => { g with pendAct := none })
        refine ⟨_, exec_splitActivateTimeout_waits out live waits (if_pos late), ?_, Dev.refuse_completes ..⟩
        exact congrArg Dev.rig kept
      · next early => exact exec_splitActivateTimeout_waits out live waits (if_neg early)
    · refine exec_splitActivateTimeout_as out live ?_
      simp only [none]
    · have runs : exec .rigStoreComplete s = execRigStoreComplete s := rfl
      unfold execRigStoreComplete at runs
      rcases unlogged with unlogged | unstored
      · rwa [if_pos (by simp [unlogged])] at runs
      · simp only [unstored, ite_self] at runs
        exact runs
    · obtain ⟨t, runs, flash, staging, store, unlogged, passed, ok, fails⟩ := exec_rigStoreComplete_logged out live logged stores
      refine ⟨t, runs, flash, staging, store, unlogged, passed, ?_⟩
      split
      · next r passes => exact ok r passes
      · next code off failed => exact fails code off failed

end Sys2Proof.Proofs
end

section
/-! A frame that waits for its RECORD (12, R226, R235, R237): what leaving sync keeps of it, and how it ends. -/
namespace Sys2Proof.Machine

/-- What the end of sync leaves of a frame that waits: the wait itself, the half's safety, the time, and empty host journals. -/
structure Dev.StillWaits (d e : Dev) : Prop where
  awaits : e.dpx.awaitRecord = d.dpx.awaitRecord
  safe : e.nodeA.safe = d.nodeA.safe
  time : d.SameTime e
  idle0 : d.port0.journal = [] → e.port0.journal = []
  idle1 : d.port1.journal = [] → e.port1.journal = []

theorem Dev.StillWaits.refl (d : Dev) : d.StillWaits d := ⟨rfl, rfl, ⟨rfl, rfl, rfl, rfl⟩, id, id⟩

theorem Dev.StillWaits.trans {d e f : Dev} (h : d.StillWaits e) (k : e.StillWaits f) : d.StillWaits f :=
  ⟨k.awaits.trans h.awaits, k.safe.trans h.safe, h.time.trans k.time, k.idle0 ∘ h.idle0, k.idle1 ∘ h.idle1⟩

theorem Dev.StillWaits.raise (code : Nat) (d : Dev) : d.StillWaits (d.raiseUnit code) := ⟨rfl, rfl, ⟨rfl, rfl, rfl, rfl⟩, id, id⟩

theorem Dev.StillWaits.onDpx {f : Dpx → Dpx} (keeps : ∀ x, (f x).awaitRecord = x.awaitRecord) (d : Dev) : d.StillWaits (d.onDpx f) :=
  ⟨keeps d.dpx, rfl, ⟨rfl, rfl, rfl, rfl⟩, id, id⟩

theorem Dev.StillWaits.setRole (r : Role) (d : Dev) : d.StillWaits (d.setRole r) := by
  obtain ⟨off, f, eq, -⟩ := d.setRole_spec r
  rw [eq]
  exact ⟨rfl, rfl, ⟨rfl, rfl, rfl, rfl⟩, id, id⟩

theorem Dev.StillWaits.dropMirror (d : Dev) : d.StillWaits d.dropMirror := ⟨rfl, rfl, ⟨rfl, rfl, rfl, rfl⟩, id, id⟩

theorem Dev.StillWaits.leaveSync (d : Dev) : d.StillWaits d.leaveSync := by
  have left : d.StillWaits ((d.dropMirror.setRole .offline).onDpx fun x => { x with unmirrored := 0 }) :=
    ((Dev.StillWaits.dropMirror d).trans (.setRole .offline _)).trans (.onDpx (by intro x; rfl) _)
  unfold Dev.leaveSync
  split
  · exact left
  · exact left
  · exact .refl d

theorem Dev.StillWaits.failSync (d : Dev) : d.StillWaits d.failSync := by
  unfold Dev.failSync
  split
  · exact .refl d
  · have left := Dev.StillWaits.leaveSync d
    dsimp only
    generalize d.leaveSync = e at left
    have noted := left.trans (.onDpx (f := fun x => { x with fails := e.frame :: e.dpx.fails.filter fun f => e.ago f ≤ 120000, failFrame := e.frame, retryWait := true }) (by intro x; rfl) e)
    split
    · exact (noted.trans (.raise 0x76 _)).trans (.onDpx (by intro x; rfl) _)
    · exact noted

theorem Dev.StillWaits.endPartnerOps (d : Dev) : d.StillWaits d.endPartnerOps := by
  obtain ⟨l, switch⟩ := d.endSwitch_spec .twinLost
  obtain ⟨m, resync, -⟩ := (d.endSwitch .twinLost).endResync_spec .twinLost
  unfold Dev.endPartnerOps
  rw [resync, switch]
  refine ⟨rfl, rfl, ⟨rfl, rfl, rfl, rfl⟩, fun none => ?_, fun none => ?_⟩
  · show mapIf _ _ d.port0.journal = []
    rw [none]
    rfl
  · show mapIf _ _ d.port1.journal = []
    rw [none]
    rfl

theorem Dev.StillWaits.partnerGone (d : Dev) : d.StillWaits d.partnerGone := by
  unfold Dev.partnerGone
  have forgot := Dev.StillWaits.onDpx (f := fun x => { x with prole := none, partnerHo := [], partnerStaged := none, snapshot := none, sentBlocks := 0 }) (by intro x; rfl) d
  dsimp only
  generalize (d.onDpx fun x => { x with prole := none, partnerHo := [], partnerStaged := none, snapshot := none, sentBlocks := 0 }) = e at forgot
  split
  · exact forgot.trans ((Dev.StillWaits.setRole .solo e).trans (.endPartnerOps _))
  · obtain ⟨l, switch⟩ := e.endSwitch_spec .twinLost
    obtain ⟨m, resync, -⟩ := (e.endSwitch .twinLost).endResync_spec .twinLost
    rw [resync, switch]
    exact forgot.trans ⟨rfl, rfl, ⟨rfl, rfl, rfl, rfl⟩, id, id⟩

theorem Dev.StillWaits.freezeTwin (d : Dev) : d.StillWaits d.freezeTwin := by
  unfold Dev.freezeTwin
  split
  · exact .refl d
  · have linked : d.StillWaits d.frozenLink := (Dev.StillWaits.onDpx (by intro x; rfl) d).trans (.raise 0x75 _)
    have failed : d.StillWaits (if d.frozenLink.dpx.role = .syncing then d.frozenLink.failSync else d.frozenLink) := by
      split
      · exact linked.trans (.failSync _)
      · exact linked
    exact (failed.trans (.leaveSync _)).trans (.partnerGone _)

/-! ## The end of the frame -/

theorem Dev.cmdsFrame_idle {d : Dev} (idle0 : d.port0.journal = []) (idle1 : d.port1.journal = []) (hs : List Half) : d.cmdsFrame hs = d := by
  have none : d.frameCmds = [] := by
    have first : (d.port 0).journal = [] := idle0
    have second : (d.port 1).journal = [] := idle1
    simp only [Dev.frameCmds, first, second, List.filter_nil, List.take_nil, List.append_nil, List.foldl_nil]
  rw [Dev.cmdsFrame, none]
  rfl

theorem Dev.activateFrame_idle {d : Dev} (idle0 : d.port0.journal = []) (idle1 : d.port1.journal = []) : d.activateFrame = d := by
  have none : d.dueActivates = [] := by
    simp only [Dev.dueActivates, Dev.journaled, idle0, idle1, List.append_nil, List.filter_nil, List.foldl_nil, ite_self]
  rw [Dev.activateFrame, none]

theorem Dev.coreWrites_spec (h : Half) (d : Dev) : ∃ n a b, d.coreWrites h = { d with freeCtr := n, coreA := a, coreB := b } := by
  unfold Dev.coreWrites
  dsimp only
  split
  · exact ⟨_, _, _, rfl⟩
  · cases h <;> exact ⟨_, _, _, rfl⟩

/-- The commit of a live half (R17). -/
theorem Dev.commit_spec {d : Dev} (live : d.nodeA.safe = false) : ∃ n a b f,
    d.commit .a = { d with freeCtr := n, coreA := a, coreB := b, workDone := true, faults := f } ∧ Dev.FaultsStay [0x22] d (d.commit .a) := by
  obtain ⟨n, a, b, writes⟩ := d.coreWrites_spec .a
  have commits : d.commit .a = ((d.coreWrites .a).setWorked .a true).clearF 0x22 d.coreKind (d.coreObj .a) .a := if_neg (by simp [Dev.node, live])
  have stays : Dev.FaultsStay [0x22] ((d.coreWrites .a).setWorked .a true) (d.commit .a) := by
    rw [commits]
    exact Dev.FaultsStay.clearF (cleared := [0x22]) (by decide) d.coreKind (d.coreObj .a) _ .a
  refine ⟨n, a, b, (d.commit .a).faults, ?_, Dev.FaultsStay.trans (.of_eq ?_) stays⟩
  · rw [commits, writes]
    rfl
  · rw [writes]
    rfl

/-- The frame of a unit that has just left sync ends with nothing evaluated and, without a waiting command, nothing executed. -/
structure Dev.EndsFrame (d e : Dev) : Prop where
  dpx : e.dpx = { d.dpx with awaitRecord := false }
  done : e.workDone = true
  time : d.SameTime e
  faults : Dev.FaultsStay [0x22] d e

theorem Dev.leftSync_ends {d : Dev} (awaits : d.dpx.awaitRecord = true) (live : d.nodeA.safe = false) (idle0 : d.port0.journal = []) (idle1 : d.port1.journal = []) :
    d.EndsFrame d.leftSync := by
  obtain ⟨e, heldBy⟩ : ∃ e : Dev, e = { d.onDpx (fun y => { y with awaitRecord := false }) with inWork := true } := ⟨_, rfl⟩
  have kept : e.port0.journal = [] ∧ e.port1.journal = [] ∧ e.nodeA.safe = false := by
    rw [heldBy]
    exact ⟨idle0, idle1, live⟩
  obtain ⟨first, second, live'⟩ := kept
  have ends : d.leftSync = { e.commit .a with inWork := false } := by
    have runs : d.leftSync = { ((e.cmdsFrame [.a]).activateFrame).commit .a with inWork := false } := by
      rw [heldBy]
      exact if_neg (by simp [awaits])
    rw [runs, Dev.cmdsFrame_idle first second, Dev.activateFrame_idle first second]
  obtain ⟨n, a, b, f, commits, stays⟩ := Dev.commit_spec live'
  have start : Dev.FaultsStay [0x22] d e := .of_eq (by rw [heldBy]; rfl)
  have finish : Dev.FaultsStay [0x22] (e.commit .a) d.leftSync := .of_eq (by rw [ends])
  refine ⟨?_, ?_, ?_, (start.trans stays).trans finish⟩
  · rw [ends, commits, heldBy]
    rfl
  · rw [ends, commits]
  · rw [ends, commits, heldBy]
    exact ⟨rfl, rfl, rfl, rfl⟩

theorem Dev.leftSync_idle {d : Dev} (calm : d.dpx.awaitRecord = false) : d.leftSync = d := if_pos (by simp [calm])

/-- A mirrored frame leaves its work done, or its half in the safe state. -/
theorem Dev.mirrorWork_ends (x : FrameIn) (d : Dev) : ((d.mirrorWork x).workDone = true ∨ (d.mirrorWork x).nodeA.safe = true) ∧ (d.mirrorWork x).inWork = false := by
  unfold Dev.mirrorWork
  dsimp only
  generalize (({ d.onDpx (fun y => { y with awaitRecord := false }) with inWork := true } : Dev).evaluate .a x).finish [.a] (fun h => if h = .a then x else {}) = e
  exact ⟨Dev.commit_worked .a e, rfl⟩

end Sys2Proof.Machine
end

section
/-! TRANSFER, the end of a resync, RECORD and its absence (12, R223 to R226, R235 to R238), each command as the device it leaves. -/
namespace Sys2Proof.Machine

/-- The node of a resync's image, with the line mode that it names. -/
def MirrorImage.mirror (i : MirrorImage) : Node := { i.node with line := { i.node.line with mode := i.reef } }

/-- The outputs as a resync's image leaves them. -/
def MirrorImage.outs (i : MirrorImage) (outs : List Output) : List Output :=
  outs.map fun (o : Output) => match i.outputs.find? (fun (y : Output) => y.id == o.id) with | some x => x.load o | none => o

/-- The duplex part once the image is loaded (R237, step 3). -/
def Dpx.loaded (i : MirrorImage) (x : Dpx) : Dpx := { x with step := 2, progress := 0, bad := 0, queue := x.queue.filter fun r => newer i.frame r.frame }

section
variable {s : State} (out : s.dev.inReset = false)
include out

theorem exec_transfer_ignored {m : TransferMsg} (deaf : s.dev.twinTakes m.epoch = false) : exec (.transfer m) s = .next s :=
  exec_up_as rfl out (if_pos (by simp [deaf]))

variable {m : TransferMsg} (takes : s.dev.twinTakes m.epoch = true)
include takes

theorem exec_transfer_misplaced (misplaced : m.inWindow = false ∨ (s.dev.aligned = true ∧ m.frame ≠ s.dev.frame)) : exec (.transfer m) s = .next (s.lift Dev.freezeTwin) :=
  exec_up_as rfl out ((if_neg (by simp [takes])).trans (if_pos (by simpa using misplaced)))

variable (window : m.inWindow = true) (frame : s.dev.aligned = false ∨ m.frame = s.dev.frame)
include window frame

omit out takes in
theorem Dev.transfer_placed : ¬ (!m.inWindow || (s.dev.aligned && decide (m.frame ≠ s.dev.frame))) = true := by
  rcases frame with free | same
  · simp [window, free]
  · simp [window, same]

theorem exec_transfer_otherwise (otherwise : s.dev.dpx.role ≠ .syncing ∨ s.dev.dpx.step ≠ 1) :
    exec (.transfer m) s = .next { s with dev := { s.dev with dpx := { s.dev.dpx with bad := 0 } } } :=
  exec_up_as rfl out ((if_neg (by simp [takes])).trans ((if_neg (Dev.transfer_placed window frame)).trans (if_pos (by simpa using otherwise))))

variable (syncing : s.dev.dpx.role = .syncing) (first : s.dev.dpx.step = 1)
include syncing first

theorem exec_transfer_disorder (disorder : m.block ≠ s.dev.dpx.progress ∨ 128 ≤ m.block) : exec (.transfer m) s = .next (s.lift Dev.failSync) :=
  exec_up_as rfl out ((if_neg (by simp [takes])).trans ((if_neg (Dev.transfer_placed window frame)).trans ((if_neg (by simp [syncing, first])).trans
    (if_pos (by simpa using disorder)))))

variable (next : m.block = s.dev.dpx.progress) (within : s.dev.dpx.progress < 128)
include next within

theorem exec_transfer_block (plain : m.image = none) :
    exec (.transfer m) s = .next { s with dev := { s.dev with dpx := { s.dev.dpx with progress := s.dev.dpx.progress + 1, bad := 0 } } } := by
  refine exec_up_as rfl out ((if_neg (by simp [takes])).trans ((if_neg (Dev.transfer_placed window frame)).trans ((if_neg (by simp [syncing, first])).trans
    ((if_neg (by simp [next, within])).trans ?_))))
  simp only [plain]
  rfl

theorem exec_transfer_image {i : MirrorImage} (last : m.image = some i) : exec (.transfer m) s = .next { s with dev := { s.dev with
    nodeA := i.mirror.load s.dev.nodeA, outputs := i.outs s.dev.outputs, dpx := s.dev.dpx.loaded i } } := by
  refine exec_up_as rfl out ((if_neg (by simp [takes])).trans ((if_neg (Dev.transfer_placed window frame)).trans ((if_neg (by simp [syncing, first])).trans
    ((if_neg (by simp [next, within])).trans ?_))))
  simp only [last]
  rfl

end

end Sys2Proof.Machine
end

section
/-! The end of a resync, RECORD and its absence (12, R224, R226, R235, R237, R238), each command as the device it leaves. -/
namespace Sys2Proof.Machine

/-! ## The end of a resync -/

theorem Dev.failSync_fails {d : Dev} (syncing : d.dpx.role = .syncing) :
    d.failSync.dpx.role = .offline ∧ d.failSync.dpx.retryWait = true ∧ d.failSync.dpx.failFrame = d.frame := by
  have role : d.failSync.dpx.role = .offline := (Dev.failSync_leaves syncing).role.trans (congrArg Role.outOfSync syncing)
  obtain ⟨-, frame, -⟩ := d.leaveSync_leaves.time
  refine ⟨role, ?_⟩
  unfold Dev.failSync
  rw [if_neg (by simp [syncing])]
  dsimp only
  split
  · exact ⟨rfl, frame⟩
  · exact ⟨rfl, frame⟩

/-- The device whose resync is complete (R237, step 4). -/
def Dev.synced (d : Dev) : Dev := ((d.setRole .standby).clearUnit 0x74).onDpx fun x => { x with step := 0, progress := 0, fails := [] }

theorem Dev.synced_spec (d : Dev) : ∃ off f,
    d.synced = { d with dpx := { d.dpx with role := .standby, offAt := off, step := 0, progress := 0, fails := [] }, faults := f } := by
  obtain ⟨off, f, eq, -⟩ := d.setRole_spec .standby
  unfold Dev.synced
  rw [eq]
  exact ⟨off, _, rfl⟩

theorem Dev.synced_agrees (d : Dev) : d.synced.unitFault 0x74 = false := Dev.hasFault_clearF ..

/-- A SYNCING unit that has run the 2 000 frames of step 3 without a disagreement. -/
abbrev Dev.SyncDone (d : Dev) : Prop := d.pair = true ∧ d.dpx.role = .syncing ∧ d.dpx.step = 3 ∧ 2000 ≤ d.dpx.progress

/-- A failed attempt may be followed by the next (R238). -/
abbrev Dev.ResyncRetryDue (d : Dev) : Prop := d.dpx.retryWait = true ∧ d.dpx.lock76 = false ∧ 2000 ≤ since d.frame d.dpx.failFrame

/-- The contention of the claims has ended for good. -/
abbrev Dev.ContentionOver (d : Dev) : Prop := d.dpx.contSince = none ∧ 2000 ≤ since d.frame d.dpx.contEnd

section
variable {s : State} (out : s.dev.inReset = false)
include out

theorem exec_resyncComplete_done (done : s.dev.SyncDone) : exec .resyncComplete s = .next { s with dev := s.dev.synced } := by
  obtain ⟨pair, syncing, step, progress⟩ := done
  exact exec_up_as rfl out (if_pos (by simp [pair, syncing, step, progress]))

theorem exec_resyncComplete_undone (undone : ¬ s.dev.SyncDone) : exec .resyncComplete s = .next s :=
  exec_up_as rfl out (if_neg fun done => undone (by simpa [Dev.SyncDone, and_assoc] using done))

variable (live : s.dev.allSafe = false)
include live

theorem exec_resyncRetry_due (due : s.dev.ResyncRetryDue) : exec .resyncRetry s = .next { s with dev := { s.dev with dpx := { s.dev.dpx with retryWait := false } } } := by
  obtain ⟨waits, unlocked, late⟩ := due
  refine (upLive_next _ out live).trans (congrArg (fun e => Host.Outcome.next { s with dev := e }) (if_pos ?_))
  simp [waits, unlocked, Dev.ago, late]

theorem exec_resyncRetry_early (early : ¬ s.dev.ResyncRetryDue) : exec .resyncRetry s = .next s := by
  refine (upLive_next _ out live).trans (congrArg (fun e => Host.Outcome.next { s with dev := e }) (if_neg fun due => ?_))
  simp only [Bool.and_eq_true, Bool.not_eq_true'] at due
  obtain ⟨⟨waits, unlocked⟩, late⟩ := due
  exact early ⟨waits, unlocked, of_decide_eq_true late⟩

theorem exec_duplexFaultRecovery_claims_over (past : s.dev.ContentionOver) (o : Fin 8) :
    exec (.duplexFaultRecovery 0x70 o) s = .next { s with dev := s.dev.clearUnit 0x70 } := by
  obtain ⟨ended, late⟩ := past
  refine (upLive_next _ out live).trans (congrArg (fun e => Host.Outcome.next { s with dev := e }) (if_pos ?_))
  simp [ended, Dev.ago, late]

theorem exec_duplexFaultRecovery_claims_fresh (fresh : ¬ s.dev.ContentionOver) (o : Fin 8) : exec (.duplexFaultRecovery 0x70 o) s = .next s := by
  refine (upLive_next _ out live).trans (congrArg (fun e => Host.Outcome.next { s with dev := e }) (if_neg fun past => ?_))
  simp only [Bool.and_eq_true, Option.isNone_iff_eq_none] at past
  obtain ⟨ended, late⟩ := past
  exact fresh ⟨ended, of_decide_eq_true late⟩

theorem exec_duplexFaultRecovery_pulses_agree {o : Fin 8} (agree : 16 ≤ (s.dev.out o).obsAgree) :
    exec (.duplexFaultRecovery 0x79 o) s = .next { s with dev := s.dev.clearF 0x79 .output o } :=
  (upLive_next _ out live).trans (congrArg (fun e => Host.Outcome.next { s with dev := e }) (if_pos agree))

theorem exec_duplexFaultRecovery_pulses_few {o : Fin 8} (few : ¬ 16 ≤ (s.dev.out o).obsAgree) : exec (.duplexFaultRecovery 0x79 o) s = .next s :=
  (upLive_next _ out live).trans (congrArg (fun e => Host.Outcome.next { s with dev := e }) (if_neg few))

end

/-! ## RECORD -/

theorem Dev.live_of_pair {d : Dev} (pair : d.pair = true) : d.nodeA.safe = false := by
  simp only [Dev.pair, Bool.and_eq_true, Bool.not_eq_true'] at pair
  exact pair.2

/-- A RECORD inside its window, of this frame, under the partner's claim or hold (R223, R224, R226). -/
def Dev.RecordOpened (m : LinkMsg) (cyc : Nat) (d : Dev) : Prop :=
  13440 ≤ cyc ∧ cyc ≤ 18240 ∧ (d.aligned = false ∨ m.frame = d.frame) ∧ (d.dpx.pclaim = true ∨ d.dpx.partnerHandover = true)

theorem Dev.badRecord_iff {m : LinkMsg} {cyc : Nat} {d : Dev} : d.badRecord m cyc = false ↔ d.RecordOpened m cyc := by
  simp only [Dev.badRecord, inRecordWindow, Dev.RecordOpened, Bool.or_eq_false_iff, Bool.not_eq_false', Bool.and_eq_true, Bool.and_eq_false_iff,
    decide_eq_true_eq, decide_eq_false_iff_not, not_not, Bool.not_eq_false', and_assoc]

/-- The device after a sound message: no run of bad ones. -/
def Dev.wellHeard (d : Dev) : Dev := d.onDpx fun x => { x with bad := 0 }

section
variable {s : State} (out : s.dev.inReset = false) {bs : List Byte} {cyc : Nat}
include out

theorem exec_twinRecord_deaf (deaf : s.dev.pair = false ∨ s.dev.dpx.frozen = true) : exec (.twinRecord bs cyc) s = .next s :=
  exec_up_as rfl out (if_pos (by simpa using deaf))

variable (pair : s.dev.pair = true) (open_ : s.dev.dpx.frozen = false)
include pair open_

theorem exec_twinRecord_unread (unread : linkOf bs = none) : exec (.twinRecord bs cyc) s = .next { s with dev := s.dev.twinBad } := by
  refine exec_up_as rfl out ((if_neg (by simp [pair, open_])).trans ?_)
  simp only [unread]

variable {m : LinkMsg} (read : linkOf bs = some m)
include read

theorem exec_twinRecord_foreign (foreign : m.epoch ≠ s.dev.dpx.epoch) : exec (.twinRecord bs cyc) s = .next s := by
  refine exec_up_as rfl out ((if_neg (by simp [pair, open_])).trans ?_)
  simp only [read, if_pos foreign]

variable (epoch : m.epoch = s.dev.dpx.epoch) (type : m.type = 0x12)
include epoch type

theorem exec_twinRecord_bad (bad : ¬ s.dev.RecordOpened m cyc ∨ recordOf (s.dev.lineRec .a).key m = none) :
    exec (.twinRecord bs cyc) s = .next { s with dev := s.dev.freezeTwin.leftSync } := by
  refine exec_up_as rfl out ((if_neg (by simp [pair, open_])).trans ?_)
  simp only [read]
  refine (if_neg (by simp [epoch])).trans ((if_neg (by simp [type])).trans ?_)
  by_cases opened : s.dev.badRecord m cyc = true
  · exact if_pos opened
  · have unread : recordOf (s.dev.lineRec .a).key m = none := bad.resolve_left fun not => not (Dev.badRecord_iff.mp (by simpa using opened))
    refine (if_neg opened).trans ?_
    simp only [unread]

theorem exec_twinRecord_sound (opened : s.dev.RecordOpened m cyc) {r : RecordMsg} (means : recordOf (s.dev.lineRec .a).key m = some r) :
    exec (.twinRecord bs cyc) s = .next { s with dev :=
      if s.dev.wellHeard.mirrors && s.dev.wellHeard.dpx.awaitRecord then s.dev.wellHeard.takeRecord r else s.dev.wellHeard } := by
  refine exec_up_as rfl out ((if_neg (by simp [pair, open_])).trans ?_)
  simp only [read]
  refine (if_neg (by simp [epoch])).trans ((if_neg (by simp [type])).trans ((if_neg (by simp [Dev.badRecord_iff.mpr opened])).trans ?_))
  simp only [means]
  rfl

end

/-! ## What ends the standby's mirroring -/

/-- The device with unit fault `code` active. -/
def Dev.marked (code : Nat) (d : Dev) : Dev := if d.unitFault code then d else d.raiseUnit code

theorem Dev.marked_fault (code : Nat) (d : Dev) : (d.marked code).unitFault code = true := by
  unfold Dev.marked
  split
  · next active => exact active
  · exact Dev.hasFault_raise ..

theorem Dev.marked_role (code : Nat) (d : Dev) : (d.marked code).dpx.role = d.dpx.role := by
  unfold Dev.marked
  split <;> rfl

theorem Dev.StillWaits.marked (code : Nat) (d : Dev) : d.StillWaits (d.marked code) := by
  unfold Dev.marked
  split
  · exact .refl d
  · exact .raise code d

/-- A standby's frame that waits for its RECORD, with no host command waiting. -/
structure Dev.Mirroring (d : Dev) : Prop where
  role : d.dpx.role = .standby
  awaits : d.dpx.awaitRecord = true
  live : d.nodeA.safe = false
  idle0 : d.port0.journal = []
  idle1 : d.port1.journal = []

/-- What such a unit is once it has left sync, its frame ended, with unit fault `code`. -/
structure Dev.LeftMirror (code : Nat) (d e : Dev) : Prop where
  role : e.dpx.role = .offline
  fault : e.unitFault code = true
  done : e.workDone = true
  awaits : e.dpx.awaitRecord = false
  time : d.SameTime e

theorem Dev.StillWaits.ends {d e : Dev} (waits : d.StillWaits e) (mirroring : d.Mirroring) : e.EndsFrame e.leftSync ∧ d.SameTime e.leftSync := by
  have ends := Dev.leftSync_ends (waits.awaits.trans mirroring.awaits) (waits.safe.trans mirroring.live) (waits.idle0 mirroring.idle0)
    (waits.idle1 mirroring.idle1)
  exact ⟨ends, waits.time.trans ends.time⟩

/-- A device `e` on which the mirroring has just ended with `code` ends its frame so. -/
theorem Dev.StillWaits.leftMirror {d e : Dev} (waits : d.StillWaits e) (mirroring : d.Mirroring) (offline : e.dpx.role = .offline) {code : Nat}
    (fault : e.unitFault code = true) (kept : code ∉ [0x22]) : d.LeftMirror code e.leftSync := by
  obtain ⟨⟨dpx, done, -, faults⟩, time⟩ := waits.ends mirroring
  refine ⟨?_, faults _ _ _ _ kept fault, done, ?_, time⟩
  · rw [dpx, offline]
  · rw [dpx]

theorem Dev.marked_leftMirror {d : Dev} (mirroring : d.Mirroring) {code : Nat} (other : code ∉ [0x78]) (kept : code ∉ [0x22]) :
    d.LeftMirror code (d.marked code).leaveSync.partnerGone.leftSync := by
  have waits : d.StillWaits (d.marked code).leaveSync.partnerGone :=
    ((Dev.StillWaits.marked code d).trans (.leaveSync _)).trans (.partnerGone _)
  have left := (d.marked code).leaveSync_leaves
  have away : (d.marked code).leaveSync.dpx.role = .offline := by rw [left.role, Dev.marked_role, mirroring.role, Role.outOfSync]
  obtain ⟨l, ja, jb, off, f, gone, stay⟩ := (d.marked code).leaveSync.partnerGone_spec
  refine waits.leftMirror mirroring ?_ (stay _ _ _ _ other (left.faults _ _ _ _ other (Dev.marked_fault code d))) kept
  rw [gone]
  show (d.marked code).leaveSync.dpx.role.alone = .offline
  rw [away]
  rfl

theorem Dev.freezeTwin_leftMirror {d : Dev} (mirroring : d.Mirroring) (open_ : d.dpx.frozen = false) :
    d.LeftMirror 0x75 d.freezeTwin.leftSync ∧ d.freezeTwin.leftSync.dpx.frozen = true := by
  have froze := Dev.freezeTwin_freezes open_
  have waits := Dev.StillWaits.freezeTwin d
  have offline : d.freezeTwin.dpx.role = .offline := by rw [froze.role, mirroring.role]; rfl
  refine ⟨waits.leftMirror mirroring offline froze.fault (by decide), ?_⟩
  rw [(waits.ends mirroring).1.dpx]
  exact froze.frozen

theorem Dev.takeRecord_differs {d : Dev} (standby : d.dpx.role = .standby) {r : RecordMsg} (differs : r.signature ≠ d.nodeA.cores.sig) :
    d.takeRecord r = ((d.onDpx fun x => { x with partnerHandover := r.handover }).marked 0x74).leaveSync.partnerGone.leftSync := by
  have fails : (d.onDpx fun x => { x with partnerHandover := r.handover }).signatureFails
      = ((d.onDpx fun x => { x with partnerHandover := r.handover }).marked 0x74).leaveSync.partnerGone := by
    have role := Dev.marked_role 0x74 (d.onDpx fun x => { x with partnerHandover := r.handover })
    exact if_neg (by
      show ¬ ((d.onDpx fun x => { x with partnerHandover := r.handover }).marked 0x74).dpx.role = .syncing
      rw [role]
      show ¬ d.dpx.role = .syncing
      rw [standby]
      decide)
  have role : (d.onDpx fun x => { x with partnerHandover := r.handover }).dpx.role = .standby := standby
  unfold Dev.takeRecord
  dsimp only
  rw [if_neg (by simp [role]), if_neg (by simp [role]), ← fails]
  exact if_pos differs

theorem Dev.takeRecord_agrees {d : Dev} (standby : d.dpx.role = .standby) {r : RecordMsg} (agrees : r.signature = d.nodeA.cores.sig) :
    ∃ (e : Dev) (x : FrameIn), d.takeRecord r = e.mirrorWork x := by
  have role : (d.onDpx fun x => { x with partnerHandover := r.handover }).dpx.role = .standby := standby
  unfold Dev.takeRecord
  dsimp only
  rw [if_neg (by simp [role]), if_neg (by simp [role])]
  exact ⟨_, _, if_neg (not_not_intro agrees)⟩

/-! ## RECORD_MISSING -/

/-- The device whose frame no RECORD has reached. -/
def Dev.missed (d : Dev) : Dev := d.armSkip.onDpx fun x => { x with unmirrored := d.dpx.unmirrored + 1, unmirr := x.unmirr + 1 }

theorem Dev.missed_spec (d : Dev) : ∃ mirror seq tx,
    d.missed = { d with dpx := { d.dpx with
      mirror := mirror, skipSeq := seq, skipTx := tx, unmirrored := d.dpx.unmirrored + 1, unmirr := d.dpx.unmirr + 1 } } := by
  unfold Dev.missed Dev.armSkip
  split
  · exact ⟨_, _, _, rfl⟩
  · exact ⟨_, _, _, rfl⟩

theorem Dev.StillWaits.missed (d : Dev) : d.StillWaits d.missed := by
  obtain ⟨_, _, _, eq⟩ := d.missed_spec
  rw [eq]
  exact ⟨rfl, rfl, ⟨rfl, rfl, rfl, rfl⟩, id, id⟩

theorem Dev.missed_role (d : Dev) : d.missed.dpx.role = d.dpx.role := by
  obtain ⟨_, _, _, eq⟩ := d.missed_spec
  rw [eq]

theorem Dev.missed_pclaim (d : Dev) : d.missed.dpx.pclaim = d.dpx.pclaim := by
  obtain ⟨_, _, _, eq⟩ := d.missed_spec
  rw [eq]

theorem Dev.Mirroring.missed {d : Dev} (mirroring : d.Mirroring) : d.missed.Mirroring :=
  have waits := Dev.StillWaits.missed d
  ⟨(Dev.missed_role d).trans mirroring.role, waits.awaits.trans mirroring.awaits, waits.safe.trans mirroring.live, waits.idle0 mirroring.idle0,
    waits.idle1 mirroring.idle1⟩

section
variable {s : State} (out : s.dev.inReset = false)
include out

theorem exec_recordMissing_unawaited (unawaited : s.dev.pair = false ∨ s.dev.dpx.awaitRecord = false) : exec .recordMissing s = .next s :=
  exec_up_as rfl out (if_pos (by simpa using unawaited))

variable (pair : s.dev.pair = true) (mirroring : s.dev.Mirroring)
include pair mirroring

theorem exec_recordMissing_second (second : 1 ≤ s.dev.dpx.unmirrored) (claimed : s.dev.dpx.pclaim = true) :
    exec .recordMissing s = .next { s with dev := (s.dev.missed.marked 0x71).leaveSync.partnerGone.leftSync } := by
  refine exec_up_as rfl out ((if_neg (by simp [pair, mirroring.awaits])).trans ((if_neg (by simp [mirroring.role])).trans ?_))
  have role := (Dev.missed_role s.dev).trans mirroring.role
  have pclaim := (Dev.missed_pclaim s.dev).trans claimed
  exact if_pos (by
    show (decide (s.dev.missed.dpx.role = .standby) && decide (2 ≤ s.dev.dpx.unmirrored + 1) && s.dev.missed.dpx.pclaim) = true
    rw [role, pclaim]
    simpa using second)

theorem exec_recordMissing_first (first : s.dev.dpx.unmirrored = 0 ∨ s.dev.dpx.pclaim = false) :
    exec .recordMissing s = .next { s with dev := s.dev.missed.mirrorWork s.dev.missed.shadowInputs } := by
  refine exec_up_as rfl out ((if_neg (by simp [pair, mirroring.awaits])).trans ((if_neg (by simp [mirroring.role])).trans ?_))
  have role := (Dev.missed_role s.dev).trans mirroring.role
  have pclaim := Dev.missed_pclaim s.dev
  refine (if_neg ?_).trans (if_pos ?_)
  · show ¬ (decide (s.dev.missed.dpx.role = .standby) && decide (2 ≤ s.dev.dpx.unmirrored + 1) && s.dev.missed.dpx.pclaim) = true
    rw [pclaim]
    rcases first with none | unclaimed
    · simp [none]
    · simp [unclaimed]
  · show (decide (s.dev.missed.dpx.role = .standby) || decide (s.dev.missed.dpx.role = .solo) || decide (s.dev.missed.dpx.role = .active)) = true
    rw [role]
    rfl

end

end Sys2Proof.Machine
end

section
namespace Sys2Proof.Proofs
open Sys2Proof Sys2Proof.Machine

section
variable {s : State} (out : s.dev.inReset = false)
include out

/-- Of a TRANSFER that a SYNCING unit in its first step takes, the block with the image. -/
theorem transfer_image_loads (pair : s.dev.pair = true) (open_ : s.dev.dpx.frozen = false) {m : TransferMsg} (epoch : m.epoch = s.dev.dpx.epoch)
    (window : m.inWindow = true) (frame : s.dev.aligned = false ∨ m.frame = s.dev.frame) (syncing : s.dev.dpx.role = .syncing)
    (first : s.dev.dpx.step = 1) (next : m.block = s.dev.dpx.progress) (within : s.dev.dpx.progress < 128) {i : MirrorImage} (last : m.image = some i) :
    ∃ t, exec (.transfer m) s = .next t
      ∧ t.dev.dpx = { s.dev.dpx with step := 2, progress := 0, bad := 0, queue := s.dev.dpx.queue.filter fun r => newer i.frame r.frame }
      ∧ t.dev.nodeA.points = i.node.points.map (fun p => { p with waits := [] }) ∧ t.dev.nodeA.sections = i.node.sections
      ∧ t.dev.nodeA.journal = i.node.journal ∧ t.dev.nodeA.sys = s.dev.nodeA.sys ∧ t.dev.nodeA.line.mode = i.reef
      ∧ t = { s with dev := { s.dev with dpx := t.dev.dpx, nodeA := t.dev.nodeA, outputs := t.dev.outputs } } := by
  have takes : s.dev.twinTakes m.epoch = true := by simp [Dev.twinTakes, pair, open_, epoch]
  exact ⟨_, exec_transfer_image out takes window frame syncing first next within last, rfl, rfl, rfl, rfl, rfl, rfl, rfl⟩

theorem transfer_disorder_fails (pair : s.dev.pair = true) (open_ : s.dev.dpx.frozen = false) {m : TransferMsg} (epoch : m.epoch = s.dev.dpx.epoch)
    (window : m.inWindow = true) (frame : s.dev.aligned = false ∨ m.frame = s.dev.frame) (syncing : s.dev.dpx.role = .syncing)
    (first : s.dev.dpx.step = 1) (disorder : m.block ≠ s.dev.dpx.progress ∨ 128 ≤ m.block) :
    ∃ t, exec (.transfer m) s = .next t ∧ t.dev.dpx.role = .offline ∧ t.dev.dpx.retryWait = true ∧ t.dev.dpx.failFrame = s.dev.frame := by
  have takes : s.dev.twinTakes m.epoch = true := by simp [Dev.twinTakes, pair, open_, epoch]
  exact ⟨_, exec_transfer_disorder out takes window frame syncing first disorder, Dev.failSync_fails syncing⟩

theorem resyncComplete_makes_standby : if s.dev.SyncDone then
      ∃ t, exec .resyncComplete s = .next t ∧ t.dev.dpx.role = .standby ∧ t.dev.dpx.step = 0 ∧ t.dev.dpx.fails = [] ∧ t.dev.unitFault 0x74 = false
        ∧ t = { s with dev := { s.dev with dpx := t.dev.dpx, faults := t.dev.faults } }
    else exec .resyncComplete s = .next s := by
  split
  · next done =>
    have agrees := Dev.synced_agrees s.dev
    have completes := exec_resyncComplete_done out done
    obtain ⟨off, f, synced⟩ := s.dev.synced_spec
    rw [synced] at agrees completes
    exact ⟨_, completes, rfl, rfl, rfl, agrees, rfl⟩
  · next undone => exact exec_resyncComplete_undone out undone

theorem resyncRetry_releases (live : s.dev.allSafe = false) : if s.dev.ResyncRetryDue then
      exec .resyncRetry s = .next { s with dev := { s.dev with dpx := { s.dev.dpx with retryWait := false } } }
    else exec .resyncRetry s = .next s := by
  split
  · next due => exact exec_resyncRetry_due out live due
  · next early => exact exec_resyncRetry_early out live early

theorem contention_clears (live : s.dev.allSafe = false) (o : Fin 8) : if s.dev.ContentionOver then
      ∃ t, exec (.duplexFaultRecovery 0x70 o) s = .next t ∧ t.dev.unitFault 0x70 = false ∧ t = { s with dev := { s.dev with faults := t.dev.faults } }
    else exec (.duplexFaultRecovery 0x70 o) s = .next s := by
  split
  · next past => exact ⟨_, exec_duplexFaultRecovery_claims_over out live past o, Dev.hasFault_clearF .., rfl⟩
  · next fresh => exact exec_duplexFaultRecovery_claims_fresh out live fresh o

theorem pulses_clear (live : s.dev.allSafe = false) (o : Fin 8) : if 16 ≤ (s.dev.out o).obsAgree then
      ∃ t, exec (.duplexFaultRecovery 0x79 o) s = .next t ∧ t.dev.hasFault 0x79 .output o = false ∧ t = { s with dev := { s.dev with faults := t.dev.faults } }
    else exec (.duplexFaultRecovery 0x79 o) s = .next s := by
  split
  · next agree => exact ⟨_, exec_duplexFaultRecovery_pulses_agree out live agree, Dev.hasFault_clearF .., rfl⟩
  · next few => exact exec_duplexFaultRecovery_pulses_few out live few

variable (pair : s.dev.pair = true)
include pair

/-- A RECORD of the partner that may not be taken freezes the link; a standby that waits for it leaves sync with its frame's work done. -/
theorem record_bad_freezes (open_ : s.dev.dpx.frozen = false) {bs : List Byte} {cyc : Nat} {m : LinkMsg} (read : linkOf bs = some m)
    (epoch : m.epoch = s.dev.dpx.epoch) (type : m.type = 0x12) (bad : ¬ s.dev.RecordOpened m cyc ∨ recordOf (s.dev.lineRec .a).key m = none) :
    (s.dev.dpx.awaitRecord = false → ∃ t, exec (.twinRecord bs cyc) s = .next t ∧ t.dev.dpx.frozen = true ∧ t.dev.unitFault 0x75 = true)
    ∧ (s.dev.dpx.awaitRecord = true → s.dev.dpx.role = .standby → s.dev.port0.journal = [] → s.dev.port1.journal = [] →
      ∃ t, exec (.twinRecord bs cyc) s = .next t ∧ t.dev.dpx.role = .offline ∧ t.dev.dpx.frozen = true ∧ t.dev.unitFault 0x75 = true
        ∧ t.dev.workDone = true ∧ t.dev.dpx.awaitRecord = false ∧ s.dev.SameTime t.dev) := by
  have freezes := exec_twinRecord_bad out pair open_ read epoch type bad
  constructor
  · intro unawaited
    have calm := (Dev.StillWaits.freezeTwin s.dev).awaits.trans unawaited
    rw [Dev.leftSync_idle calm] at freezes
    have froze := Dev.freezeTwin_freezes open_
    exact ⟨_, freezes, froze.frozen, froze.fault⟩
  · intro awaits standby idle0 idle1
    obtain ⟨left, frozen⟩ := Dev.freezeTwin_leftMirror ⟨standby, awaits, Dev.live_of_pair pair, idle0, idle1⟩ open_
    exact ⟨_, freezes, left.role, frozen, left.fault, left.done, left.awaits, left.time⟩

/-- A RECORD of another signature takes a standby OFFLINE, one of its own signature is its frame's work. -/
theorem record_sound_mirrors (open_ : s.dev.dpx.frozen = false) {bs : List Byte} {cyc : Nat} {m : LinkMsg} (read : linkOf bs = some m)
    (epoch : m.epoch = s.dev.dpx.epoch) (type : m.type = 0x12) (opened : s.dev.RecordOpened m cyc) {r : RecordMsg}
    (means : recordOf (s.dev.lineRec .a).key m = some r) :
    (s.dev.mirrors = false ∨ s.dev.dpx.awaitRecord = false →
      exec (.twinRecord bs cyc) s = .next { s with dev := { s.dev with dpx := { s.dev.dpx with bad := 0 } } })
    ∧ (s.dev.dpx.awaitRecord = true → s.dev.dpx.role = .standby → s.dev.port0.journal = [] → s.dev.port1.journal = [] →
      (r.signature ≠ s.dev.nodeA.cores.sig → ∃ t, exec (.twinRecord bs cyc) s = .next t ∧ t.dev.dpx.role = .offline ∧ t.dev.unitFault 0x74 = true
        ∧ t.dev.workDone = true ∧ t.dev.dpx.awaitRecord = false ∧ s.dev.SameTime t.dev)
      ∧ (r.signature = s.dev.nodeA.cores.sig → ∃ t, exec (.twinRecord bs cyc) s = .next t
        ∧ (t.dev.workDone = true ∨ t.dev.nodeA.safe = true) ∧ t.dev.inWork = false)) := by
  have takes := exec_twinRecord_sound out pair open_ read epoch type opened means
  constructor
  · intro idle
    have unmirrored : ¬ (s.dev.wellHeard.mirrors && s.dev.wellHeard.dpx.awaitRecord) = true := by
      show ¬ (s.dev.mirrors && s.dev.dpx.awaitRecord) = true
      rcases idle with other | unawaited
      · simp [other]
      · simp [unawaited]
    rwa [if_neg unmirrored] at takes
  · intro awaits standby idle0 idle1
    have mirrored : (s.dev.wellHeard.mirrors && s.dev.wellHeard.dpx.awaitRecord) = true := by
      show ((decide (s.dev.dpx.role = .standby) || decide (s.dev.dpx.role = .syncing)) && s.dev.dpx.awaitRecord) = true
      simp [standby, awaits]
    rw [if_pos mirrored] at takes
    constructor
    · intro differs
      have mirroring : (s.dev.wellHeard.onDpx fun x => { x with partnerHandover := r.handover }).Mirroring :=
        ⟨standby, awaits, Dev.live_of_pair pair, idle0, idle1⟩
      have left := Dev.marked_leftMirror mirroring (code := 0x74) (by decide) (by decide)
      rw [Dev.takeRecord_differs (d := s.dev.wellHeard) standby differs] at takes
      exact ⟨_, takes, left.role, left.fault, left.done, left.awaits, left.time⟩
    · intro agrees
      obtain ⟨e, x, works⟩ := Dev.takeRecord_agrees (d := s.dev.wellHeard) standby agrees
      rw [works] at takes
      exact ⟨_, takes, Dev.mirrorWork_ends x e⟩

/-- A frame that no RECORD reaches is evaluated on the own inputs, or, the second in a row under the partner's claim, ends the mirroring. -/
theorem record_missing_ends (mirroring : s.dev.Mirroring) :
    (1 ≤ s.dev.dpx.unmirrored → s.dev.dpx.pclaim = true → ∃ t, exec .recordMissing s = .next t ∧ t.dev.dpx.role = .offline ∧ t.dev.unitFault 0x71 = true
      ∧ t.dev.workDone = true ∧ t.dev.dpx.awaitRecord = false ∧ s.dev.SameTime t.dev)
    ∧ (s.dev.dpx.unmirrored = 0 ∨ s.dev.dpx.pclaim = false → ∃ t, exec .recordMissing s = .next t
      ∧ (t.dev.workDone = true ∨ t.dev.nodeA.safe = true) ∧ t.dev.inWork = false) := by
  constructor
  · intro second claimed
    have left := Dev.marked_leftMirror mirroring.missed (code := 0x71) (by decide) (by decide)
    exact ⟨_, exec_recordMissing_second out pair mirroring second claimed, left.role, left.fault, left.done, left.awaits,
      (Dev.StillWaits.missed s.dev).time.trans left.time⟩
  · intro first
    exact ⟨_, exec_recordMissing_first out pair mirroring first, Dev.mirrorWork_ends _ _⟩

end

/-- Settles O53: the steps of a resync branch by branch, and for a frame that waits for its RECORD that leaving sync keeps the
wait, the time and the host's journals, so that its work ends once and for all. -/
theorem resyncRunsItsStepsAndRecordsMirror : Obligations.ResyncRunsItsStepsAndRecordsMirror := by
  unfold Obligations.ResyncRunsItsStepsAndRecordsMirror
  intro s out
  refine ⟨?transferDeaf, ?transfer, resyncComplete_makes_standby out, ?recoveries, ?recordDeaf, ?record, ?missing, ?unawaited⟩
  case transferDeaf =>
    intro m deaf
    refine exec_transfer_ignored out ?_
    rcases deaf with alone | frozen | foreign
    · simp [Dev.twinTakes, alone]
    · simp [Dev.twinTakes, frozen]
    · simp [Dev.twinTakes, foreign]
  case transfer =>
    intro pair open_ m epoch
    have takes : s.dev.twinTakes m.epoch = true := by simp [Dev.twinTakes, pair, open_, epoch]
    constructor
    · intro misplaced
      have froze := Dev.freezeTwin_freezes open_
      exact ⟨_, exec_transfer_misplaced out takes misplaced, froze.frozen, froze.frame, froze.fault⟩
    · intro window frame
      refine ⟨exec_transfer_otherwise out takes window frame, fun syncing first => ⟨?_, ?_, ?_⟩⟩
      · intro next within plain
        exact exec_transfer_block out takes window frame syncing first next within plain
      · intro i next within last
        exact transfer_image_loads out pair open_ epoch window frame syncing first next within last
      · intro disorder
        exact transfer_disorder_fails out pair open_ epoch window frame syncing first disorder
  case recoveries => exact fun live => ⟨resyncRetry_releases out live, fun o => ⟨contention_clears out live o, pulses_clear out live o⟩⟩
  case recordDeaf => exact fun bs cyc deaf => exec_twinRecord_deaf out deaf
  case record =>
    intro pair open_ bs cyc
    constructor
    · intro unread few
      rw [exec_twinRecord_unread out pair open_ unread, Dev.twinBad, if_neg (by omega)]
      rfl
    · intro m read
      refine ⟨exec_twinRecord_foreign out pair open_ read, fun epoch type bad => ?_, fun r epoch type opened means => ?_⟩
      · exact record_bad_freezes out pair open_ read epoch type bad
      · exact record_sound_mirrors out pair open_ read epoch type opened means
  case missing =>
    intro pair awaits standby idle0 idle1
    exact record_missing_ends out pair ⟨standby, awaits, Dev.live_of_pair pair, idle0, idle1⟩
  case unawaited => exact exec_recordMissing_unawaited out

end Sys2Proof.Proofs
end
